-- ==== Sys2Proof/Word.lean ====
section
/-! DEFINITION. The word and byte types, and the plainest arithmetic on wrapping quantities (R6, R9). -/

namespace Sys2Proof

/-- A 32-bit word (R6). -/
abbrev Word := BitVec 32

/-- An 8-bit byte. -/
abbrev Byte := BitVec 8

/-- `sdiff(a, b, w)` of R9: (a − b) mod 2^w read as a two's-complement number of w bits. -/
def sdiff (a b : Int) (w : Nat) : Int :=
  let d := (a - b) % (2 ^ w : Int)
  if d < 2 ^ (w - 1) then d else d - 2 ^ w

/-- A target counts as reached when `sdiff(now, t, w) >= 0` (R9). -/
def reached (now t : Int) (w : Nat) : Bool := 0 ≤ sdiff now t w

/-- The value of a natural number at most `2^w − 1`, for a counter of width `w` that never wraps (R56). -/
def satNat (w n : Nat) : Nat := min n (2 ^ w - 1)

/-- The low `w` bits of `n` read as a two's-complement number. -/
def toSigned (w n : Nat) : Int :=
  let m := n % 2 ^ w
  if m < 2 ^ (w - 1) then (m : Int) else (m : Int) - 2 ^ w

/-- An integer in `w` bits of two's complement, as a natural number. -/
def fromSigned (w : Nat) (z : Int) : Nat := (z % (2 ^ w : Int)).toNat

/-- An integer clamped to a range. -/
def clampInt (lo hi z : Int) : Int := if z < lo then lo else if hi < z then hi else z

/-- The four bytes of a word, least significant first (R6). -/
def wordBytes (w : Word) : List Byte :=
  [w.extractLsb' 0 8, w.extractLsb' 8 8, w.extractLsb' 16 8, w.extractLsb' 24 8]

/-- A word from four bytes, least significant first (R6). -/
def bytesWord (b0 b1 b2 b3 : Byte) : Word := b3 ++ b2 ++ b1 ++ b0

/-- The bits [hi:lo] of a word as a number. -/
def fieldOf (w : Word) (hi lo : Nat) : Nat := (w.toNat / 2 ^ lo) % 2 ^ (hi - lo + 1)

end Sys2Proof
end

