-- ==== Sys2Proof/Syntax.lean ====
section
/-! DEFINITION. The commands the block takes (one constructor per row of spec/opcode_table.json) and the records
their operands are made of. -/

namespace Sys2Proof

/-- A logic engine E0 to E3 of a lane (R11). -/
abbrev EngId := Fin 4

/-- A lane: 0 = A, 1 = B, 2 = C (R11). -/
abbrev LaneId := Fin 3

/-- A host port (R33). -/
inductive Port where
  | a | b
  deriving DecidableEq, Repr

/-- The blocks of the module with SYS (R52). -/
inductive Block where
  | sys | hp | le | tsk | evt | lg | vt | sc | ch | fb | nw | cn | br | rd | er | pw | up
  deriving DecidableEq, Repr

/-- The operand fields of a Format M instruction as they stand in its words (R77): the space code, the index flag,
the low 21 bits, and the extension word (taken only where the space has one). -/
structure MOp where
  sp : BitVec 4
  x : Bool := false
  low : BitVec 21 := 0
  ext : Word := 0
  deriving DecidableEq, Repr

/-- The PMBus transactions of a core-voltage step that fail: of the two attempts at VOUT_COMMAND, and of all the others, which are
polls of READ_VOUT, the read of STATUS_WORD and the write that restores the voltage (R479, R480). -/
structure StepBus where
  vout : Nat := 0
  rest : Nat := 0
  deriving DecidableEq, Repr

/-- A cycle of the Chase at its stamp: whether its two evaluations, the second in complementary logic, agree (R284). -/
structure ChaseTick where
  t : Nat
  agree : Bool := true
  deriving DecidableEq, Repr

/-- A management frame as it arrives on a host port (R38), with the stamp at which its reception completes and the
length of its datagram. `tie` says that a request on the other port completed reception in the same cycle (R34). -/
structure Frame where
  port : Port
  magic : BitVec 16 := 0x5356
  version : Byte := 1
  command : Byte
  session : BitVec 16 := 0
  seq : BitVec 16 := 0
  count : BitVec 16 := 0
  address : Word := 0
  arg : Word := 0
  payload : List Word := []
  mac : List Byte := []
  len : Nat
  /-- Source address and port, destination port, VLAN tag and fragmentation of its datagram (R36). -/
  srcIp : Word := 0
  srcPort : BitVec 16 := 0
  dstPort : BitVec 16 := 47501
  tagged : Bool := false
  fragment : Bool := false
  tie : Bool := false
  t : Nat
  deriving DecidableEq, Repr

/-- An ARP request or an ICMP echo request on a host port: the address it asks for, its sender's address and MAC, whether its
datagram is a fragment, and the identifier, sequence number and data of an echo (R36). -/
structure PortAsk where
  target : Word
  source : Word := 0
  mac : BitVec 48 := 0
  fragment : Bool := false
  echo : List Byte := []
  deriving DecidableEq, Repr

/-- A Forme frame as it arrives at a branch of the star (R358): its frame start and end in ns of the module's cycle
time, its EtherType, its header fields, its payload, and whether its FCS is valid. -/
structure FbFrame where
  start : Nat
  stop : Nat
  ether : BitVec 16 := 0x88B5
  ver : Nat := 1
  kind : Nat
  null : Bool := false
  switchAck : Bool := false
  sched : Nat := 0
  id : Nat
  len : Nat
  payload : List Word := []
  fcs : Bool := true
  deriving DecidableEq, Repr

/-- What a switch sees of a PTP message (R385): its messageType (0 = Sync, 1 = Delay_Req), its version, and its
correctionField in units of 2^-16 ns. -/
structure PtpMsg where
  type : Nat
  version : Nat := 2
  correction : Int := 0
  deriving DecidableEq, Repr

/-- An Ethernet frame as a plane switch receives it (R375 to R378): its length with tag, whether its FCS is valid,
whether it is a PAUSE frame, its IEEE 802.1Q tag as (VID, PCP), the PTP message it carries, if any, and, of an ICMP echo request, the
address asked and the asking one. -/
structure EthFrame where
  src : BitVec 48
  dst : BitVec 48
  tag : Option (BitVec 12 × BitVec 3) := none
  len : Nat
  fcs : Bool := true
  pause : Bool := false
  ptp : Option PtpMsg := none
  echo : Option (Word × Word) := none
  deriving DecidableEq, Repr

/-- Where a PTP message for the ordinary clock comes from: its sender, its domain, and its transport as NW_PTP_CFG.TRANSPORT codes it
(R378, R382). -/
structure PtpFrom where
  sender : Nat
  domain : Nat := 0
  transport : Nat := 0
  deriving DecidableEq, Repr

/-- A received TRDP process-data copy (R391): what the header checks see, its addresses and its dataset as words; of a
safe telegram whether the safety code verifies under the SID, its user data version and safe sequence counter
(R396). -/
structure PdCopy where
  udpLen : Nat
  hdrOk : Bool := true
  version : Nat := 1
  isPd : Bool := true
  dsLen : Nat
  etb : Word := 0
  optrn : Word := 0
  comId : Word
  src : Word
  dst : Word
  counter : Word
  data : List Word := []
  sdtOk : Bool := true
  udv : Nat := 0
  ssc : Word := 0
  deriving DecidableEq, Repr

/-- Message-data types (R386). -/
inductive MdType where
  | mn | mr | mp | me
  deriving DecidableEq, Repr

/-- A received TRDP message, or a part of one: `whole` says that its datagram is complete; `dg` names a fragmented
datagram (R397, R398). -/
structure MdMsg where
  type : MdType
  comId : Word
  sid : Nat
  src : Word
  etb : Word := 0
  optrn : Word := 0
  len : Nat
  data : List Word := []
  dg : Option Nat := none
  whole : Bool := true
  deriving DecidableEq, Repr

/-- A PTP Announce (R382): its sender, its dataset in the order of the best master clock algorithm, and its
intervals. -/
structure Announce where
  sender : Nat
  prio1 : Nat
  cls : Nat
  accuracy : Nat
  variance : Nat
  prio2 : Nat
  gm : BitVec 64
  steps : Nat
  logSync : Int
  logAnn : Int
  domain : Nat
  transport : Nat := 0
  deriving DecidableEq, Repr

/-- A lease message (R434); `crcOk`: its CRC verifies. -/
structure LeaseMsg where
  type : Nat
  slot : Nat
  rank : Nat
  flags : Nat
  group : Word
  epoch : Word
  seq : Word
  ref : Word
  steep : Nat
  serial : Word
  /-- Bytes 28 to 31, the CRC as it stands in the message. -/
  crc : Word := 0
  deriving DecidableEq, Repr

/-- The commands of the block: one constructor per row of spec/opcode_table.json. -/
inductive Instr where
  /-- Loads a bit operand into BA (R99). -/
  | ldb (e : EngId) (o : MOp)
  /-- Loads the inverse of a bit operand into BA (R99). -/
  | ldbn (e : EngId) (o : MOp)
  /-- ANDs BA with a bit operand (R99). -/
  | andBit (e : EngId) (o : MOp)
  /-- ANDs BA with the inverse of a bit operand (R99). -/
  | andnBit (e : EngId) (o : MOp)
  /-- ORs BA with a bit operand (R99). -/
  | orBit (e : EngId) (o : MOp)
  /-- ORs BA with the inverse of a bit operand (R99). -/
  | ornBit (e : EngId) (o : MOp)
  /-- XORs BA with a bit operand (R99). -/
  | xorBit (e : EngId) (o : MOp)
  /-- XORs BA with the inverse of a bit operand (R99). -/
  | xornBit (e : EngId) (o : MOp)
  /-- Writes BA into a bit element (R103). -/
  | st (e : EngId) (o : MOp)
  /-- Writes NOT BA into a bit element (R103). -/
  | stn (e : EngId) (o : MOp)
  /-- Sets a bit element when BA is 1 (R103). -/
  | setBit (e : EngId) (o : MOp)
  /-- Clears a bit element when BA is 1 (R103). -/
  | rstBit (e : EngId) (o : MOp)
  /-- Reports a rising edge of BA against its memory bit and stores BA (R105). -/
  | rise (e : EngId) (o : MOp)
  /-- Reports a falling edge of BA against its memory bit and stores BA (R105). -/
  | fall (e : EngId) (o : MOp)
  /-- Opens a branch with pending AND, pushing BA and clearing it (R100). -/
  | band (e : EngId) (low : BitVec 20)
  /-- Opens a branch with pending AND NOT (R100). -/
  | bandn (e : EngId) (low : BitVec 20)
  /-- Opens a branch with pending OR (R100). -/
  | bor (e : EngId) (low : BitVec 20)
  /-- Opens a branch with pending OR NOT (R100). -/
  | born (e : EngId) (low : BitVec 20)
  /-- Opens a branch with pending XOR (R100). -/
  | bxor (e : EngId) (low : BitVec 20)
  /-- Opens a branch with pending XOR NOT (R100). -/
  | bxorn (e : EngId) (low : BitVec 20)
  /-- Closes a branch, popping its entry and combining the saved BA with BA (R101). -/
  | bend (e : EngId) (rest : BitVec 26)
  /-- Clears BA (R106). -/
  | clrb (e : EngId) (low : BitVec 20)
  /-- Sets BA (R106). -/
  | setb (e : EngId) (low : BitVec 20)
  /-- Inverts BA (R106). -/
  | notBa (e : EngId) (low : BitVec 20)
  /-- Loads BA with the truth of a condition code (R106). -/
  | ldc (e : EngId) (low : BitVec 20)
  /-- Loads BA from SV and clears SV (R106). -/
  | ldsv (e : EngId) (low : BitVec 20)
  /-- Jumps to a target when its condition holds (R108). -/
  | jmp (e : EngId) (c : BitVec 4) (target : BitVec 22)
  /-- Pushes a call frame and jumps to a subroutine (R109). -/
  | call (e : EngId) (c : BitVec 4) (target : BitVec 22)
  /-- Pops a call frame, checks DEPTH and returns (R110). -/
  | ret (e : EngId) (rest : BitVec 26)
  /-- Decrements an index register and loops back while it stays non-zero (R111). -/
  | rept (e : EngId) (c : BitVec 4) (target : BitVec 22)
  /-- Ends the activation, starting the output commit and closing the proof window (R112). -/
  | endAct (e : EngId) (low : BitVec 20)
  /-- Ends the activation when BA is 1 (R112). -/
  | endBa (e : EngId) (low : BitVec 20)
  /-- Ends the activation when BA is 0 (R112). -/
  | endNba (e : EngId) (low : BitVec 20)
  /-- Advances PC only (R113). -/
  | nop (e : EngId) (rest : BitVec 26)
  /-- Loads a word operand into ACC1 (R120). -/
  | ld (e : EngId) (o : MOp)
  /-- Stores ACC1 into a word element (R120). -/
  | stw (e : EngId) (o : MOp)
  /-- Loads two consecutive words into ACC1 and ACC2 (R120). -/
  | ldd (e : EngId) (o : MOp)
  /-- Stores ACC1 and ACC2 into two consecutive words (R120). -/
  | stwd (e : EngId) (o : MOp)
  /-- Adds a word to ACC1 and sets flags (R121). -/
  | add (e : EngId) (o : MOp)
  /-- Subtracts a word from ACC1 and sets flags (R121). -/
  | sub (e : EngId) (o : MOp)
  /-- ANDs a word into ACC1 (R121). -/
  | aw (e : EngId) (o : MOp)
  /-- ORs a word into ACC1 (R121). -/
  | ow (e : EngId) (o : MOp)
  /-- XORs a word into ACC1 (R121). -/
  | xw (e : EngId) (o : MOp)
  /-- Compares ACC1 with a word as signed numbers (R121). -/
  | cmp (e : EngId) (o : MOp)
  /-- Compares ACC1 with a word as unsigned numbers (R121). -/
  | cmpu (e : EngId) (o : MOp)
  /-- Signed multiply into ACC2:ACC1 (R122). -/
  | mul (e : EngId) (o : MOp)
  /-- Unsigned multiply into ACC2:ACC1 (R122). -/
  | mulu (e : EngId) (o : MOp)
  /-- Signed division of ACC2:ACC1 by a word (R123). -/
  | div (e : EngId) (o : MOp)
  /-- Unsigned division of ACC2:ACC1 by a word (R123). -/
  | divu (e : EngId) (o : MOp)
  /-- Copies one register to another (R124). -/
  | mov (e : EngId) (low : BitVec 20)
  /-- Exchanges ACC1 and ACC2 (R124). -/
  | swap (e : EngId) (low : BitVec 20)
  /-- Negates ACC1 (R124). -/
  | neg (e : EngId) (low : BitVec 20)
  /-- Inverts ACC1 bitwise (R124). -/
  | inv (e : EngId) (low : BitVec 20)
  /-- Adds a signed 12-bit immediate to a register (R124). -/
  | addi (e : EngId) (low : BitVec 20)
  /-- Takes the absolute value of ACC1 (R124). -/
  | abs (e : EngId) (low : BitVec 20)
  /-- Fills ACC2 with the sign of ACC1 (R124). -/
  | sext (e : EngId) (low : BitVec 20)
  /-- Shifts ACC1 left (R125). -/
  | shl (e : EngId) (low : BitVec 20)
  /-- Shifts ACC1 right logically (R125). -/
  | shr (e : EngId) (low : BitVec 20)
  /-- Shifts ACC1 right arithmetically (R125). -/
  | sar (e : EngId) (low : BitVec 20)
  /-- Rotates ACC1 left (R125). -/
  | rol (e : EngId) (low : BitVec 20)
  /-- Rotates ACC1 right (R125). -/
  | ror (e : EngId) (low : BitVec 20)
  /-- Shifts ACC2:ACC1 left (R125). -/
  | shl64 (e : EngId) (low : BitVec 20)
  /-- Shifts ACC2:ACC1 right logically (R125). -/
  | shr64 (e : EngId) (low : BitVec 20)
  /-- Shifts ACC2:ACC1 right arithmetically (R125). -/
  | sar64 (e : EngId) (low : BitVec 20)
  /-- Sign-extends the low byte of ACC1 (R126). -/
  | sx8 (e : EngId) (low : BitVec 20)
  /-- Sign-extends the low half-word of ACC1 (R126). -/
  | sx16 (e : EngId) (low : BitVec 20)
  /-- Zero-extends the low byte of ACC1 (R126). -/
  | zx8 (e : EngId) (low : BitVec 20)
  /-- Zero-extends the low half-word of ACC1 (R126). -/
  | zx16 (e : EngId) (low : BitVec 20)
  /-- Saturates ACC1 to the INT16 range (R126). -/
  | sat16 (e : EngId) (low : BitVec 20)
  /-- Saturates ACC1 to the UINT16 range (R126). -/
  | satu16 (e : EngId) (low : BitVec 20)
  /-- Sign-extends ACC2 from bit 15 for POS48 values (R126). -/
  | sx48 (e : EngId) (low : BitVec 20)
  /-- Reverses the bytes of ACC1 (R126). -/
  | bsw32 (e : EngId) (low : BitVec 20)
  /-- Swaps the two low bytes of ACC1 and clears the rest (R126). -/
  | bsw16 (e : EngId) (low : BitVec 20)
  /-- Saturates ACC2:ACC1 to the INT32 range into ACC1 (R126). -/
  | sat64 (e : EngId) (low : BitVec 20)
  /-- Moves a block of up to 256 words, one per cycle (R127). -/
  | bmov (e : EngId) (rest : BitVec 26) (ext : Word)
  /-- Evaluates an on-delay timer block (R130). -/
  | ton (e : EngId) (o : MOp)
  /-- Evaluates an off-delay timer block (R130). -/
  | tof (e : EngId) (o : MOp)
  /-- Evaluates a pulse timer block (R130). -/
  | tp (e : EngId) (o : MOp)
  /-- Evaluates a retentive on-delay timer block (R130). -/
  | tonr (e : EngId) (o : MOp)
  /-- Counts a rising edge of BA upward (R133). -/
  | ctu (e : EngId) (o : MOp)
  /-- Counts a rising edge of BA downward (R133). -/
  | ctd (e : EngId) (o : MOp)
  /-- Resets a timer or counter block when BA is 1 (R134). -/
  | rstb (e : EngId) (o : MOp)
  /-- Loads ET or CV of a block into ACC1 (R134). -/
  | ldtc (e : EngId) (o : MOp)
  /-- Reports ownership, validity and age of a global signal (R135). -/
  | sigv (e : EngId) (o : MOp)
  /-- Returns the task-start stamp (R136). -/
  | stmpLt (e : EngId) (low : BitVec 20)
  /-- Returns train time from the gauge sample (R136). -/
  | stmpTt (e : EngId) (low : BitVec 20)
  /-- Returns position from the gauge sample (R136). -/
  | stmpP (e : EngId) (low : BitVec 20)
  /-- Returns distance from the gauge sample (R136). -/
  | stmpD (e : EngId) (low : BitVec 20)
  /-- Returns catenary phase from the gauge sample (R136). -/
  | stmpPh (e : EngId) (low : BitVec 20)
  /-- Returns speed from the gauge sample (R136). -/
  | stmpSpd (e : EngId) (low : BitVec 20)
  /-- Returns the interval since the previous task-start stamp (R136). -/
  | stmpCyc (e : EngId) (low : BitVec 20)
  /-- Replaces the publish buffer of a PD telegram from D (R142). -/
  | txpd (e : EngId) (low : BitVec 20)
  /-- Copies the latched PD payload and status into D and registers (R142). -/
  | rxpd (e : EngId) (low : BitVec 20)
  /-- Replaces the safe data of an SDT channel from D (R142). -/
  | txsdt (e : EngId) (low : BitVec 20)
  /-- Copies latched SDT data into D and sets BA from the checks (R142). -/
  | rxsdt (e : EngId) (low : BitVec 20)
  /-- Sends an MD message from D (R142). -/
  | txmd (e : EngId) (low : BitVec 20)
  /-- Requests a pop of the oldest MD message into D and waits (R142). -/
  | rxmd (e : EngId) (low : BitVec 20)
  /-- Loads a telegram object's status word (R142). -/
  | tstat (e : EngId) (low : BitVec 20)
  /-- Queues a CAN frame descriptor for transmission (R145). -/
  | ctx (e : EngId) (low : BitVec 20)
  /-- Queues a CAN frame for transmission at a time target (R145). -/
  | ctxt (e : EngId) (low : BitVec 20)
  /-- Reads the latest frame of a CAN receive buffer (R145). -/
  | crxb (e : EngId) (low : BitVec 20)
  /-- Requests a pop of the CAN FIFO and waits (R145). -/
  | crxf (e : EngId) (low : BitVec 20)
  /-- Requests a rack bridge read and waits (R146). -/
  | brd (e : EngId) (low : BitVec 20)
  /-- Requests a non-posted rack bridge write and waits (R146). -/
  | bwr (e : EngId) (low : BitVec 20)
  /-- Issues a recorder entry from D (R147). -/
  | recEntry (e : EngId) (rest : BitVec 26) (ext : Word)
  /-- Issues a peripheral register write effect (R148). -/
  | pwr (e : EngId) (low : BitVec 20)
  /-- Requests a peripheral register read and waits (R148). -/
  | prd (e : EngId) (low : BitVec 20)
  /-- Issues a comparator arm effect from an arm record (R150). -/
  | arm (e : EngId) (low : BitVec 20)
  /-- Issues a comparator disarm effect (R150). -/
  | disarm (e : EngId) (low : BitVec 20)
  /-- Sets the running task's energy and heat classes in the caddy (R151). -/
  | ecls (e : EngId) (rest : BitVec 26)
  /-- The result of a waiting request arrives through the distributor and completes the instruction (R139). -/
  | requestResult (e : EngId) (t : Nat)
  /-- Opens a session handshake and returns a module nonce (R44). -/
  | hpOpen (f : Frame)
  /-- Verifies a handshake proof and completes or ends the session (R44). -/
  | auth (f : Frame)
  /-- Quoin Q31 is freed 20 µs after verification began (R46). -/
  | proofVerifyEnd (t : Nat)
  /-- Closes a session and releases its quoins (R49). -/
  | close (f : Frame)
  /-- Keeps a session alive (R40). -/
  | keepalive (f : Frame)
  /-- Reads words of the management space (R40). -/
  | read (f : Frame)
  /-- Writes words of the management space after address, quoin, mode and value checks (R42). -/
  | write (f : Frame)
  /-- Writes masked bits of one word (R40). -/
  | writeMasked (f : Frame)
  /-- Takes ownership of a quoin (R50). -/
  | qlock (f : Frame)
  /-- Frees a quoin held by the caller (R50). -/
  | qrelease (f : Frame)
  /-- Frees a quoin whatever its owner and records it (R50). -/
  | qbreak (f : Frame)
  /-- A host port answers ARP for its address (R36). -/
  | hostArpRequest (p : Port) (ip : PortAsk) (tagged : Bool) (t : Nat)
  /-- A host port answers an ICMP echo request (R36). -/
  | hostIcmpEcho (p : Port) (ip : PortAsk) (tagged : Bool) (t : Nat)
  /-- A handshake without AUTH within 1 s lapses and frees its session number (R44). -/
  | handshakeLapse (p : Port) (n : Nat) (t : Nat)
  /-- A session idle for SESS_TIMEOUT closes and releases its quoins (R49). -/
  | sessionTimeout (p : Port) (n : Nat) (t : Nat)
  /-- New host addresses take effect after the commit reply and close affected sessions (R37). -/
  | hostAddressChange (t : Nat)
  /-- Takes the block's shadows as the pending set (R54). -/
  | commitGo (b : Block) (t : Nat)
  /-- Reloads the shadows and cancels the pending set (R55). -/
  | commitDiscard (b : Block) (t : Nat)
  /-- A pending set takes effect at its block's boundary (R54). -/
  | pendingSetApply (b : Block) (t : Nat)
  /-- Performs a BLOCK reset of the block (R541). -/
  | softReset (b : Block) (t : Nat)
  /-- Sets every counter of the block to 0 (R56). -/
  | cntClear (b : Block) (t : Nat)
  /-- Writes a register without behaviour of its own, clamping illegal values (R53). -/
  | registerWrite (a : Nat) (v : Word) (t : Nat)
  /-- The distributor samples an asynchronous input once, stamps it and delivers it staggered to the lanes (R13). -/
  | inputSample (w : Nat) (v : Word) (t : Nat)
  /-- The voter compares an item presented by a lane and releases, excludes or enters SAFE (R242). -/
  | voterItem (x : LaneId) (t : Nat)
  /-- An item not presented by 16 cycles after its expected cycle is judged late (R240). -/
  | itemLate (x : LaneId) (t : Nat)
  /-- An excluded lane is reset and starts its self-test (R247). -/
  | laneReset (x : LaneId) (t : Nat)
  /-- A lane self-test ends, marking the lane out or ready to rejoin (R255). -/
  | laneSelftestEnd (x : LaneId) (pass : Bool) (t : Nat)
  /-- A rejoin copy starts mirroring and sweeping from the primary source (R257). -/
  | rejoinCopyStart (x : LaneId) (t : Nat)
  /-- The SRAM sweep of a rejoin copy completes (R257). -/
  | sweepEnd (x : LaneId) (t : Nat)
  /-- Register state is transferred and the target lane votes (R258). -/
  | rejoinSwitch (x : LaneId) (t : Nat)
  /-- The scrubber finds an uncorrectable word, excluding or repairing by lane state (R248). -/
  | scrubUncorrectable (x : LaneId) (a : Nat) (t : Nat)
  /-- A repair value is written into the lane with the error at point p (R248). -/
  | scrubRepairWrite (x : LaneId) (a : Nat) (t : Nat)
  /-- Elapsed grace reaches 80 % and a warning is recorded (R263). -/
  | graceWarn (t : Nat)
  /-- Elapsed grace reaches the grace time and the module enters SAFE (R263). -/
  | graceExpiry (t : Nat)
  /-- Elapsed grace is written to flash every 10 min (R263). -/
  | graceRecord (t : Nat)
  /-- SIMPLEX-DIAG lasting 10 min sends the module to SAFE (R251). -/
  | simplexLimit (t : Nat)
  /-- Names lanes held out of the next program start, refused outside STOP and MAINT (R262). -/
  | vtHoldOutWrite (v : Word) (t : Nat)
  /-- A base tick releases due cyclic tasks and delivers the caddy sample (R155). -/
  | baseTick (volt power loss : Nat) (t : Nat)
  /-- The lead dispatcher places pending tasks on engines, preempting and deferring as needed (R160). -/
  | dispatchDecision (t : Nat)
  /-- A written bit releases its task (R155). -/
  | tskRelease (n : Nat) (t : Nat)
  /-- A written bit cancels its task's pending or running activation (R158). -/
  | tskCancel (n : Nat) (t : Nat)
  /-- An activation reaching its instruction budget is cancelled (R166). -/
  | budgetCancel (e : EngId) (t : Nat)
  /-- Requests a WARM reset and program start (R176). -/
  | modeReqRunWarm (t : Nat)
  /-- Requests a COLD reset and program start (R176). -/
  | modeReqRunCold (t : Nat)
  /-- Enters maintenance mode (R176). -/
  | modeReqMaint (t : Nat)
  /-- Enters STOP mode, cancelling pending tasks (R176). -/
  | modeReqStop (t : Nat)
  /-- Tick 0 falls after the last start-up task and normal releases begin (R174). -/
  | tickZero (t : Nat)
  /-- A block raises an event source, setting PEND and ACC (R183). -/
  | eventRaise (n : Nat) (t : Nat)
  /-- A written bit raises its event source (R181). -/
  | evtRaise (n : Nat) (t : Nat)
  /-- The lead controller delivers the highest-priority eligible source and releases its tasks (R185). -/
  | eventDelivery (t : Nat)
  /-- A group's hold-off window ends and its sources become eligible (R186). -/
  | holdoffExpiry (n : Nat) (t : Nat)
  /-- A written bit completes its source at once, or counts a spurious completion (R193). -/
  | evtDone (n : Nat) (t : Nat)
  /-- Sets or clears global disable of deliveries (R191). -/
  | evtCtrlWrite (v : Word) (t : Nat)
  /-- The Line Gauge forms P, D, Φ and TT each µs and delivers a sample (R199). -/
  | gaugeTick (t : Nat)
  /-- A released arm or disarm is applied by the hit unit at a gauge tick (R221). -/
  | comparatorArmApply (t : Nat)
  /-- An armed comparator fires, becomes IDLE and performs its action (R222). -/
  | comparatorFire (n : Fin 128) (t : Nat)
  /-- The hit unit's switch command reaches a hardware-timed channel (R228). -/
  | switchCommand (c : Fin 128) (t : Nat)
  /-- A comparator output pulse runs out (R228). -/
  | outputPulseEnd (c : Fin 128) (t : Nat)
  /-- An offset measurement steps or steers TT and updates lock state (R201). -/
  | ptpOffsetApply (t : Nat)
  /-- TT unlocks after 4 s without a measurement (R202). -/
  | ttMeasurementTimeout (t : Nat)
  /-- An accepted wheel-sensor edge moves travel and distance (R203). -/
  | wheelEdge (k : Fin 2) (lead both : Bool) (t : Nat)
  /-- A pair becomes valid after 1 s without any invalidity cause (R204). -/
  | pairValidRestore (k : Fin 2) (t : Nat)
  /-- Both pairs without an edge for 500 ms set STANDSTILL (R206). -/
  | standstillEntry (t : Nat)
  /-- The accelerometer is read and the gradient estimate updated (R208). -/
  | accelSample (x y z : Int) (t : Nat)
  /-- The slip flag clears after 200 ms without cause (R209). -/
  | slipClear (t : Nat)
  /-- Slip lasting SLIP_MAX reduces D quality (R210). -/
  | slipMaxExpiry (t : Nat)
  /-- Applies a line reference at the next gauge tick, accepting or rejecting it (R212). -/
  | applyRef (t : Nat)
  /-- Restores D quality to FULL when no cause remains (R212). -/
  | dqRestore (t : Nat)
  /-- A positive crossing of the phase input updates period and phase rate (R217). -/
  | phaseCrossing (t : Nat)
  /-- No crossing within 1.5 periods makes the reference absent (R218). -/
  | phaseLost (t : Nat)
  /-- Every 10 ms the power-system class is evaluated and confirmed (R219). -/
  | classEvaluation (uac udc n : Nat) (t : Nat)
  /-- The always-on section loses its supply after 50 ms without source (R518). -/
  | aoSupplyLost (t : Nat)
  /-- The Chase samples every SAFE_IN against its thresholds and filter (R271). -/
  | chaseInputSample (i : Fin 32) (mv ug : Int) (t : Nat)
  /-- The Chase evaluates its equations, timers and latches and drives chase switches (R283). -/
  | chaseCycle (c : ChaseTick)
  /-- A group's test cycle begins and slot sources pulse off in turn (R274). -/
  | testCycleStart (g : Fin 8) (t : Nat)
  /-- Test-pulsed inputs are sampled before a pulse end for missed or foreign pulses (R276). -/
  | testPulseSample (g : Fin 8) (slot : Fin 8) (highs : BitVec 4) (t : Nat)
  /-- A SAFE_IN high for STUCK seconds is declared stuck (R273). -/
  | chaseInputStuck (i : Fin 32) (t : Nat)
  /-- A SAFE_OUT switch is opened for DARK_W (R278). -/
  | darkPulseStart (i : Fin 32) (t : Nat)
  /-- At a dark pulse end the pin is checked and a stuck switch declared (R278). -/
  | darkPulseEnd (i : Fin 32) (mv ug : Int) (t : Nat)
  /-- A SAFE_OUT high for 1 ms with both switches open is declared EXT_POTENTIAL (R279). -/
  | extPotential (i : Fin 32) (t : Nat)
  /-- Chase and lane commands differing for 50 cycles set DISC (R285). -/
  | chaseDiscrepancy (i : Fin 32) (t : Nat)
  /-- Restarts the Chase in TEST with table load and self-test (R287). -/
  | retest (t : Nat)
  /-- The Chase self-test ends, entering NORMAL, DEGRADED, HELD or EXPIRED (R287). -/
  | chaseSelftestEnd (pass : Bool) (t : Nat)
  /-- The loaded table CRC is rechecked and CORRUPT declared on mismatch (R284). -/
  | chaseCrcCheck (ok : Bool) (t : Nat)
  /-- Three missing heartbeats cause a Chase fault (R287). -/
  | heartbeatMiss (missing : Bool) (t : Nat)
  /-- An injected reference read wrongly causes a Chase fault (R287). -/
  | chaseComparatorCheck (ok : Bool) (t : Nat)
  /-- Degraded time reaching DEGR_MIN moves the Chase to EXPIRED (R287). -/
  | degradedLimit (t : Nat)
  /-- Degraded time reaching 80 % sets DEGR_WARN (R288). -/
  | degradedWarn (t : Nat)
  /-- Degraded time is written to flash every minute (R288). -/
  | degradedTimeRecord (t : Nat)
  /-- Clears latched terminal faults that meet their clearing conditions (R276). -/
  | clrFaults (t : Nat)
  /-- An SDT comparison window ends without a partner copy (R295). -/
  | sdtCompareWindowEnd (n : Nat) (t : Nat)
  /-- A group supply held 10 ms above 9.5 V makes the group powered (R298). -/
  | groupPowered (g : Fin 8) (t : Nat)
  /-- A group becomes unpowered on undervoltage, disable or reversal (R298). -/
  | groupUnpowered (g : Fin 8) (t : Nat)
  /-- A group above 42 V for 1 ms opens its outputs (R298). -/
  | groupOvervolt (g : Fin 8) (t : Nat)
  /-- Outputs return after 1 ms below 41 V (R298). -/
  | groupOvervoltEnd (g : Fin 8) (t : Nat)
  /-- A group overloaded for 20 ms trips all its outputs (R300). -/
  | groupTrip (g : Fin 8) (t : Nat)
  /-- Each whole µs a group samples its channels and filters input levels (R311). -/
  | fieldSample (g : Fin 8) (ug ig : Int) (rail : Nat) (mvs mas : List Int) (cool : BitVec 16) (t : Nat)
  /-- A group delivers its input frame on change or after 100 µs (R306). -/
  | inputFrameDelivery (g : Fin 8) (t : Nat)
  /-- A group applies released commit sets at a whole µs (R308). -/
  | commitApply (g : Fin 8) (t : Nat)
  /-- A channel's 1 ms mode transition ends and it starts its new mode (R304). -/
  | modeTransitionEnd (c : Fin 128) (t : Nat)
  /-- Three filter periods without acceptance clear UNDET (R312). -/
  | undetTimeout (c : Fin 128) (t : Nat)
  /-- An input high for STUCK seconds is declared stuck (R313). -/
  | channelStuck (c : Fin 128) (t : Nat)
  /-- No level accepted in 16 filter periods of changing input sets OVERRUN (R314). -/
  | inputOverrun (c : Fin 128) (t : Nat)
  /-- A counting channel counts an accepted edge (R315). -/
  | countEdge (c : Fin 128) (lv short both : Bool) (t : Nat)
  /-- A frequency gate ends and the value is updated (R317). -/
  | freqGateEnd (c : Fin 128) (n d : Nat) (t : Nat)
  /-- An overloaded or hot output trips off (R319). -/
  | outputTrip (c : Fin 128) (hot : Bool) (t : Nat)
  /-- An unbalanced paralleled set trips after 100 ms (R321). -/
  | parMismatch (c : Fin 128) (t : Nat)
  /-- A PWM period starts with the latest period and duty (R322). -/
  | pwmPeriodStart (c : Fin 128) (t : Nat)
  /-- A single-pulse output's pulse ends (R323). -/
  | doPulseEnd (c : Fin 128) (t : Nat)
  /-- A tripped test-pulse source restarts 1 s after its cause ends (R326). -/
  | tpSourceRestart (c : Fin 128) (t : Nat)
  /-- An input below the open-wire limit for 100 ms is declared OPEN_WIRE (R327). -/
  | openWire (c : Fin 128) (t : Nat)
  /-- An output with too little current for 100 ms is declared OPEN_LOAD (R327). -/
  | openLoad (c : Fin 128) (t : Nat)
  /-- An off output pin high for 1 ms is declared SHORT_TO_SUPPLY (R327). -/
  | shortToSupply (c : Fin 128) (t : Nat)
  /-- A pin driven above U_G opens its switch (R328). -/
  | backfeed (c : Fin 128) (t : Nat)
  /-- A backfed pin below U_G for 1 ms lets the channel restart (R328). -/
  | backfeedClear (c : Fin 128) (t : Nat)
  /-- A fault code clears 100 ms after its condition ends (R328). -/
  | faultCodeClear (c : Fin 128) (t : Nat)
  /-- An analogue conversion ends and the averaged result updates (R333). -/
  | conversionEnd (c : Fin 128) (v v2 cj : Int) (t : Nat)
  /-- A current input above 30 mA disconnects its shunt (R339). -/
  | shuntDisconnect (c : Fin 128) (t : Nat)
  /-- The shunt is tried again every 1 s (R339). -/
  | shuntReconnect (c : Fin 128) (ok : Bool) (t : Nat)
  /-- A thermocouple test conversion checks for an open wire every 1 s (R343). -/
  | tcOpenTest (c : Fin 128) (uv : Int) (t : Nat)
  /-- An analogue voltage output at its limit for 20 ms declares OVERLOAD (R345). -/
  | aoOverload (c : Fin 128) (t : Nat)
  /-- Computes and applies a user trim or rejects it (R347). -/
  | trimApply (c : Fin 128) (t : Nat)
  /-- Sets the user trim to zero (R347). -/
  | trimRestore (c : Fin 128) (t : Nat)
  /-- Drives an analogue output raw at S1 or S2 for trimming (R348). -/
  | trimDrive (c : Fin 128) (drive point : Bool) (t : Nat)
  /-- The trim flash write completes and SAVED reads 1 (R347). -/
  | trimSaved (c : Fin 128) (t : Nat)
  /-- The feed rail below 14 V disables analogue outputs and inputs (R350). -/
  | feedLowEntry (g : Fin 8) (t : Nat)
  /-- The rail above 17 V for 10 ms ends FEED_LOW (R350). -/
  | feedLowExit (g : Fin 8) (t : Nat)
  /-- A Forme cycle starts (R355). -/
  | cycleStart (t : Nat)
  /-- The star checks a branch frame and forwards, blocks or cuts it (R363). -/
  | starFrameCheck (b : Fin 8) (f : FbFrame) (t : Nat)
  /-- A received frame is accepted and delivered with its status word (R372). -/
  | formeFrameAccept (b : Fin 8) (f : FbFrame) (t : Nat)
  /-- A static slot ends without an accepted frame and a status sample is delivered (R372). -/
  | slotEnd (n : Nat) (t : Nat)
  /-- At network idle violation levels and quarantines are updated (R365). -/
  | networkIdle (t : Nat)
  /-- A transmit frame takes its payload at its preparation point (R371). -/
  | framePreparation (i : Nat) (t : Nat)
  /-- After 8 LOCKUP cycles the controller enters PRESS (R366). -/
  | lockupEnd (t : Nat)
  /-- Requests a schedule switch, accepted or refused (R368). -/
  | fbSchedReq (target : Fin 8) (t : Nat)
  /-- At cycle c_s − 1 acknowledgements decide or abort the switch (R369). -/
  | switchCheck (t : Nat)
  /-- At cycle c_s every participant changes to the target schedule (R369). -/
  | scheduleSwitch (t : Nat)
  /-- Makes a branch ACTIVE with V and QUAR_N 0 (R365). -/
  | branchRelease (b : Fin 8) (t : Nat)
  /-- A branch link comes up or goes down (R353). -/
  | branchLinkChange (b : Fin 8) (up : Bool) (t : Nat)
  /-- A plane switch learns and forwards a received frame (R376). -/
  | switchFrameReceived (p : Fin 4) (f : EthFrame) (t : Nat)
  /-- A queued frame starts transmission and is judged on time or LATE (R380). -/
  | egressTransmit (q : Fin 7) (t : Nat)
  /-- A copy still queued at twice its deadline is removed as DROPPED (R381). -/
  | copyDrop (q : Fin 7) (t : Nat)
  /-- The endpoint answers ARP for its address (R378). -/
  | endpointArp (pl : Fin 2) (ip : Word) (asker : Word) (t : Nat)
  /-- An ARP cache entry is refreshed every 60 s (R378). -/
  | arpRefresh (pl : Fin 2) (ip : Word) (answer : Option (BitVec 48)) (t : Nat)
  /-- A failed ARP request is repeated every 1 s (R378). -/
  | arpRetry (pl : Fin 2) (ip : Word) (answer : Option (BitVec 48)) (t : Nat)
  /-- A learned address ages out after 300 s (R376). -/
  | addressAgeing (pl : Fin 2) (mac : BitVec 48) (t : Nat)
  /-- A PUBLISH entry sends copies on its planes at its instant (R389). -/
  | pdPublication (n : Nat) (codesOk : Bool) (t : Nat)
  /-- A received PD copy is checked, accepted or discarded as duplicate (R391). -/
  | pdCopyReceived (pl : Fin 2) (c : PdCopy) (t : Nat)
  /-- A subscription without acceptance for TIMEOUT is timed out (R393). -/
  | pdTimeout (n : Nat) (t : Nat)
  /-- A safe channel without acceptance for SAFE_TMO is timed out (R396). -/
  | sdtTimeout (n : Nat) (t : Nat)
  /-- A received MD message is queued or discarded by its session role (R398). -/
  | mdMessageReceived (pl : Fin 2) (m : MdMsg) (t : Nat)
  /-- An outstanding request without reply sets REPLY_TIMEOUT (R398). -/
  | mdReplyTimeout (n : Nat) (t : Nat)
  /-- An incomplete fragmented datagram is discarded after 100 ms (R398). -/
  | mdReassemblyTimeout (n : Nat) (t : Nat)
  /-- A PTP Sync forms an offset measurement (R384). -/
  | syncReceived (pl : Fin 2) (sender : PtpFrom) (twoStep : Bool) (t1 cs t2 : Int) (t : Nat)
  /-- A Follow_Up completes a two-step Sync measurement (R384). -/
  | followUpReceived (pl : Fin 2) (sender : PtpFrom) (t1 cs : Int) (t : Nat)
  /-- A Delay_Req is sent at a randomised interval (R384). -/
  | delayReqSend (t3 : Int) (t : Nat)
  /-- A Delay_Resp forms a path delay value (R384). -/
  | delayRespReceived (pl : Fin 2) (sender : PtpFrom) (t4 cd : Int) (t : Nat)
  /-- An Announce is qualified and the best master selected (R382). -/
  | announceReceived (pl : Fin 2) (a : Announce) (t : Nat)
  /-- Missing Announces change the PTP plane or state (R383). -/
  | announceTimeout (t : Nat)
  /-- A consist port link comes up or goes down (R383). -/
  | netLinkChange (p : Fin 5) (up gigabit : Bool) (t : Nat)
  /-- A received CAN frame goes to a buffer, PDO or the FIFO, or is discarded (R406). -/
  | canFrameReceived (c : Fin 4) (w : List Word) (dataOk : Bool) (t : Nat)
  /-- Rate detection moves to the next candidate (R404). -/
  | rateCandidateTimeout (c : Fin 4) (t : Nat)
  /-- A host read of buffer word 0 locks the window (R408). -/
  | hbufLockRead (c : Fin 4) (b : Fin 64) (t : Nat)
  /-- A host read of word 17 releases the lock (R408). -/
  | hbufReleaseRead (c : Fin 4) (b : Fin 64) (t : Nat)
  /-- A buffer lock lapses after 10 ms (R408). -/
  | hbufLockTimeout (c : Fin 4) (b : Fin 64) (t : Nat)
  /-- A frame is transmitted successfully and leaves its buffer (R409). -/
  | canTxComplete (c : Fin 4) (b : Option (Fin 64)) (t : Nat)
  /-- A frame loses arbitration or meets an error and is retried (R409). -/
  | canTxError (c : Fin 4) (b : Option (Fin 64)) (arb : Bool) (t : Nat)
  /-- The bus-off delay ends and recovery begins (R411). -/
  | busOffDelayEnd (c : Fin 4) (t : Nat)
  /-- Recovery completes and the controller is error-active (R411). -/
  | busOffReturn (c : Fin 4) (t : Nat)
  /-- A timed frame's target is reached and it becomes pending (R410). -/
  | ctxtDue (c : Fin 4) (b : Fin 64) (t : Nat)
  /-- A timed frame not in progress by its late limit is removed (R410). -/
  | ctxtMissed (c : Fin 4) (b : Fin 64) (t : Nat)
  /-- An RX PDO without a frame for TMR is timed out (R414). -/
  | pdoTimeout (c : Fin 4) (b : Fin 64) (t : Nat)
  /-- A TX PDO event timer queues its frame (R415). -/
  | pdoEventTimer (c : Fin 4) (b : Fin 64) (t : Nat)
  /-- A queuing held by the inhibit interval takes place (R415). -/
  | pdoInhibitEnd (c : Fin 4) (b : Fin 64) (t : Nat)
  /-- A controller produces a SYNC frame every SYNC_PERIOD (R416). -/
  | syncProduce (c : Fin 4) (t : Nat)
  /-- The bridge takes the next queued request and requests the bus (R424). -/
  | srbRequestStart (t : Nat)
  /-- The bus is granted and the address phase driven (R419). -/
  | srbGrant (reqs : BitVec 4) (t : Nat)
  /-- The target answers with ready or error and the result is delivered (R420). -/
  | srbAnswer (err : Bool) (ad : Word) (t : Nat)
  /-- No answer within TMO ends the transaction with TIMEOUT (R420). -/
  | srbAnswerTimeout (t : Nat)
  /-- No grant within ARB_TMO completes the request with TIMEOUT (R419). -/
  | srbArbTimeout (t : Nat)
  /-- SRB_RST_N asserted ends a transaction and makes the bridge not ready (R429). -/
  | srbReset (t : Nat)
  /-- The bridge becomes ready 1 ms after reset release with a running clock (R418). -/
  | srbReady (t : Nat)
  /-- A missing SRB clock makes the bridge not ready (R418). -/
  | srbClockLost (t : Nat)
  /-- An enabled rack interrupt line going low raises its source (R431). -/
  | srbIrq (k : Fin 4) (t : Nat)
  /-- A member sends RENEW or STATUS every steep/4 (R435). -/
  | leaseMessageSend (t : Nat)
  /-- A lease message is checked and acted upon, with ACK for RENEW (R434). -/
  | leaseMessageReceived (m : LeaseMsg) (t : Nat)
  /-- A holder stops acting at h_a + S − G and sends RELEASE (R436). -/
  | actingExpiry (t : Nat)
  /-- A follower without RENEW for S + G claims the lease (R437). -/
  | claimTimeout (t : Nat)
  /-- A claimant not withdrawn after S/4 takes the lease (R437). -/
  | leaseTake (t : Nat)
  /-- A member silent for steep/2 is no longer alive (R435). -/
  | memberAliveExpiry (m : Fin 3) (t : Nat)
  /-- A publication without partner copy in its cycle is not compared (R444). -/
  | comparisonWindowEnd (k : Fin 64) (t : Nat)
  /-- A holder stops acting and sends RELEASE (R446). -/
  | rdRelease (t : Nat)
  /-- A holder stops acting and hands the lease to a successor (R446). -/
  | rdHandover (successor : Fin 256) (t : Nat)
  /-- Sets BARRED (R446). -/
  | rdBar (t : Nat)
  /-- Clears BARRED unless a comparison fault stands (R446). -/
  | rdUnbar (t : Nat)
  /-- The redundancy status sample is delivered on change or every 10 ms (R447). -/
  | rdStatusSample (t : Nat)
  /-- The record at the queue head is programmed, verified and marked in flash (R451). -/
  | recordWrite (ok : Bool) (t : Nat)
  /-- Starts a fetch of a record into the port's read buffer (R456). -/
  | erFetch (p : Port) (t : Nat)
  /-- A fetch completes with FOUND or NOT_FOUND (R456). -/
  | erFetchDone (p : Port) (t : Nat)
  /-- Opens a clearing challenge with a fresh nonce (R458). -/
  | clearReq (t : Nat)
  /-- Submits the clearing response, clearing or recording a failure (R458). -/
  | clearGo (p : Port) (session : Nat) (t : Nat)
  /-- An open challenge closes after 10 s (R458). -/
  | clearChallengeExpiry (t : Nat)
  /-- At boot the recorder finds the append point and closes torn records (R455). -/
  | recorderRecovery (t : Nat)
  /-- The main supply becomes present and boot or ride-through recovery follows (R459). -/
  | supplyPresent (slot : Fin 4) (key : Bool) (sysOk : BitVec 2) (t : Nat)
  /-- The main supply is lost and the ride-through window starts (R462). -/
  | supplyLost (t : Nat)
  /-- Ride-through expires and HOLDUP stops the lanes and starts the save (R463). -/
  | holdupEntry (t : Nat)
  /-- The retained save carries its end mark (R464). -/
  | retainedSaveEnd (t : Nat)
  /-- The hold-up bank reaches its end voltage and the module is unpowered (R463). -/
  | holdupBankEnd (torn : Bool) (t : Nat)
  /-- Sets the balance to the grant and enters STABLED (R461). -/
  | pwStable (t : Nat)
  /-- Adds the grant to the balance in STABLED (R461). -/
  | pwTopup (t : Nat)
  /-- Leaves STABLED (R461). -/
  | pwUnstable (t : Nat)
  /-- Requests SLEEP and starts the entry (R467). -/
  | pwSleep (t : Nat)
  /-- The lead lane reaches a quiet point during sleep entry (R467). -/
  | sleepQuietPoint (t : Nat)
  /-- Retention is committed and the module is in SLEEP (R467). -/
  | retentionCommit (t : Nat)
  /-- No quiet point by 20 ms, or an exclusion, abandons the entry (R467). -/
  | sleepEntryAbandon (t : Nat)
  /-- An enabled wake source is latched and the module wakes (R470). -/
  | wakeLatch (src : BitVec 9) (can irq : Fin 4) (chan : Fin 128) (t : Nat)
  /-- The caddy balance reaches 0 (R475). -/
  | balanceExhausted (t : Nat)
  /-- The heat credit reaches 0 (R476). -/
  | heatCreditExhausted (t : Nat)
  /-- Board temperatures are read every 10 ms (R476). -/
  | temperatureRead (ts : List Int) (t : Nat)
  /-- Path-delay slack is sampled and a core-voltage step requested when due (R481). -/
  | slackSample (x : LaneId) (slack ring : Nat) (t : Nat)
  /-- A core-voltage step is made, verified and counted (R480). -/
  | vcoreStep (x : LaneId) (naks : StepBus) (settled fault : Bool) (t : Nat)
  /-- Every 10 min the working reference is compared and corrected (R486). -/
  | referenceCheck (g : Fin 8) (diff : Int) (t : Nat)
  /-- Flash blocks are read and refreshed on excess corrected bits (R487). -/
  | flashScan (block bits : Nat) (image : Bool) (t : Nat)
  /-- At power-up the hold-up bank's C and ESR are measured (R484). -/
  | holdupMeasurement (step fall : Nat) (t : Nat)
  /-- The hold-up time at present draw is refreshed every 1 s (R484). -/
  | holdupNowRefresh (t : Nat)
  /-- A copy attempt of selected images completes and is hashed per lane (R502). -/
  | imageCopyCheck (progOk tabOk : BitVec 3) (t : Nat)
  /-- The ACK key held for 5 s from power-up selects maintenance mode (R506). -/
  | ackHoldMaint (t : Nat)
  /-- A host writes container data into the store (R495). -/
  | hostContainerWrite (k : Nat) (ws : List Word) (t : Nat)
  /-- A relay chunk is stored or refused and answered (R496). -/
  | relayChunkReceived (src cid : Word) (total ofs len : Nat) (data : List Byte) (t : Nat)
  /-- A downstream answer advances the relay to that destination (R497). -/
  | relayReplyReceived (d : Fin 4) (ofs : Nat) (cid : Word) (status kib : Nat) (t : Nat)
  /-- A chunk unanswered after 200 ms is sent again (R497). -/
  | relayChunkRetry (d : Fin 4) (t : Nat)
  /-- A destination without progress for 600 s becomes FAILED (R497). -/
  | relayFailTimeout (d : Fin 4) (t : Nat)
  /-- A complete container is checked for key, signature and body hash (R499). -/
  | receiptCheck (t : Nat)
  /-- A passed container is applied into the alternate slot (R500). -/
  | containerApply (t : Nat)
  /-- Application ends with the slot CANDIDATE or EMPTY (R500). -/
  | applyComplete (t : Nat)
  /-- Abandons an application and empties the store (R500). -/
  | upDiscard (t : Nat)
  /-- Sets the flag that makes the next boot enter MAINT (R506). -/
  | upNextMaint (t : Nat)
  /-- Writes a new customer key hash into an empty slot (R494). -/
  | keyAdd (j : Fin 4) (t : Nat)
  /-- Sets a customer key slot's REVOKED bit (R494). -/
  | keyRevoke (j : Fin 4) (t : Nat)
  /-- The ACK key is accepted as pressed (R538). -/
  | ackKeyPress (t : Nat)
  /-- The ACK key is accepted as released (R538). -/
  | ackKeyRelease (t : Nat)
  /-- The key pressed for 60 s is declared stuck (R539). -/
  | ackKeyStuck (t : Nat)
  /-- An engine fetches a word whose OP no chapter assigns, or a word at or beyond code index 0x30_0000, and faults with ILLEGAL_OP or ADDR (R79). -/
  | unassignedOpFetch (e : EngId) (w : Word)
  /-- A single-bit or uncorrectable error arises in a word of a lane's SRAM (R88). -/
  | sramError (x : LaneId) (a : Nat) (uncorr : Bool)
  /-- The background scrubber reads a word with a single-bit error, corrects and rewrites it and counts it (R88). -/
  | scrubCorrection (x : LaneId) (a : Nat)
  /-- A controller detects an error on the bus while receiving, changing its error counters and, during rate detection, leaving its candidate (R404). -/
  | canBusError (c : Fin 4) (eight : Bool) (t : Nat)
  /-- A starting or reintegrating controller has seen 11 recessive bits and begins to take part in the bus (R403). -/
  | canIntegration (c : Fin 4) (t : Nat)
  /-- A pending frame sends its SOF and is in progress from that bit (R409). -/
  | canTxStart (c : Fin 4) (b : Option (Fin 64)) (t : Nat)
  /-- The background erase of the blocks below the first SEQ kept after a clear completes and ERASING reads 0 (R458). -/
  | backgroundEraseEnd (t : Nat)
  /-- The 600 ms lamp test after the supply becomes present ends and the indicators follow their rules (R537). -/
  | lampTestEnd (t : Nat)
  deriving DecidableEq, Repr

end Sys2Proof
end

