-- ==== Sys2Proof/Decode.lean ====
section
/-! DEFINITION. The command a word spells by the bits of spec/opcode_table.json; the code words of the engine instructions and
their decoding (R76 to R80, R93, R114 and the FUNC tables of the instruction chapters). -/

namespace Sys2Proof

/-- No row of the table gives bits: a word of `nbits` bits spells no command. -/
def decodeTableWord (_nbits _w : Nat) : Option Instr := none

/-! ### Formats (R77) -/

/-- Whether the operand has an extension word: S, W and KL. -/
def MOp.hasExt (o : MOp) : Bool := o.sp.toNat == 4 || o.sp.toNat == 5 || o.sp.toNat == 10

/-- An operand as code words can spell it: no extension word where its space has none. -/
def MOp.spelt (o : MOp) : Bool := o.hasExt || o.ext == 0

/-- Format M: OP, SP, X and the low bits, then the extension word. -/
def codeM (op : Nat) (o : MOp) : List Word :=
  (BitVec.ofNat 6 op ++ o.sp ++ BitVec.ofBool o.x ++ o.low : BitVec 32) :: (if o.hasExt then [o.ext] else [])

/-- Format J: OP, COND, TARGET. -/
def codeJ (op : Nat) (c : BitVec 4) (target : BitVec 22) : List Word := [(BitVec.ofNat 6 op ++ c ++ target : BitVec 32)]

/-- Format R: OP, FUNC and the bits below it. -/
def codeR (op func : Nat) (low : BitVec 20) : List Word := [(BitVec.ofNat 6 op ++ BitVec.ofNat 6 func ++ low : BitVec 32)]

/-- Format R of an OP with one instruction: OP and the bits below it. -/
def codeF (op : Nat) (rest : BitVec 26) : List Word := [(BitVec.ofNat 6 op ++ rest : BitVec 32)]

/-- The operand a Format M word and the word after it spell. -/
def mopOf (w ext : Word) : MOp :=
  let o : MOp := { sp := w.extractLsb' 22 4, x := w.getLsbD 21, low := w.extractLsb' 0 21 }
  if o.hasExt then { o with ext := ext } else o

/-! ### Code words -/

/-- The code words of an engine instruction; the empty list of any other command. -/
def engineCode : Instr → List Word
  | .ldb _ o => codeM 0x01 o
  | .ldbn _ o => codeM 0x02 o
  | .andBit _ o => codeM 0x03 o
  | .andnBit _ o => codeM 0x04 o
  | .orBit _ o => codeM 0x05 o
  | .ornBit _ o => codeM 0x06 o
  | .xorBit _ o => codeM 0x07 o
  | .xornBit _ o => codeM 0x08 o
  | .st _ o => codeM 0x09 o
  | .stn _ o => codeM 0x0A o
  | .setBit _ o => codeM 0x0B o
  | .rstBit _ o => codeM 0x0C o
  | .rise _ o => codeM 0x0D o
  | .fall _ o => codeM 0x0E o
  | .ld _ o => codeM 0x18 o
  | .stw _ o => codeM 0x19 o
  | .ldd _ o => codeM 0x1A o
  | .stwd _ o => codeM 0x1B o
  | .add _ o => codeM 0x1C o
  | .sub _ o => codeM 0x1D o
  | .mul _ o => codeM 0x1E o
  | .mulu _ o => codeM 0x1F o
  | .div _ o => codeM 0x20 o
  | .divu _ o => codeM 0x21 o
  | .aw _ o => codeM 0x22 o
  | .ow _ o => codeM 0x23 o
  | .xw _ o => codeM 0x24 o
  | .cmp _ o => codeM 0x25 o
  | .cmpu _ o => codeM 0x26 o
  | .ton _ o => codeM 0x2B o
  | .tof _ o => codeM 0x2C o
  | .tp _ o => codeM 0x2D o
  | .tonr _ o => codeM 0x2E o
  | .ctu _ o => codeM 0x2F o
  | .ctd _ o => codeM 0x30 o
  | .rstb _ o => codeM 0x31 o
  | .ldtc _ o => codeM 0x32 o
  | .sigv _ o => codeM 0x33 o
  | .jmp _ c target => codeJ 0x12 c target
  | .call _ c target => codeJ 0x13 c target
  | .rept _ c target => codeJ 0x15 c target
  | .band _ low => codeR 0x0F 0x00 low
  | .bandn _ low => codeR 0x0F 0x01 low
  | .bor _ low => codeR 0x0F 0x02 low
  | .born _ low => codeR 0x0F 0x03 low
  | .bxor _ low => codeR 0x0F 0x04 low
  | .bxorn _ low => codeR 0x0F 0x05 low
  | .clrb _ low => codeR 0x11 0x00 low
  | .setb _ low => codeR 0x11 0x01 low
  | .notBa _ low => codeR 0x11 0x02 low
  | .ldc _ low => codeR 0x11 0x03 low
  | .ldsv _ low => codeR 0x11 0x04 low
  | .endAct _ low => codeR 0x16 0x00 low
  | .endBa _ low => codeR 0x16 0x01 low
  | .endNba _ low => codeR 0x16 0x02 low
  | .mov _ low => codeR 0x27 0x00 low
  | .swap _ low => codeR 0x27 0x01 low
  | .neg _ low => codeR 0x27 0x02 low
  | .inv _ low => codeR 0x27 0x03 low
  | .addi _ low => codeR 0x27 0x04 low
  | .abs _ low => codeR 0x27 0x05 low
  | .sext _ low => codeR 0x27 0x06 low
  | .shl _ low => codeR 0x28 0x00 low
  | .shr _ low => codeR 0x28 0x01 low
  | .sar _ low => codeR 0x28 0x02 low
  | .rol _ low => codeR 0x28 0x03 low
  | .ror _ low => codeR 0x28 0x04 low
  | .shl64 _ low => codeR 0x28 0x05 low
  | .shr64 _ low => codeR 0x28 0x06 low
  | .sar64 _ low => codeR 0x28 0x07 low
  | .sx8 _ low => codeR 0x29 0x00 low
  | .sx16 _ low => codeR 0x29 0x01 low
  | .zx8 _ low => codeR 0x29 0x02 low
  | .zx16 _ low => codeR 0x29 0x03 low
  | .sat16 _ low => codeR 0x29 0x04 low
  | .satu16 _ low => codeR 0x29 0x05 low
  | .sx48 _ low => codeR 0x29 0x06 low
  | .bsw32 _ low => codeR 0x29 0x07 low
  | .bsw16 _ low => codeR 0x29 0x08 low
  | .sat64 _ low => codeR 0x29 0x09 low
  | .stmpLt _ low => codeR 0x34 0x00 low
  | .stmpTt _ low => codeR 0x34 0x01 low
  | .stmpP _ low => codeR 0x34 0x02 low
  | .stmpD _ low => codeR 0x34 0x03 low
  | .stmpPh _ low => codeR 0x34 0x04 low
  | .stmpSpd _ low => codeR 0x34 0x05 low
  | .stmpCyc _ low => codeR 0x34 0x06 low
  | .txpd _ low => codeR 0x35 0x00 low
  | .rxpd _ low => codeR 0x35 0x01 low
  | .txsdt _ low => codeR 0x35 0x02 low
  | .rxsdt _ low => codeR 0x35 0x03 low
  | .txmd _ low => codeR 0x35 0x04 low
  | .rxmd _ low => codeR 0x35 0x05 low
  | .tstat _ low => codeR 0x35 0x06 low
  | .ctx _ low => codeR 0x36 0x00 low
  | .ctxt _ low => codeR 0x36 0x01 low
  | .crxb _ low => codeR 0x36 0x02 low
  | .crxf _ low => codeR 0x36 0x03 low
  | .brd _ low => codeR 0x37 0x00 low
  | .bwr _ low => codeR 0x37 0x01 low
  | .pwr _ low => codeR 0x39 0x00 low
  | .prd _ low => codeR 0x39 0x01 low
  | .arm _ low => codeR 0x3A 0x00 low
  | .disarm _ low => codeR 0x3A 0x01 low
  | .bend _ rest => codeF 0x10 rest
  | .ret _ rest => codeF 0x14 rest
  | .nop _ rest => codeF 0x17 rest
  | .ecls _ rest => codeF 0x3B rest
  | .bmov _ rest ext => codeF 0x2A rest ++ [ext]
  | .recEntry _ rest ext => codeF 0x38 rest ++ [ext]
  | _ => []

/-! ### Decoding (R76, R79) -/

/-- The instruction that FUNC selects under OP 0x0F. -/
def decode0F (e : EngId) (func : Nat) (low : BitVec 20) : Option Instr :=
  match func with
  | 0x00 => some (.band e low)
  | 0x01 => some (.bandn e low)
  | 0x02 => some (.bor e low)
  | 0x03 => some (.born e low)
  | 0x04 => some (.bxor e low)
  | 0x05 => some (.bxorn e low)
  | _ => none

/-- The instruction that FUNC selects under OP 0x11. -/
def decode11 (e : EngId) (func : Nat) (low : BitVec 20) : Option Instr :=
  match func with
  | 0x00 => some (.clrb e low)
  | 0x01 => some (.setb e low)
  | 0x02 => some (.notBa e low)
  | 0x03 => some (.ldc e low)
  | 0x04 => some (.ldsv e low)
  | _ => none

/-- The instruction that FUNC selects under OP 0x16. -/
def decode16 (e : EngId) (func : Nat) (low : BitVec 20) : Option Instr :=
  match func with
  | 0x00 => some (.endAct e low)
  | 0x01 => some (.endBa e low)
  | 0x02 => some (.endNba e low)
  | _ => none

/-- The instruction that FUNC selects under OP 0x27. -/
def decode27 (e : EngId) (func : Nat) (low : BitVec 20) : Option Instr :=
  match func with
  | 0x00 => some (.mov e low)
  | 0x01 => some (.swap e low)
  | 0x02 => some (.neg e low)
  | 0x03 => some (.inv e low)
  | 0x04 => some (.addi e low)
  | 0x05 => some (.abs e low)
  | 0x06 => some (.sext e low)
  | _ => none

/-- The instruction that FUNC selects under OP 0x28. -/
def decode28 (e : EngId) (func : Nat) (low : BitVec 20) : Option Instr :=
  match func with
  | 0x00 => some (.shl e low)
  | 0x01 => some (.shr e low)
  | 0x02 => some (.sar e low)
  | 0x03 => some (.rol e low)
  | 0x04 => some (.ror e low)
  | 0x05 => some (.shl64 e low)
  | 0x06 => some (.shr64 e low)
  | 0x07 => some (.sar64 e low)
  | _ => none

/-- The instruction that FUNC selects under OP 0x29. -/
def decode29 (e : EngId) (func : Nat) (low : BitVec 20) : Option Instr :=
  match func with
  | 0x00 => some (.sx8 e low)
  | 0x01 => some (.sx16 e low)
  | 0x02 => some (.zx8 e low)
  | 0x03 => some (.zx16 e low)
  | 0x04 => some (.sat16 e low)
  | 0x05 => some (.satu16 e low)
  | 0x06 => some (.sx48 e low)
  | 0x07 => some (.bsw32 e low)
  | 0x08 => some (.bsw16 e low)
  | 0x09 => some (.sat64 e low)
  | _ => none

/-- The instruction that FUNC selects under OP 0x34. -/
def decode34 (e : EngId) (func : Nat) (low : BitVec 20) : Option Instr :=
  match func with
  | 0x00 => some (.stmpLt e low)
  | 0x01 => some (.stmpTt e low)
  | 0x02 => some (.stmpP e low)
  | 0x03 => some (.stmpD e low)
  | 0x04 => some (.stmpPh e low)
  | 0x05 => some (.stmpSpd e low)
  | 0x06 => some (.stmpCyc e low)
  | _ => none

/-- The instruction that FUNC selects under OP 0x35. -/
def decode35 (e : EngId) (func : Nat) (low : BitVec 20) : Option Instr :=
  match func with
  | 0x00 => some (.txpd e low)
  | 0x01 => some (.rxpd e low)
  | 0x02 => some (.txsdt e low)
  | 0x03 => some (.rxsdt e low)
  | 0x04 => some (.txmd e low)
  | 0x05 => some (.rxmd e low)
  | 0x06 => some (.tstat e low)
  | _ => none

/-- The instruction that FUNC selects under OP 0x36. -/
def decode36 (e : EngId) (func : Nat) (low : BitVec 20) : Option Instr :=
  match func with
  | 0x00 => some (.ctx e low)
  | 0x01 => some (.ctxt e low)
  | 0x02 => some (.crxb e low)
  | 0x03 => some (.crxf e low)
  | _ => none

/-- The instruction that FUNC selects under OP 0x37. -/
def decode37 (e : EngId) (func : Nat) (low : BitVec 20) : Option Instr :=
  match func with
  | 0x00 => some (.brd e low)
  | 0x01 => some (.bwr e low)
  | _ => none

/-- The instruction that FUNC selects under OP 0x39. -/
def decode39 (e : EngId) (func : Nat) (low : BitVec 20) : Option Instr :=
  match func with
  | 0x00 => some (.pwr e low)
  | 0x01 => some (.prd e low)
  | _ => none

/-- The instruction that FUNC selects under OP 0x3A. -/
def decode3A (e : EngId) (func : Nat) (low : BitVec 20) : Option Instr :=
  match func with
  | 0x00 => some (.arm e low)
  | 0x01 => some (.disarm e low)
  | _ => none

/-- The instruction that engine `e` decodes from the word at PC and the word after it; none where no chapter assigns its OP
or its FUNC. -/
def decodeCode (e : EngId) (w ext : Word) : Option Instr :=
  let o := mopOf w ext
  let c := w.extractLsb' 22 4
  let target := w.extractLsb' 0 22
  let func := (w.extractLsb' 20 6).toNat
  let low := w.extractLsb' 0 20
  let rest := w.extractLsb' 0 26
  match (w.extractLsb' 26 6).toNat with
  | 0x01 => some (.ldb e o)
  | 0x02 => some (.ldbn e o)
  | 0x03 => some (.andBit e o)
  | 0x04 => some (.andnBit e o)
  | 0x05 => some (.orBit e o)
  | 0x06 => some (.ornBit e o)
  | 0x07 => some (.xorBit e o)
  | 0x08 => some (.xornBit e o)
  | 0x09 => some (.st e o)
  | 0x0A => some (.stn e o)
  | 0x0B => some (.setBit e o)
  | 0x0C => some (.rstBit e o)
  | 0x0D => some (.rise e o)
  | 0x0E => some (.fall e o)
  | 0x0F => decode0F e func low
  | 0x10 => some (.bend e rest)
  | 0x11 => decode11 e func low
  | 0x12 => some (.jmp e c target)
  | 0x13 => some (.call e c target)
  | 0x14 => some (.ret e rest)
  | 0x15 => some (.rept e c target)
  | 0x16 => decode16 e func low
  | 0x17 => some (.nop e rest)
  | 0x18 => some (.ld e o)
  | 0x19 => some (.stw e o)
  | 0x1A => some (.ldd e o)
  | 0x1B => some (.stwd e o)
  | 0x1C => some (.add e o)
  | 0x1D => some (.sub e o)
  | 0x1E => some (.mul e o)
  | 0x1F => some (.mulu e o)
  | 0x20 => some (.div e o)
  | 0x21 => some (.divu e o)
  | 0x22 => some (.aw e o)
  | 0x23 => some (.ow e o)
  | 0x24 => some (.xw e o)
  | 0x25 => some (.cmp e o)
  | 0x26 => some (.cmpu e o)
  | 0x27 => decode27 e func low
  | 0x28 => decode28 e func low
  | 0x29 => decode29 e func low
  | 0x2A => some (.bmov e rest ext)
  | 0x2B => some (.ton e o)
  | 0x2C => some (.tof e o)
  | 0x2D => some (.tp e o)
  | 0x2E => some (.tonr e o)
  | 0x2F => some (.ctu e o)
  | 0x30 => some (.ctd e o)
  | 0x31 => some (.rstb e o)
  | 0x32 => some (.ldtc e o)
  | 0x33 => some (.sigv e o)
  | 0x34 => decode34 e func low
  | 0x35 => decode35 e func low
  | 0x36 => decode36 e func low
  | 0x37 => decode37 e func low
  | 0x38 => some (.recEntry e rest ext)
  | 0x39 => decode39 e func low
  | 0x3A => decode3A e func low
  | 0x3B => some (.ecls e rest)
  | _ => none

end Sys2Proof
end

