-- ==== Sys2Proof/Config.lean ====
section
/-! DEFINITION. What the spec leaves open: free values as constants without a body. Nothing can prove a value of
them; each is named in a log entry. -/

namespace Sys2Proof.Config

/-- The age SIGV reports for a mapped element no telegram of which was received since the restart (R135 states none):
by space code and element index. -/
opaque sigvAge : Nat → Nat → Word

/-- How long a host's request is in service, in ns, by port and stamp (R43 and R48 state no length). -/
opaque serviceTime : Nat → Nat → Nat

/-- Payload word `k` of a READ reply that is not OK (R38 and R40 state its length and not its words). -/
opaque noDataWord : Nat → Word

/-- How long a reset of the block with this base lasts, in ns, by its stamp (R57 states no length). -/
opaque resetTime : Nat → Nat → Nat

/-- The byte address of word `k` of the object with this key in the lane memory that the input distributor writes (R87 and R138
name that memory and no place in it). -/
opaque commAddr : Nat → Nat → Nat

/-- The safety code of a safe telegram: by safe message identifier, consist UUID and safe topography counter, from which the SID
is formed, then over the bytes it covers; and byte `k` of the SDTv2 trailer by user data version, safe sequence counter and
safety code (R395 names Annex B of the standard and does not give them). -/
opaque safetyCode : Word → List Word → Word → List Byte → Word
opaque sdtTrailer : Nat → Nat → Word → Nat → Byte

/-- The rate in ppb that a first offset measurement sets, before any interval dt exists (R201 states none). -/
opaque ttFirstRate : Int → Int

/-- The thermocouple temperature in 0.001 °C by TYPE, measured voltage in nV and cold junction in 0.01 °C (R341 names the
reference functions of IEC 60584-1 and does not give them). -/
opaque tcTemp : Nat → Int → Int → Int

/-- The ends of a thermocouple type's full range in 0.001 °C (R341). -/
opaque tcLow : Nat → Int
opaque tcHigh : Nat → Int

/-- EFF_PERIOD of an analogue output, whose readback period R333 and R344 do not state. -/
opaque aoPeriod : Nat

/-- The module's serial number (R398, R434, R458 use it; its value is the module's own). -/
opaque serial : Nat

/-- Byte `k` of the `n`-th nonce the module draws (R44, R458: a fresh nonce; its value is random). -/
opaque nonceByte : Nat → Nat → Byte

/-- The factory reference of margin kind `k`, recorded at manufacture (R482), in µs for the hold-up, in 0.001 of the ratio,
0.001 % or bits for the others. -/
opaque marginRef : Nat → Nat

/-- T_HOLD_NOW at a main-supply power of 0, and the bank's C when its voltage does not fall (R484 divides by both). -/
opaque holdNowAtZero : Nat
opaque bankAtZeroFall : Nat

/-- The Sprinvos key hash of the one-time-programmable cells, byte by byte (R494). -/
opaque sprinvosKey : Nat → Byte

/-- The highest SEQ a POWER_UP record holds where recovery finds no record (R454 states none). -/
opaque noSeq : Nat

/-- The byte a BOOT record holds for a kind of which no slot is booted (R508 states none). -/
opaque noSlotByte : Byte

/-- The ranges of owned S bits (0) and W words (1) and the retain list of D ranges (2) that the configuration tables of the
image pair with this boot identifier hold, as (first, count): the tables hold them (R70, R73) and no place in them is
stated. -/
opaque tableRanges : BitVec 64 → Nat → List (Nat × Nat)

/-- The key and the role of a credential slot under the configuration tables of the image pair with this boot identifier
(R44 loads them from the tables; no place in them is stated). -/
opaque credKey : BitVec 64 → Nat → List Byte
opaque credRole : BitVec 64 → Nat → Nat

/-- The role a credential slot of all zeros has (R506 has the tables read so; R44 states no code of a role). -/
opaque zeroRole : Nat

/-- The draw of the interval before the `k`-th Delay_Req (R384): drawn uniformly, by no rule of the spec. -/
opaque dreqDraw : Nat → Nat

/-- The MAC address of the endpoint on a plane: any (R376 learns it, and no rule states it). -/
opaque nwMac : Nat → BitVec 48

/-- What a successful reception takes off a CAN receive error counter above 127: the result lies in 119 to 127 (ISO 11898-1, which
R401 names, leaves it there). -/
opaque canRecAfter : Nat → Nat

/-- The source address of the module's Forme frames: any (R358). -/
opaque fbSource : BitVec 48

end Sys2Proof.Config
end

