-- ==== Sys2Proof/Machine/RegMap.lean ====
section
/-! DEFINITION. The register map: one `Fld` per field of every register table of the spec, with its address, its
bit range, its access code, its reset values and its legal set, and the list of all fields by block.
Generated from the register tables of spec/ (the rule and file of each stand in its docstring). -/

namespace Sys2Proof.Machine

/-- Access codes of spec/00_scope.md. -/
inductive Acc where
  | ro | rw | rws | w1c | wo
  deriving DecidableEq, Repr

/-- A reset column of a register table (R8): a number, `kept`, `table` (loaded from the block's table), or a
value the owning chapter's behaviour gives. -/
inductive Rst where
  | val (n : Nat) | kept | table | other
  deriving DecidableEq, Repr

/-- The legal set of a writable field (R53): any value, a numeric range, a range of multiples of 4, a signed range
`-neg .. pos` in `w` bits, or zero clamped to a given value. -/
inductive Legal where
  | any | range (lo hi : Nat) | mult4 (lo hi : Nat) | signed (w neg pos : Nat) | zeroTo (v : Nat)
  deriving DecidableEq, Repr

/-- One field of one register family: base address of the first register in the management space (or the offset in
the block for the common registers), two strides with their counts, bit range, access, reset columns, legal set,
whether CNT_CLEAR clears it, and the default the table gives. -/
structure Fld where
  base : Nat
  s1 : Nat := 4
  n1 : Nat := 1
  s2 : Nat := 0
  n2 : Nat := 1
  hi : Nat := 31
  lo : Nat := 0
  acc : Acc := .ro
  por : Rst := .val 0
  cold : Rst := .val 0
  warm : Rst := .val 0
  legal : Legal := .any
  cnt : Bool := false
  dflt : Nat := 0
  deriving DecidableEq, Repr

/-- The address of entry (i, j) of a field's register family. -/
def Fld.addr (f : Fld) (i : Nat := 0) (j : Nat := 0) : Nat := f.base + f.s1 * i + f.s2 * j

/-- The field's width in bits. -/
def Fld.width (f : Fld) : Nat := f.hi - f.lo + 1

/-- Whether some register of the family lies at address `a`. -/
def Fld.covers (f : Fld) (a : Nat) : Bool :=
  if f.base ≤ a then
    let d := a - f.base
    if f.n1 == 1 then
      (if f.n2 == 1 then d == 0 else d % f.s2 == 0 && d / f.s2 < f.n2)
    else if f.n2 == 1 then d % f.s1 == 0 && d / f.s1 < f.n1
    else if f.s2 ≤ f.s1 then
      d / f.s1 < f.n1 && (d % f.s1) % f.s2 == 0 && (d % f.s1) / f.s2 < f.n2
    else
      d / f.s2 < f.n2 && (d % f.s2) % f.s1 == 0 && (d % f.s2) / f.s1 < f.n1
  else false

namespace R

/-- 0x00 = SPV-VPM3-S, 0x01 = SPV-VPM3-X. Other values are never read (R3, spec/00_scope.md). -/
def SYS_PROFILE_VARIANT : Fld := { base := 0x0, hi := 15, lo := 8, por := .other, cold := .other, warm := .other }
/-- Behaviour profile. Always 1 (R3, spec/00_scope.md). -/
def SYS_PROFILE_PROFILE : Fld := { base := 0x0, hi := 7, lo := 0, por := (.val 1), cold := (.val 1), warm := (.val 1) }
/-- 1: reload shadows and cancel the pending set under R55 (R541, spec/02_host_access.md). -/
def BLK_COMMIT_DISCARD : Fld := { base := 0xff00, hi := 1, lo := 1, acc := .wo }
/-- 1: take the shadows as the pending set under R54 (R541, spec/02_host_access.md). -/
def BLK_COMMIT_GO : Fld := { base := 0xff00, hi := 0, lo := 0, acc := .wo }
/-- 1: at least one shadow differs from its value in effect (R541, spec/02_host_access.md). -/
def BLK_COMMIT_STAT_SHADOW_DIRTY : Fld := { base := 0xff04, hi := 2, lo := 2 }
/-- 1: a pending set waits for its boundary (R541, spec/02_host_access.md). -/
def BLK_COMMIT_STAT_PENDING : Fld := { base := 0xff04, hi := 1, lo := 1 }
/-- 1: a pending set was rejected under R55 (R541, spec/02_host_access.md). -/
def BLK_COMMIT_STAT_BLK_COMMIT_REJ : Fld := { base := 0xff04, hi := 0, lo := 0, acc := .w1c }
/-- Clamps and rejected commits in this block, saturating (R541, spec/02_host_access.md). -/
def BLK_CLAMP_CNT_COUNT : Fld := { base := 0xff08, warm := .kept, cnt := true }
/-- Replies discarded under R57, saturating (R541, spec/02_host_access.md). -/
def BLK_LATE_REPLY_CNT_COUNT : Fld := { base := 0xff0c, warm := .kept, cnt := true }
/-- 1: BLOCK reset of this block under R541. For the HP block, the reset follows the reply to the frame that wrote this bit (R541, spec/02_host_access.md). -/
def BLK_CTRL_SOFT_RESET : Fld := { base := 0xff10, hi := 1, lo := 1, acc := .wo }
/-- 1: set every counter of this block to 0 (R541, spec/02_host_access.md). -/
def BLK_CTRL_CNT_CLEAR : Fld := { base := 0xff10, hi := 0, lo := 0, acc := .wo }
/-- 1: a reset of this block is in progress (R541, spec/02_host_access.md). -/
def BLK_STATE_RESETTING : Fld := { base := 0xff14, hi := 1, lo := 1 }
/-- 1: the block accepts requests. The values shown are those after the reset has ended (R541, spec/02_host_access.md). -/
def BLK_STATE_READY : Fld := { base := 0xff14, hi := 0, lo := 0, por := (.val 1), cold := (.val 1), warm := (.val 1) }
/-- Port served first at the next tie under R34. 0 = HP-A, 1 = HP-B (R541, spec/02_host_access.md). -/
def HP_TIE_NEXT : Fld := { base := 0x10000, hi := 0, lo := 0 }
/-- Session idle limit in s, 1 to 600 (R541, spec/02_host_access.md). -/
def HP_NET_CFG_SESS_TIMEOUT : Fld := { base := 0x10004, hi := 21, lo := 12, acc := .rws, por := (.val 10), cold := .kept, warm := .kept, legal := .range 1 600 }
/-- HP-B prefix length, 8 to 30 (R541, spec/02_host_access.md). -/
def HP_NET_CFG_PREFIX_B : Fld := { base := 0x10004, hi := 11, lo := 6, acc := .rws, por := (.val 24), cold := .kept, warm := .kept, legal := .range 8 30 }
/-- HP-A prefix length, 8 to 30 (R541, spec/02_host_access.md). -/
def HP_NET_CFG_PREFIX_A : Fld := { base := 0x10004, hi := 5, lo := 0, acc := .rws, por := (.val 24), cold := .kept, warm := .kept, legal := .range 8 30 }
/-- HP-A IPv4 address, most significant octet in [31:24]. The POR value is 192.168.100.10 (R541, spec/02_host_access.md). -/
def HP_A_ADDR_ADDR : Fld := { base := 0x10008, acc := .rws, por := (.val 0xc0a8640a), cold := .kept, warm := .kept }
/-- HP-B IPv4 address. The POR value is 10.66.0.16 to 10.66.0.19 for rack slots 0 to 3 (R541, spec/02_host_access.md). -/
def HP_B_ADDR_ADDR : Fld := { base := 0x1000c, acc := .rws, por := .other, cold := .kept, warm := .kept }
/-- 1: a quoin was broken (R58, spec/02_host_access.md). -/
def HP_FLAGS_QBREAK_SEEN : Fld := { base := 0x10010, hi := 3, lo := 3, acc := .w1c }
/-- 1: a frame was discarded under R39 (R58, spec/02_host_access.md). -/
def HP_FLAGS_DISCARD_SEEN : Fld := { base := 0x10010, hi := 2, lo := 2, acc := .w1c }
/-- 1: a proof failed on HP-B (R58, spec/02_host_access.md). -/
def HP_FLAGS_AUTH_FAIL_B : Fld := { base := 0x10010, hi := 1, lo := 1, acc := .w1c }
/-- 1: a proof failed on HP-A (R58, spec/02_host_access.md). -/
def HP_FLAGS_AUTH_FAIL_A : Fld := { base := 0x10010, hi := 0, lo := 0, acc := .w1c }
/-- Failed proofs on HP-B, saturating (R58, spec/02_host_access.md). -/
def HP_AUTH_FAIL_CNT_PORT_B : Fld := { base := 0x10014, hi := 31, lo := 16, warm := .kept, cnt := true }
/-- Failed proofs on HP-A, saturating (R58, spec/02_host_access.md). -/
def HP_AUTH_FAIL_CNT_PORT_A : Fld := { base := 0x10014, hi := 15, lo := 0, warm := .kept, cnt := true }
/-- Frames discarded on HP-B under R39, saturating (R58, spec/02_host_access.md). -/
def HP_DISCARD_CNT_PORT_B : Fld := { base := 0x10018, hi := 31, lo := 16, warm := .kept, cnt := true }
/-- Frames discarded on HP-A under R39, saturating (R58, spec/02_host_access.md). -/
def HP_DISCARD_CNT_PORT_A : Fld := { base := 0x10018, hi := 15, lo := 0, warm := .kept, cnt := true }
/-- 1: the quoin has an owner (R58, spec/02_host_access.md). -/
def HP_QUOIN_HELD : Fld := { base := 0x10100, s1 := 0x4, n1 := 32, hi := 9, lo := 9 }
/-- Owner port. 0 = HP-A, 1 = HP-B (R58, spec/02_host_access.md). -/
def HP_QUOIN_PORT : Fld := { base := 0x10100, s1 := 0x4, n1 := 32, hi := 8, lo := 8 }
/-- Owner session, 1 to 8. 0 when free (R58, spec/02_host_access.md). -/
def HP_QUOIN_SESSION : Fld := { base := 0x10100, s1 := 0x4, n1 := 32, hi := 3, lo := 0 }
/-- DEPTH of the task on the engine. 0 when idle (R92, spec/03_engine_model.md). -/
def LE_ENG_STAT_DEPTH : Fld := { base := 0x20000, s1 := 0x4, n1 := 4, hi := 15, lo := 8 }
/-- 0 = IDLE, 1 = RUN, 2 = TRAP (spill, fill or fault handling), 3 = WAIT (stalled under R17) (R92, spec/03_engine_model.md). -/
def LE_ENG_STAT_STATE : Fld := { base := 0x20000, s1 := 0x4, n1 := 4, hi := 7, lo := 6 }
/-- Task on the engine, 0 to 63. Meaningful only when STATE ≠ IDLE (R92, spec/03_engine_model.md). -/
def LE_ENG_STAT_TASK : Fld := { base := 0x20000, s1 := 0x4, n1 := 4, hi := 5, lo := 0 }
/-- Instruction count under R84, bits [31:0] (R92, spec/03_engine_model.md). -/
def LE_ICNT_LO_ICNT_LO : Fld := { base := 0x20010, s1 := 0x8, n1 := 4 }
/-- Instruction count, bits [63:32]. A READ of both words in one request is coherent under R42 (R92, spec/03_engine_model.md). -/
def LE_ICNT_HI_ICNT_HI : Fld := { base := 0x20014, s1 := 0x8, n1 := 4 }
/-- Bit k is 1 when a fault of code k has occurred in any task (R92, spec/03_engine_model.md). -/
def LE_FAULT_FLAGS_CODE_SEEN : Fld := { base := 0x20040, hi := 15, lo := 1, acc := .w1c, warm := .kept }
/-- Task faults in this lane, all codes, saturating (R92, spec/03_engine_model.md). -/
def LE_FAULT_CNT_COUNT : Fld := { base := 0x20044, warm := .kept, cnt := true }
/-- Corrected single-bit SRAM errors in this lane, saturating (R92, spec/03_engine_model.md). -/
def LE_ECC_CORR_CNT_COUNT : Fld := { base := 0x20048, warm := .kept, cnt := true }
/-- 1: an uncorrectable SRAM error was found by an engine or the scrubber (R92, spec/03_engine_model.md). -/
def LE_ECC_FLAGS_UNCORR : Fld := { base := 0x2004c, hi := 1, lo := 1, acc := .w1c, warm := .kept }
/-- 1: a single-bit SRAM error was corrected (R92, spec/03_engine_model.md). -/
def LE_ECC_FLAGS_CORR : Fld := { base := 0x2004c, hi := 0, lo := 0, acc := .w1c, warm := .kept }
/-- Engine on which the latest fault of TKn occurred (R92, spec/03_engine_model.md). -/
def LE_FAULT_REC_ENGINE : Fld := { base := 0x20100, s1 := 0x10, n1 := 64, hi := 9, lo := 8, warm := .kept }
/-- Fault code under R86. 0x00 when TKn has not faulted since COLD (R92, spec/03_engine_model.md). -/
def LE_FAULT_REC_CODE : Fld := { base := 0x20100, s1 := 0x10, n1 := 64, hi := 7, lo := 0, warm := .kept }
/-- Code index of the first word of the faulting instruction (R92, spec/03_engine_model.md). -/
def LE_FAULT_REC_PC : Fld := { base := 0x20104, s1 := 0x10, n1 := 64, hi := 21, lo := 0, warm := .kept }
/-- Instruction count at the fault, bits [31:0] (R92, spec/03_engine_model.md). -/
def LE_FAULT_REC_ICNT_LO : Fld := { base := 0x20108, s1 := 0x10, n1 := 64, warm := .kept }
/-- Instruction count at the fault, bits [63:32] (R92, spec/03_engine_model.md). -/
def LE_FAULT_REC_ICNT_HI : Fld := { base := 0x2010c, s1 := 0x10, n1 := 64, warm := .kept }
/-- Engine of the latest placement (R179, spec/06_tasks_and_scan.md). -/
def TSK_STAT_ENGINE : Fld := { base := 0x40000, s1 := 0x4, n1 := 64, hi := 13, lo := 12 }
/-- 1: the task was deferred under R165 (R179, spec/06_tasks_and_scan.md). -/
def TSK_STAT_DEFER_SEEN : Fld := { base := 0x40000, s1 := 0x4, n1 := 64, hi := 11, lo := 11, acc := .w1c, warm := .kept }
/-- 1: an activation ended by fault or budget (R179, spec/06_tasks_and_scan.md). -/
def TSK_STAT_FAULT_SEEN : Fld := { base := 0x40000, s1 := 0x4, n1 := 64, hi := 10, lo := 10, acc := .w1c, warm := .kept }
/-- 1: an activation faulted with STACK (R179, spec/06_tasks_and_scan.md). -/
def TSK_STAT_STACK_FAULT : Fld := { base := 0x40000, s1 := 0x4, n1 := 64, hi := 9, lo := 9, acc := .w1c, warm := .kept }
/-- 1: a release was lost under R157 (R179, spec/06_tasks_and_scan.md). -/
def TSK_STAT_OVERRUN : Fld := { base := 0x40000, s1 := 0x4, n1 := 64, hi := 8, lo := 8, acc := .w1c, warm := .kept }
/-- How the latest activation ended, or the latest release was removed before it started, under R158 and R176: 0 = none, 1 = END, 2 = FAULT, 3 = CANCEL, 4 = BUDGET, 5 = STOP (R179, spec/06_tasks_and_scan.md). -/
def TSK_STAT_LAST_END : Fld := { base := 0x40000, s1 := 0x4, n1 := 64, hi := 7, lo := 5 }
/-- 1: refused by the heat mask now (R179, spec/06_tasks_and_scan.md). -/
def TSK_STAT_DEFERRED_HEAT : Fld := { base := 0x40000, s1 := 0x4, n1 := 64, hi := 4, lo := 4 }
/-- 1: refused by the energy mask now (R179, spec/06_tasks_and_scan.md). -/
def TSK_STAT_DEFERRED_ENERGY : Fld := { base := 0x40000, s1 := 0x4, n1 := 64, hi := 3, lo := 3 }
/-- 0 = IDLE, 1 = READY, 2 = RUNNING, 3 = PREEMPTED, 4 = DISABLED (R179, spec/06_tasks_and_scan.md). -/
def TSK_STAT_STATE : Fld := { base := 0x40000, s1 := 0x4, n1 := 64, hi := 2, lo := 0 }
/-- Overruns of TKn, saturating (R179, spec/06_tasks_and_scan.md). -/
def TSK_OVERRUN_CNT_COUNT : Fld := { base := 0x40100, s1 := 0x4, n1 := 64, warm := .kept, cnt := true }
/-- Decisions that refused TKn under R165, saturating (R179, spec/06_tasks_and_scan.md). -/
def TSK_DEFER_CNT_COUNT : Fld := { base := 0x40200, s1 := 0x4, n1 := 64, warm := .kept, cnt := true }
/-- Bit k of LO enables TKk, bit k of HI enables TK(32 + k). 0: releases discarded under R156, and pending releases not yet started are removed. A running activation completes (R179, spec/06_tasks_and_scan.md). -/
def TSK_ENABLE_EN : Fld := { base := 0x40300, s1 := 0x4, n1 := 2, acc := .rws, por := (.val 0xffffffff), cold := (.val 0xffffffff), warm := (.val 0xffffffff) }
/-- 1: release the task under R155. 0: no effect (R179, spec/06_tasks_and_scan.md). -/
def TSK_RELEASE_REL : Fld := { base := 0x40308, s1 := 0x4, n1 := 2, acc := .wo }
/-- 1: cancel the task under R158. 0: no effect (R179, spec/06_tasks_and_scan.md). -/
def TSK_CANCEL_CAN : Fld := { base := 0x40310, s1 := 0x4, n1 := 2, acc := .wo }
/-- Releases discarded under R159, saturating (R179, spec/06_tasks_and_scan.md). -/
def TSK_CANCEL_RACE_CNT_COUNT : Fld := { base := 0x40320, warm := .kept, cnt := true }
/-- 1: a fault record was discarded under R168 (R179, spec/06_tasks_and_scan.md). -/
def TSK_FLAGS_FAULT_LOST : Fld := { base := 0x40324, hi := 2, lo := 2, acc := .w1c, warm := .kept }
/-- 1: a release was discarded under R156 or R174 (R179, spec/06_tasks_and_scan.md). -/
def TSK_FLAGS_BAD_RELEASE : Fld := { base := 0x40324, hi := 1, lo := 1, acc := .w1c, warm := .kept }
/-- 1: an entry was treated as unused under R154 (R179, spec/06_tasks_and_scan.md). -/
def TSK_FLAGS_TABLE_ERR : Fld := { base := 0x40324, hi := 0, lo := 0, acc := .w1c, warm := .kept }
/-- Base ticks since tick 0 of the latest program start, 64 bits across LO and HI, coherent under R42 (R179, spec/06_tasks_and_scan.md). -/
def TSK_TICK_TICK : Fld := { base := 0x40328, s1 := 0x4, n1 := 2 }
/-- 1: the entry is enabled (R179, spec/06_tasks_and_scan.md). -/
def TSK_FORCE_EN : Fld := { base := 0x40400, s1 := 0x10, n1 := 64, hi := 31, lo := 31, acc := .rws }
/-- 0 = I, 1 = Q (R179, spec/06_tasks_and_scan.md). -/
def TSK_FORCE_SPACE : Fld := { base := 0x40400, s1 := 0x10, n1 := 64, hi := 30, lo := 30, acc := .rws }
/-- Word element (R179, spec/06_tasks_and_scan.md). -/
def TSK_FORCE_WORD : Fld := { base := 0x40400, s1 := 0x10, n1 := 64, hi := 15, lo := 0, acc := .rws }
/-- 1: bit forced (R179, spec/06_tasks_and_scan.md). -/
def TSK_FORCE_MASK : Fld := { base := 0x40404, s1 := 0x10, n1 := 64, acc := .rws }
/-- Forced bit values (R179, spec/06_tasks_and_scan.md). -/
def TSK_FORCE_VALUE : Fld := { base := 0x40408, s1 := 0x10, n1 := 64, acc := .rws }
/-- 0 = none, 1 = RUN_WARM, 2 = RUN_COLD, 3 = MAINT, 4 = STOP, under R176. Values 5 to 7 clamp to STOP under R53 (R179, spec/06_tasks_and_scan.md). -/
def SYS_MODE_REQ_REQ : Fld := { base := 0x10, hi := 2, lo := 0, acc := .wo }
/-- 1: start-up tasks are running under R174. The reset values hold until tick 0 (R179, spec/06_tasks_and_scan.md). -/
def SYS_MODE_STAT_STARTUP : Fld := { base := 0x14, hi := 6, lo := 6, por := (.val 1), cold := (.val 1), warm := (.val 1) }
/-- 1: at least one force entry is enabled (R179, spec/06_tasks_and_scan.md). -/
def SYS_MODE_STAT_FORCED : Fld := { base := 0x14, hi := 5, lo := 5 }
/-- 1 = COLD, 2 = WARM, 3 = COLD_FORCED (R179, spec/06_tasks_and_scan.md). -/
def SYS_MODE_STAT_LAST_START : Fld := { base := 0x14, hi := 4, lo := 2, por := .other, cold := (.val 1), warm := .other }
/-- 0 = RUN, 1 = STOP, 2 = MAINT, 3 = RESTARTING (R179, spec/06_tasks_and_scan.md). -/
def SYS_MODE_STAT_MODE : Fld := { base := 0x14, hi := 1, lo := 0, por := (.val 3), cold := (.val 3), warm := (.val 3) }
/-- Selection priority under R185, 0 (first) to 7 (R197, spec/07_events.md). -/
def EVT_SRC_CFG_PRIO : Fld := { base := 0x50000, s1 := 0x4, n1 := 512, hi := 3, lo := 1, acc := .rws, por := .table, cold := .table, warm := .table }
/-- 1: raises are accepted under R182 (R197, spec/07_events.md). -/
def EVT_SRC_CFG_EN : Fld := { base := 0x50000, s1 := 0x4, n1 := 512, hi := 0, lo := 0, acc := .rws, por := .table, cold := .table, warm := .table }
/-- Raises since the last delivery, saturating at 255 (R197, spec/07_events.md). -/
def EVT_SRC_STAT_ACC : Fld := { base := 0x50800, s1 := 0x4, n1 := 512, hi := 31, lo := 24 }
/-- 1: a raise found ACC at 255 (R197, spec/07_events.md). -/
def EVT_SRC_STAT_ACC_SAT : Fld := { base := 0x50800, s1 := 0x4, n1 := 512, hi := 9, lo := 9, acc := .w1c }
/-- 1: raised and not yet delivered (R197, spec/07_events.md). -/
def EVT_SRC_STAT_PEND : Fld := { base := 0x50800, s1 := 0x4, n1 := 512, hi := 8, lo := 8 }
/-- Accepted releases not yet completed, 0 to 64 (R197, spec/07_events.md). -/
def EVT_SRC_STAT_OWED : Fld := { base := 0x50800, s1 := 0x4, n1 := 512, hi := 6, lo := 0 }
/-- Hold-off in µs under R186 (R197, spec/07_events.md). -/
def EVT_GRP_CFG_HOLDOFF : Fld := { base := 0x51000, s1 := 0x4, n1 := 32, hi := 15, lo := 0, acc := .rws, por := .table, cold := .table, warm := .table }
/-- 1: the group is inside a hold-off window (R197, spec/07_events.md). -/
def EVT_GRP_STAT_HELD : Fld := { base := 0x51080, s1 := 0x4, n1 := 32, hi := 0, lo := 0 }
/-- 1: no deliveries under R191 (R197, spec/07_events.md). -/
def EVT_CTRL_GDIS : Fld := { base := 0x51100, hi := 0, lo := 0, acc := .rw }
/-- Bit k = 0: a busy Ek is not preempted for EVENT tasks of priority 8 to 63, under R190 (R197, spec/07_events.md). -/
def EVT_ENG_MASK_MASK : Fld := { base := 0x51104, hi := 3, lo := 0, acc := .rws, por := .table, cold := .table, warm := .table }
/-- Bit k = 1: raise EV(32w + k) under R181. 0: no effect (R197, spec/07_events.md). -/
def EVT_RAISE_RAISE : Fld := { base := 0x51200, s1 := 0x4, n1 := 16, acc := .wo }
/-- Bit k = 1: complete EV(32w + k) under R193. 0: no effect (R197, spec/07_events.md). -/
def EVT_DONE_DONE : Fld := { base := 0x51240, s1 := 0x4, n1 := 16, acc := .wo }
/-- Spurious completions under R193, saturating (R197, spec/07_events.md). -/
def EVT_SPURIOUS_CNT_COUNT : Fld := { base := 0x51280, warm := .kept, cnt := true }
/-- Deliveries with no accepted release under R187, saturating (R197, spec/07_events.md). -/
def EVT_UNSERVED_CNT_COUNT : Fld := { base := 0x51284, warm := .kept, cnt := true }
/-- Deliveries of all sources, saturating (R197, spec/07_events.md). -/
def EVT_DELIVER_CNT_COUNT : Fld := { base := 0x51288, warm := .kept, cnt := true }
/-- 1: a delivery had no accepted release (R197, spec/07_events.md). -/
def EVT_FLAGS_UNSERVED : Fld := { base := 0x5128c, hi := 1, lo := 1, acc := .w1c, warm := .kept }
/-- 1: a spurious completion was ignored (R197, spec/07_events.md). -/
def EVT_FLAGS_SPURIOUS : Fld := { base := 0x5128c, hi := 0, lo := 0, acc := .w1c, warm := .kept }
/-- Word k of the arm record in effect, laid out as in R149. All 0 when IDLE (R232, spec/08_line_gauge.md). -/
def LG_CMP_REC_WORDk : Fld := { base := 0x60000, s1 := 0x10, n1 := 64, s2 := 0x4, n2 := 4 }
/-- Firings, saturating (R232, spec/08_line_gauge.md). -/
def LG_CMP_STAT_HIT_CNT : Fld := { base := 0x60400, s1 := 0x4, n1 := 64, hi := 31, lo := 16, warm := .kept, cnt := true }
/-- 1: the latest arm was on the after side under R223 (R232, spec/08_line_gauge.md). -/
def LG_CMP_STAT_BEHIND : Fld := { base := 0x60400, s1 := 0x4, n1 := 64, hi := 11, lo := 11 }
/-- 1: fired at its first evaluated tick under R222 (R232, spec/08_line_gauge.md). -/
def LG_CMP_STAT_LATE : Fld := { base := 0x60400, s1 := 0x4, n1 := 64, hi := 10, lo := 10 }
/-- 1: a reverse crossing did not fire (R232, spec/08_line_gauge.md). -/
def LG_CMP_STAT_REV_PASS : Fld := { base := 0x60400, s1 := 0x4, n1 := 64, hi := 9, lo := 9, acc := .w1c, warm := .kept }
/-- 0 = none, 1 = QTY, 2 = BACKSTOP, 3 = STEP (R232, spec/08_line_gauge.md). -/
def LG_CMP_STAT_LAST_HIT : Fld := { base := 0x60400, s1 := 0x4, n1 := 64, hi := 5, lo := 4 }
/-- 0 = IDLE, 1 = ARMED, 2 = HOLD (R232, spec/08_line_gauge.md). -/
def LG_CMP_STAT_STATE : Fld := { base := 0x60400, s1 := 0x4, n1 := 64, hi := 1, lo := 0 }
/-- Bit k of LO is comparator k, and bit k of HI is comparator 32 + k. 1: REV_PASS under R223 (R232, spec/08_line_gauge.md). -/
def LG_REV_PASS_REV : Fld := { base := 0x60500, s1 := 0x4, n1 := 2, acc := .w1c, warm := .kept }
/-- TT in ns, bits [31:0] (R232, spec/08_line_gauge.md). -/
def LG_TT_TT_LO : Fld := { base := 0x61000 }
/-- TT bits [63:32], coherent with TT_LO under R42 (R232, spec/08_line_gauge.md). -/
def LG_TT_TT_HI : Fld := { base := 0x61004 }
/-- 1: locked under R202 (R232, spec/08_line_gauge.md). -/
def LG_TT_LOCKED : Fld := { base := 0x61008, hi := 31, lo := 31 }
/-- Latest o in ns, signed, saturating at ±0x7F_FFFF (R232, spec/08_line_gauge.md). -/
def LG_TT_LAST_OFS : Fld := { base := 0x61008, hi := 23, lo := 0 }
/-- 1 to 1023, in 10 µs. Default 100 (R232, spec/08_line_gauge.md). -/
def LG_TT_STEP_THR : Fld := { base := 0x6100c, hi := 29, lo := 20, acc := .rws, por := .table, cold := .table, warm := .table, legal := .range 1 1023, dflt := 100 }
/-- 1 to 1023, in 100 ns. Default 100 (R232, spec/08_line_gauge.md). -/
def LG_TT_UNLOCK_THR : Fld := { base := 0x6100c, hi := 19, lo := 10, acc := .rws, por := .table, cold := .table, warm := .table, legal := .range 1 1023, dflt := 100 }
/-- 1 to 1023, in 100 ns. Default 10 (R232, spec/08_line_gauge.md). -/
def LG_TT_LOCK_THR : Fld := { base := 0x6100c, hi := 9, lo := 0, acc := .rws, por := .table, cold := .table, warm := .table, legal := .range 1 1023, dflt := 10 }
/-- P bits [31:0] (R232, spec/08_line_gauge.md). -/
def LG_POS_P_LO : Fld := { base := 0x61010, por := .other, cold := .kept, warm := .kept }
/-- [15:0]: P bits [47:32]. [31:16]: sign extension (R232, spec/08_line_gauge.md). -/
def LG_POS_P_HI : Fld := { base := 0x61014, por := .other, cold := .kept, warm := .kept }
/-- D bits [31:0] (R232, spec/08_line_gauge.md). -/
def LG_POS_D_LO : Fld := { base := 0x61018, por := .other, cold := .kept, warm := .kept }
/-- [15:0]: D bits [47:32]. [31:16] read 0 (R232, spec/08_line_gauge.md). -/
def LG_POS_D_HI : Fld := { base := 0x6101c, por := .other, cold := .kept, warm := .kept }
/-- 0: P increases forward. 1: it decreases (R232, spec/08_line_gauge.md). -/
def LG_POS_ORIENT : Fld := { base := 0x61020, hi := 8, lo := 8, por := .other, cold := .kept, warm := .kept }
/-- 1: set under R216, cleared by an accepted reference (R232, spec/08_line_gauge.md). -/
def LG_POS_AO_LOST : Fld := { base := 0x61020, hi := 7, lo := 7, por := (.val 1), cold := .kept, warm := .kept }
/-- Under R206 (R232, spec/08_line_gauge.md). -/
def LG_POS_STANDSTILL : Fld := { base := 0x61020, hi := 6, lo := 6, por := (.val 1), cold := .kept, warm := .kept }
/-- Bit k: pair k valid under R204 (R232, spec/08_line_gauge.md). -/
def LG_POS_WS_VALID : Fld := { base := 0x61020, hi := 5, lo := 4 }
/-- Used pair under R207 (R232, spec/08_line_gauge.md). -/
def LG_POS_USED : Fld := { base := 0x61020, hi := 3, lo := 3, cold := .kept, warm := .kept }
/-- Under R209 (R232, spec/08_line_gauge.md). -/
def LG_POS_SLIP : Fld := { base := 0x61020, hi := 2, lo := 2 }
/-- 1: D quality REDUCED (R232, spec/08_line_gauge.md). -/
def LG_POS_DQ_REDUCED : Fld := { base := 0x61020, hi := 1, lo := 1, por := (.val 1), cold := .kept, warm := .kept }
/-- 1: P referenced (R232, spec/08_line_gauge.md). -/
def LG_POS_REFERENCED : Fld := { base := 0x61020, hi := 0, lo := 0, cold := .kept, warm := .kept }
/-- Bound of R214 in mm, saturating (R232, spec/08_line_gauge.md). -/
def LG_POS_ERR : Fld := { base := 0x61024, por := (.val 0xffffffff), cold := .kept, warm := .kept }
/-- v_used in mm/s, signed as STMP SPD (R232, spec/08_line_gauge.md). -/
def LG_POS_SPEED : Fld := { base := 0x61028 }
/-- e_0 in 2⁻¹⁶ mm, 65 536 to 6 553 600 (R232, spec/08_line_gauge.md). -/
def LG_WS_CAL_0 : Fld := { base := 0x61030, acc := .rws, por := .other, cold := .kept, warm := .kept, legal := .range 65536 6553600 }
/-- e_1, the same range (R232, spec/08_line_gauge.md). -/
def LG_WS_CAL_1 : Fld := { base := 0x61034, acc := .rws, por := .other, cold := .kept, warm := .kept, legal := .range 65536 6553600 }
/-- Calibration tolerance in 2⁻¹⁶ (R232, spec/08_line_gauge.md). -/
def LG_WS_CAL_TOL : Fld := { base := 0x61038, hi := 31, lo := 16, acc := .rws, por := .other, cold := .kept, warm := .kept }
/-- 1: calibration under R211 (R232, spec/08_line_gauge.md). -/
def LG_WS_AUTO_CAL : Fld := { base := 0x61038, hi := 4, lo := 4, acc := .rws, por := .table, cold := .table, warm := .table }
/-- Bit k: reverse pair k's forward sense (R232, spec/08_line_gauge.md). -/
def LG_WS_INV : Fld := { base := 0x61038, hi := 3, lo := 2, acc := .rws, por := .table, cold := .table, warm := .table }
/-- Bit k: pair k enabled (R232, spec/08_line_gauge.md). -/
def LG_WS_EN : Fld := { base := 0x61038, hi := 1, lo := 0, acc := .rws, por := .table, cold := .table, warm := .table }
/-- QERR of pair 1, saturating (R232, spec/08_line_gauge.md). -/
def LG_WS_QERR_CNT_1 : Fld := { base := 0x6103c, hi := 15, lo := 8, warm := .kept, cnt := true }
/-- QERR of pair 0, saturating (R232, spec/08_line_gauge.md). -/
def LG_WS_QERR_CNT_0 : Fld := { base := 0x6103c, hi := 7, lo := 0, warm := .kept, cnt := true }
/-- 10 to 1023, in 10 mm/s². Default 100 (R232, spec/08_line_gauge.md). -/
def LG_SLIP_DA_LIM : Fld := { base := 0x61040, hi := 31, lo := 22, acc := .rws, por := .table, cold := .table, warm := .table, legal := .range 10 1023, dflt := 100 }
/-- 0 to 4095, in 2⁻¹⁶. Default 1 311 (R232, spec/08_line_gauge.md). -/
def LG_SLIP_DV_REL : Fld := { base := 0x61040, hi := 21, lo := 10, acc := .rws, por := .table, cold := .table, warm := .table, dflt := 1311 }
/-- 0 to 1023 mm/s. Default 280 (R232, spec/08_line_gauge.md). -/
def LG_SLIP_DV_ABS : Fld := { base := 0x61040, hi := 9, lo := 0, acc := .rws, por := .table, cold := .table, warm := .table, dflt := 280 }
/-- 1 to 255 s. Default 10 (R232, spec/08_line_gauge.md). -/
def LG_SLIP_SLIP_MAX : Fld := { base := 0x61044, hi := 23, lo := 16, acc := .rws, por := .table, cold := .table, warm := .table, legal := .range 1 255, dflt := 10 }
/-- 2⁻¹⁶ per mm. Default 3 277 (R232, spec/08_line_gauge.md). -/
def LG_SLIP_SLIP_RATE : Fld := { base := 0x61044, hi := 15, lo := 0, acc := .rws, por := .table, cold := .table, warm := .table, dflt := 3277 }
/-- 1: the forward direction is negative on the axis (R232, spec/08_line_gauge.md). -/
def LG_SLIP_SIGN : Fld := { base := 0x61048, hi := 2, lo := 2, acc := .rws, por := .table, cold := .table, warm := .table }
/-- 0 = X, 1 = Y, 2 = Z (R232, spec/08_line_gauge.md). -/
def LG_SLIP_AXIS : Fld := { base := 0x61048, hi := 1, lo := 0, acc := .rws, por := .table, cold := .table, warm := .table, legal := .range 0 2 }
/-- P_ref bits [31:0] (R232, spec/08_line_gauge.md). -/
def LG_REF_POS_LO : Fld := { base := 0x61050, acc := .rws }
/-- 0: the stamp is in LT. 1: it is in TT (R232, spec/08_line_gauge.md). -/
def LG_REF_TB : Fld := { base := 0x61054, hi := 19, lo := 19, acc := .rws }
/-- 1: skip the DIR and STEP checks (R232, spec/08_line_gauge.md). -/
def LG_REF_FORCE : Fld := { base := 0x61054, hi := 18, lo := 18, acc := .rws }
/-- 0 = NORMAL, 1 = CAL (R232, spec/08_line_gauge.md). -/
def LG_REF_KIND : Fld := { base := 0x61054, hi := 17, lo := 17, acc := .rws }
/-- 0: P increases forward (R232, spec/08_line_gauge.md). -/
def LG_REF_DIR : Fld := { base := 0x61054, hi := 16, lo := 16, acc := .rws }
/-- P_ref bits [47:32] (R232, spec/08_line_gauge.md). -/
def LG_REF_POS_HI : Fld := { base := 0x61054, hi := 15, lo := 0, acc := .rws }
/-- Passage time in µs, 32-bit width (R232, spec/08_line_gauge.md). -/
def LG_REF_STAMP : Fld := { base := 0x61058, acc := .rws }
/-- 1 to 65 535, in 100 mm (R232, spec/08_line_gauge.md). -/
def LG_REF_STEP_MAX : Fld := { base := 0x6105c, hi := 31, lo := 16, acc := .rws, por := (.val 50), cold := (.val 50), warm := (.val 50), legal := .range 1 65535 }
/-- Reference uncertainty in mm (R232, spec/08_line_gauge.md). -/
def LG_REF_E_REF : Fld := { base := 0x6105c, hi := 15, lo := 0, acc := .rws }
/-- 1: D quality FULL under R212 (R232, spec/08_line_gauge.md). -/
def LG_REF_DQ_RESTORE : Fld := { base := 0x61060, hi := 1, lo := 1, acc := .wo }
/-- 1: apply the reference (R232, spec/08_line_gauge.md). -/
def LG_REF_APPLY_REF : Fld := { base := 0x61060, hi := 0, lo := 0, acc := .wo }
/-- Accepted references, saturating (R232, spec/08_line_gauge.md). -/
def LG_REF_ACCEPT_CNT : Fld := { base := 0x61064, hi := 31, lo := 16, warm := .kept, cnt := true }
/-- 0 = none, 1 = ACCEPTED, 2 = REJ_OLD, 3 = REJ_STEP, 4 = REJ_DIR, 5 = REJ_TT (R232, spec/08_line_gauge.md). -/
def LG_REF_LAST : Fld := { base := 0x61064, hi := 2, lo := 0 }
/-- 10 to 200, in 10 ms. Default 50 (R232, spec/08_line_gauge.md). -/
def LG_PH_CONFIRM : Fld := { base := 0x61070, hi := 23, lo := 16, acc := .rws, por := .table, cold := .table, warm := .table, legal := .range 10 200, dflt := 50 }
/-- 1 to 65 535 V of catenary per V of input (R232, spec/08_line_gauge.md). -/
def LG_PH_SCALE : Fld := { base := 0x61070, hi := 15, lo := 0, acc := .rws, por := .table, cold := .table, warm := .table, legal := .range 1 65535 }
/-- Φ at a positive crossing (R232, spec/08_line_gauge.md). -/
def LG_PH_OFS : Fld := { base := 0x61074, hi := 15, lo := 0, acc := .rws, por := .table, cold := .table, warm := .table }
/-- Under R218 (R232, spec/08_line_gauge.md). -/
def LG_PH_PRESENT : Fld := { base := 0x61078, hi := 31, lo := 31 }
/-- Confirmed class under R219 (R232, spec/08_line_gauge.md). -/
def LG_PH_CLASS : Fld := { base := 0x61078, hi := 30, lo := 28 }
/-- Latest evaluated class (R232, spec/08_line_gauge.md). -/
def LG_PH_EVAL : Fld := { base := 0x61078, hi := 27, lo := 25 }
/-- Frequency in mHz (R232, spec/08_line_gauge.md). -/
def LG_PH_FREQ : Fld := { base := 0x61078, hi := 24, lo := 0 }
/-- Φ now (R232, spec/08_line_gauge.md). -/
def LG_PH_PHI : Fld := { base := 0x6107c, hi := 15, lo := 0 }
/-- 1: a start under R216 occurred (R232, spec/08_line_gauge.md). -/
def LG_FLAGS_AO_LOST : Fld := { base := 0x61080, hi := 9, lo := 9, acc := .w1c, por := (.val 1), cold := .kept, warm := .kept }
/-- 1: PRESENT fell (R232, spec/08_line_gauge.md). -/
def LG_FLAGS_PH_LOST : Fld := { base := 0x61080, hi := 8, lo := 8, acc := .w1c, warm := .kept }
/-- 1: TT stopped being locked (R232, spec/08_line_gauge.md). -/
def LG_FLAGS_TT_LOST : Fld := { base := 0x61080, hi := 7, lo := 7, acc := .w1c, warm := .kept }
/-- 1: a calibration was rejected (R232, spec/08_line_gauge.md). -/
def LG_FLAGS_CAL_REJ : Fld := { base := 0x61080, hi := 6, lo := 6, acc := .w1c, warm := .kept }
/-- 1: a reference was rejected (R232, spec/08_line_gauge.md). -/
def LG_FLAGS_REF_REJ : Fld := { base := 0x61080, hi := 5, lo := 5, acc := .w1c, warm := .kept }
/-- 1: D quality was reduced (R232, spec/08_line_gauge.md). -/
def LG_FLAGS_DQ_REDUCED : Fld := { base := 0x61080, hi := 4, lo := 4, acc := .w1c, por := (.val 1), cold := .kept, warm := .kept }
/-- 1: slip or slide was flagged (R232, spec/08_line_gauge.md). -/
def LG_FLAGS_SLIP_SEEN : Fld := { base := 0x61080, hi := 3, lo := 3, acc := .w1c, warm := .kept }
/-- 1: a pair became invalid (R232, spec/08_line_gauge.md). -/
def LG_FLAGS_WS_INVALID : Fld := { base := 0x61080, hi := 2, lo := 2, acc := .w1c, warm := .kept }
/-- 1: edges closer than 4 µs (R232, spec/08_line_gauge.md). -/
def LG_FLAGS_OVERSPEED : Fld := { base := 0x61080, hi := 1, lo := 1, acc := .w1c, warm := .kept }
/-- 1: a quadrature error occurred (R232, spec/08_line_gauge.md). -/
def LG_FLAGS_QERR : Fld := { base := 0x61080, hi := 0, lo := 0, acc := .w1c, warm := .kept }
/-- Cause of the latest SAFE: 0 = none, 1 = THREE_WAY, 2 = DUPLEX_DIS, 3 = GRACE, 4 = SIMPLEX_LIMIT, 5 = PAIR_DIS, 6 = SRC_MISMATCH, 7 = HOLD_OVF, 8 = NO_LANE (R267, spec/09_lanes_and_voting.md). -/
def VT_STATE_SAFE_CAUSE : Fld := { base := 0x80000, hi := 19, lo := 16, cold := .kept, warm := .kept }
/-- Under R264 (R267, spec/09_lanes_and_voting.md). -/
def VT_STATE_RANK : Fld := { base := 0x80000, hi := 12, lo := 10, por := (.val 3), cold := (.val 3), warm := (.val 3) }
/-- Lead lane: 0 = A, 1 = B, 2 = C. Meaningful when VOTING ≠ 0 (R267, spec/09_lanes_and_voting.md). -/
def VT_STATE_LEAD : Fld := { base := 0x80000, hi := 9, lo := 8 }
/-- Bit 0 = A, bit 1 = B, bit 2 = C. 1: the lane votes (R267, spec/09_lanes_and_voting.md). -/
def VT_STATE_VOTING : Fld := { base := 0x80000, hi := 6, lo := 4 }
/-- State code of R250 (R267, spec/09_lanes_and_voting.md). -/
def VT_STATE_STATE : Fld := { base := 0x80000, hi := 2, lo := 0 }
/-- Exclusions of the lane in the last REJOIN_WIN hours, saturating (R267, spec/09_lanes_and_voting.md). -/
def VT_LANE_STAT_EXCL_IN_WIN : Fld := { base := 0x80010, s1 := 0x4, n1 := 3, hi := 31, lo := 24, cold := .kept, warm := .kept }
/-- Latest exclusion: 0 = none, 1 = WINDOW, 2 = CHECKPOINT, 3 = BEAT, 4 = LATE, 5 = SCRUB, 6 = SELFTEST_FAIL, 7 = HELD_OUT, 8 = REJOIN_LIMIT (R267, spec/09_lanes_and_voting.md). -/
def VT_LANE_STAT_CAUSE : Fld := { base := 0x80010, s1 := 0x4, n1 := 3, hi := 19, lo := 16, cold := .kept, warm := .kept }
/-- 1: target A waits for a quiet point under R259 (R267, spec/09_lanes_and_voting.md). -/
def VT_LANE_STAT_JOIN_WAIT : Fld := { base := 0x80010, s1 := 0x4, n1 := 3, hi := 3, lo := 3 }
/-- 0 = SELFTEST, 1 = VOTING, 2 = EXCLUDED, 3 = COPYING, 4 = OUT (R267, spec/09_lanes_and_voting.md). -/
def VT_LANE_STAT_ROLE : Fld := { base := 0x80010, s1 := 0x4, n1 := 3, hi := 2, lo := 0 }
/-- Window of R255 in hours, 1 to 168. Default 24 (R267, spec/09_lanes_and_voting.md). -/
def VT_CFG_REJOIN_WIN : Fld := { base := 0x80020, hi := 23, lo := 16, por := .table, cold := .table, warm := .table, dflt := 24 }
/-- Exclusions of R255, 1 to 15. Default 3 (R267, spec/09_lanes_and_voting.md). -/
def VT_CFG_REJOIN_MAX : Fld := { base := 0x80020, hi := 15, lo := 12, por := .table, cold := .table, warm := .table, dflt := 3 }
/-- Grace of R263 in hours, 1 to 168. Default 72 (R267, spec/09_lanes_and_voting.md). -/
def VT_CFG_GRACE : Fld := { base := 0x80020, hi := 7, lo := 0, por := .table, cold := .table, warm := .table, dflt := 72 }
/-- Lanes held out at the next program start under R262. Bit 0 = A. Legal values are 0 to 6, and 7 clamps to 6. A COLD or WARM reset keeps it for the start that follows. The field reads 0 again once the start has used it (R267, spec/09_lanes_and_voting.md). -/
def VT_CMD_HOLD_OUT : Fld := { base := 0x80024, hi := 2, lo := 0, acc := .rw, cold := .kept, warm := .kept, legal := .range 0 6 }
/-- Elapsed grace in minutes under R263, 0 to 10 080. "saved" is the flash record (R267, spec/09_lanes_and_voting.md). -/
def VT_GRACE_ELAPSED : Fld := { base := 0x80028, hi := 13, lo := 0, por := .other, cold := .other, warm := .other }
/-- Seconds since entry into SIMPLEX-DIAG. 0 in every other state (R267, spec/09_lanes_and_voting.md). -/
def VT_SIMPLEX_TIME_SECONDS : Fld := { base := 0x8002c, hi := 9, lo := 0 }
/-- 1: a word was repaired under R248 (R267, spec/09_lanes_and_voting.md). -/
def VT_FLAGS_SCRUB_REPAIR : Fld := { base := 0x80030, hi := 7, lo := 7, acc := .w1c, warm := .kept }
/-- 1: a switch completed under R258 (R267, spec/09_lanes_and_voting.md). -/
def VT_FLAGS_REJOIN_DONE : Fld := { base := 0x80030, hi := 6, lo := 6, acc := .w1c, warm := .kept }
/-- 1: a release was discarded under R253 (R267, spec/09_lanes_and_voting.md). -/
def VT_FLAGS_UNPAIRED : Fld := { base := 0x80030, hi := 5, lo := 5, acc := .w1c, warm := .kept }
/-- 1: the sources differed under R257 (R267, spec/09_lanes_and_voting.md). -/
def VT_FLAGS_SRC_MISMATCH : Fld := { base := 0x80030, hi := 4, lo := 4, acc := .w1c, warm := .kept }
/-- 1: the hold store overflowed under R244 (R267, spec/09_lanes_and_voting.md). -/
def VT_FLAGS_HOLD_OVF : Fld := { base := 0x80030, hi := 3, lo := 3, acc := .w1c, warm := .kept }
/-- 1: 80 % of the grace was reached (R267, spec/09_lanes_and_voting.md). -/
def VT_FLAGS_GRACE_WARN : Fld := { base := 0x80030, hi := 2, lo := 2, acc := .w1c, warm := .kept }
/-- 1: the module entered SAFE (R267, spec/09_lanes_and_voting.md). -/
def VT_FLAGS_SAFE_SEEN : Fld := { base := 0x80030, hi := 1, lo := 1, acc := .w1c, warm := .kept }
/-- 1: a lane was excluded under R247 (R267, spec/09_lanes_and_voting.md). -/
def VT_FLAGS_LANE_FAULT : Fld := { base := 0x80030, hi := 0, lo := 0, acc := .w1c, warm := .kept }
/-- Exclusions, saturating (R267, spec/09_lanes_and_voting.md). -/
def VT_EXCL_CNT : Fld := { base := 0x80034, warm := .kept, cnt := true }
/-- Completed switches, saturating (R267, spec/09_lanes_and_voting.md). -/
def VT_REJOIN_CNT : Fld := { base := 0x80038, warm := .kept, cnt := true }
/-- Late items under R240, saturating (R267, spec/09_lanes_and_voting.md). -/
def VT_LATE_CNT : Fld := { base := 0x8003c, warm := .kept, cnt := true }
/-- Repairs under R248, saturating (R267, spec/09_lanes_and_voting.md). -/
def VT_REPAIR_CNT : Fld := { base := 0x80040, warm := .kept, cnt := true }
/-- Hold-store occupancy in bytes (R267, spec/09_lanes_and_voting.md). -/
def VT_HOLD_NOW : Fld := { base := 0x80044 }
/-- Largest occupancy since COLD, in bytes (R267, spec/09_lanes_and_voting.md). -/
def VT_HOLD_PEAK : Fld := { base := 0x80048, warm := .kept }
/-- Windows released, saturating (R267, spec/09_lanes_and_voting.md). -/
def VT_WIN_CNT : Fld := { base := 0x8004c, warm := .kept, cnt := true }
/-- 0 = record, 1 = close, 2 = checkpoint, 3 = beat (R267, spec/09_lanes_and_voting.md). -/
def VT_LAST_DIS_ITEM : Fld := { base := 0x80050, hi := 31, lo := 28, cold := .kept, warm := .kept }
/-- Lanes, or for a pair engines low and high, that agreed (R267, spec/09_lanes_and_voting.md). -/
def VT_LAST_DIS_AGREE : Fld := { base := 0x80050, hi := 22, lo := 20, cold := .kept, warm := .kept }
/-- Task of the item. 0 for a beat (R267, spec/09_lanes_and_voting.md). -/
def VT_LAST_DIS_TASK : Fld := { base := 0x80050, hi := 13, lo := 8, cold := .kept, warm := .kept }
/-- Engine of the item (R267, spec/09_lanes_and_voting.md). -/
def VT_LAST_DIS_ENGINE : Fld := { base := 0x80050, hi := 1, lo := 0, cold := .kept, warm := .kept }
/-- Window number under R238 (R267, spec/09_lanes_and_voting.md). -/
def VT_LAST_DIS_WINDOW : Fld := { base := 0x80054, cold := .kept, warm := .kept }
/-- Position of the item in its window, from 0 (R267, spec/09_lanes_and_voting.md). -/
def VT_LAST_DIS_POSITION : Fld := { base := 0x80058, cold := .kept, warm := .kept }
/-- LT in µs of the finding, bits [31:0] (R267, spec/09_lanes_and_voting.md). -/
def VT_LAST_DIS_STAMP : Fld := { base := 0x8005c, cold := .kept, warm := .kept }
/-- 1: the voter drives the bypass under R288 (R296, spec/10_safety_chase.md). -/
def SC_STATE_BYPASS : Fld := { base := 0x90000, hi := 12, lo := 12 }
/-- Latest Chase fault: 0 = none, 1 = TABLE, 2 = CORRUPT, 3 = EVAL, 4 = SELFTEST, 5 = HEARTBEAT, 6 = COMPARATOR (R296, spec/10_safety_chase.md). -/
def SC_STATE_CAUSE : Fld := { base := 0x90000, hi := 11, lo := 8, cold := .kept, warm := .kept }
/-- State code of R286 (R296, spec/10_safety_chase.md). -/
def SC_STATE_STATE : Fld := { base := 0x90000, hi := 2, lo := 0 }
/-- TABLE_ID of the loaded table. 0 when the load failed (R296, spec/10_safety_chase.md). -/
def SC_TABLE_ID_ID : Fld := { base := 0x90004, por := .table, cold := .table, warm := .table }
/-- CRC-32 as computed by the Chase over the table received (R296, spec/10_safety_chase.md). -/
def SC_TABLE_CRC_CRC : Fld := { base := 0x90008, por := .table, cold := .table, warm := .table }
/-- DEGR_MIN in minutes. 0 after a failed load under R284 (R296, spec/10_safety_chase.md). -/
def SC_DEGR_LIMIT : Fld := { base := 0x9000c, hi := 23, lo := 16, por := .table, cold := .table, warm := .table }
/-- Degraded time in s, 0 to 7200, under R288. "saved" is the flash record (R296, spec/10_safety_chase.md). -/
def SC_DEGR_ELAPSED : Fld := { base := 0x9000c, hi := 12, lo := 0, por := .other, cold := .other, warm := .other }
/-- 1: clear the latched terminal faults that meet R276 (R296, spec/10_safety_chase.md). -/
def SC_CMD_CLR_FAULTS : Fld := { base := 0x90010, hi := 1, lo := 1, acc := .wo }
/-- 1: row 1 of R287 (R296, spec/10_safety_chase.md). -/
def SC_CMD_RETEST : Fld := { base := 0x90010, hi := 0, lo := 0, acc := .wo }
/-- Bit j of LO is L_j, and bit j of HI is L(32 + j), at the end of the latest Chase cycle (R296, spec/10_safety_chase.md). -/
def SC_LIT_LIT : Fld := { base := 0x90020, s1 := 0x4, n1 := 2 }
/-- Bit i: terminal i commanded closed by the Chase (SC_CHASE_CMD) or by the latest released lane commit (SC_LANE_CMD) (R296, spec/10_safety_chase.md). -/
def SC_CHASE_CMD_CMD : Fld := { base := 0x90028, s1 := 0x4, n1 := 2 }
/-- Bit i: a discrepancy of terminal i under R285 (R296, spec/10_safety_chase.md). -/
def SC_DISC_DISC : Fld := { base := 0x90030, acc := .w1c, warm := .kept }
/-- Discrepancies under R285, saturating (R296, spec/10_safety_chase.md). -/
def SC_TERM_STAT_DISC_CNT : Fld := { base := 0x90100, s1 := 0x4, n1 := 32, hi := 31, lo := 16, warm := .kept, cnt := true }
/-- For FOREIGN: the slot whose pulse was seen (R296, spec/10_safety_chase.md). -/
def SC_TERM_STAT_SLOT_SEEN : Fld := { base := 0x90100, s1 := 0x4, n1 := 32, hi := 10, lo := 8, warm := .kept }
/-- 1: UNDETERMINED under R272 (R296, spec/10_safety_chase.md). -/
def SC_TERM_STAT_UNDET : Fld := { base := 0x90100, s1 := 0x4, n1 := 32, hi := 7, lo := 7 }
/-- 0 = none, 1 = OWN_MISSING, 2 = FOREIGN, 3 = STUCK, 4 = SW_LANE, 5 = SW_CHASE, 6 = EXT_POTENTIAL, 7 = MODE (R296, spec/10_safety_chase.md). -/
def SC_TERM_STAT_FAULT : Fld := { base := 0x90100, s1 := 0x4, n1 := 32, hi := 6, lo := 3, warm := .kept }
/-- Role from the table under R280 (R296, spec/10_safety_chase.md). -/
def SC_TERM_STAT_ROLE : Fld := { base := 0x90100, s1 := 0x4, n1 := 32, hi := 1, lo := 0, por := .table, cold := .table, warm := .table }
/-- 1: the Chase entered EXPIRED (R296, spec/10_safety_chase.md). -/
def SC_FLAGS_EXPIRED_SEEN : Fld := { base := 0x90200, hi := 4, lo := 4, acc := .w1c, warm := .kept }
/-- 1: 80 % of DEGR_MIN was reached (R296, spec/10_safety_chase.md). -/
def SC_FLAGS_DEGR_WARN : Fld := { base := 0x90200, hi := 3, lo := 3, acc := .w1c, warm := .kept }
/-- 1: a SAFE_OUT fault was declared (R296, spec/10_safety_chase.md). -/
def SC_FLAGS_OUT_FAULT : Fld := { base := 0x90200, hi := 2, lo := 2, acc := .w1c, warm := .kept }
/-- 1: a SAFE_IN fault was declared (R296, spec/10_safety_chase.md). -/
def SC_FLAGS_IN_FAULT : Fld := { base := 0x90200, hi := 1, lo := 1, acc := .w1c, warm := .kept }
/-- 1: a Chase fault occurred under R287 (R296, spec/10_safety_chase.md). -/
def SC_FLAGS_CHASE_FAULT : Fld := { base := 0x90200, hi := 0, lo := 0, acc := .w1c, warm := .kept }
/-- Terminal faults declared, saturating (R296, spec/10_safety_chase.md). -/
def SC_FAULT_CNT_TERM : Fld := { base := 0x90204, hi := 31, lo := 16, warm := .kept, cnt := true }
/-- Chase faults, saturating (R296, spec/10_safety_chase.md). -/
def SC_FAULT_CNT_CHASE : Fld := { base := 0x90204, hi := 15, lo := 0, warm := .kept, cnt := true }
/-- Under R329 (R330, spec/11_field_digital.md). -/
def CH_MODE_EVT : Fld := { base := 0xa0000, s1 := 0x100, n1 := 128, hi := 17, lo := 16, acc := .rws, por := .table, cold := .table, warm := .table }
/-- 1: the input VALUE is inverted under R311 (R330, spec/11_field_digital.md). -/
def CH_MODE_INV : Fld := { base := 0xa0000, s1 := 0x100, n1 := 128, hi := 15, lo := 15, acc := .rws, por := .table, cold := .table, warm := .table }
/-- 1: hardware-timed output under R324 (R330, spec/11_field_digital.md). -/
def CH_MODE_HWT : Fld := { base := 0xa0000, s1 := 0x100, n1 := 128, hi := 14, lo := 14, acc := .rws, por := .table, cold := .table, warm := .table }
/-- 0 = OFF, 1 = HOLD. Values 2 and 3 clamp to 1 (R330, spec/11_field_digital.md). -/
def CH_MODE_STOP_STATE : Fld := { base := 0xa0000, s1 := 0x100, n1 := 128, hi := 13, lo := 12, acc := .rws, por := .table, cold := .table, warm := .table, legal := .range 0 1 }
/-- Filter code under R311 (R330, spec/11_field_digital.md). -/
def CH_MODE_FILTER : Fld := { base := 0xa0000, s1 := 0x100, n1 := 128, hi := 10, lo := 8, acc := .rws, por := .table, cold := .table, warm := .table }
/-- Mode code under R301 (R330, spec/11_field_digital.md). -/
def CH_MODE_MODE : Fld := { base := 0xa0000, s1 := 0x100, n1 := 128, hi := 4, lo := 0, acc := .rws, por := .table, cold := .table, warm := .table }
/-- Stuck time in s under R313. 0: no limit (R330, spec/11_field_digital.md). -/
def CH_CFG_STUCK : Fld := { base := 0xa0004, s1 := 0x100, n1 := 128, hi := 23, lo := 16, acc := .rws, por := .table, cold := .table, warm := .table }
/-- 1: open-wire or open-load detection under R327 (R330, spec/11_field_digital.md). -/
def CH_CFG_OPEN_DET : Fld := { base := 0xa0004, s1 := 0x100, n1 := 128, hi := 15, lo := 15, acc := .rws, por := .table, cold := .table, warm := .table }
/-- 0 = slow, 1 = fast, under R320 (R330, spec/11_field_digital.md). -/
def CH_CFG_DEMAG : Fld := { base := 0xa0004, s1 := 0x100, n1 := 128, hi := 14, lo := 14, acc := .rws, por := .table, cold := .table, warm := .table }
/-- COUNT_UP edges under R316. 3 clamps to 2 (R330, spec/11_field_digital.md). -/
def CH_CFG_EDGE : Fld := { base := 0xa0004, s1 := 0x100, n1 := 128, hi := 13, lo := 12, acc := .rws, por := .table, cold := .table, warm := .table, legal := .range 0 2 }
/-- FREQ gate under R317. 3 clamps to 2 (R330, spec/11_field_digital.md). -/
def CH_CFG_GATE : Fld := { base := 0xa0004, s1 := 0x100, n1 := 128, hi := 11, lo := 10, acc := .rws, por := .table, cold := .table, warm := .table, legal := .range 0 2 }
/-- 0 = 10, 1 = 20, 2 = 50, 3 = 100 ms (R330, spec/11_field_digital.md). -/
def CH_CFG_WET_PERIOD : Fld := { base := 0xa0004, s1 := 0x100, n1 := 128, hi := 9, lo := 8, acc := .rws, por := .table, cold := .table, warm := .table }
/-- 0 = off, 1 = 10 mA, 2 = 25 mA. 3 clamps to 2 (R330, spec/11_field_digital.md). -/
def CH_CFG_WET : Fld := { base := 0xa0004, s1 := 0x100, n1 := 128, hi := 7, lo := 6, acc := .rws, por := .table, cold := .table, warm := .table, legal := .range 0 2 }
/-- 0 = 1, 1 = 2, 2 = 5, 3 = 10 mA (R330, spec/11_field_digital.md). -/
def CH_CFG_ILIM : Fld := { base := 0xa0004, s1 := 0x100, n1 := 128, hi := 5, lo := 4, acc := .rws, por := .table, cold := .table, warm := .table }
/-- Threshold reference under R309. 7 clamps to 6 (R330, spec/11_field_digital.md). -/
def CH_CFG_UN : Fld := { base := 0xa0004, s1 := 0x100, n1 := 128, hi := 2, lo := 0, acc := .rws, por := .table, cold := .table, warm := .table, legal := .range 0 6 }
/-- 0 = none, 1 = OPEN_WIRE, 2 = OPEN_LOAD, 3 = OVERLOAD, 4 = SHORT_TO_SUPPLY, 5 = BACKFEED, 6 = STUCK, 7 = OVERTEMP, 8 = GROUP_OFF, 9 = GROUP_OVERLOAD, 10 = PAR_MISMATCH, 11 reserved. 12 to 15 are assigned in Field channels: analogue functions (R330, spec/11_field_digital.md). -/
def CH_STAT_FAULT : Fld := { base := 0xa0010, s1 := 0x100, n1 := 128, hi := 11, lo := 8 }
/-- 1: held off under R319 (R330, spec/11_field_digital.md). -/
def CH_STAT_TRIPPED : Fld := { base := 0xa0010, s1 := 0x100, n1 := 128, hi := 5, lo := 5 }
/-- 1: a timed level or pulse is in effect under R324 (R330, spec/11_field_digital.md). -/
def CH_STAT_TIMED : Fld := { base := 0xa0010, s1 := 0x100, n1 := 128, hi := 4, lo := 4 }
/-- 1: the lane switch is commanded on (R330, spec/11_field_digital.md). -/
def CH_STAT_ON : Fld := { base := 0xa0010, s1 := 0x100, n1 := 128, hi := 3, lo := 3 }
/-- 1: stuck under R313 (R330, spec/11_field_digital.md). -/
def CH_STAT_STUCK : Fld := { base := 0xa0010, s1 := 0x100, n1 := 128, hi := 2, lo := 2 }
/-- Under R312 (R330, spec/11_field_digital.md). -/
def CH_STAT_UNDET : Fld := { base := 0xa0010, s1 := 0x100, n1 := 128, hi := 1, lo := 1, por := (.val 1), cold := (.val 1), warm := (.val 1) }
/-- Input value. In output modes, 1 while the pin is at or above 0.5 × U_G, the threshold of SHORT_TO_SUPPLY under R327 (R330, spec/11_field_digital.md). -/
def CH_STAT_VALUE : Fld := { base := 0xa0010, s1 := 0x100, n1 := 128, hi := 0, lo := 0 }
/-- Value word under R307 (R330, spec/11_field_digital.md). -/
def CH_VALUE_VALUE : Fld := { base := 0xa0014, s1 := 0x100, n1 := 128 }
/-- 1: a Q value word was clamped under R322 or R323 (R330, spec/11_field_digital.md). -/
def CH_FLAGS_CLAMP_Q : Fld := { base := 0xa0018, s1 := 0x100, n1 := 128, hi := 4, lo := 4, acc := .w1c, warm := .kept }
/-- 1: a count saturated under R316 (R330, spec/11_field_digital.md). -/
def CH_FLAGS_COUNT_SAT : Fld := { base := 0xa0018, s1 := 0x100, n1 := 128, hi := 3, lo := 3, acc := .w1c, warm := .kept }
/-- 1: declared stuck (R330, spec/11_field_digital.md). -/
def CH_FLAGS_STUCK_SEEN : Fld := { base := 0xa0018, s1 := 0x100, n1 := 128, hi := 2, lo := 2, acc := .w1c, warm := .kept }
/-- 1: a fault was declared (R330, spec/11_field_digital.md). -/
def CH_FLAGS_FAULT_SEEN : Fld := { base := 0xa0018, s1 := 0x100, n1 := 128, hi := 1, lo := 1, acc := .w1c, warm := .kept }
/-- 1: overrun under R314 or R315 (R330, spec/11_field_digital.md). -/
def CH_FLAGS_OVERRUN : Fld := { base := 0xa0018, s1 := 0x100, n1 := 128, hi := 0, lo := 0, acc := .w1c, warm := .kept }
/-- Fault declarations, saturating (R330, spec/11_field_digital.md). -/
def CH_FAULT_CNT_COUNT : Fld := { base := 0xa001c, s1 := 0x100, n1 := 128, warm := .kept, cnt := true }
/-- Under R321. Values 5 to 7 clamp to 4 (R330, spec/11_field_digital.md). -/
def CH_GRP_CFG_PAR : Fld := { base := 0xa8000, s1 := 0x40, n1 := 8, hi := 3, lo := 1, acc := .rws, por := .table, cold := .table, warm := .table, legal := .range 0 4 }
/-- 1: the group may be powered under R298 (R330, spec/11_field_digital.md). -/
def CH_GRP_CFG_EN : Fld := { base := 0xa8000, s1 := 0x40, n1 := 8, hi := 0, lo := 0, acc := .rws, por := .table, cold := .table, warm := .table }
/-- 1: a group trip under R300 holds its outputs (R330, spec/11_field_digital.md). -/
def CH_GRP_STAT_TRIPPED : Fld := { base := 0xa8004, s1 := 0x40, n1 := 8, hi := 31, lo := 31 }
/-- Under R298. Reports the present condition through COLD, WARM and BLOCK resets (R330, spec/11_field_digital.md). -/
def CH_GRP_STAT_OVERVOLT : Fld := { base := 0xa8004, s1 := 0x40, n1 := 8, hi := 30, lo := 30, cold := .kept, warm := .kept }
/-- 1: the supply is reversed. Reports the present condition (R330, spec/11_field_digital.md). -/
def CH_GRP_STAT_REVERSED : Fld := { base := 0xa8004, s1 := 0x40, n1 := 8, hi := 29, lo := 29, cold := .kept, warm := .kept }
/-- Under R298. Not requalified by COLD, WARM or BLOCK (R330, spec/11_field_digital.md). -/
def CH_GRP_STAT_POWERED : Fld := { base := 0xa8004, s1 := 0x40, n1 := 8, hi := 28, lo := 28, cold := .kept, warm := .kept }
/-- Group output current in 10 mA (R330, spec/11_field_digital.md). -/
def CH_GRP_STAT_CURRENT : Fld := { base := 0xa8004, s1 := 0x40, n1 := 8, hi := 27, lo := 16, cold := .kept, warm := .kept }
/-- U_G in 10 mV. 0 when reversed (R330, spec/11_field_digital.md). -/
def CH_GRP_STAT_UG : Fld := { base := 0xa8004, s1 := 0x40, n1 := 8, hi := 15, lo := 0, cold := .kept, warm := .kept }
/-- 1: a group trip occurred (R330, spec/11_field_digital.md). -/
def CH_GRP_FLAGS_OVERLOAD_SEEN : Fld := { base := 0xa8008, s1 := 0x40, n1 := 8, hi := 3, lo := 3, acc := .w1c, warm := .kept }
/-- 1: OVERVOLT was set (R330, spec/11_field_digital.md). -/
def CH_GRP_FLAGS_OVERVOLT_SEEN : Fld := { base := 0xa8008, s1 := 0x40, n1 := 8, hi := 2, lo := 2, acc := .w1c, warm := .kept }
/-- 1: a reversed supply was seen (R330, spec/11_field_digital.md). -/
def CH_GRP_FLAGS_REVERSED_SEEN : Fld := { base := 0xa8008, s1 := 0x40, n1 := 8, hi := 1, lo := 1, acc := .w1c, warm := .kept }
/-- 1: the group became unpowered (R330, spec/11_field_digital.md). -/
def CH_GRP_FLAGS_OFF_SEEN : Fld := { base := 0xa8008, s1 := 0x40, n1 := 8, hi := 0, lo := 0, acc := .w1c, warm := .kept }
/-- Group trips, saturating (R330, spec/11_field_digital.md). -/
def CH_GRP_TRIP_CNT_COUNT : Fld := { base := 0xa800c, s1 := 0x40, n1 := 8, warm := .kept, cnt := true }
/-- 1: a map was not applied under R305 (R330, spec/11_field_digital.md). -/
def CH_BLK_FLAGS_MAP_ERR : Fld := { base := 0xa8200, hi := 1, lo := 1, acc := .w1c, warm := .kept }
/-- 1: a table load was clamped under R302 (R330, spec/11_field_digital.md). -/
def CH_BLK_FLAGS_TABLE_ERR : Fld := { base := 0xa8200, hi := 0, lo := 0, acc := .w1c, warm := .kept }
/-- Two-wire lead compensation in 10 mΩ under R340 (R352, spec/12_field_analogue.md). -/
def CH_ACFG0_R_LEAD : Fld := { base := 0xa0008, s1 := 0x100, n1 := 128, hi := 31, lo := 24, acc := .rws, por := .table, cold := .table, warm := .table }
/-- Channel k of the same group used as cold junction when CJC_SRC = 1 (R352, spec/12_field_analogue.md). -/
def CH_ACFG0_CJC_CH : Fld := { base := 0xa0008, s1 := 0x100, n1 := 128, hi := 23, lo := 20, acc := .rws, por := .table, cold := .table, warm := .table }
/-- 0: group sensor. 1: CJC_CH, under R342 (R352, spec/12_field_analogue.md). -/
def CH_ACFG0_CJC_SRC : Fld := { base := 0xa0008, s1 := 0x100, n1 := 128, hi := 16, lo := 16, acc := .rws, por := .table, cold := .table, warm := .table }
/-- Thermocouple or RTD type under R340 and R341 (R352, spec/12_field_analogue.md). -/
def CH_ACFG0_TYPE : Fld := { base := 0xa0008, s1 := 0x100, n1 := 128, hi := 15, lo := 12, acc := .rws, por := .table, cold := .table, warm := .table }
/-- 1: the heat level is ignored under R335 (R352, spec/12_field_analogue.md). -/
def CH_ACFG0_HEAT_EXEMPT : Fld := { base := 0xa0008, s1 := 0x100, n1 := 128, hi := 11, lo := 11, acc := .rws, por := .table, cold := .table, warm := .table }
/-- N = 2^AVG under R333 (R352, spec/12_field_analogue.md). -/
def CH_ACFG0_AVG : Fld := { base := 0xa0008, s1 := 0x100, n1 := 128, hi := 10, lo := 8, acc := .rws, por := .table, cold := .table, warm := .table }
/-- T_c under R333 (R352, spec/12_field_analogue.md). -/
def CH_ACFG0_RATE : Fld := { base := 0xa0008, s1 := 0x100, n1 := 128, hi := 6, lo := 4, acc := .rws, por := .table, cold := .table, warm := .table }
/-- Range under R338, R340 and R344 (R352, spec/12_field_analogue.md). -/
def CH_ACFG0_RANGE : Fld := { base := 0xa0008, s1 := 0x100, n1 := 128, hi := 2, lo := 0, acc := .rws, por := .table, cold := .table, warm := .table }
/-- Upper limit under R337, signed (R352, spec/12_field_analogue.md). -/
def CH_ACFG1_HI : Fld := { base := 0xa000c, s1 := 0x100, n1 := 128, hi := 31, lo := 16, acc := .rws, por := .table, cold := .table, warm := .table }
/-- Lower limit under R337, signed (R352, spec/12_field_analogue.md). -/
def CH_ACFG1_LO : Fld := { base := 0xa000c, s1 := 0x100, n1 := 128, hi := 15, lo := 0, acc := .rws, por := .table, cold := .table, warm := .table }
/-- 1: G or b is not 0 (R352, spec/12_field_analogue.md). -/
def CH_ASTAT_TRIM_USER : Fld := { base := 0xa0040, s1 := 0x100, n1 := 128, hi := 23, lo := 23, por := .other, cold := .kept, warm := .kept }
/-- Heat level in force for this channel under R335 (R352, spec/12_field_analogue.md). -/
def CH_ASTAT_HEAT_LEVEL : Fld := { base := 0xa0040, s1 := 0x100, n1 := 128, hi := 22, lo := 21 }
/-- Effective T_c in µs. 0 in non-analogue modes (R352, spec/12_field_analogue.md). -/
def CH_ASTAT_EFF_PERIOD : Fld := { base := 0xa0040, s1 := 0x100, n1 := 128, hi := 20, lo := 0 }
/-- 1: the trim in effect is stored in flash under R347 (R352, spec/12_field_analogue.md). -/
def CH_TRIM_CTL_SAVED : Fld := { base := 0xa0044, s1 := 0x100, n1 := 128, hi := 5, lo := 5, por := (.val 1), cold := (.val 1), warm := (.val 1) }
/-- 1: an APPLY was rejected under R347 (R352, spec/12_field_analogue.md). -/
def CH_TRIM_CTL_REJ : Fld := { base := 0xa0044, s1 := 0x100, n1 := 128, hi := 4, lo := 4, acc := .w1c, warm := .kept }
/-- 1: set G and b to 0 (R352, spec/12_field_analogue.md). -/
def CH_TRIM_CTL_RESTORE : Fld := { base := 0xa0044, s1 := 0x100, n1 := 128, hi := 3, lo := 3, acc := .wo }
/-- 1: compute the trim under R347 (R352, spec/12_field_analogue.md). -/
def CH_TRIM_CTL_APPLY : Fld := { base := 0xa0044, s1 := 0x100, n1 := 128, hi := 2, lo := 2, acc := .wo }
/-- 0: drive S1. 1: drive S2 (R352, spec/12_field_analogue.md). -/
def CH_TRIM_CTL_POINT : Fld := { base := 0xa0044, s1 := 0x100, n1 := 128, hi := 1, lo := 1, acc := .rw }
/-- 1: trim drive under R348 (R352, spec/12_field_analogue.md). -/
def CH_TRIM_CTL_DRIVE : Fld := { base := 0xa0044, s1 := 0x100, n1 := 128, hi := 0, lo := 0, acc := .rw }
/-- Setpoint 1, INT32, µV or nA (R352, spec/12_field_analogue.md). -/
def CH_TRIM_S1 : Fld := { base := 0xa0048, s1 := 0x100, n1 := 128, acc := .rw }
/-- Setpoint 2 (R352, spec/12_field_analogue.md). -/
def CH_TRIM_S2 : Fld := { base := 0xa004c, s1 := 0x100, n1 := 128, acc := .rw }
/-- Measured value at setpoint 1 (R352, spec/12_field_analogue.md). -/
def CH_TRIM_M1 : Fld := { base := 0xa0050, s1 := 0x100, n1 := 128, acc := .rw }
/-- Measured value at setpoint 2 (R352, spec/12_field_analogue.md). -/
def CH_TRIM_M2 : Fld := { base := 0xa0054, s1 := 0x100, n1 := 128, acc := .rw }
/-- G under R346, INT32. "saved" is the flash record, or 0 when none exists (R352, spec/12_field_analogue.md). -/
def CH_TRIM_GAIN : Fld := { base := 0xa0058, s1 := 0x100, n1 := 128, por := .other, cold := .kept, warm := .kept }
/-- b under R346, INT32, µV or nA (R352, spec/12_field_analogue.md). -/
def CH_TRIM_OFS : Fld := { base := 0xa005c, s1 := 0x100, n1 := 128, por := .other, cold := .kept, warm := .kept }
/-- Under R350 (R352, spec/12_field_analogue.md). -/
def CH_FEED_STAT_FEED_LOW : Fld := { base := 0xa8010, s1 := 0x40, n1 := 8, hi := 23, lo := 23 }
/-- Feed rail in 10 mV (R352, spec/12_field_analogue.md). -/
def CH_FEED_STAT_RAIL : Fld := { base := 0xa8010, s1 := 0x40, n1 := 8, hi := 22, lo := 12 }
/-- Allowance in effect in mW under R349 (R352, spec/12_field_analogue.md). -/
def CH_FEED_STAT_ALLOW : Fld := { base := 0xa8010, s1 := 0x40, n1 := 8, hi := 11, lo := 0, por := .table, cold := .table, warm := .table }
/-- Entries into FEED_LOW, saturating (R352, spec/12_field_analogue.md). -/
def CH_FEED_LOW_CNT_COUNT : Fld := { base := 0xa8014, s1 := 0x40, n1 := 8, warm := .kept, cnt := true }
/-- 1: the group sensor fails its plausibility check under R342 (R352, spec/12_field_analogue.md). -/
def CH_CJC_TEMP_FAIL : Fld := { base := 0xa8018, s1 := 0x40, n1 := 8, hi := 31, lo := 31 }
/-- Group cold-junction temperature in 0.01 °C, INT16 (R352, spec/12_field_analogue.md). -/
def CH_CJC_TEMP_TEMP : Fld := { base := 0xa8018, s1 := 0x40, n1 := 8, hi := 15, lo := 0 }
/-- 1: cycle starts are aligned to TT under R364 (R374, spec/13_forme_bus.md). -/
def FB_STATE_TT_ALIGNED : Fld := { base := 0x100000, hi := 16, lo := 16 }
/-- LOCKUP cycles still to run (R374, spec/13_forme_bus.md). -/
def FB_STATE_LOCKUP_LEFT : Fld := { base := 0x100000, hi := 11, lo := 8, por := (.val 8), cold := (.val 8), warm := (.val 8) }
/-- Schedule in effect (R374, spec/13_forme_bus.md). -/
def FB_STATE_SCHED : Fld := { base := 0x100000, hi := 6, lo := 4, por := .table, cold := .table, warm := .table }
/-- 0 = OFF, 1 = LOCKUP, 2 = PRESS, 3 = PARKED (R374, spec/13_forme_bus.md). -/
def FB_STATE_STATE : Fld := { base := 0x100000, hi := 1, lo := 0 }
/-- Cycles since the latest entry into LOCKUP, saturating (R374, spec/13_forme_bus.md). -/
def FB_CYCLE_CYCLE : Fld := { base := 0x100004 }
/-- 1: align to TT under R364 (R374, spec/13_forme_bus.md). -/
def FB_CFG_TT_ALIGN : Fld := { base := 0x100008, hi := 28, lo := 28, acc := .rws, por := .table, cold := .table, warm := .table }
/-- Quarantine length, 16 to 4 095 cycles. Default 500 (R374, spec/13_forme_bus.md). -/
def FB_CFG_QUAR_CYC : Fld := { base := 0x100008, hi := 27, lo := 16, acc := .rws, por := .table, cold := .table, warm := .table, legal := .range 16 4095, dflt := 500 }
/-- 1 to 15. Default 4 (R374, spec/13_forme_bus.md). -/
def FB_CFG_QUAR_TH : Fld := { base := 0x100008, hi := 11, lo := 8, acc := .rws, por := .table, cold := .table, warm := .table, legal := .range 1 15, dflt := 4 }
/-- Announcing cycles, 4 to 64. Default 8 (R374, spec/13_forme_bus.md). -/
def FB_CFG_ANNOUNCE : Fld := { base := 0x100008, hi := 7, lo := 0, acc := .rws, por := .table, cold := .table, warm := .table, legal := .range 4 64, dflt := 8 }
/-- Bit b enables SBb under R353 (R374, spec/13_forme_bus.md). -/
def FB_BR_EN_EN : Fld := { base := 0x10000c, hi := 7, lo := 0, acc := .rws, por := .table, cold := .table, warm := .table }
/-- 1: request a switch under R368 (R374, spec/13_forme_bus.md). -/
def FB_SCHED_REQ_REQ : Fld := { base := 0x100010, hi := 31, lo := 31, acc := .wo }
/-- Requested schedule (R374, spec/13_forme_bus.md). -/
def FB_SCHED_REQ_TARGET : Fld := { base := 0x100010, hi := 2, lo := 0, acc := .wo }
/-- Bit s: Fs is usable under R357 (R374, spec/13_forme_bus.md). -/
def FB_SCHED_STAT_USABLE : Fld := { base := 0x100014, hi := 31, lo := 24, por := .table, cold := .table, warm := .table }
/-- Branches whose SWITCH_ACK has been seen in the running announcement (R374, spec/13_forme_bus.md). -/
def FB_SCHED_STAT_ACKED : Fld := { base := 0x100014, hi := 15, lo := 8 }
/-- 0 = none, 1 = SWITCHED, 2 = ABORTED, 3 = REFUSED_BUSY, 4 = REFUSED_UNUSABLE, 5 = REFUSED_SAME, 6 = REFUSED_STATE, 7 = ABANDONED (R374, spec/13_forme_bus.md). -/
def FB_SCHED_STAT_LAST : Fld := { base := 0x100014, hi := 6, lo := 4 }
/-- 1: an announcement is running (R374, spec/13_forme_bus.md). -/
def FB_SCHED_STAT_PENDING : Fld := { base := 0x100014, hi := 3, lo := 3 }
/-- Target of the latest accepted request (R374, spec/13_forme_bus.md). -/
def FB_SCHED_STAT_TARGET : Fld := { base := 0x100014, hi := 2, lo := 0 }
/-- c_s of the running announcement. 0 when none is running (R374, spec/13_forme_bus.md). -/
def FB_SWITCH_AT_CYCLE : Fld := { base := 0x100018 }
/-- 1: a dynamic frame was not sent (R374, spec/13_forme_bus.md). -/
def FB_FLAGS_NOT_SENT : Fld := { base := 0x10001c, hi := 5, lo := 5, acc := .w1c, warm := .kept }
/-- 1: a branch became LOCKED (R374, spec/13_forme_bus.md). -/
def FB_FLAGS_LOCKED : Fld := { base := 0x10001c, hi := 4, lo := 4, acc := .w1c, warm := .kept }
/-- 1: a branch was quarantined (R374, spec/13_forme_bus.md). -/
def FB_FLAGS_QUARANTINE : Fld := { base := 0x10001c, hi := 3, lo := 3, acc := .w1c, warm := .kept }
/-- 1: a switch was aborted under R369 (R374, spec/13_forme_bus.md). -/
def FB_FLAGS_SWITCH_ABORT : Fld := { base := 0x10001c, hi := 2, lo := 2, acc := .w1c, warm := .kept }
/-- 1: a map was not applied under R370 (R374, spec/13_forme_bus.md). -/
def FB_FLAGS_MAP_ERR : Fld := { base := 0x10001c, hi := 1, lo := 1, acc := .w1c, warm := .kept }
/-- 1: the start schedule was replaced under R366 (R374, spec/13_forme_bus.md). -/
def FB_FLAGS_TABLE_ERR : Fld := { base := 0x10001c, hi := 0, lo := 0, acc := .w1c, warm := .kept }
/-- Quarantines, saturating (R374, spec/13_forme_bus.md). -/
def FB_BR_STAT_QUAR_TOTAL : Fld := { base := 0x100100, s1 := 0x10, n1 := 8, hi := 31, lo := 16, warm := .kept, cnt := true }
/-- Violation level under R365 (R374, spec/13_forme_bus.md). -/
def FB_BR_STAT_V : Fld := { base := 0x100100, s1 := 0x10, n1 := 8, hi := 15, lo := 12 }
/-- Under R365 (R374, spec/13_forme_bus.md). -/
def FB_BR_STAT_QUAR_N : Fld := { base := 0x100100, s1 := 0x10, n1 := 8, hi := 11, lo := 8 }
/-- 1: PHY link up (R374, spec/13_forme_bus.md). -/
def FB_BR_STAT_LINK : Fld := { base := 0x100100, s1 := 0x10, n1 := 8, hi := 3, lo := 3 }
/-- 0 = DISABLED, 1 = ACTIVE, 2 = QUARANTINED, 3 = LOCKED (R374, spec/13_forme_bus.md). -/
def FB_BR_STAT_STATE : Fld := { base := 0x100100, s1 := 0x10, n1 := 8, hi := 2, lo := 0 }
/-- 1: release under R365 (R374, spec/13_forme_bus.md). -/
def FB_BR_CMD_RELEASE : Fld := { base := 0x100104, s1 := 0x10, n1 := 8, hi := 0, lo := 0, acc := .wo }
/-- HEADER violations, saturating (R374, spec/13_forme_bus.md). -/
def FB_BR_VIOL_HEADER : Fld := { base := 0x100108, s1 := 0x10, n1 := 8, hi := 31, lo := 16, warm := .kept, cnt := true }
/-- OUT_OF_SLOT violations, saturating (R374, spec/13_forme_bus.md). -/
def FB_BR_VIOL_OUT_OF_SLOT : Fld := { base := 0x100108, s1 := 0x10, n1 := 8, hi := 15, lo := 0, warm := .kept, cnt := true }
/-- Frames blocked under check 1 of R363, saturating (R374, spec/13_forme_bus.md). -/
def FB_BR_VIOL2_QUAR_BLOCK : Fld := { base := 0x10010c, s1 := 0x10, n1 := 8, hi := 31, lo := 16, warm := .kept, cnt := true }
/-- OVERLONG violations, saturating (R374, spec/13_forme_bus.md). -/
def FB_BR_VIOL2_OVERLONG : Fld := { base := 0x10010c, s1 := 0x10, n1 := 8, hi := 15, lo := 0, warm := .kept, cnt := true }
/-- Receive: MISSED under R372. Transmit: NOT_SENT_CNT, saturating (R374, spec/13_forme_bus.md). -/
def FB_FRM_STAT_COUNT : Fld := { base := 0x101000, s1 := 0x4, n1 := 1024, hi := 31, lo := 16, cnt := true }
/-- Receive: as R372. Transmit: reads 0 (R374, spec/13_forme_bus.md). -/
def FB_FRM_STAT_CYCLE : Fld := { base := 0x101000, s1 := 0x4, n1 := 1024, hi := 15, lo := 8 }
/-- Transmit: 1 when the latest opportunity was not sent (R374, spec/13_forme_bus.md). -/
def FB_FRM_STAT_NOT_SENT : Fld := { base := 0x101000, s1 := 0x4, n1 := 1024, hi := 5, lo := 5 }
/-- Receive: bits [4:0] of the status word. Transmit: [0] = PENDING (R374, spec/13_forme_bus.md). -/
def FB_FRM_STAT_STATUS : Fld := { base := 0x101000, s1 := 0x4, n1 := 1024, hi := 4, lo := 0 }
/-- 0 = none, 2 = 100 Mbit/s, 3 = 1000 Mbit/s. 1 is never read (R400, spec/14_train_network.md). -/
def NW_PORT_STAT_SPEED : Fld := { base := 0x120000, s1 := 0x4, n1 := 5, hi := 2, lo := 1 }
/-- 1: link up (R400, spec/14_train_network.md). -/
def NW_PORT_STAT_LINK : Fld := { base := 0x120000, s1 := 0x4, n1 := 5, hi := 0, lo := 0 }
/-- Transit frames discarded under R380, saturating (R400, spec/14_train_network.md). -/
def NW_PORT_CNT_BUF_DROP : Fld := { base := 0x120020, s1 := 0x4, n1 := 5, hi := 31, lo := 16, warm := .kept, cnt := true }
/-- Frames discarded under R375, saturating (R400, spec/14_train_network.md). -/
def NW_PORT_CNT_FCS_ERR : Fld := { base := 0x120020, s1 := 0x4, n1 := 5, hi := 15, lo := 0, warm := .kept, cnt := true }
/-- IPv4 address of the plane's endpoint, most significant octet in [31:24] (R400, spec/14_train_network.md). -/
def NW_IP_ADDR : Fld := { base := 0x120100, s1 := 0x4, n1 := 2, acc := .rws, por := .table, cold := .table, warm := .table }
/-- Plane B prefix length, 8 to 30 (R400, spec/14_train_network.md). -/
def NW_NET_CFG_PREFIX_B : Fld := { base := 0x120108, hi := 11, lo := 6, acc := .rws, por := .table, cold := .table, warm := .table, legal := .range 8 30 }
/-- Plane A prefix length, 8 to 30 (R400, spec/14_train_network.md). -/
def NW_NET_CFG_PREFIX_A : Fld := { base := 0x120108, hi := 5, lo := 0, acc := .rws, por := .table, cold := .table, warm := .table, legal := .range 8 30 }
/-- VID of the module's frames on plane B. 0: untagged (R400, spec/14_train_network.md). -/
def NW_VID_VID_B : Fld := { base := 0x12010c, hi := 27, lo := 16, acc := .rws, por := .table, cold := .table, warm := .table }
/-- VID of the module's frames on plane A. 0: untagged (R400, spec/14_train_network.md). -/
def NW_VID_VID_A : Fld := { base := 0x12010c, hi := 11, lo := 0, acc := .rws, por := .table, cold := .table, warm := .table }
/-- Topography counter under R386. 0: any value accepted (R400, spec/14_train_network.md). -/
def NW_TOPO_CNT : Fld := { base := 0x120110, s1 := 0x4, n1 := 2, acc := .rws }
/-- Delay_Req interval exponent, signed, −4 to +4. Default 0 (R400, spec/14_train_network.md). -/
def NW_PTP_CFG_LOG_DREQ : Fld := { base := 0x120120, hi := 15, lo := 12, acc := .rws, por := .table, cold := .table, warm := .table, legal := .signed 4 4 4 }
/-- 0 = UDP and IPv4, 1 = IEEE 802.3 (R400, spec/14_train_network.md). -/
def NW_PTP_CFG_TRANSPORT : Fld := { base := 0x120120, hi := 9, lo := 9, acc := .rws, por := .table, cold := .table, warm := .table }
/-- 0 = A, 1 = B (R400, spec/14_train_network.md). -/
def NW_PTP_CFG_PREF_PLANE : Fld := { base := 0x120120, hi := 8, lo := 8, acc := .rws, por := .table, cold := .table, warm := .table }
/-- 0 to 127 (R400, spec/14_train_network.md). -/
def NW_PTP_CFG_DOMAIN : Fld := { base := 0x120120, hi := 7, lo := 0, acc := .rws, por := .table, cold := .table, warm := .table, legal := .range 0 127 }
/-- 1: the selected master is two-step (R400, spec/14_train_network.md). -/
def NW_PTP_STAT_TWO_STEP : Fld := { base := 0x120124, hi := 4, lo := 4 }
/-- Plane in use: 0 = A, 1 = B (R400, spec/14_train_network.md). -/
def NW_PTP_STAT_PLANE : Fld := { base := 0x120124, hi := 3, lo := 3 }
/-- 0 = INITIALIZING, 1 = LISTENING, 2 = UNCALIBRATED, 3 = SLAVE, 4 = FAULTY (R400, spec/14_train_network.md). -/
def NW_PTP_STAT_STATE : Fld := { base := 0x120124, hi := 2, lo := 0 }
/-- d of R384 in ns, saturating (R400, spec/14_train_network.md). -/
def NW_PTP_MPD : Fld := { base := 0x120128 }
/-- clockIdentity of the selected grandmaster, bytes 0 to 3, byte 0 in [7:0] (R400, spec/14_train_network.md). -/
def NW_PTP_GM_LO : Fld := { base := 0x12012c }
/-- Bytes 4 to 7. Coherent with GM_LO under R42 (R400, spec/14_train_network.md). -/
def NW_PTP_GM_HI : Fld := { base := 0x120130 }
/-- 0 = A1, 1 = A2, 2 = B1, 3 = B2 (R400, spec/14_train_network.md). -/
def NW_MIRROR_PORT : Fld := { base := 0x120140, hi := 2, lo := 1, acc := .rw }
/-- 1: mirror under R400 (R400, spec/14_train_network.md). -/
def NW_MIRROR_EN : Fld := { base := 0x120140, hi := 0, lo := 0, acc := .rw }
/-- 1: mirrored frames were discarded (R400, spec/14_train_network.md). -/
def NW_FLAGS_MIRROR_DROP : Fld := { base := 0x120150, hi := 10, lo := 10, acc := .w1c, warm := .kept }
/-- 1: NW_MD_ERR_CNT increased (R400, spec/14_train_network.md). -/
def NW_FLAGS_MD_ERR : Fld := { base := 0x120150, hi := 9, lo := 9, acc := .w1c, warm := .kept }
/-- 1: the PTP port changed plane (R400, spec/14_train_network.md). -/
def NW_FLAGS_PTP_PLANE_CHG : Fld := { base := 0x120150, hi := 8, lo := 8, acc := .w1c, warm := .kept }
/-- 1: a copy was not sent for an unresolved destination (R400, spec/14_train_network.md). -/
def NW_FLAGS_ARP_FAIL : Fld := { base := 0x120150, hi := 7, lo := 7, acc := .w1c, warm := .kept }
/-- 1: a safe copy was not sent under R395 (R400, spec/14_train_network.md). -/
def NW_FLAGS_SDT_TX_ERR : Fld := { base := 0x120150, hi := 6, lo := 6, acc := .w1c, warm := .kept }
/-- 1: a safe copy failed a check of R396 (R400, spec/14_train_network.md). -/
def NW_FLAGS_SDT_FAIL : Fld := { base := 0x120150, hi := 5, lo := 5, acc := .w1c, warm := .kept }
/-- 1: a copy was discarded for its topography counters (R400, spec/14_train_network.md). -/
def NW_FLAGS_TOPO_DISC : Fld := { base := 0x120150, hi := 4, lo := 4, acc := .w1c, warm := .kept }
/-- 1: a copy was DROPPED (R400, spec/14_train_network.md). -/
def NW_FLAGS_DROPPED : Fld := { base := 0x120150, hi := 3, lo := 3, acc := .w1c, warm := .kept }
/-- 1: a copy was LATE (R400, spec/14_train_network.md). -/
def NW_FLAGS_LATE : Fld := { base := 0x120150, hi := 2, lo := 2, acc := .w1c, warm := .kept }
/-- 1: a signal map was not applied (R400, spec/14_train_network.md). -/
def NW_FLAGS_MAP_ERR : Fld := { base := 0x120150, hi := 1, lo := 1, acc := .w1c, warm := .kept }
/-- 1: an entry was treated as unused under R387 (R400, spec/14_train_network.md). -/
def NW_FLAGS_TABLE_ERR : Fld := { base := 0x120150, hi := 0, lo := 0, acc := .w1c, warm := .kept }
/-- Duplicates under R392 and R396, saturating (R400, spec/14_train_network.md). -/
def NW_DUP_CNT : Fld := { base := 0x120160, warm := .kept, cnt := true }
/-- Copies discarded under R391, saturating (R400, spec/14_train_network.md). -/
def NW_RX_DISC_CNT : Fld := { base := 0x120164, warm := .kept, cnt := true }
/-- Topography discards, saturating (R400, spec/14_train_network.md). -/
def NW_TOPO_DISC_CNT : Fld := { base := 0x120168, warm := .kept, cnt := true }
/-- LATE copies, saturating (R400, spec/14_train_network.md). -/
def NW_LATE_CNT : Fld := { base := 0x12016c, warm := .kept, cnt := true }
/-- DROPPED copies, saturating (R400, spec/14_train_network.md). -/
def NW_DROP_CNT : Fld := { base := 0x120170, warm := .kept, cnt := true }
/-- Safe copies rejected under R396, saturating (R400, spec/14_train_network.md). -/
def NW_SDT_REJ_CNT : Fld := { base := 0x120174, warm := .kept, cnt := true }
/-- MD errors under R398, saturating (R400, spec/14_train_network.md). -/
def NW_MD_ERR_CNT : Fld := { base := 0x120178, warm := .kept, cnt := true }
/-- Mirrored frames discarded, saturating (R400, spec/14_train_network.md). -/
def NW_MIRROR_DROP_CNT : Fld := { base := 0x12017c, warm := .kept, cnt := true }
/-- Latest status word of the entry, laid out as in R143 (R400, spec/14_train_network.md). -/
def NW_PD_STAT_STATUS : Fld := { base := 0x121000, s1 := 0x4, n1 := 2048 }
/-- Latest status word of the channel, laid out as in R143 (R400, spec/14_train_network.md). -/
def NW_SDT_STAT_STATUS : Fld := { base := 0x123000, s1 := 0x4, n1 := 256 }
/-- Latest status word of the session, laid out as in R143 (R400, spec/14_train_network.md). -/
def NW_MD_STAT_STATUS : Fld := { base := 0x123400, s1 := 0x4, n1 := 256 }
/-- CTXT limit in µs under R410. 0: no limit (R416, spec/15_can.md). -/
def CN_CTRL_LATE_LIM : Fld := { base := 0x140000, s1 := 0x4000, n1 := 4, hi := 31, lo := 16, acc := .rws, por := .table, cold := .table, warm := .table }
/-- 0 to 10, × 100 ms, under R411. 11 to 15 clamp to 10 (R416, spec/15_can.md). -/
def CN_CTRL_BO_DELAY : Fld := { base := 0x140000, s1 := 0x4000, n1 := 4, hi := 11, lo := 8, acc := .rws, por := .table, cold := .table, warm := .table, legal := .range 0 10 }
/-- 1: unmatched frames enter the FIFO under R406 (R416, spec/15_can.md). -/
def CN_CTRL_FIFO_EN : Fld := { base := 0x140000, s1 := 0x4000, n1 := 4, hi := 3, lo := 3, acc := .rws, por := .table, cold := .table, warm := .table }
/-- 1: rate detection under R404 (R416, spec/15_can.md). -/
def CN_CTRL_AUTO : Fld := { base := 0x140000, s1 := 0x4000, n1 := 4, hi := 2, lo := 2, acc := .rws, por := .table, cold := .table, warm := .table }
/-- 1: listen-only under R401 (R416, spec/15_can.md). -/
def CN_CTRL_LISTEN : Fld := { base := 0x140000, s1 := 0x4000, n1 := 4, hi := 1, lo := 1, acc := .rws, por := .table, cold := .table, warm := .table }
/-- 1: the controller takes part in the bus (R416, spec/15_can.md). -/
def CN_CTRL_EN : Fld := { base := 0x140000, s1 := 0x4000, n1 := 4, hi := 0, lo := 0, acc := .rws, por := .table, cold := .table, warm := .table }
/-- SJW − 1, nominal (R416, spec/15_can.md). -/
def CN_BT_SJWM1 : Fld := { base := 0x140004, s1 := 0x4000, n1 := 4, hi := 30, lo := 24, acc := .rws, por := .table, cold := .table, warm := .table }
/-- TSEG2 − 1, nominal (R416, spec/15_can.md). -/
def CN_BT_TSEG2M1 : Fld := { base := 0x140004, s1 := 0x4000, n1 := 4, hi := 22, lo := 16, acc := .rws, por := .table, cold := .table, warm := .table }
/-- TSEG1 − 1, nominal (R416, spec/15_can.md). -/
def CN_BT_TSEG1M1 : Fld := { base := 0x140004, s1 := 0x4000, n1 := 4, hi := 15, lo := 8, acc := .rws, por := .table, cold := .table, warm := .table }
/-- BRP − 1 (R416, spec/15_can.md). -/
def CN_BT_BRPM1 : Fld := { base := 0x140004, s1 := 0x4000, n1 := 4, hi := 4, lo := 0, acc := .rws, por := .table, cold := .table, warm := .table }
/-- SJW − 1, data (R416, spec/15_can.md). -/
def CN_DBT_SJWM1 : Fld := { base := 0x140008, s1 := 0x4000, n1 := 4, hi := 27, lo := 24, acc := .rws, por := .table, cold := .table, warm := .table }
/-- TSEG2 − 1, data (R416, spec/15_can.md). -/
def CN_DBT_TSEG2M1 : Fld := { base := 0x140008, s1 := 0x4000, n1 := 4, hi := 19, lo := 16, acc := .rws, por := .table, cold := .table, warm := .table }
/-- TSEG1 − 1, data (R416, spec/15_can.md). -/
def CN_DBT_TSEG1M1 : Fld := { base := 0x140008, s1 := 0x4000, n1 := 4, hi := 12, lo := 8, acc := .rws, por := .table, cold := .table, warm := .table }
/-- BRP − 1, data (R416, spec/15_can.md). -/
def CN_DBT_BRPM1 : Fld := { base := 0x140008, s1 := 0x4000, n1 := 4, hi := 4, lo := 0, acc := .rws, por := .table, cold := .table, warm := .table }
/-- ms under R416. 0: not produced (R416, spec/15_can.md). -/
def CN_SYNC_SYNC_PERIOD : Fld := { base := 0x14000c, s1 := 0x4000, n1 := 4, hi := 31, lo := 16, acc := .rws, por := .table, cold := .table, warm := .table }
/-- SYNC identifier. Default 0x080 (R416, spec/15_can.md). -/
def CN_SYNC_SYNC_ID : Fld := { base := 0x14000c, s1 := 0x4000, n1 := 4, hi := 10, lo := 0, acc := .rws, por := .table, cold := .table, warm := .table, dflt := 128 }
/-- Receive error counter, saturating at 255 (R416, spec/15_can.md). -/
def CN_STAT_REC : Fld := { base := 0x140010, s1 := 0x4000, n1 := 4, hi := 31, lo := 24 }
/-- Transmit error counter (R416, spec/15_can.md). -/
def CN_STAT_TEC : Fld := { base := 0x140010, s1 := 0x4000, n1 := 4, hi := 23, lo := 16 }
/-- Frames in the FIFO, 0 to 32 (R416, spec/15_can.md). -/
def CN_STAT_FIFO_FILL : Fld := { base := 0x140010, s1 := 0x4000, n1 := 4, hi := 13, lo := 8 }
/-- 1: a candidate was adopted since the latest start (R416, spec/15_can.md). -/
def CN_STAT_RATE_FOUND : Fld := { base := 0x140010, s1 := 0x4000, n1 := 4, hi := 4, lo := 4 }
/-- 1: listen-only in effect (R416, spec/15_can.md). -/
def CN_STAT_LISTEN_ONLY : Fld := { base := 0x140010, s1 := 0x4000, n1 := 4, hi := 3, lo := 3 }
/-- 0 = OFF, 1 = DETECT, 2 = ERROR_ACTIVE, 3 = ERROR_PASSIVE, 4 = BUS_OFF, 5 = RECOVERING (R416, spec/15_can.md). -/
def CN_STAT_STATE : Fld := { base := 0x140010, s1 := 0x4000, n1 := 4, hi := 2, lo := 0 }
/-- Frames discarded under R406 and R407, saturating (R416, spec/15_can.md). -/
def CN_CNT_RX_DISC : Fld := { base := 0x140014, s1 := 0x4000, n1 := 4, hi := 31, lo := 16, warm := .kept, cnt := true }
/-- Entries into bus-off, saturating (R416, spec/15_can.md). -/
def CN_CNT_BUS_OFF : Fld := { base := 0x140014, s1 := 0x4000, n1 := 4, hi := 15, lo := 0, warm := .kept, cnt := true }
/-- 1: an entry was treated as unused, or no candidate exists (R416, spec/15_can.md). -/
def CN_FLAGS_TABLE_ERR : Fld := { base := 0x140018, s1 := 0x4000, n1 := 4, hi := 7, lo := 7, acc := .w1c, warm := .kept }
/-- 1: a buffer lock lapsed under R408 (R416, spec/15_can.md). -/
def CN_FLAGS_LOCK_TMO : Fld := { base := 0x140018, s1 := 0x4000, n1 := 4, hi := 6, lo := 6, acc := .w1c, warm := .kept }
/-- 1: a rate was adopted (R416, spec/15_can.md). -/
def CN_FLAGS_RATE_FOUND : Fld := { base := 0x140018, s1 := 0x4000, n1 := 4, hi := 5, lo := 5, acc := .w1c, warm := .kept }
/-- 1: a CTXT frame was removed under R410 (R416, spec/15_can.md). -/
def CN_FLAGS_TX_MISSED : Fld := { base := 0x140018, s1 := 0x4000, n1 := 4, hi := 4, lo := 4, acc := .w1c, warm := .kept }
/-- 1: the FIFO overflowed (R416, spec/15_can.md). -/
def CN_FLAGS_FIFO_OVF : Fld := { base := 0x140018, s1 := 0x4000, n1 := 4, hi := 3, lo := 3, acc := .w1c, warm := .kept }
/-- 1: a frame matched nothing (R416, spec/15_can.md). -/
def CN_FLAGS_RX_DISC : Fld := { base := 0x140018, s1 := 0x4000, n1 := 4, hi := 2, lo := 2, acc := .w1c, warm := .kept }
/-- 1: error-passive was entered (R416, spec/15_can.md). -/
def CN_FLAGS_ERR_PASSIVE_SEEN : Fld := { base := 0x140018, s1 := 0x4000, n1 := 4, hi := 1, lo := 1, acc := .w1c, warm := .kept }
/-- 1: bus-off was entered (R416, spec/15_can.md). -/
def CN_FLAGS_BUS_OFF_SEEN : Fld := { base := 0x140018, s1 := 0x4000, n1 := 4, hi := 0, lo := 0, acc := .w1c, warm := .kept }
/-- RX: frames accepted. TX: frames sent. Saturating (R416, spec/15_can.md). -/
def CN_BUF_STAT_COUNT : Fld := { base := 0x140100, s1 := 0x4000, n1 := 4, s2 := 0x4, n2 := 64, hi := 31, lo := 16, warm := .kept, cnt := true }
/-- 1: a pending copy was replaced under R408. Cleared at release (R416, spec/15_can.md). -/
def CN_BUF_STAT_OVERWR : Fld := { base := 0x140100, s1 := 0x4000, n1 := 4, s2 := 0x4, n2 := 64, hi := 6, lo := 6 }
/-- 1: locked under R408 (R416, spec/15_can.md). -/
def CN_BUF_STAT_LOCKED : Fld := { base := 0x140100, s1 := 0x4000, n1 := 4, s2 := 0x4, n2 := 64, hi := 5, lo := 5 }
/-- RX PDO: timed out under R414 (R416, spec/15_can.md). -/
def CN_BUF_STAT_TIMEOUT : Fld := { base := 0x140100, s1 := 0x4000, n1 := 4, s2 := 0x4, n2 := 64, hi := 4, lo := 4 }
/-- RX PDO: latest frame short under R414 (R416, spec/15_can.md). -/
def CN_BUF_STAT_SHORT : Fld := { base := 0x140100, s1 := 0x4000, n1 := 4, s2 := 0x4, n2 := 64, hi := 3, lo := 3 }
/-- TX: removed under R410 (R416, spec/15_can.md). -/
def CN_BUF_STAT_MISSED : Fld := { base := 0x140100, s1 := 0x4000, n1 := 4, s2 := 0x4, n2 := 64, hi := 2, lo := 2 }
/-- TX: a frame is in progress (R416, spec/15_can.md). -/
def CN_BUF_STAT_IN_PROGRESS : Fld := { base := 0x140100, s1 := 0x4000, n1 := 4, s2 := 0x4, n2 := 64, hi := 1, lo := 1 }
/-- TX: a frame waits. RX: at least one frame accepted since COLD (R416, spec/15_can.md). -/
def CN_BUF_STAT_PENDING : Fld := { base := 0x140100, s1 := 0x4000, n1 := 4, s2 := 0x4, n2 := 64, hi := 0, lo := 0 }
/-- Descriptor word 0 under R144. A read locks the buffer under R408 (R416, spec/15_can.md). -/
def CN_HBUF_DESC0 : Fld := { base := 0x140400, s1 := 0x4000, n1 := 4, s2 := 0x80, n2 := 64 }
/-- Descriptor word 1 (R416, spec/15_can.md). -/
def CN_HBUF_DESC1 : Fld := { base := 0x140404, s1 := 0x4000, n1 := 4, s2 := 0x80, n2 := 64 }
/-- Descriptor words 2 to 16 (R416, spec/15_can.md). -/
def CN_HBUF_DATA : Fld := { base := 0x140408, s1 := 0x4000, n1 := 4, s2 := 0x4, n2 := 15 }
/-- Descriptor word 17. A read releases the lock under R408 (R416, spec/15_can.md). -/
def CN_HBUF_DESC17 : Fld := { base := 0x140444, s1 := 0x4000, n1 := 4, s2 := 0x80, n2 := 64 }
/-- Grant limit of R419 in µs, 10 to 5000. Default 500 (R431, spec/16_rack_bridge.md). -/
def BR_CFG_ARB_TMO : Fld := { base := 0x150000, hi := 31, lo := 16, acc := .rws, por := .table, cold := .table, warm := .table, legal := .range 10 5000, dflt := 500 }
/-- Bit k: SRB_IRQ_Nk raises EV(356 + k) (R431, spec/16_rack_bridge.md). -/
def BR_CFG_IRQ_EN : Fld := { base := 0x150000, hi := 3, lo := 0, acc := .rws, por := .table, cold := .table, warm := .table }
/-- Rack slot used in R419 (R431, spec/16_rack_bridge.md). -/
def BR_STAT_SLOT : Fld := { base := 0x150004, hi := 9, lo := 8, por := .other, cold := .other, warm := .other }
/-- Requests queued or open, 0 to 4 (R431, spec/16_rack_bridge.md). -/
def BR_STAT_QUEUE : Fld := { base := 0x150004, hi := 6, lo := 4 }
/-- 0 = NO_CLOCK, 1 = SRB_RESET, 2 = IDLE, 3 = ARBITRATING, 4 = CYCLE (R431, spec/16_rack_bridge.md). -/
def BR_STAT_STATE : Fld := { base := 0x150004, hi := 2, lo := 0 }
/-- 1: a request was completed under R423 (R431, spec/16_rack_bridge.md). -/
def BR_FLAGS_STALE : Fld := { base := 0x150008, hi := 5, lo := 5, acc := .w1c, warm := .kept }
/-- 1: a grant limit was reached (R431, spec/16_rack_bridge.md). -/
def BR_FLAGS_ARB_TMO : Fld := { base := 0x150008, hi := 4, lo := 4, acc := .w1c, warm := .kept }
/-- 1: a TIMEOUT result occurred (R431, spec/16_rack_bridge.md). -/
def BR_FLAGS_TIMEOUT : Fld := { base := 0x150008, hi := 3, lo := 3, acc := .w1c, warm := .kept }
/-- 1: a FAR_ERROR result occurred (R431, spec/16_rack_bridge.md). -/
def BR_FLAGS_FAR_ERROR : Fld := { base := 0x150008, hi := 2, lo := 2, acc := .w1c, warm := .kept }
/-- 1: SRB_RST_N was asserted (R431, spec/16_rack_bridge.md). -/
def BR_FLAGS_SRB_RESET_SEEN : Fld := { base := 0x150008, hi := 1, lo := 1, acc := .w1c, warm := .kept }
/-- 1: SRB_CLK was lost (R431, spec/16_rack_bridge.md). -/
def BR_FLAGS_CLK_LOST : Fld := { base := 0x150008, hi := 0, lo := 0, acc := .w1c, warm := .kept }
/-- TIMEOUT results, saturating (R431, spec/16_rack_bridge.md). -/
def BR_ERR_CNT_TMO_CNT : Fld := { base := 0x15000c, hi := 31, lo := 16, warm := .kept, cnt := true }
/-- FAR_ERROR and TARGET_RESET results, saturating (R431, spec/16_rack_bridge.md). -/
def BR_ERR_CNT_FAR_CNT : Fld := { base := 0x15000c, hi := 15, lo := 0, warm := .kept, cnt := true }
/-- Transactions ending with OK, saturating (R431, spec/16_rack_bridge.md). -/
def BR_XFER_CNT_COUNT : Fld := { base := 0x150010, warm := .kept, cnt := true }
/-- Far status byte. 0 when none was received (R431, spec/16_rack_bridge.md). -/
def BR_LAST_ERR_STATUS : Fld := { base := 0x150014, hi := 31, lo := 24, warm := .kept }
/-- Result code of R140 (R431, spec/16_rack_bridge.md). -/
def BR_LAST_ERR_CODE : Fld := { base := 0x150014, hi := 10, lo := 8, warm := .kept }
/-- 1: BWR (R431, spec/16_rack_bridge.md). -/
def BR_LAST_ERR_WR : Fld := { base := 0x150014, hi := 7, lo := 7, warm := .kept }
/-- Width code of R146 (R431, spec/16_rack_bridge.md). -/
def BR_LAST_ERR_WID : Fld := { base := 0x150014, hi := 6, lo := 5, warm := .kept }
/-- Window (R431, spec/16_rack_bridge.md). -/
def BR_LAST_ERR_WIN : Fld := { base := 0x150014, hi := 2, lo := 0, warm := .kept }
/-- SRB byte address a (R431, spec/16_rack_bridge.md). -/
def BR_LAST_ERR_ADDR : Fld := { base := 0x150018, warm := .kept }
/-- SRB byte address of offset 0, a multiple of 4 (R431, spec/16_rack_bridge.md). -/
def BR_WIN_BASE_BASE : Fld := { base := 0x150100, s1 := 0x10, n1 := 8, acc := .rws, por := .table, cold := .table, warm := .table, legal := .mult4 0 0xFFFFFFFC }
/-- Window size in bytes, a multiple of 4, 4 to 0x0100_0000 (R431, spec/16_rack_bridge.md). -/
def BR_WIN_SIZE_SIZE : Fld := { base := 0x150104, s1 := 0x10, n1 := 8, acc := .rws, por := .table, cold := .table, warm := .table, legal := .mult4 4 0x1000000 }
/-- Answer limit of R420 in µs, 1 to 1000. Default 100 (R431, spec/16_rack_bridge.md). -/
def BR_WIN_CFG_TMO : Fld := { base := 0x150108, s1 := 0x10, n1 := 8, hi := 31, lo := 16, acc := .rws, por := .table, cold := .table, warm := .table, legal := .range 1 1000, dflt := 100 }
/-- 0 = address-invariant, 1 = data-invariant, under R422 (R431, spec/16_rack_bridge.md). -/
def BR_WIN_CFG_LANES : Fld := { base := 0x150108, s1 := 0x10, n1 := 8, hi := 1, lo := 1, acc := .rws, por := .table, cold := .table, warm := .table }
/-- 1: the window is enabled (R431, spec/16_rack_bridge.md). -/
def BR_WIN_CFG_EN : Fld := { base := 0x150108, s1 := 0x10, n1 := 8, hi := 0, lo := 0, acc := .rws, por := .table, cold := .table, warm := .table }
/-- SLOT_ID of the holder. 0xFF: none known (R447, spec/17_module_redundancy.md). -/
def RD_STATE_HOLDER : Fld := { base := 0x160000, hi := 19, lo := 12, por := (.val 255), cold := (.val 255), warm := (.val 255) }
/-- 1: equal ranks under R445 (R447, spec/17_module_redundancy.md). -/
def RD_STATE_CMP_EQUAL : Fld := { base := 0x160000, hi := 11, lo := 11 }
/-- 1: comparison fault under R444 (R447, spec/17_module_redundancy.md). -/
def RD_STATE_CMP_FAULT : Fld := { base := 0x160000, hi := 10, lo := 10 }
/-- Under R445 and R446 (R447, spec/17_module_redundancy.md). -/
def RD_STATE_BARRED : Fld := { base := 0x160000, hi := 9, lo := 9 }
/-- 1: leased effects are driven (R447, spec/17_module_redundancy.md). -/
def RD_STATE_ACTING : Fld := { base := 0x160000, hi := 8, lo := 8 }
/-- 0 = SOLITARY, 1 = LISTENING, 2 = FOLLOWER, 3 = CLAIMING, 4 = HOLDER (R447, spec/17_module_redundancy.md). -/
def RD_STATE_ROLE : Fld := { base := 0x160000, hi := 2, lo := 0, por := (.val 1), cold := (.val 1), warm := (.val 1) }
/-- 1 to 15. Default 3. 0 clamps to 1 (R447, spec/17_module_redundancy.md). -/
def RD_CFG_CMP_RUN : Fld := { base := 0x160004, hi := 19, lo := 16, acc := .rws, por := .table, cold := .table, warm := .table, legal := .range 1 15, dflt := 3 }
/-- Bit 0 = plane A, bit 1 = plane B, bit 2 = inter-module links. 0 clamps to 0b011 (R447, spec/17_module_redundancy.md). -/
def RD_CFG_PATHS : Fld := { base := 0x160004, hi := 12, lo := 10, acc := .rws, por := .table, cold := .table, warm := .table, legal := .zeroTo 3 }
/-- 1: member of a lease group (R447, spec/17_module_redundancy.md). -/
def RD_CFG_EN : Fld := { base := 0x160004, hi := 8, lo := 8, acc := .rws, por := .table, cold := .table, warm := .table }
/-- 0 to 254. 255 clamps to 254 (R447, spec/17_module_redundancy.md). -/
def RD_CFG_SLOT_ID : Fld := { base := 0x160004, hi := 7, lo := 0, acc := .rws, por := .table, cold := .table, warm := .table, legal := .range 0 254 }
/-- In 10 µs, 0 to 4 095. Default 250 (R447, spec/17_module_redundancy.md). -/
def RD_TIMING_DRIFT : Fld := { base := 0x160008, hi := 27, lo := 16, acc := .rws, por := .table, cold := .table, warm := .table, dflt := 250 }
/-- In ms, 20 to 5 000. Default 100 (R447, spec/17_module_redundancy.md). -/
def RD_TIMING_STEEP : Fld := { base := 0x160008, hi := 12, lo := 0, acc := .rws, por := .table, cold := .table, warm := .table, legal := .range 20 5000, dflt := 100 }
/-- Lease group identifier (R447, spec/17_module_redundancy.md). -/
def RD_GROUP_ID : Fld := { base := 0x16000c, acc := .rws, por := .table, cold := .table, warm := .table }
/-- SLOT_ID for HANDOVER (R447, spec/17_module_redundancy.md). -/
def RD_CMD_SUCCESSOR : Fld := { base := 0x160010, hi := 15, lo := 8, acc := .wo }
/-- 0 = none, 1 = RELEASE, 2 = HANDOVER, 3 = BAR, 4 = UNBAR, under R446. 5 to 7 clamp to 4 (R447, spec/17_module_redundancy.md). -/
def RD_CMD_OP : Fld := { base := 0x160010, hi := 2, lo := 0, acc := .wo }
/-- Highest EPOCH known, under R437 (R447, spec/17_module_redundancy.md). -/
def RD_EPOCH_EPOCH : Fld := { base := 0x160014 }
/-- 1: a comparison pair was unused under R444 (R447, spec/17_module_redundancy.md). -/
def RD_FLAGS_TABLE_ERR : Fld := { base := 0x160018, hi := 5, lo := 5, acc := .w1c, warm := .kept }
/-- 1: a second holder was resolved under R440 (R447, spec/17_module_redundancy.md). -/
def RD_FLAGS_DUAL_HOLDER : Fld := { base := 0x160018, hi := 4, lo := 4, acc := .w1c, warm := .kept }
/-- 1: a message with another STEEP arrived (R447, spec/17_module_redundancy.md). -/
def RD_FLAGS_CFG_MISMATCH : Fld := { base := 0x160018, hi := 3, lo := 3, acc := .w1c, warm := .kept }
/-- 1: a duplicate SLOT_ID was seen under R432 (R447, spec/17_module_redundancy.md). -/
def RD_FLAGS_DUP_ID : Fld := { base := 0x160018, hi := 2, lo := 2, acc := .w1c, warm := .kept }
/-- 1: the module yielded under R445 (R447, spec/17_module_redundancy.md). -/
def RD_FLAGS_YIELDED : Fld := { base := 0x160018, hi := 1, lo := 1, acc := .w1c, warm := .kept }
/-- 1: acting stopped under R436 (R447, spec/17_module_redundancy.md). -/
def RD_FLAGS_LOST : Fld := { base := 0x160018, hi := 0, lo := 0, acc := .w1c, warm := .kept }
/-- Takes by this module, saturating (R447, spec/17_module_redundancy.md). -/
def RD_TAKE_CNT : Fld := { base := 0x160020, warm := .kept, cnt := true }
/-- Mismatches under R444, saturating (R447, spec/17_module_redundancy.md). -/
def RD_MISMATCH_CNT : Fld := { base := 0x160024, warm := .kept, cnt := true }
/-- Publications not compared, saturating (R447, spec/17_module_redundancy.md). -/
def RD_NOCMP_CNT : Fld := { base := 0x160028, warm := .kept, cnt := true }
/-- Messages discarded under R434, saturating (R447, spec/17_module_redundancy.md). -/
def RD_RX_DISC_CNT : Fld := { base := 0x16002c, warm := .kept, cnt := true }
/-- Switch commands discarded under R442, saturating (R447, spec/17_module_redundancy.md). -/
def RD_GATE_CNT : Fld := { base := 0x160030, warm := .kept, cnt := true }
/-- Under R435 (R447, spec/17_module_redundancy.md). -/
def RD_MEMBER_ALIVE : Fld := { base := 0x160100, s1 := 0x8, n1 := 3, hi := 15, lo := 15 }
/-- Latest RANK received (R447, spec/17_module_redundancy.md). -/
def RD_MEMBER_RANK : Fld := { base := 0x160100, s1 := 0x8, n1 := 3, hi := 14, lo := 12 }
/-- FLAGS byte bits [3:0] of the latest message (R447, spec/17_module_redundancy.md). -/
def RD_MEMBER_FLAGS : Fld := { base := 0x160100, s1 := 0x8, n1 := 3, hi := 11, lo := 8 }
/-- Member, 0xFF when the entry is empty (R447, spec/17_module_redundancy.md). -/
def RD_MEMBER_SLOT_ID : Fld := { base := 0x160100, s1 := 0x8, n1 := 3, hi := 7, lo := 0, por := (.val 255), cold := (.val 255), warm := (.val 255) }
/-- LT in µs of the latest message from the member, bits [31:0] (R447, spec/17_module_redundancy.md). -/
def RD_MEMBER_LAST_US : Fld := { base := 0x160104, s1 := 0x8, n1 := 3 }
/-- Low 16 bits of the counter last compared (R447, spec/17_module_redundancy.md). -/
def RD_CMP_STAT_LAST_SEQ : Fld := { base := 0x160200, s1 := 0x4, n1 := 64, hi := 31, lo := 16 }
/-- 0 = none, 1 = MATCH, 2 = MISMATCH, 3 = NOT_COMPARED (R447, spec/17_module_redundancy.md). -/
def RD_CMP_STAT_LAST : Fld := { base := 0x160200, s1 := 0x4, n1 := 64, hi := 9, lo := 8 }
/-- Current mismatch run under R444 (R447, spec/17_module_redundancy.md). -/
def RD_CMP_STAT_RUN : Fld := { base := 0x160200, s1 := 0x4, n1 := 64, hi := 3, lo := 0 }
/-- 1: background erase after a clear is running (R458, spec/18_event_recorder.md). -/
def ER_STATE_ERASING : Fld := { base := 0x170000, hi := 2, lo := 2 }
/-- 0 = RECOVERING, 1 = READY, 2 = HOLDUP (R458, spec/18_event_recorder.md). -/
def ER_STATE_STATE : Fld := { base := 0x170000, hi := 1, lo := 0, cold := (.val 1), warm := (.val 1) }
/-- Bytes in staging under R452 (R458, spec/18_event_recorder.md). -/
def ER_STAGE_BYTES : Fld := { base := 0x170004, cold := .kept, warm := .kept }
/-- Oldest readable SEQ, and the SEQ of the next record. Each 64-bit value is coherent under R42 (R458, spec/18_event_recorder.md). -/
def ER_FIRST_SEQ_SEQ : Fld := { base := 0x170008, s1 := 0x4, n1 := 2, por := .other, cold := .kept, warm := .kept }
/-- Oldest readable SEQ, and the SEQ of the next record. Each 64-bit value is coherent under R42 (R458, spec/18_event_recorder.md). -/
def ER_NEXT_SEQ_SEQ : Fld := { base := 0x170010, s1 := 0x4, n1 := 2, por := .other, cold := .kept, warm := .kept }
/-- 1: a block was erased by wrap under R451 (R458, spec/18_event_recorder.md). -/
def ER_FLAGS_WRAP : Fld := { base := 0x170018, hi := 4, lo := 4, acc := .w1c, warm := .kept }
/-- 1: a clear was refused under R458 (R458, spec/18_event_recorder.md). -/
def ER_FLAGS_CLR_FAIL : Fld := { base := 0x170018, hi := 3, lo := 3, acc := .w1c, warm := .kept }
/-- 1: a torn record was found or written (R458, spec/18_event_recorder.md). -/
def ER_FLAGS_TORN : Fld := { base := 0x170018, hi := 2, lo := 2, acc := .w1c, warm := .kept }
/-- 1: a block record was discarded (R458, spec/18_event_recorder.md). -/
def ER_FLAGS_DROP_HW : Fld := { base := 0x170018, hi := 1, lo := 1, acc := .w1c, warm := .kept }
/-- 1: a program record was discarded (R458, spec/18_event_recorder.md). -/
def ER_FLAGS_DROP_PROG : Fld := { base := 0x170018, hi := 0, lo := 0, acc := .w1c, warm := .kept }
/-- Block records discarded, saturating (R458, spec/18_event_recorder.md). -/
def ER_DROP_CNT_HW : Fld := { base := 0x17001c, hi := 31, lo := 16, warm := .kept, cnt := true }
/-- Program records discarded, saturating (R458, spec/18_event_recorder.md). -/
def ER_DROP_CNT_PROG : Fld := { base := 0x17001c, hi := 15, lo := 0, warm := .kept, cnt := true }
/-- Refused clears; blocks erased by wrap. Saturating (R458, spec/18_event_recorder.md). -/
def ER_CLR_FAIL_WRAP_CNT_COUNT : Fld := { base := 0x170020, s1 := 0x4, n1 := 2, warm := .kept, cnt := true }
/-- Wanted SEQ under R456. On FOUND it reads the SEQ of the record held (R458, spec/18_event_recorder.md). -/
def ER_RD_SEQ_SEQ : Fld := { base := 0x170100, s1 := 0x40, n1 := 2, s2 := 0x4, n2 := 2, acc := .rw }
/-- 1: start a fetch (R458, spec/18_event_recorder.md). -/
def ER_RD_STAT_FETCH : Fld := { base := 0x170108, s1 := 0x40, n1 := 2, hi := 31, lo := 31, acc := .wo }
/-- 0 = IDLE, 1 = BUSY, 2 = FOUND, 3 = NOT_FOUND, 4 = TARGET_RESET (R458, spec/18_event_recorder.md). -/
def ER_RD_STAT_STAT : Fld := { base := 0x170108, s1 := 0x40, n1 := 2, hi := 2, lo := 0 }
/-- Word k holds bytes 4k to 4k + 3 of the fetched record (R458, spec/18_event_recorder.md). -/
def ER_RD_BUF_DATA : Fld := { base := 0x171000, s1 := 0x1000, n1 := 2, s2 := 0x4, n2 := 1024 }
/-- UPTO bits [31:0] under R458 (R458, spec/18_event_recorder.md). -/
def ER_CLR_SCOPE_UPTO_LO : Fld := { base := 0x170200, acc := .rw }
/-- 1: clear every record (R458, spec/18_event_recorder.md). -/
def ER_CLR_SCOPE_ALL : Fld := { base := 0x170204, hi := 31, lo := 31, acc := .rw }
/-- UPTO bits [62:32] (R458, spec/18_event_recorder.md). -/
def ER_CLR_SCOPE_UPTO_HI : Fld := { base := 0x170204, hi := 30, lo := 0, acc := .rw }
/-- Nonce n, or response, byte 0 in [7:0] of the first word. The challenge reads 0 while none is open (R458, spec/18_event_recorder.md). -/
def ER_CLR_CHAL_BYTES : Fld := { base := 0x170210, s1 := 0x4, n1 := 4 }
/-- Nonce n, or response, byte 0 in [7:0] of the first word. The challenge reads 0 while none is open (R458, spec/18_event_recorder.md). -/
def ER_CLR_RESP_BYTES : Fld := { base := 0x170220, s1 := 0x4, n1 := 4, acc := .wo }
/-- 1: submit the response under R458 (R458, spec/18_event_recorder.md). -/
def ER_CLR_CMD_GO : Fld := { base := 0x170230, hi := 1, lo := 1, acc := .wo }
/-- 1: open a challenge. If written together with GO, GO acts on the challenge that was open before (R458, spec/18_event_recorder.md). -/
def ER_CLR_CMD_REQ : Fld := { base := 0x170230, hi := 0, lo := 0, acc := .wo }
/-- Ride-through in 0.1 ms, 0 to 100, under R462 (R489, spec/19_power_and_ageing.md). -/
def PW_STATE_RIDE : Fld := { base := 0x180000, hi := 19, lo := 12, cold := .kept, warm := .kept }
/-- Under R466 (R489, spec/19_power_and_ageing.md). -/
def PW_STATE_HOLD_READY : Fld := { base := 0x180000, hi := 11, lo := 11, cold := .kept, warm := .kept }
/-- 1: the main supply is present (R489, spec/19_power_and_ageing.md). -/
def PW_STATE_SUPPLY_OK : Fld := { base := 0x180000, hi := 10, lo := 10, por := (.val 1), cold := .kept, warm := .kept }
/-- Under R477 (R489, spec/19_power_and_ageing.md). -/
def PW_STATE_HEAT_LEVEL : Fld := { base := 0x180000, hi := 9, lo := 8, cold := .kept, warm := .kept }
/-- Code of R460 (R489, spec/19_power_and_ageing.md). -/
def PW_STATE_STATE : Fld := { base := 0x180000, hi := 2, lo := 0, cold := .kept, warm := .kept }
/-- 0 = none, 1 = STABLE, 2 = TOPUP, 3 = UNSTABLE, 4 = SLEEP, under R461. Values 5 to 7 clamp to 4 under R53 (R489, spec/19_power_and_ageing.md). -/
def PW_CMD_OP : Fld := { base := 0x180004, hi := 2, lo := 0, acc := .wo }
/-- OP of the latest command (R489, spec/19_power_and_ageing.md). -/
def PW_CMD_STAT_OP : Fld := { base := 0x180008, hi := 6, lo := 4, cold := .kept, warm := .kept }
/-- 0 = none, 1 = DONE, 2 = REFUSED_STATE, 3 = ABANDONED (R489, spec/19_power_and_ageing.md). -/
def PW_CMD_STAT_LAST : Fld := { base := 0x180008, hi := 1, lo := 0, cold := .kept, warm := .kept }
/-- Grant in mJ for STABLE and TOPUP. Guarded by Q05 (R489, spec/19_power_and_ageing.md). -/
def PW_BUDGET_GRANT : Fld := { base := 0x18000c, acc := .rw, cold := .kept, warm := .kept }
/-- B in mJ under R473. "saved" is the valid save of R464, or 0 (R489, spec/19_power_and_ageing.md). -/
def PW_BALANCE : Fld := { base := 0x180010, por := .other, cold := .kept, warm := .kept }
/-- H in mJ under R476. "saved" is the valid save of R464, or H_MAX (R489, spec/19_power_and_ageing.md). -/
def PW_HEAT : Fld := { base := 0x180014, por := .other, cold := .kept, warm := .kept }
/-- Heat admit mask under R477 (R489, spec/19_power_and_ageing.md). -/
def PW_HEAT_MASK : Fld := { base := 0x180018, hi := 31, lo := 16, por := (.val 0xffff), cold := .kept, warm := .kept }
/-- Energy admit mask under R474 (R489, spec/19_power_and_ageing.md). -/
def PW_ENERGY_MASK : Fld := { base := 0x180018, hi := 15, lo := 0, por := (.val 0xffff), cold := .kept, warm := .kept }
/-- Main-supply power in 10 mW (R489, spec/19_power_and_ageing.md). -/
def PW_POWER : Fld := { base := 0x18001c, hi := 31, lo := 16 }
/-- Main-supply voltage in 10 mV (R489, spec/19_power_and_ageing.md). -/
def PW_VOLTAGE : Fld := { base := 0x18001c, hi := 15, lo := 0 }
/-- p_diss of R476 in 10 mW (R489, spec/19_power_and_ageing.md). -/
def PW_P_DISS : Fld := { base := 0x180020, hi := 31, lo := 16 }
/-- t_b in 0.1 °C, INT16 (R489, spec/19_power_and_ageing.md). -/
def PW_T_BOARD : Fld := { base := 0x180020, hi := 15, lo := 0 }
/-- W, 10 to 95. Default 62 (R489, spec/19_power_and_ageing.md). -/
def PW_CFG_P_LIM : Fld := { base := 0x180024, hi := 31, lo := 24, acc := .rws, por := .table, cold := .table, warm := .table, legal := .range 10 95, dflt := 62 }
/-- °C, 40 to 125. Default 105 (R489, spec/19_power_and_ageing.md). -/
def PW_CFG_T_MAX : Fld := { base := 0x180024, hi := 23, lo := 16, acc := .rws, por := .table, cold := .table, warm := .table, legal := .range 40 125, dflt := 105 }
/-- °C, 30 to 124. Default 90 (R489, spec/19_power_and_ageing.md). -/
def PW_CFG_T_KNEE : Fld := { base := 0x180024, hi := 15, lo := 8, acc := .rws, por := .table, cold := .table, warm := .table, legal := .range 30 124, dflt := 90 }
/-- 1: request SLEEP when B reaches 0, under R475 (R489, spec/19_power_and_ageing.md). -/
def PW_CFG_ON_EMPTY : Fld := { base := 0x180024, hi := 0, lo := 0, acc := .rws, por := .table, cold := .table, warm := .table }
/-- Bit g: DI wake from group g under R469 (R489, spec/19_power_and_ageing.md). -/
def PW_WAKE_GRP : Fld := { base := 0x180028, hi := 15, lo := 8, acc := .rws, por := .table, cold := .table, warm := .table }
/-- Enable bits of R469 (R489, spec/19_power_and_ageing.md). -/
def PW_SRC : Fld := { base := 0x180028, hi := 7, lo := 0, acc := .rws, por := .table, cold := .table, warm := .table }
/-- Wake timer, 1 to 604 800 s (R489, spec/19_power_and_ageing.md). -/
def PW_SECONDS : Fld := { base := 0x18002c, hi := 19, lo := 0, acc := .rws, por := .table, cold := .table, warm := .table, legal := .range 1 604800 }
/-- 1: replayed under R470 (R489, spec/19_power_and_ageing.md). -/
def PW_LAST_WAKE_REPLAYED : Fld := { base := 0x180030, hi := 31, lo := 31, cold := .kept, warm := .kept }
/-- Bit c − 1: code c latched in the first µs (R489, spec/19_power_and_ageing.md). -/
def PW_LAST_WAKE_SOURCES : Fld := { base := 0x180030, hi := 27, lo := 16, cold := .kept, warm := .kept }
/-- ARG of SOURCE under R469 (R489, spec/19_power_and_ageing.md). -/
def PW_LAST_WAKE_ARG : Fld := { base := 0x180030, hi := 15, lo := 8, cold := .kept, warm := .kept }
/-- Lowest code latched. 0: no wake since POR (R489, spec/19_power_and_ageing.md). -/
def PW_LAST_WAKE_SOURCE : Fld := { base := 0x180030, hi := 3, lo := 0, cold := .kept, warm := .kept }
/-- STAMP, LT in µs, bits [31:0] (R489, spec/19_power_and_ageing.md). -/
def PW_LAST_WAKE_STAMP_LO : Fld := { base := 0x180034, cold := .kept, warm := .kept }
/-- Bits [63:32], coherent under R42 (R489, spec/19_power_and_ageing.md). -/
def PW_LAST_WAKE_STAMP_HI : Fld := { base := 0x180038, cold := .kept, warm := .kept }
/-- Bank capacitance in µF under R484 (R489, spec/19_power_and_ageing.md). -/
def PW_HOLDUP_C : Fld := { base := 0x180040, por := .other, cold := .kept, warm := .kept }
/-- Bank ESR in mΩ (R489, spec/19_power_and_ageing.md). -/
def PW_HOLDUP_ESR : Fld := { base := 0x180044, por := .other, cold := .kept, warm := .kept }
/-- t_full in µs (R489, spec/19_power_and_ageing.md). -/
def PW_HOLDUP_T_HOLD_FULL : Fld := { base := 0x180048, por := .other, cold := .kept, warm := .kept }
/-- Hold-up at the present draw in µs (R489, spec/19_power_and_ageing.md). -/
def PW_HOLDUP_T_HOLD_NOW : Fld := { base := 0x18004c, por := .other, cold := .kept, warm := .kept }
/-- Core-rail setpoint in mV (R489, spec/19_power_and_ageing.md). -/
def PW_VCORE_VOUT : Fld := { base := 0x180050, s1 := 0x8, n1 := 3, hi := 31, lo := 20, por := .other, cold := .kept, warm := .kept }
/-- Steps taken, 0 to 20 (R489, spec/19_power_and_ageing.md). -/
def PW_VCORE_STEPS : Fld := { base := 0x180050, s1 := 0x8, n1 := 3, hi := 19, lo := 15, por := .other, cold := .kept, warm := .kept }
/-- Least slack in ps under R481 (R489, spec/19_power_and_ageing.md). -/
def PW_VCORE_MIN_SLACK : Fld := { base := 0x180050, s1 := 0x8, n1 := 3, hi := 9, lo := 0, cold := .kept, warm := .kept }
/-- Ring-oscillator frequency in kHz (R489, spec/19_power_and_ageing.md). -/
def PW_VCORE_RING : Fld := { base := 0x180054, s1 := 0x8, n1 := 3, cold := .kept, warm := .kept }
/-- 1: the table was corrected under R489 (R489, spec/19_power_and_ageing.md). -/
def PW_FLAGS_TABLE_ERR : Fld := { base := 0x180068, hi := 11, lo := 11, acc := .w1c, warm := .kept }
/-- 1: a PMBus transaction failed (R489, spec/19_power_and_ageing.md). -/
def PW_FLAGS_PMBUS_ERR : Fld := { base := 0x180068, hi := 10, lo := 10, acc := .w1c, warm := .kept }
/-- 1: the latest save was not valid under R464 (R489, spec/19_power_and_ageing.md). -/
def PW_FLAGS_SAVE_FAIL : Fld := { base := 0x180068, hi := 9, lo := 9, acc := .w1c, por := .other, cold := .kept, warm := .kept }
/-- 1: a margin alarmed under R483 (R489, spec/19_power_and_ageing.md). -/
def PW_FLAGS_MARGIN_ALARM : Fld := { base := 0x180068, hi := 8, lo := 8, acc := .w1c, warm := .kept }
/-- 1: a step was due with 20 taken (R489, spec/19_power_and_ageing.md). -/
def PW_FLAGS_TIMING_EXHAUSTED : Fld := { base := 0x180068, hi := 7, lo := 7, acc := .w1c, warm := .kept }
/-- 1: a step failed under R480 (R489, spec/19_power_and_ageing.md). -/
def PW_FLAGS_VCORE_FAIL : Fld := { base := 0x180068, hi := 6, lo := 6, acc := .w1c, warm := .kept }
/-- 1: an entry was abandoned (R489, spec/19_power_and_ageing.md). -/
def PW_FLAGS_SLEEP_ABORT : Fld := { base := 0x180068, hi := 5, lo := 5, acc := .w1c, warm := .kept }
/-- 1: H reached 0 (R489, spec/19_power_and_ageing.md). -/
def PW_FLAGS_HEAT_LIMIT : Fld := { base := 0x180068, hi := 4, lo := 4, acc := .w1c, warm := .kept }
/-- 1: B reached 0 (R489, spec/19_power_and_ageing.md). -/
def PW_FLAGS_EXHAUSTED : Fld := { base := 0x180068, hi := 3, lo := 3, acc := .w1c, warm := .kept }
/-- 1: RIDE was below 10 ms (R489, spec/19_power_and_ageing.md). -/
def PW_FLAGS_S2_LOST : Fld := { base := 0x180068, hi := 2, lo := 2, acc := .w1c, cold := .kept, warm := .kept }
/-- 1: HOLDUP was entered since the last clear (R489, spec/19_power_and_ageing.md). -/
def PW_FLAGS_HOLDUP_SEEN : Fld := { base := 0x180068, hi := 1, lo := 1, acc := .w1c, warm := .kept }
/-- 1: a supply loss was ridden through (R489, spec/19_power_and_ageing.md). -/
def PW_FLAGS_RIDE : Fld := { base := 0x180068, hi := 0, lo := 0, acc := .w1c, warm := .kept }
/-- Ride-throughs since manufacture, saturating (R489, spec/19_power_and_ageing.md). -/
def PW_RIDE_CNT : Fld := { base := 0x18006c, por := .other, cold := .kept, warm := .kept, cnt := true }
/-- HOLDUP entries since manufacture, saturating (R489, spec/19_power_and_ageing.md). -/
def PW_HOLDUP_CNT : Fld := { base := 0x180070, por := .other, cold := .kept, warm := .kept, cnt := true }
/-- Counted steps, all lanes, saturating (R489, spec/19_power_and_ageing.md). -/
def PW_STEP_CNT : Fld := { base := 0x180074, por := .other, cold := .kept, warm := .kept, cnt := true }
/-- Blocks refreshed under R487, saturating (R489, spec/19_power_and_ageing.md). -/
def PW_REFRESH_CNT : Fld := { base := 0x180078, por := .other, cold := .kept, warm := .kept, cnt := true }
/-- Failed PMBus transactions, saturating (R489, spec/19_power_and_ageing.md). -/
def PW_PMBUS_ERR_CNT : Fld := { base := 0x18007c, warm := .kept, cnt := true }
/-- x of R482 in the kind's unit: steps, 0.1 ms, 0.001 of the ratio, 0.001 %, or bits (R489, spec/19_power_and_ageing.md). -/
def PW_MARGIN_VALUE : Fld := { base := 0x180100, s1 := 0x4, n1 := 21, hi := 31, lo := 16, por := .other, cold := .kept, warm := .kept }
/-- 1: the margin is 0 % (R489, spec/19_power_and_ageing.md). -/
def PW_MARGIN_EXHAUSTED : Fld := { base := 0x180100, s1 := 0x4, n1 := 21, hi := 9, lo := 9, por := .other, cold := .kept, warm := .kept }
/-- Under R483 (R489, spec/19_power_and_ageing.md). -/
def PW_MARGIN_ALARM : Fld := { base := 0x180100, s1 := 0x4, n1 := 21, hi := 8, lo := 8, por := .other, cold := .kept, warm := .kept }
/-- m of R482 in % (R489, spec/19_power_and_ageing.md). -/
def PW_MARGIN_MARGIN : Fld := { base := 0x180100, s1 := 0x4, n1 := 21, hi := 7, lo := 0, por := .other, cold := .kept, warm := .kept }
/-- 1: the next boot enters MAINT under R506 (R509, spec/20_boot_update.md). -/
def UP_STATE_NEXT_MAINT : Fld := { base := 0x190000, hi := 11, lo := 11, por := .other, cold := .other, warm := .other }
/-- 0 = none, 1 = NO_IMAGE, 2 = NEXT_MAINT, 3 = ACK (R509, spec/20_boot_update.md). -/
def UP_STATE_MAINT_CAUSE : Fld := { base := 0x190000, hi := 10, lo := 8 }
/-- 0 = EMPTY, 1 = RECEIVING, 2 = RECEIVED, 3 = APPLYING, 4 = APPLIED, 5 = REJECTED, 6 = APPLY_FAIL (R509, spec/20_boot_update.md). -/
def UP_STATE_STORE : Fld := { base := 0x190000, hi := 6, lo := 4, por := .other, cold := .other, warm := .other }
/-- Under R501 (R509, spec/20_boot_update.md). -/
def UP_STATE_LOCK : Fld := { base := 0x190000, hi := 3, lo := 3, por := (.val 1), cold := (.val 1), warm := (.val 1) }
/-- 0 = BOOTING, 1 = READY, 2 = RECOVERY (R509, spec/20_boot_update.md). -/
def UP_STATE_STATE : Fld := { base := 0x190000, hi := 2, lo := 0 }
/-- BOOT_ID under R507, byte 0 in [7:0] of LO. Coherent under R42 (R509, spec/20_boot_update.md). -/
def UP_BOOT_ID_ID : Fld := { base := 0x190004, s1 := 0x4, n1 := 2, por := .other, cold := .other, warm := .other }
/-- VERSION in the slot header. 0 when EMPTY (R509, spec/20_boot_update.md). -/
def UP_SLOT_VERSION : Fld := { base := 0x190010, s1 := 0x8, n1 := 3, s2 := 0x4, n2 := 2, hi := 31, lo := 16, por := .other, cold := .other, warm := .other }
/-- 0 = none, 1 = HEADER, 2 = KEY, 3 = SIGNATURE, 4 = VERSION, 5 = PAIR, 6 = HASH (R509, spec/20_boot_update.md). -/
def UP_SLOT_LAST_FAIL : Fld := { base := 0x190010, s1 := 0x8, n1 := 3, s2 := 0x4, n2 := 2, hi := 7, lo := 4, por := .other, cold := .other, warm := .other }
/-- 1: the module runs from this slot (R509, spec/20_boot_update.md). -/
def UP_SLOT_BOOTED : Fld := { base := 0x190010, s1 := 0x8, n1 := 3, s2 := 0x4, n2 := 2, hi := 3, lo := 3, por := .other, cold := .other, warm := .other }
/-- Under R491 (R509, spec/20_boot_update.md). -/
def UP_SLOT_STATE : Fld := { base := 0x190010, s1 := 0x8, n1 := 3, s2 := 0x4, n2 := 2, hi := 2, lo := 0, por := .other, cold := .other, warm := .other }
/-- Floor of kind 1 (R509, spec/20_boot_update.md). -/
def UP_FLOOR_TABLES : Fld := { base := 0x190030, hi := 31, lo := 16, por := .other, cold := .other, warm := .other }
/-- Floor of kind 0. The SYSTEM floor is at offset 0x0034 [15:0] (R509, spec/20_boot_update.md). -/
def UP_FLOOR_PROGRAM : Fld := { base := 0x190030, hi := 15, lo := 0, por := .other, cold := .other, warm := .other }
/-- Floor of kind 2 (SYSTEM) (R509, spec/20_boot_update.md). -/
def UP_FLOOR_SYSTEM : Fld := { base := 0x190034, hi := 15, lo := 0, por := .other, cold := .other, warm := .other }
/-- IPv4 address, most significant octet in [31:24]. 0: none (R509, spec/20_boot_update.md). -/
def UP_ADDR_ADDR : Fld := { base := 0x190040, s1 := 0x4, n1 := 5, acc := .rws, por := .table, cold := .table, warm := .table }
/-- Destination prefix in KiB under R497 (R509, spec/20_boot_update.md). -/
def UP_RELAY_STAT_KIB : Fld := { base := 0x190060, s1 := 0x4, n1 := 4, hi := 31, lo := 8 }
/-- 0 = IDLE, 1 = SENDING, 2 = DONE, 3 = FAILED (R509, spec/20_boot_update.md). -/
def UP_RELAY_STAT_STATE : Fld := { base := 0x190060, s1 := 0x4, n1 := 4, hi := 1, lo := 0 }
/-- Prefix in bytes under R495 (R509, spec/20_boot_update.md). -/
def UP_STORE_LEN : Fld := { base := 0x190080, por := .other, cold := .other, warm := .other }
/-- CID of the stored container (R509, spec/20_boot_update.md). -/
def UP_STORE_CID : Fld := { base := 0x190084, por := .other, cold := .other, warm := .other }
/-- Store offset of UP_HX_WIN word 0, a multiple of 4 (R509, spec/20_boot_update.md). -/
def UP_HX_OFS : Fld := { base := 0x190088, acc := .rw, legal := .mult4 0 0xFFFFFFFC }
/-- Word k is stored at UP_HX_OFS + 4k under R495 (R509, spec/20_boot_update.md). -/
def UP_HX_WIN_DATA : Fld := { base := 0x191000, s1 := 0x4, n1 := 256, acc := .wo }
/-- Customer key slot for KEY_ADD or KEY_REVOKE (R509, spec/20_boot_update.md). -/
def UP_CMD_KEY_SLOT : Fld := { base := 0x19008c, hi := 5, lo := 4, acc := .wo }
/-- 1: revoke under R494 (R509, spec/20_boot_update.md). -/
def UP_CMD_KEY_REVOKE : Fld := { base := 0x19008c, hi := 3, lo := 3, acc := .wo }
/-- 1: add UP_KEY_NEW under R494 (R509, spec/20_boot_update.md). -/
def UP_CMD_KEY_ADD : Fld := { base := 0x19008c, hi := 2, lo := 2, acc := .wo }
/-- 1: set the flag of R506 (R509, spec/20_boot_update.md). -/
def UP_CMD_NEXT_MAINT : Fld := { base := 0x19008c, hi := 1, lo := 1, acc := .wo }
/-- 1: empty the store under R500 (R509, spec/20_boot_update.md). -/
def UP_CMD_DISCARD : Fld := { base := 0x19008c, hi := 0, lo := 0, acc := .wo }
/-- 1: a source was refused under R495 (R509, spec/20_boot_update.md). -/
def UP_FLAGS_STORE_BUSY : Fld := { base := 0x190090, hi := 5, lo := 5, acc := .w1c, warm := .kept }
/-- 1: a delta did not fit the booted slot (R509, spec/20_boot_update.md). -/
def UP_FLAGS_BASE_MISMATCH : Fld := { base := 0x190090, hi := 4, lo := 4, acc := .w1c, warm := .kept }
/-- 1: a destination became FAILED (R509, spec/20_boot_update.md). -/
def UP_FLAGS_RELAY_FAIL : Fld := { base := 0x190090, hi := 3, lo := 3, acc := .w1c, warm := .kept }
/-- 1: R504 raised EV396 (R509, spec/20_boot_update.md). -/
def UP_FLAGS_FALLBACK : Fld := { base := 0x190090, hi := 2, lo := 2, acc := .w1c, warm := .kept }
/-- 1: an application failed (R509, spec/20_boot_update.md). -/
def UP_FLAGS_APPLY_FAIL : Fld := { base := 0x190090, hi := 1, lo := 1, acc := .w1c, warm := .kept }
/-- 1: a container failed R499 (R509, spec/20_boot_update.md). -/
def UP_FLAGS_RX_REJ : Fld := { base := 0x190090, hi := 0, lo := 0, acc := .w1c, warm := .kept }
/-- Bit j: slot j revoked (R509, spec/20_boot_update.md). -/
def UP_KEY_STAT_REVOKED : Fld := { base := 0x190094, hi := 7, lo := 4, por := .other, cold := .other, warm := .other }
/-- Bit j: slot j holds a hash (R509, spec/20_boot_update.md). -/
def UP_KEY_STAT_PRESENT : Fld := { base := 0x190094, hi := 3, lo := 0, por := .other, cold := .other, warm := .other }
/-- Containers rejected under R499, saturating (R509, spec/20_boot_update.md). -/
def UP_RX_REJ_CNT : Fld := { base := 0x190098, warm := .kept, cnt := true }
/-- Boots counted under R504, saturating (R509, spec/20_boot_update.md). -/
def UP_FALLBACK_CNT : Fld := { base := 0x19009c, por := .other, cold := .kept, warm := .kept, cnt := true }
/-- SHA-256 for KEY_ADD, byte 0 in [7:0] of the first word (R509, spec/20_boot_update.md). -/
def UP_HASH : Fld := { base := 0x1900a0, s1 := 0x4, n1 := 8, acc := .wo }
/-- Stuck declarations of the ACK key, saturating (R539, spec/21_connectors_electrical.md). -/
def SYS_KEY_STAT_STUCK_CNT : Fld := { base := 0x18, hi := 31, lo := 16, warm := .kept, cnt := true }
/-- 1: the key was declared stuck under R539 (R539, spec/21_connectors_electrical.md). -/
def SYS_KEY_STAT_STUCK_SEEN : Fld := { base := 0x18, hi := 2, lo := 2, acc := .w1c, warm := .kept }
/-- 1: the key is declared stuck now (R539, spec/21_connectors_electrical.md). -/
def SYS_KEY_STAT_STUCK : Fld := { base := 0x18, hi := 1, lo := 1, cold := .kept, warm := .kept }
/-- 1: the key is accepted as pressed under R538 (R539, spec/21_connectors_electrical.md). -/
def SYS_KEY_STAT_PRESSED : Fld := { base := 0x18, hi := 0, lo := 0, cold := .kept, warm := .kept }

end R

/-- The fields of the SYS block. -/
def sysFlds : List Fld :=
  [R.SYS_PROFILE_VARIANT, R.SYS_PROFILE_PROFILE, R.SYS_MODE_REQ_REQ, R.SYS_MODE_STAT_STARTUP, R.SYS_MODE_STAT_FORCED, R.SYS_MODE_STAT_LAST_START, R.SYS_MODE_STAT_MODE, R.SYS_KEY_STAT_STUCK_CNT, R.SYS_KEY_STAT_STUCK_SEEN, R.SYS_KEY_STAT_STUCK, R.SYS_KEY_STAT_PRESSED]
/-- The registers every block has (R541), at their offsets in the block. -/
def commonFlds : List Fld :=
  [R.BLK_COMMIT_DISCARD, R.BLK_COMMIT_GO, R.BLK_COMMIT_STAT_SHADOW_DIRTY, R.BLK_COMMIT_STAT_PENDING, R.BLK_COMMIT_STAT_BLK_COMMIT_REJ, R.BLK_CLAMP_CNT_COUNT, R.BLK_LATE_REPLY_CNT_COUNT, R.BLK_CTRL_SOFT_RESET, R.BLK_CTRL_CNT_CLEAR, R.BLK_STATE_RESETTING, R.BLK_STATE_READY]
/-- The fields of the HP block. -/
def hpFlds : List Fld :=
  [R.HP_TIE_NEXT, R.HP_NET_CFG_SESS_TIMEOUT, R.HP_NET_CFG_PREFIX_B, R.HP_NET_CFG_PREFIX_A, R.HP_A_ADDR_ADDR, R.HP_B_ADDR_ADDR, R.HP_FLAGS_QBREAK_SEEN, R.HP_FLAGS_DISCARD_SEEN, R.HP_FLAGS_AUTH_FAIL_B, R.HP_FLAGS_AUTH_FAIL_A, R.HP_AUTH_FAIL_CNT_PORT_B, R.HP_AUTH_FAIL_CNT_PORT_A] ++
  [R.HP_DISCARD_CNT_PORT_B, R.HP_DISCARD_CNT_PORT_A, R.HP_QUOIN_HELD, R.HP_QUOIN_PORT, R.HP_QUOIN_SESSION]
/-- The fields of the LE block. -/
def leFlds : List Fld :=
  [R.LE_ENG_STAT_DEPTH, R.LE_ENG_STAT_STATE, R.LE_ENG_STAT_TASK, R.LE_ICNT_LO_ICNT_LO, R.LE_ICNT_HI_ICNT_HI, R.LE_FAULT_FLAGS_CODE_SEEN, R.LE_FAULT_CNT_COUNT, R.LE_ECC_CORR_CNT_COUNT, R.LE_ECC_FLAGS_UNCORR, R.LE_ECC_FLAGS_CORR, R.LE_FAULT_REC_ENGINE, R.LE_FAULT_REC_CODE] ++
  [R.LE_FAULT_REC_PC, R.LE_FAULT_REC_ICNT_LO, R.LE_FAULT_REC_ICNT_HI]
/-- The fields of the TSK block. -/
def tskFlds : List Fld :=
  [R.TSK_STAT_ENGINE, R.TSK_STAT_DEFER_SEEN, R.TSK_STAT_FAULT_SEEN, R.TSK_STAT_STACK_FAULT, R.TSK_STAT_OVERRUN, R.TSK_STAT_LAST_END, R.TSK_STAT_DEFERRED_HEAT, R.TSK_STAT_DEFERRED_ENERGY, R.TSK_STAT_STATE, R.TSK_OVERRUN_CNT_COUNT, R.TSK_DEFER_CNT_COUNT, R.TSK_ENABLE_EN] ++
  [R.TSK_RELEASE_REL, R.TSK_CANCEL_CAN, R.TSK_CANCEL_RACE_CNT_COUNT, R.TSK_FLAGS_FAULT_LOST, R.TSK_FLAGS_BAD_RELEASE, R.TSK_FLAGS_TABLE_ERR, R.TSK_TICK_TICK, R.TSK_FORCE_EN, R.TSK_FORCE_SPACE, R.TSK_FORCE_WORD, R.TSK_FORCE_MASK, R.TSK_FORCE_VALUE]
/-- The fields of the EVT block. -/
def evtFlds : List Fld :=
  [R.EVT_SRC_CFG_PRIO, R.EVT_SRC_CFG_EN, R.EVT_SRC_STAT_ACC, R.EVT_SRC_STAT_ACC_SAT, R.EVT_SRC_STAT_PEND, R.EVT_SRC_STAT_OWED, R.EVT_GRP_CFG_HOLDOFF, R.EVT_GRP_STAT_HELD, R.EVT_CTRL_GDIS, R.EVT_ENG_MASK_MASK, R.EVT_RAISE_RAISE, R.EVT_DONE_DONE] ++
  [R.EVT_SPURIOUS_CNT_COUNT, R.EVT_UNSERVED_CNT_COUNT, R.EVT_DELIVER_CNT_COUNT, R.EVT_FLAGS_UNSERVED, R.EVT_FLAGS_SPURIOUS]
/-- The fields of the LG block. -/
def lgFlds : List Fld :=
  [R.LG_CMP_REC_WORDk, R.LG_CMP_STAT_HIT_CNT, R.LG_CMP_STAT_BEHIND, R.LG_CMP_STAT_LATE, R.LG_CMP_STAT_REV_PASS, R.LG_CMP_STAT_LAST_HIT, R.LG_CMP_STAT_STATE, R.LG_REV_PASS_REV, R.LG_TT_TT_LO, R.LG_TT_TT_HI, R.LG_TT_LOCKED, R.LG_TT_LAST_OFS] ++
  [R.LG_TT_STEP_THR, R.LG_TT_UNLOCK_THR, R.LG_TT_LOCK_THR, R.LG_POS_P_LO, R.LG_POS_P_HI, R.LG_POS_D_LO, R.LG_POS_D_HI, R.LG_POS_ORIENT, R.LG_POS_AO_LOST, R.LG_POS_STANDSTILL, R.LG_POS_WS_VALID, R.LG_POS_USED] ++
  [R.LG_POS_SLIP, R.LG_POS_DQ_REDUCED, R.LG_POS_REFERENCED, R.LG_POS_ERR, R.LG_POS_SPEED, R.LG_WS_CAL_0, R.LG_WS_CAL_1, R.LG_WS_CAL_TOL, R.LG_WS_AUTO_CAL, R.LG_WS_INV, R.LG_WS_EN, R.LG_WS_QERR_CNT_1] ++
  [R.LG_WS_QERR_CNT_0, R.LG_SLIP_DA_LIM, R.LG_SLIP_DV_REL, R.LG_SLIP_DV_ABS, R.LG_SLIP_SLIP_MAX, R.LG_SLIP_SLIP_RATE, R.LG_SLIP_SIGN, R.LG_SLIP_AXIS, R.LG_REF_POS_LO, R.LG_REF_TB, R.LG_REF_FORCE, R.LG_REF_KIND] ++
  [R.LG_REF_DIR, R.LG_REF_POS_HI, R.LG_REF_STAMP, R.LG_REF_STEP_MAX, R.LG_REF_E_REF, R.LG_REF_DQ_RESTORE, R.LG_REF_APPLY_REF, R.LG_REF_ACCEPT_CNT, R.LG_REF_LAST, R.LG_PH_CONFIRM, R.LG_PH_SCALE, R.LG_PH_OFS] ++
  [R.LG_PH_PRESENT, R.LG_PH_CLASS, R.LG_PH_EVAL, R.LG_PH_FREQ, R.LG_PH_PHI, R.LG_FLAGS_AO_LOST, R.LG_FLAGS_PH_LOST, R.LG_FLAGS_TT_LOST, R.LG_FLAGS_CAL_REJ, R.LG_FLAGS_REF_REJ, R.LG_FLAGS_DQ_REDUCED, R.LG_FLAGS_SLIP_SEEN] ++
  [R.LG_FLAGS_WS_INVALID, R.LG_FLAGS_OVERSPEED, R.LG_FLAGS_QERR]
/-- The fields of the VT block. -/
def vtFlds : List Fld :=
  [R.VT_STATE_SAFE_CAUSE, R.VT_STATE_RANK, R.VT_STATE_LEAD, R.VT_STATE_VOTING, R.VT_STATE_STATE, R.VT_LANE_STAT_EXCL_IN_WIN, R.VT_LANE_STAT_CAUSE, R.VT_LANE_STAT_JOIN_WAIT, R.VT_LANE_STAT_ROLE, R.VT_CFG_REJOIN_WIN, R.VT_CFG_REJOIN_MAX, R.VT_CFG_GRACE] ++
  [R.VT_CMD_HOLD_OUT, R.VT_GRACE_ELAPSED, R.VT_SIMPLEX_TIME_SECONDS, R.VT_FLAGS_SCRUB_REPAIR, R.VT_FLAGS_REJOIN_DONE, R.VT_FLAGS_UNPAIRED, R.VT_FLAGS_SRC_MISMATCH, R.VT_FLAGS_HOLD_OVF, R.VT_FLAGS_GRACE_WARN, R.VT_FLAGS_SAFE_SEEN, R.VT_FLAGS_LANE_FAULT, R.VT_EXCL_CNT] ++
  [R.VT_REJOIN_CNT, R.VT_LATE_CNT, R.VT_REPAIR_CNT, R.VT_HOLD_NOW, R.VT_HOLD_PEAK, R.VT_WIN_CNT, R.VT_LAST_DIS_ITEM, R.VT_LAST_DIS_AGREE, R.VT_LAST_DIS_TASK, R.VT_LAST_DIS_ENGINE, R.VT_LAST_DIS_WINDOW, R.VT_LAST_DIS_POSITION] ++
  [R.VT_LAST_DIS_STAMP]
/-- The fields of the SC block. -/
def scFlds : List Fld :=
  [R.SC_STATE_BYPASS, R.SC_STATE_CAUSE, R.SC_STATE_STATE, R.SC_TABLE_ID_ID, R.SC_TABLE_CRC_CRC, R.SC_DEGR_LIMIT, R.SC_DEGR_ELAPSED, R.SC_CMD_CLR_FAULTS, R.SC_CMD_RETEST, R.SC_LIT_LIT, R.SC_CHASE_CMD_CMD, R.SC_DISC_DISC] ++
  [R.SC_TERM_STAT_DISC_CNT, R.SC_TERM_STAT_SLOT_SEEN, R.SC_TERM_STAT_UNDET, R.SC_TERM_STAT_FAULT, R.SC_TERM_STAT_ROLE, R.SC_FLAGS_EXPIRED_SEEN, R.SC_FLAGS_DEGR_WARN, R.SC_FLAGS_OUT_FAULT, R.SC_FLAGS_IN_FAULT, R.SC_FLAGS_CHASE_FAULT, R.SC_FAULT_CNT_TERM, R.SC_FAULT_CNT_CHASE]
/-- The fields of the CH block. -/
def chFlds : List Fld :=
  [R.CH_MODE_EVT, R.CH_MODE_INV, R.CH_MODE_HWT, R.CH_MODE_STOP_STATE, R.CH_MODE_FILTER, R.CH_MODE_MODE, R.CH_CFG_STUCK, R.CH_CFG_OPEN_DET, R.CH_CFG_DEMAG, R.CH_CFG_EDGE, R.CH_CFG_GATE, R.CH_CFG_WET_PERIOD] ++
  [R.CH_CFG_WET, R.CH_CFG_ILIM, R.CH_CFG_UN, R.CH_STAT_FAULT, R.CH_STAT_TRIPPED, R.CH_STAT_TIMED, R.CH_STAT_ON, R.CH_STAT_STUCK, R.CH_STAT_UNDET, R.CH_STAT_VALUE, R.CH_VALUE_VALUE, R.CH_FLAGS_CLAMP_Q] ++
  [R.CH_FLAGS_COUNT_SAT, R.CH_FLAGS_STUCK_SEEN, R.CH_FLAGS_FAULT_SEEN, R.CH_FLAGS_OVERRUN, R.CH_FAULT_CNT_COUNT, R.CH_GRP_CFG_PAR, R.CH_GRP_CFG_EN, R.CH_GRP_STAT_TRIPPED, R.CH_GRP_STAT_OVERVOLT, R.CH_GRP_STAT_REVERSED, R.CH_GRP_STAT_POWERED, R.CH_GRP_STAT_CURRENT] ++
  [R.CH_GRP_STAT_UG, R.CH_GRP_FLAGS_OVERLOAD_SEEN, R.CH_GRP_FLAGS_OVERVOLT_SEEN, R.CH_GRP_FLAGS_REVERSED_SEEN, R.CH_GRP_FLAGS_OFF_SEEN, R.CH_GRP_TRIP_CNT_COUNT, R.CH_BLK_FLAGS_MAP_ERR, R.CH_BLK_FLAGS_TABLE_ERR, R.CH_ACFG0_R_LEAD, R.CH_ACFG0_CJC_CH, R.CH_ACFG0_CJC_SRC, R.CH_ACFG0_TYPE] ++
  [R.CH_ACFG0_HEAT_EXEMPT, R.CH_ACFG0_AVG, R.CH_ACFG0_RATE, R.CH_ACFG0_RANGE, R.CH_ACFG1_HI, R.CH_ACFG1_LO, R.CH_ASTAT_TRIM_USER, R.CH_ASTAT_HEAT_LEVEL, R.CH_ASTAT_EFF_PERIOD, R.CH_TRIM_CTL_SAVED, R.CH_TRIM_CTL_REJ, R.CH_TRIM_CTL_RESTORE] ++
  [R.CH_TRIM_CTL_APPLY, R.CH_TRIM_CTL_POINT, R.CH_TRIM_CTL_DRIVE, R.CH_TRIM_S1, R.CH_TRIM_S2, R.CH_TRIM_M1, R.CH_TRIM_M2, R.CH_TRIM_GAIN, R.CH_TRIM_OFS, R.CH_FEED_STAT_FEED_LOW, R.CH_FEED_STAT_RAIL, R.CH_FEED_STAT_ALLOW] ++
  [R.CH_FEED_LOW_CNT_COUNT, R.CH_CJC_TEMP_FAIL, R.CH_CJC_TEMP_TEMP]
/-- The fields of the FB block. -/
def fbFlds : List Fld :=
  [R.FB_STATE_TT_ALIGNED, R.FB_STATE_LOCKUP_LEFT, R.FB_STATE_SCHED, R.FB_STATE_STATE, R.FB_CYCLE_CYCLE, R.FB_CFG_TT_ALIGN, R.FB_CFG_QUAR_CYC, R.FB_CFG_QUAR_TH, R.FB_CFG_ANNOUNCE, R.FB_BR_EN_EN, R.FB_SCHED_REQ_REQ, R.FB_SCHED_REQ_TARGET] ++
  [R.FB_SCHED_STAT_USABLE, R.FB_SCHED_STAT_ACKED, R.FB_SCHED_STAT_LAST, R.FB_SCHED_STAT_PENDING, R.FB_SCHED_STAT_TARGET, R.FB_SWITCH_AT_CYCLE, R.FB_FLAGS_NOT_SENT, R.FB_FLAGS_LOCKED, R.FB_FLAGS_QUARANTINE, R.FB_FLAGS_SWITCH_ABORT, R.FB_FLAGS_MAP_ERR, R.FB_FLAGS_TABLE_ERR] ++
  [R.FB_BR_STAT_QUAR_TOTAL, R.FB_BR_STAT_V, R.FB_BR_STAT_QUAR_N, R.FB_BR_STAT_LINK, R.FB_BR_STAT_STATE, R.FB_BR_CMD_RELEASE, R.FB_BR_VIOL_HEADER, R.FB_BR_VIOL_OUT_OF_SLOT, R.FB_BR_VIOL2_QUAR_BLOCK, R.FB_BR_VIOL2_OVERLONG, R.FB_FRM_STAT_COUNT, R.FB_FRM_STAT_CYCLE] ++
  [R.FB_FRM_STAT_NOT_SENT, R.FB_FRM_STAT_STATUS]
/-- The fields of the NW block. -/
def nwFlds : List Fld :=
  [R.NW_PORT_STAT_SPEED, R.NW_PORT_STAT_LINK, R.NW_PORT_CNT_BUF_DROP, R.NW_PORT_CNT_FCS_ERR, R.NW_IP_ADDR, R.NW_NET_CFG_PREFIX_B, R.NW_NET_CFG_PREFIX_A, R.NW_VID_VID_B, R.NW_VID_VID_A, R.NW_TOPO_CNT, R.NW_PTP_CFG_LOG_DREQ, R.NW_PTP_CFG_TRANSPORT] ++
  [R.NW_PTP_CFG_PREF_PLANE, R.NW_PTP_CFG_DOMAIN, R.NW_PTP_STAT_TWO_STEP, R.NW_PTP_STAT_PLANE, R.NW_PTP_STAT_STATE, R.NW_PTP_MPD, R.NW_PTP_GM_LO, R.NW_PTP_GM_HI, R.NW_MIRROR_PORT, R.NW_MIRROR_EN, R.NW_FLAGS_MIRROR_DROP, R.NW_FLAGS_MD_ERR] ++
  [R.NW_FLAGS_PTP_PLANE_CHG, R.NW_FLAGS_ARP_FAIL, R.NW_FLAGS_SDT_TX_ERR, R.NW_FLAGS_SDT_FAIL, R.NW_FLAGS_TOPO_DISC, R.NW_FLAGS_DROPPED, R.NW_FLAGS_LATE, R.NW_FLAGS_MAP_ERR, R.NW_FLAGS_TABLE_ERR, R.NW_DUP_CNT, R.NW_RX_DISC_CNT, R.NW_TOPO_DISC_CNT] ++
  [R.NW_LATE_CNT, R.NW_DROP_CNT, R.NW_SDT_REJ_CNT, R.NW_MD_ERR_CNT, R.NW_MIRROR_DROP_CNT, R.NW_PD_STAT_STATUS, R.NW_SDT_STAT_STATUS, R.NW_MD_STAT_STATUS]
/-- The fields of the CN block. -/
def cnFlds : List Fld :=
  [R.CN_CTRL_LATE_LIM, R.CN_CTRL_BO_DELAY, R.CN_CTRL_FIFO_EN, R.CN_CTRL_AUTO, R.CN_CTRL_LISTEN, R.CN_CTRL_EN, R.CN_BT_SJWM1, R.CN_BT_TSEG2M1, R.CN_BT_TSEG1M1, R.CN_BT_BRPM1, R.CN_DBT_SJWM1, R.CN_DBT_TSEG2M1] ++
  [R.CN_DBT_TSEG1M1, R.CN_DBT_BRPM1, R.CN_SYNC_SYNC_PERIOD, R.CN_SYNC_SYNC_ID, R.CN_STAT_REC, R.CN_STAT_TEC, R.CN_STAT_FIFO_FILL, R.CN_STAT_RATE_FOUND, R.CN_STAT_LISTEN_ONLY, R.CN_STAT_STATE, R.CN_CNT_RX_DISC, R.CN_CNT_BUS_OFF] ++
  [R.CN_FLAGS_TABLE_ERR, R.CN_FLAGS_LOCK_TMO, R.CN_FLAGS_RATE_FOUND, R.CN_FLAGS_TX_MISSED, R.CN_FLAGS_FIFO_OVF, R.CN_FLAGS_RX_DISC, R.CN_FLAGS_ERR_PASSIVE_SEEN, R.CN_FLAGS_BUS_OFF_SEEN, R.CN_BUF_STAT_COUNT, R.CN_BUF_STAT_OVERWR, R.CN_BUF_STAT_LOCKED, R.CN_BUF_STAT_TIMEOUT] ++
  [R.CN_BUF_STAT_SHORT, R.CN_BUF_STAT_MISSED, R.CN_BUF_STAT_IN_PROGRESS, R.CN_BUF_STAT_PENDING, R.CN_HBUF_DESC0, R.CN_HBUF_DESC1, R.CN_HBUF_DATA, R.CN_HBUF_DESC17]
/-- The fields of the BR block. -/
def brFlds : List Fld :=
  [R.BR_CFG_ARB_TMO, R.BR_CFG_IRQ_EN, R.BR_STAT_SLOT, R.BR_STAT_QUEUE, R.BR_STAT_STATE, R.BR_FLAGS_STALE, R.BR_FLAGS_ARB_TMO, R.BR_FLAGS_TIMEOUT, R.BR_FLAGS_FAR_ERROR, R.BR_FLAGS_SRB_RESET_SEEN, R.BR_FLAGS_CLK_LOST, R.BR_ERR_CNT_TMO_CNT] ++
  [R.BR_ERR_CNT_FAR_CNT, R.BR_XFER_CNT_COUNT, R.BR_LAST_ERR_STATUS, R.BR_LAST_ERR_CODE, R.BR_LAST_ERR_WR, R.BR_LAST_ERR_WID, R.BR_LAST_ERR_WIN, R.BR_LAST_ERR_ADDR, R.BR_WIN_BASE_BASE, R.BR_WIN_SIZE_SIZE, R.BR_WIN_CFG_TMO, R.BR_WIN_CFG_LANES] ++
  [R.BR_WIN_CFG_EN]
/-- The fields of the RD block. -/
def rdFlds : List Fld :=
  [R.RD_STATE_HOLDER, R.RD_STATE_CMP_EQUAL, R.RD_STATE_CMP_FAULT, R.RD_STATE_BARRED, R.RD_STATE_ACTING, R.RD_STATE_ROLE, R.RD_CFG_CMP_RUN, R.RD_CFG_PATHS, R.RD_CFG_EN, R.RD_CFG_SLOT_ID, R.RD_TIMING_DRIFT, R.RD_TIMING_STEEP] ++
  [R.RD_GROUP_ID, R.RD_CMD_SUCCESSOR, R.RD_CMD_OP, R.RD_EPOCH_EPOCH, R.RD_FLAGS_TABLE_ERR, R.RD_FLAGS_DUAL_HOLDER, R.RD_FLAGS_CFG_MISMATCH, R.RD_FLAGS_DUP_ID, R.RD_FLAGS_YIELDED, R.RD_FLAGS_LOST, R.RD_TAKE_CNT, R.RD_MISMATCH_CNT] ++
  [R.RD_NOCMP_CNT, R.RD_RX_DISC_CNT, R.RD_GATE_CNT, R.RD_MEMBER_ALIVE, R.RD_MEMBER_RANK, R.RD_MEMBER_FLAGS, R.RD_MEMBER_SLOT_ID, R.RD_MEMBER_LAST_US, R.RD_CMP_STAT_LAST_SEQ, R.RD_CMP_STAT_LAST, R.RD_CMP_STAT_RUN]
/-- The fields of the ER block. -/
def erFlds : List Fld :=
  [R.ER_STATE_ERASING, R.ER_STATE_STATE, R.ER_STAGE_BYTES, R.ER_FIRST_SEQ_SEQ, R.ER_NEXT_SEQ_SEQ, R.ER_FLAGS_WRAP, R.ER_FLAGS_CLR_FAIL, R.ER_FLAGS_TORN, R.ER_FLAGS_DROP_HW, R.ER_FLAGS_DROP_PROG, R.ER_DROP_CNT_HW, R.ER_DROP_CNT_PROG] ++
  [R.ER_CLR_FAIL_WRAP_CNT_COUNT, R.ER_RD_SEQ_SEQ, R.ER_RD_STAT_FETCH, R.ER_RD_STAT_STAT, R.ER_RD_BUF_DATA, R.ER_CLR_SCOPE_UPTO_LO, R.ER_CLR_SCOPE_ALL, R.ER_CLR_SCOPE_UPTO_HI, R.ER_CLR_CHAL_BYTES, R.ER_CLR_RESP_BYTES, R.ER_CLR_CMD_GO, R.ER_CLR_CMD_REQ]
/-- The fields of the PW block. -/
def pwFlds : List Fld :=
  [R.PW_STATE_RIDE, R.PW_STATE_HOLD_READY, R.PW_STATE_SUPPLY_OK, R.PW_STATE_HEAT_LEVEL, R.PW_STATE_STATE, R.PW_CMD_OP, R.PW_CMD_STAT_OP, R.PW_CMD_STAT_LAST, R.PW_BUDGET_GRANT, R.PW_BALANCE, R.PW_HEAT, R.PW_HEAT_MASK] ++
  [R.PW_ENERGY_MASK, R.PW_POWER, R.PW_VOLTAGE, R.PW_P_DISS, R.PW_T_BOARD, R.PW_CFG_P_LIM, R.PW_CFG_T_MAX, R.PW_CFG_T_KNEE, R.PW_CFG_ON_EMPTY, R.PW_WAKE_GRP, R.PW_SRC, R.PW_SECONDS] ++
  [R.PW_LAST_WAKE_REPLAYED, R.PW_LAST_WAKE_SOURCES, R.PW_LAST_WAKE_ARG, R.PW_LAST_WAKE_SOURCE, R.PW_LAST_WAKE_STAMP_LO, R.PW_LAST_WAKE_STAMP_HI, R.PW_HOLDUP_C, R.PW_HOLDUP_ESR, R.PW_HOLDUP_T_HOLD_FULL, R.PW_HOLDUP_T_HOLD_NOW, R.PW_VCORE_VOUT, R.PW_VCORE_STEPS] ++
  [R.PW_VCORE_MIN_SLACK, R.PW_VCORE_RING, R.PW_FLAGS_TABLE_ERR, R.PW_FLAGS_PMBUS_ERR, R.PW_FLAGS_SAVE_FAIL, R.PW_FLAGS_MARGIN_ALARM, R.PW_FLAGS_TIMING_EXHAUSTED, R.PW_FLAGS_VCORE_FAIL, R.PW_FLAGS_SLEEP_ABORT, R.PW_FLAGS_HEAT_LIMIT, R.PW_FLAGS_EXHAUSTED, R.PW_FLAGS_S2_LOST] ++
  [R.PW_FLAGS_HOLDUP_SEEN, R.PW_FLAGS_RIDE, R.PW_RIDE_CNT, R.PW_HOLDUP_CNT, R.PW_STEP_CNT, R.PW_REFRESH_CNT, R.PW_PMBUS_ERR_CNT, R.PW_MARGIN_VALUE, R.PW_MARGIN_EXHAUSTED, R.PW_MARGIN_ALARM, R.PW_MARGIN_MARGIN]
/-- The fields of the UP block. -/
def upFlds : List Fld :=
  [R.UP_STATE_NEXT_MAINT, R.UP_STATE_MAINT_CAUSE, R.UP_STATE_STORE, R.UP_STATE_LOCK, R.UP_STATE_STATE, R.UP_BOOT_ID_ID, R.UP_SLOT_VERSION, R.UP_SLOT_LAST_FAIL, R.UP_SLOT_BOOTED, R.UP_SLOT_STATE, R.UP_FLOOR_TABLES, R.UP_FLOOR_PROGRAM] ++
  [R.UP_FLOOR_SYSTEM, R.UP_ADDR_ADDR, R.UP_RELAY_STAT_KIB, R.UP_RELAY_STAT_STATE, R.UP_STORE_LEN, R.UP_STORE_CID, R.UP_HX_OFS, R.UP_HX_WIN_DATA, R.UP_CMD_KEY_SLOT, R.UP_CMD_KEY_REVOKE, R.UP_CMD_KEY_ADD, R.UP_CMD_NEXT_MAINT] ++
  [R.UP_CMD_DISCARD, R.UP_FLAGS_STORE_BUSY, R.UP_FLAGS_BASE_MISMATCH, R.UP_FLAGS_RELAY_FAIL, R.UP_FLAGS_FALLBACK, R.UP_FLAGS_APPLY_FAIL, R.UP_FLAGS_RX_REJ, R.UP_KEY_STAT_REVOKED, R.UP_KEY_STAT_PRESENT, R.UP_RX_REJ_CNT, R.UP_FALLBACK_CNT, R.UP_HASH]

end Sys2Proof.Machine
end

