-- ==== Sys2Proof/Machine/Cells.lean ====
section
/-! DEFINITION. Sparse stores in one canonical form: `Cells` (addresses strictly rising, no zero value listed; an
unlisted address reads 0), `NMap` (keyed records, keys strictly rising), and the read and write of a register field
in a store of registers. -/

namespace Sys2Proof.Machine

/-- A sparse store of `w`-bit values by address; what is not listed reads 0. -/
abbrev Cells (w : Nat) := List (Nat × BitVec w)

/-- The value at address `a`. -/
def Cells.get {w : Nat} : Cells w → Nat → BitVec w
  | [], _ => 0
  | (k, v) :: t, a => if k = a then v else Cells.get t a

/-- The store with value `v` at address `a`; keeps the canonical form. -/
def Cells.set {w : Nat} : Cells w → Nat → BitVec w → Cells w
  | [], a, v => if v = 0 then [] else [(a, v)]
  | (k, x) :: t, a, v =>
    if a < k then (if v = 0 then (k, x) :: t else (a, v) :: (k, x) :: t)
    else if a = k then (if v = 0 then t else (a, v) :: t)
    else (k, x) :: Cells.set t a v

/-- The canonical form: addresses strictly rising from `lo` on, and no value 0. -/
def Cells.wfFrom {w : Nat} : Nat → Cells w → Bool
  | _, [] => true
  | lo, (k, v) :: t => decide (lo ≤ k) && decide (v ≠ 0) && Cells.wfFrom (k + 1) t

/-- The canonical form of a sparse store. -/
def Cells.wf {w : Nat} (m : Cells w) : Bool := Cells.wfFrom 0 m

/-- Removes every address of [a, a + n). -/
def Cells.clearRange {w : Nat} (m : Cells w) (a n : Nat) : Cells w :=
  m.filter (fun c => c.1 < a || a + n ≤ c.1)

/-- The entries of [a, a + n). -/
def Cells.slice {w : Nat} (m : Cells w) (a n : Nat) : Cells w :=
  m.filter (fun c => a ≤ c.1 && c.1 < a + n)

/-- Records by key, keys strictly rising. -/
abbrev NMap (α : Type) := List (Nat × α)

/-- The record at key `k`. -/
def NMap.look {α : Type} : NMap α → Nat → Option α
  | [], _ => none
  | (j, v) :: t, k => if j = k then some v else NMap.look t k

/-- The record at key `k`, or `d`. -/
def NMap.get {α : Type} (m : NMap α) (d : α) (k : Nat) : α := (NMap.look m k).getD d

/-- The map with record `v` at key `k`. -/
def NMap.put {α : Type} : NMap α → Nat → α → NMap α
  | [], k, v => [(k, v)]
  | (j, x) :: t, k, v =>
    if k < j then (k, v) :: (j, x) :: t
    else if k = j then (k, v) :: t
    else (j, x) :: NMap.put t k v

/-- The map without key `k`. -/
def NMap.del {α : Type} (m : NMap α) (k : Nat) : NMap α := m.filter (fun c => c.1 != k)

/-! ### Register fields in a word and in a store of registers -/

/-- The mask of a field's bits at bit 0. -/
def Fld.ones (f : Fld) : Word := BitVec.ofNat 32 (2 ^ f.width - 1)

/-- The field's value in a register word. -/
def Fld.ext (f : Fld) (w : Word) : Nat := ((w >>> f.lo) &&& f.ones).toNat

/-- The register word with the field set to `v` (the low bits of `v` that fit). -/
def Fld.ins (f : Fld) (w : Word) (v : Nat) : Word :=
  (w &&& ~~~(f.ones <<< f.lo)) ||| ((BitVec.ofNat 32 v &&& f.ones) <<< f.lo)

/-- The value of field `f` of entry (i, j) in a store of registers. -/
def Cells.rd (r : Cells 32) (f : Fld) (i : Nat := 0) (j : Nat := 0) : Nat := f.ext (Cells.get r (f.addr i j))

/-- The store with field `f` of entry (i, j) set to `v`. -/
def Cells.wr (r : Cells 32) (f : Fld) (v : Nat) (i : Nat := 0) (j : Nat := 0) : Cells 32 :=
  Cells.set r (f.addr i j) (f.ins (Cells.get r (f.addr i j)) v)

/-- Adds `n` to a counter field, which holds at its all-ones value (R56). -/
def Cells.bump (r : Cells 32) (f : Fld) (i : Nat := 0) (j : Nat := 0) (n : Nat := 1) : Cells 32 :=
  r.wr f (satNat f.width (r.rd f i j + n)) i j

end Sys2Proof.Machine
end

