-- ==== Sys2Proof/Machine/State.lean ====
section
/-! DEFINITION. The state of the module as plain data, its stops, and the state after reset. -/

namespace Sys2Proof.Machine

/-- Reasons for a fault of the model. The engines' own faults (R86) are effects on the state and none of these. -/
inductive Fault where
  /-- Raised by no command of this model: the spec stops the module nowhere. Safe. -/
  | none
  deriving DecidableEq, Repr

/-- Reasons for a refusal of the model. -/
inductive Refusal where
  /-- Raised by an arm of `exec` whose command has no meaning yet. Safe: the model stops. -/
  | notModelled (mnemonic : String)
  deriving DecidableEq, Repr

/-! ### Registers -/

/-- The registers of a set of blocks: the values in effect, the shadows written since the latest commit (an address
without an entry has the value in effect as its shadow), and the pending set of each block by its base (R54). -/
structure RegFile where
  eff : List (Nat × Word) := []
  shadow : List (Nat × Word) := []
  pend : List (Nat × List (Nat × Word)) := []
  deriving DecidableEq, Repr

/-! ### Logic engines (spec/03_engine_model.md) -/

/-- What an engine does. LE_ENG_STAT_n shows TRAP beside it (R92). -/
inductive EngState where
  | idle | run | wait
  deriving DecidableEq, Repr

/-- The register state of an activation (R59, R61). DEPTH is `hw.length + m`. `x` lists the index registers that are
not 0. -/
structure Regs where
  ba : Bool := false
  /-- Hardware entries of the branch stack, oldest first (R63). -/
  hw : List (BitVec 4) := []
  /-- Number of spilled entries (R63). -/
  m : Nat := 0
  acc1 : Word := 0
  acc2 : Word := 0
  x : List (Nat × Word) := []
  sv : Bool := false
  n : Bool := false
  z : Bool := false
  v : Bool := false
  c : Bool := false
  pc : BitVec 22 := 0
  /-- Open call frames (R66). -/
  frames : Nat := 0
  deriving DecidableEq, Repr

/-- A gauge sample as the distributor delivers it (R199, R136). -/
structure GaugeSample where
  stamp : Nat := 0
  tt : Nat := 0
  ttLocked : Bool := false
  p : Int := 0
  pRef : Bool := false
  d : Nat := 0
  dFull : Bool := false
  phi : Nat := 0
  phPresent : Bool := false
  speed : Int := 0
  deriving DecidableEq, Repr

/-- A communication object as the distributor delivers it to the lanes: a PD telegram, an SDT channel, an MD session
or a CAN buffer (R142 to R145). -/
structure CommObj where
  status : Word := 0
  stampUs : Nat := 0
  len : Nat := 0
  data : List Word := []
  count : Nat := 0
  deriving DecidableEq, Repr

/-- A delivered object with the one before it, so that a latch takes only what is stamped before it (R15). -/
structure CommCell where
  stamp : Nat := 0
  cur : CommObj := {}
  prev : CommObj := {}
  deriving DecidableEq, Repr

/-- The latest sample of an I word with its stamp, and the sample before it (R13, R15). -/
structure Sample where
  stamp : Nat := 0
  cur : Word := 0
  prev : Word := 0
  deriving DecidableEq, Repr

/-- What an activation carries beside its registers: its task-start stamp, the previous one, its retired
instructions and cycles, the open proof window, and what its input latch took. -/
structure Act where
  start : Nat := 0
  prev : Option Nat := none
  retired : Nat := 0
  cycles : Nat := 0
  winNo : Nat := 0
  /-- Records folded into the open window so far. -/
  pos : Nat := 0
  crc : BitVec 64 := 0xFFFFFFFFFFFFFFFF
  gauge : GaugeSample := {}
  comm : List (Nat × CommObj) := []
  /-- Set when a cancel waits for the end of a WAIT (R158): the LAST_END code. -/
  cancel : Option Nat := none
  deriving DecidableEq, Repr

/-- A waiting request of an engine (R139): the kind code of R236, its targets, the first D word and word count it
may write, and the request's length in code words. -/
structure WaitReq where
  kind : Nat
  t0 : Word := 0
  t1 : Word := 0
  data : Word := 0
  dFirst : Nat := 0
  dWords : Nat := 0
  cyc : Nat := 1
  deriving DecidableEq, Repr

/-- One logic engine of a lane. -/
structure Eng where
  st : EngState := .idle
  task : Nat := 0
  r : Regs := {}
  act : Act := {}
  /-- Instruction count of R84. -/
  icnt : BitVec 64 := 0
  wait : Option WaitReq := none
  /-- The other engine of a pair in SIMPLEX-DIAG (R252). -/
  pair : Option Nat := none
  /-- A task a decision has given to the engine, placed when its WAIT ends (R160); for one half of a pair, the other engine,
  and whether this one was chosen first (R252). -/
  next : Option Nat := none
  nextPair : Option (Nat × Bool) := none
  /-- The activation's task-start stamp lies ahead: its input latch has not yet begun (R169). -/
  fresh : Bool := false
  /-- End of the latest TRAP: a spill, a fill, or the way back to the dispatcher after a fault (R64, R87). -/
  trapUntil : Nat := 0
  deriving DecidableEq, Repr

/-- A context slot of the TSK block (R61). -/
structure Ctx where
  r : Regs := {}
  act : Act := {}
  /-- The other engine of a preempted pair (R252). -/
  pair : Option Nat := none
  deriving DecidableEq, Repr

/-- What a lane keeps of a task beside its registers of the TSK block. -/
structure Task where
  /-- Stamp of the accepted release (R161). -/
  stamp : Nat := 0
  ctx : Option Ctx := none
  /-- Fault records waiting with the stamps of their releases, oldest first (R161, R168). -/
  faultq : List (Nat × Word) := []
  /-- Owed mark for the task's source (R187). -/
  owed : Bool := false
  /-- Event record of the release (R188). -/
  evrec : List Word := []
  energy : Nat := 0
  heat : Nat := 0
  /-- Phase crossings counted since the restart (R155). -/
  crossings : Nat := 0
  /-- Windows opened since the latest program start (R238). -/
  windows : Nat := 0
  prevStart : Option Nat := none
  /-- Stamp of the latest cancel (R159). -/
  cancelAt : Option Nat := none
  /-- The latest overrun: its stamp, OVERRUN and the count before it, which a cancel of the same stamp puts back (R159). -/
  overAt : Option (Nat × Nat × Nat) := none
  deriving DecidableEq, Repr

/-- An item a lane presents to the voter (R235 to R241): 0 record, 1 close, 2 checkpoint, 3 beat. -/
structure Item where
  kind : Nat
  engine : Nat
  task : Nat
  win : Nat
  pos : Nat
  words : List Word := []
  sig : BitVec 64 := 0
  deriving DecidableEq, Repr

/-- The result of a waiting request on its way to an engine (R140). -/
structure ReqResult where
  engine : Nat
  code : Nat := 0
  acc1 : Option Word := none
  data : List Word := []
  deriving DecidableEq, Repr

/-- A record on its way to flash (R448): SEQ is given when it is written (R450). WRITER: 0 = program, 1 = block,
2 = recorder. TT is none while it is not locked. -/
structure LogRec where
  type : Nat
  writer : Nat
  source : Nat
  data : List Byte := []
  tt : Option Nat := none
  lt : Nat := 0
  opSec : Nat := 0
  cycles : Nat := 0
  deriving DecidableEq, Repr

/-- One lane: its SRAM, its engines and dispatcher, its event controller, its comparator bank and what it presents to
the voter (R11). Keys of `eng` are engine numbers, of `tasks` task numbers, of `first` event sources, of `hold`
event groups, of `samples` I words, of `comm` communication objects. -/
structure Lane where
  mem : List Host.Cell := []
  /-- Word addresses with a corrected single-bit error, and with an uncorrectable error (R88). -/
  ecc1 : List Nat := []
  ecc2 : List Nat := []
  /-- While an operation runs in the primary of a copy: the words of its target with an error that it has not rewritten (R257). -/
  watch : List Nat := []
  rf : RegFile := {}
  eng : List (Nat × Eng) := []
  tasks : List (Nat × Task) := []
  /-- Task table entries in use after the checks of R154. -/
  used : List Nat := []
  /-- Owned ranges of S and W as (first, count) (R70), and the retain list of D ranges (R73). -/
  ownedS : List (Nat × Nat) := []
  ownedW : List (Nat × Nat) := []
  retain : List (Nat × Nat) := []
  /-- RD_CFG.EN in effect: the module is a member of a lease group (R433). -/
  leaseEn : Bool := false
  samples : List (Nat × Sample) := []
  comm : List (Nat × CommCell) := []
  gauge : GaugeSample := {}
  gaugePrev : GaugeSample := {}
  first : List (Nat × Nat) := []
  hold : List (Nat × Nat) := []
  lastDelivery : Option Nat := none
  admitEnergy : Nat := 0xFFFF
  admitHeat : Nat := 0xFFFF
  decisions : Nat := 0
  items : List Item := []
  results : List ReqResult := []
  /-- The lane's copy of the records in staging, oldest first (R452). -/
  staging : List LogRec := []
  /-- ON_FAULT = STOP asks for STOP mode (R167). -/
  stopReq : Bool := false
  /-- A release was discarded under R253. -/
  unpaired : Bool := false
  deriving DecidableEq, Repr

/-! ### The voter and the lane states (spec/09_lanes_and_voting.md) -/

/-- A running rejoin copy (R256, R257). -/
structure Copy where
  primary : Nat
  second : Option Nat := none
  swept : Bool := false
  start : Nat := 0
  deriving DecidableEq, Repr

/-- A repair of R248 that waits for its point. -/
structure Repair where
  lane : Nat
  addr : Nat
  value : Word
  deriving DecidableEq, Repr

/-- The voter's own state. -/
structure Voter where
  /-- Records agreed and held for their window's close, oldest first. -/
  held : List Item := []
  /-- Items already released that a lane has still to present, and items a lane has missed (R240). -/
  owed : List (Nat × Item) := []
  late : List (Nat × Item) := []
  /-- Running rejoin copies by target lane. -/
  copies : List (Nat × Copy) := []
  /-- Stamps of each lane's exclusions. -/
  excl : List (Nat × List Nat) := []
  /-- Self-test result of each lane in SELFTEST: 0 running, 1 passed, 2 failed. -/
  test : List (Nat × Nat) := []
  repairs : List Repair := []
  /-- Stamp of entry into the present DUPLEX, and the minutes elapsed before it. -/
  duplexSince : Nat := 0
  graceBase : Nat := 0
  /-- The flash record of the elapsed grace in minutes (R263). -/
  graceFlash : Nat := 0
  simplexSince : Nat := 0
  /-- Lanes that voted at the entry into SAFE (R12). -/
  safeServing : List Nat := []
  heldOut : List Nat := []
  /-- Lanes that run their LANE reset or their self-test (R12). -/
  testing : List Nat := [0, 1, 2]
  deriving DecidableEq, Repr

/-! ### Host access (spec/02_host_access.md) -/

/-- A reply frame of the management protocol (R38), with the address and port it goes to (R36). -/
structure Reply where
  ip : Word := 0
  udpPort : BitVec 16 := 0
  command : Nat
  session : Nat
  seq : Nat
  status : Nat
  count : Nat := 0
  address : Word := 0
  arg : Word := 0
  payload : List Word := []
  mac : List Byte := []
  deriving DecidableEq, Repr

/-- A request in service: its SEQ, its frame with the number of words it reads or writes, the reply it will have, and the end
of its service (R48, R57). -/
structure Serving where
  seq : Nat
  frame : Frame
  words : Nat := 0
  reply : Reply
  until_ : Nat
  deriving DecidableEq, Repr

/-- A session, from its OPEN on (R44 to R49). -/
structure Session where
  number : Nat
  port : Nat
  slot : Nat
  isOpen : Bool := false
  hostNonce : List Byte := []
  modNonce : List Byte := []
  key : List Byte := []
  /-- 1 = READ, 2 = WRITE, 3 = MAINT. -/
  role : Nat := 0
  lastSeq : Nat := 0
  reply : Option Reply := none
  serving : Option Serving := none
  /-- LT in ns of the OPEN, or of the latest valid frame. -/
  last : Nat := 0
  deriving DecidableEq, Repr

/-- A credential slot (R44). -/
structure Cred where
  key : List Byte := []
  role : Nat := 0
  deriving DecidableEq, Repr

/-- An ARP or ICMP echo reply: the address and MAC it goes to, and the identifier, sequence number and data an echo carries
(R36). -/
structure PortAnswer where
  arp : Bool
  dst : Word
  mac : BitVec 48
  echo : List Byte := []
  deriving DecidableEq, Repr

/-- The host access unit beside its registers. -/
structure HostState where
  sessions : List Session := []
  creds : List Cred := []
  /-- End of the verification that holds Q31 (R46). -/
  verifyUntil : Option Nat := none
  /-- A commit of the HP block waits for its reply; the port and session that wrote it (R37). -/
  addrCommit : Bool := false
  addrBy : Option (Nat × Nat) := none
  /-- A BLOCK reset of HP waits for its reply (R541). -/
  resetAfterReply : Bool := false
  /-- A restart a write asked for waits for its reply: true = WARM (R176). -/
  restart : Option Bool := none
  /-- The latest frame sent on each port. -/
  sent : List (Nat × Reply) := []
  /-- The latest ARP or echo reply sent on each port (R36). -/
  answers : List (Nat × PortAnswer) := []
  /-- A request that waits for the one of the other port which completed reception in the same cycle; the first of two such
  requests has been served (R34). -/
  tieHeld : Option Frame := none
  tieRest : Bool := false
  deriving DecidableEq, Repr

/-! ### CAN (spec/15_can.md) -/

/-- A frame waiting in a transmit buffer (R409, R410). -/
structure TxFrame where
  desc : List Word
  /-- A CTXT frame not yet due: time base and target in µs. -/
  held : Option (Bool × Nat) := none
  /-- Target of a CTXT frame, for its late limit. -/
  target : Option (Bool × Nat) := none
  /-- Its SOF has been sent: nothing replaces it any more (R145, R409). -/
  begun : Bool := false
  deriving DecidableEq, Repr

/-- A message buffer of a controller. -/
structure CanBuf where
  /-- Window of CN_HBUF: the latest accepted or queued frame. -/
  win : List Word := []
  /-- Latest accepted frame of an RX buffer, with its stamp in µs. -/
  rx : List Word := []
  rxStamp : Nat := 0
  copy : Option (List Word) := none
  lockedAt : Option Nat := none
  tx : Option TxFrame := none
  /-- A frame queued while one is in progress. -/
  next : Option TxFrame := none
  /-- PDO: Q words as applied, the stamp of the latest commit with the Q words before that stamp, the stamp of the latest
  queuing, a queuing held by the inhibit interval, stamp of the latest frame or of the start of its timeout, frames given since
  COLD. -/
  q : List Word := []
  qAt : Option Nat := none
  qBefore : List Word := []
  lastQueue : Option Nat := none
  deferred : Bool := false
  lastRx : Option Nat := none
  pdoCount : Nat := 0
  pdoStatus : Word := 0
  deriving DecidableEq, Repr

/-- A CAN controller beside its registers. -/
structure CanCtl where
  /-- Index of the rate candidate tried, and the stamp of its start (R404). -/
  cand : Nat := 0
  candStart : Nat := 0
  fifo : List (List Word) := []
  /-- End of the bus-off delay (R411). -/
  boUntil : Nat := 0
  /-- Waits for 11 recessive bits (R403). -/
  integrating : Bool := false
  syncs : Nat := 0
  lastSync : Nat := 0
  /-- A SYNC frame pending for transmission (R416), whether it has been in progress, and one produced since then. -/
  syncTx : Bool := false
  syncBegun : Bool := false
  syncNext : Bool := false
  /-- The SYNC frame is in progress (R409). -/
  syncProg : Bool := false
  deriving DecidableEq, Repr

/-- The CAN unit: controllers by number, buffers by 64 × c + b. -/
structure CanState where
  ctl : List (Nat × CanCtl) := []
  buf : List (Nat × CanBuf) := []
  deriving DecidableEq, Repr

/-! ### Line Gauge (spec/08_line_gauge.md) -/

/-- A wheel-sensor pair (R203, R204). -/
structure WsPair where
  /-- Stamps of its latest edges in ns with their directions (true = forward), newest first. -/
  edges : List (Nat × Bool) := []
  /-- Directions of its latest edges, newest first: true = forward. -/
  dirs : List Bool := []
  /-- Stamps of its quadrature errors in the last second, newest first. -/
  qerrs : List Nat := []
  /-- Edges of the other pair since its own latest edge. -/
  others : Nat := 0
  /-- Latest instant at which a cause of R204 held. -/
  badAt : Nat := 0
  /-- The signed travel at its latest edge, or at the start or slip end after it, with that stamp (R207, R210). -/
  at_ : Int := 0
  since : Nat := 0
  deriving DecidableEq, Repr

/-- A comparator in the hit unit (R221 to R225). -/
structure HitCmp where
  words : List Word := []
  /-- HOLD: the quantity is not valid. -/
  hold : Bool := false
  /-- No tick evaluated since the arm. -/
  fresh : Bool := true
  /-- The side at the latest evaluated tick (true = UPPER); none before the first one after an arm or a HOLD. -/
  side : Option Bool := none
  /-- The target was passed by a TT step, and TT has not fallen back behind it (R224). -/
  stepped : Bool := false
  /-- A condition met at a tick, which COMPARATOR_FIRE carries out: its LAST_HIT code, LATE, and the tick's stamp. -/
  due : Option (Nat × Bool × Nat) := none
  deriving DecidableEq, Repr

/-- A switch command on its way to a channel (R228): firing stamp, channel, level (ACTION 3) or pulse length in µs. -/
structure SwitchCmd where
  fired : Nat
  channel : Nat
  pulse : Bool
  value : Nat
  deriving DecidableEq, Repr

/-- A running calibration run (R211). -/
structure CalRun where
  pRef : Int
  eRef : Nat
  n0 : Nat := 0
  n1 : Nat := 0
  clean : Bool := true
  deriving DecidableEq, Repr

/-- What the retained save keeps of the Line Gauge (R215, R216). -/
structure LgSave where
  p : Int := 0
  d : Nat := 0
  orient : Bool := false
  cal0 : Word := 0
  cal1 : Word := 0
  calTol : Nat := 0
  deriving DecidableEq, Repr

/-- The Line Gauge beside its registers. Travel, P and D are in 2^-16 mm, speeds in 2^-16 mm/s, accelerations in
2^-16 mm/s². -/
structure LgState where
  /-- TT at LT `ttLt`, and its rate in ppb (R201). -/
  tt : Nat := 0
  ttLt : Nat := 0
  rate : Int := 0
  isum : Int := 0
  lastMeas : Option Nat := none
  /-- Consecutive measurements below LOCK_THR (R202). -/
  lockRun : Nat := 0
  /-- Steps of TT since the latest tick. -/
  ttStep : Int := 0
  pair0 : WsPair := {}
  pair1 : WsPair := {}
  /-- Counted signed travel and the stamp of its latest edge, with the direction of that edge (R205, R207). -/
  travel : Int := 0
  edgeAt : Nat := 0
  fwd : Bool := true
  /-- Interpolated travel at the latest tick (R207). -/
  vhat : Int := 0
  /-- P = pBase + s × vhat (R213). -/
  pBase : Int := 0
  /-- Counted distance, and the edges held back after a change of direction (R205): how many, and their length. -/
  dist : Nat := 0
  heldEdges : Nat := 0
  heldLen : Nat := 0
  /-- D as it reads (never decreasing). -/
  dRead : Nat := 0
  /-- Edges of the used pair: stamp, travel and counted distance, newest first, at most 65 536 (R212, R214). -/
  history : List (Nat × Int × Nat) := []
  refStamp : Nat := 0
  dAtRef : Nat := 0
  eRef : Nat := 0
  /-- SLIP_ERR in 2^-32 mm. -/
  slipErr : Nat := 0
  aRaw : Int := 0
  /-- g_ofs scaled by 10 000 (R208). -/
  gAcc : Int := 0
  /-- Stamp of the slip flag's onset, the latest instant a condition of R209 held, v_est scaled by 10^6 and the travel
  since the onset scaled by 10^12 (R210). -/
  slipOn : Nat := 0
  slipHeld : Nat := 0
  vEst : Int := 0
  slipAcc : Int := 0
  slipBase : Int := 0
  cal : Option CalRun := none
  /-- APPLY_REF written and not yet carried out (R212). -/
  applyReq : Bool := false
  lastCross : Option Nat := none
  /-- Crossing intervals in ns, newest first, at most 8 (R217). -/
  intervals : List Nat := []
  /-- Φ with 32 fractional bits at LT `phiAt`, and its rate per tick (R218). -/
  phi : Nat := 0
  phiAt : Nat := 0
  phiRate : Nat := 0
  /-- Φ and PRESENT at the previous tick. -/
  prevPhi : Nat := 0
  prevPresent : Bool := false
  /-- Consecutive evaluations with the class in EVAL (R219). -/
  classRun : Nat := 0
  cmp : List (Nat × HitCmp) := []
  /-- Released arms and disarms not yet applied, in release order: release stamp, comparator, arm record or none. -/
  arms : List (Nat × Nat × Option (List Word)) := []
  switches : List SwitchCmd := []
  lastTick : Nat := 0
  /-- The always-on section lost its supply since the main section last started (R216). -/
  aoLost : Bool := true
  /-- D when the main section stopped, while it does not work (R215). -/
  aoFrom : Option Nat := none
  saved : Option LgSave := none
  deriving DecidableEq, Repr

/-! ### Safety Chase (spec/10_safety_chase.md) -/

/-- A terminal of the Chase (R269 to R279). -/
structure ScTerm where
  /-- Sampled level against the thresholds, none before one is reached, and the stamp since which it holds. -/
  level : Option Bool := none
  levelAt : Nat := 0
  /-- Consecutive samples that differ from the filtered value. -/
  run : Nat := 0
  /-- The filtered value. -/
  filt : Bool := false
  undetAt : Nat := 0
  /-- Stamp at which the filtered value became 1. -/
  oneAt : Nat := 0
  /-- Findings of R276 in the running test cycle and in the one before: kind (1 missed, 2 foreign) and slot. -/
  found : List (Nat × Nat) := []
  foundBefore : List (Nat × Nat) := []
  /-- In the running test cycle: a finding occurred; the slots whose pulses gave a correct sample; the fault stood at its start. -/
  cycleBad : Bool := false
  cycleSeen : List Nat := []
  cycleFault : Bool := false
  /-- A full test cycle with the correct pattern has passed since the fault (R276). -/
  goodCycle : Bool := false
  /-- The running dark pulse: true when it opens the lane switch; and whether the next one does (R278). -/
  dark : Option Bool := none
  darkLane : Bool := false
  /-- Since when both switches are commanded open, and low seen for 1 ms after EXT_POTENTIAL (R279). -/
  openAt : Option Nat := none
  extLow : Bool := false
  /-- Consecutive cycles of discrepancy, and DISC set for this run (R285). -/
  discRun : Nat := 0
  discSet : Bool := false
  deriving DecidableEq, Repr

/-- A timer of the Chase: consecutive cycles with input 1, cycles left after its fall, output (R283). -/
structure ScTimer where
  run : Nat := 0
  left : Nat := 0
  out : Bool := false
  deriving DecidableEq, Repr

/-- The Safety Chase beside its registers. -/
structure ScState where
  /-- The loaded copy of the table, as words (R280). -/
  table : List Word := []
  terms : List (Nat × ScTerm) := []
  timers : List (Nat × ScTimer) := []
  latches : Nat := 0
  /-- A release of the ACK key for the next Chase cycle (R281). -/
  ackRel : Bool := false
  /-- Start stamp and number of each group's running test cycle (R274). -/
  cycles : List (Nat × Nat × Nat) := []
  /-- Consecutive missing heartbeats (R287). -/
  misses : Nat := 0
  /-- Stamp of the present DEGRADED entry, the seconds counted before it, and the flash record (R288). -/
  degrAt : Nat := 0
  degrBase : Nat := 0
  degrFlash : Nat := 0
  deriving DecidableEq, Repr

/-! ### Field channels (spec/11_field_digital.md, spec/12_field_analogue.md) -/

/-- A field channel beside its registers. -/
structure FdChan where
  /-- Raw level with hysteresis (none before a threshold was reached), its consecutive equal samples, its latest
  change, and the latest level the filter accepted with its stamp. -/
  raw : Option Bool := none
  run : Nat := 0
  changedAt : Nat := 0
  filt : Option Bool := none
  acceptAt : Nat := 0
  undetAt : Nat := 0
  /-- UNDET has ended without an accepted level (R312). -/
  undetDone : Bool := false
  oneAt : Nat := 0
  /-- Latest pin voltage in mV and load current in mA. -/
  mv : Int := 0
  ma : Int := 0
  /-- Stamp of the latest edge (R330). -/
  edgeAt : Option Nat := none
  /-- The counted level, none before an edge, and the count (R315, R316). -/
  lvl : Option Bool := none
  count : Int := 0
  /-- Committed on bit and Q value word as last applied, and whether a commit has been applied since the reset. -/
  on : Bool := false
  q : Word := 0
  commits : Bool := false
  /-- Timed level, and the end of a comparator pulse (R324, R228). -/
  timed : Option Bool := none
  pulseEnd : Option Nat := none
  /-- End of a running DO_PULSE pulse (R323). -/
  dopEnd : Option Nat := none
  /-- DO_PWM runs; PERIOD and DUTY in effect, and the start of the running period (R322). -/
  pwmRun : Bool := false
  period : Nat := 0
  duty : Nat := 0
  periodAt : Nat := 0
  tripAt : Nat := 0
  /-- An over-temperature trip has not yet cooled, and a commit at least 10 ms after the trip carried 0 (R319). -/
  hot : Bool := false
  released : Bool := false
  backfed : Bool := false
  /-- Held off by a trip of its group (R300). -/
  grpHeld : Bool := false
  transEnd : Option Nat := none
  overrun : Bool := false
  /-- Only a conversion that begins at this stamp or later counts (R334). -/
  convFrom : Nat := 0
  /-- Results of the latest conversions, newest first; consecutive ones beyond the range, beyond the open-wire limit
  and below the short limit; the VALUE comparison; the latest result. -/
  convs : List Int := []
  full : Bool := false
  beyond : Nat := 0
  openRun : Nat := 0
  shortRun : Nat := 0
  hiSince : Option Nat := none
  result : Int := 0
  limit : Bool := false
  shuntOff : Bool := false
  /-- The value of the latest conversion (R336). -/
  last : Int := 0
  /-- The heat level in force, and one to come with the boundary at which it takes effect (R335). -/
  heat : Nat := 0
  heatTo : Option (Nat × Nat) := none
  /-- The flash record of the user trim: G and b (R347). -/
  trimFlash : Word × Word := (0, 0)
  deriving DecidableEq, Repr

/-- A commit set on its way to a group: its words by word offset in the output frame (R308). -/
structure CommitSet where
  released : Nat
  words : List (Nat × Word)
  deriving DecidableEq, Repr

/-- A field group beside its registers. -/
structure FdGroup where
  commits : List CommitSet := []
  /-- The latest delivered frame: stamp, words 0 and 1. -/
  frameAt : Option Nat := none
  w0 : Word := 0
  w1 : Word := 0
  deriving DecidableEq, Repr

/-! ### Forme bus (spec/13_forme_bus.md) -/

/-- A transmit entry of the frame table (R371): its Q words as applied, the commit sets on their way, the payload
taken at the latest preparation point with its NULL bit, and whether a commit waits to be sent. -/
structure FbTx where
  q : List Word := []
  commits : List CommitSet := []
  prepared : List Word := []
  null : Bool := true
  /-- A commit applied before the latest preparation point, or a frame sent in every cycle, waits to be sent. -/
  pending : Bool := false
  /-- The latest frame formed (R358). -/
  frame : List Byte := []
  deriving DecidableEq, Repr

/-- A branch of the star (R365): a violation in the running cycle, quarantine cycles left, consecutive cycles without a
violation. -/
structure FbBranch where
  viol : Bool := false
  left : Nat := 0
  clean : Nat := 0
  deriving DecidableEq, Repr

/-- A frame as it leaves a branch of the star (R354): one of another branch, whole or cut, or one of the module's own. -/
inductive FbOut where
  | node (b : Nat) (f : FbFrame) (whole : Bool)
  | own (bytes : List Byte)
  deriving DecidableEq, Repr

/-- A frame the star forwards to the module's controller: its branch, whether it is whole, and the window it began in, as
(static, number) (R354, R363). -/
structure FbFwd where
  branch : Nat
  frame : FbFrame
  whole : Bool
  win : Bool × Nat
  deriving DecidableEq, Repr

/-- The Forme controller beside its registers. -/
structure FbState where
  /-- The first cycle since the entry into LOCKUP has begun; LT of the running cycle's start. -/
  started : Bool := false
  cycleAt : Nat := 0
  /-- Dynamic frames of the branches in this cycle, as (minislot, length), and own ones prepared, with their entries
  (R361). -/
  dyn : List (Nat × Nat) := []
  own : List (Nat × Nat × Nat) := []
  /-- Receive entries accepted, and seen and not accepted, in this cycle (R372). -/
  accepted : List Nat := []
  bad : List Nat := []
  /-- Frames on their way from the star to the controller; the latest frame that left each branch (R354). -/
  fwd : List FbFwd := []
  out : List (Nat × FbOut) := []
  /-- The lanes have entered SLEEP or HOLDUP: the controller parks when the running cycle has ended (R366). -/
  park : Bool := false
  /-- A loaded page waits for the end of the reset of FB: LOCKUP is entered when FB is ready (R366). -/
  waits : Bool := false
  /-- First announcing cycle, and the result of the check at c_s - 1 (R368, R369). -/
  firstAnn : Nat := 0
  passed : Bool := false
  tx : List (Nat × FbTx) := []
  br : List (Nat × FbBranch) := []
  /-- The latest sync frame from its Forme header on (R358, R359). -/
  sync : List Byte := []
  deriving DecidableEq, Repr

/-! ### Consist network (spec/14_train_network.md) -/

/-- The module's own copy in an egress queue (R381): PD entry or MD session, its publication instant in ns and its
deadline in µs, and the topography counters of its header (R386). -/
structure OwnCopy where
  md : Bool := false
  obj : Nat
  tp : Nat
  deadline : Nat
  etb : Word := 0
  optrn : Word := 0
  deriving DecidableEq, Repr

/-- A frame the endpoint sends beside its telegrams (R378, R380): a Delay_Req of the ordinary clock, the answer to an ARP request and
to an ICMP echo request, each with the asking address. -/
inductive NwCtl where
  | delayReq
  | arpReply (asker : Word)
  | echoReply (asker : Word)
  deriving DecidableEq, Repr

/-- A frame as it left an egress port: its tag as (VID, PCP), its length, and the transit frame, own copy or other frame of the
endpoint it is (R377, R378, R385). -/
structure SentFrame where
  tag : Option (Nat × Nat) := none
  len : Nat
  frame : Option EthFrame := none
  own : Option OwnCopy := none
  ctl : Option NwCtl := none
  deriving DecidableEq, Repr

/-- A frame in an egress queue (R380). -/
structure QFrame where
  pcp : Nat
  bytes : Nat
  own : Option OwnCopy := none
  ctl : Option NwCtl := none
  /-- A transit frame with its VID, the port it came in at and its ingress stamp (R377, R385). -/
  frame : Option EthFrame := none
  vid : Nat := 0
  inPort : Nat := 0
  inAt : Nat := 0
  /-- A mirrored frame as it passed its port (R400). -/
  copy : Option SentFrame := none
  deriving DecidableEq, Repr

/-- A learned source address of a plane (R376). -/
structure FdbEntry where
  plane : Nat
  mac : BitVec 48
  port : Nat
  at_ : Nat
  deriving DecidableEq, Repr

/-- An ARP cache entry of a plane (R378): the address it resolves to, if any, and the stamp of the latest request. -/
structure ArpEntry where
  plane : Nat
  ip : Word
  mac : Option (BitVec 48) := none
  asked : Nat := 0
  deriving DecidableEq, Repr

/-- A PD entry at work (R389 to R393). Publisher: the buffer, TXPDs on their way with their stamps, whether one has been
applied, the counter, the latest publication with the lock of TT at it, its dataset and its mark. Subscriber: the latest accepted counter
and stamp, the payload, and whether the timeout has fallen since. -/
structure NwPd where
  buf : List Word := []
  writes : List (Nat × List Word) := []
  applied : Bool := false
  counter : Option Nat := none
  pubAt : Option Nat := none
  pubTt : Bool := false
  pubData : List Word := []
  pubInvalid : Bool := false
  status : Word := 0
  last : Option Nat := none
  accAt : Option Nat := none
  tmoDone : Bool := false
  data : List Word := []
  len : Nat := 0
  count : Nat := 0
  deriving DecidableEq, Repr

/-- A comparison window of R295. -/
structure SdtWin where
  c : Nat
  t1 : Nat
  plane : Nat
  data : List Word
  deriving DecidableEq, Repr

/-- A receiving SDT channel (R295, R396). -/
structure NwSdt where
  status : Word := 0
  last : Option Nat := none
  /-- (c_r, t_r). -/
  ref : Option (Nat × Nat) := none
  accAt : Option Nat := none
  tmoDone : Bool := false
  wins : List SdtWin := []
  /-- Counters of closed windows that a late copy could still name (R295). -/
  closed : List Nat := []
  data : List Word := []
  len : Nat := 0
  count : Nat := 0
  deriving DecidableEq, Repr

/-- A queued message (R398). -/
structure MdQueued where
  src : Word
  sid : Nat
  len : Nat
  data : List Word
  deriving DecidableEq, Repr

/-- An MD session at work. -/
structure NwMd where
  queue : List MdQueued := []
  /-- The outstanding request and its stamp; the popped request to answer. -/
  outstanding : Option (Nat × Nat) := none
  popped : Option (Word × Nat) := none
  late : Bool := false
  dropped : Bool := false
  replyTmo : Bool := false
  /-- The latest message sent: its type, destination, sessionId, length and bytes. -/
  sent : Option MdMsg := none
  sentTo : Word := 0
  deriving DecidableEq, Repr

/-- The ordinary clock (R382 to R384). -/
structure PtpState where
  /-- Kept p values, newest first, at most 8. -/
  kept : List Int := []
  /-- Qualified masters by plane, with the stamp of their latest Announce. -/
  masters : List (Nat × Announce × Nat) := []
  /-- The selected master. -/
  sel : Option Announce := none
  /-- A two-step Sync waiting for its Follow_Up: t2 and correction. -/
  syncWait : Option (Int × Int) := none
  /-- t2 - t1 - cs of the latest complete Sync. -/
  fwd : Option Int := none
  t3 : Option Int := none
  /-- Stamp of the latest Delay_Req, and how many have been sent (R384). -/
  reqAt : Option Nat := none
  reqNo : Nat := 0
  /-- The start of the use of the plane in use (R383). -/
  useAt : Nat := 0
  /-- Measurements delivered to the Line Gauge and not yet applied. -/
  meas : List Int := []
  deriving DecidableEq, Repr

/-- The consist network unit beside its registers. Egress ports: 0 = A1, 1 = A2, 2 = B1, 3 = B2, 4 and 5 = the internal
ports of planes A and B, 6 = SVC. -/
structure NwState where
  fdb : List FdbEntry := []
  arp : List ArpEntry := []
  queues : List (Nat × List QFrame) := []
  pd : List (Nat × NwPd) := []
  sdt : List (Nat × NwSdt) := []
  md : List (Nat × NwMd) := []
  mdCount : Nat := 0
  /-- Reassemblies and their start stamps. -/
  frags : List (Nat × Nat) := []
  /-- Stamp of tick 0 of the latest program start. -/
  tick0 : Option Nat := none
  ptp : PtpState := {}
  /-- The VLAN tables of the planes and the words of the external ports as loaded (R379): 64, 64 and 4 words. -/
  vlan : List Word := []
  /-- ARP requests answered: plane and asking address. -/
  answers : List (Nat × Word) := []
  /-- Links of the external ports and SVC as their pins have them: the SPEED code of each port whose link is up. -/
  links : List (Nat × Nat) := []
  /-- The latest frame that left each egress port. -/
  sent : List (Nat × SentFrame) := []
  deriving DecidableEq, Repr

/-! ### Rack bus bridge (spec/16_rack_bridge.md) -/

/-- A request in the bridge's queue (R424): a BRD or BWR of an engine, its window, width code, offset and data. -/
structure BrReq where
  write : Bool
  win : Nat
  wid : Nat
  ofs : Nat
  data : Word := 0
  engine : Nat
  deriving DecidableEq, Repr

/-- The bridge beside its registers. While master its pins carry `addr`, `be` (lane j in bit j, enabled = 1) and the
write data `ad` (R420, R422). -/
structure BrState where
  queue : List BrReq := []
  /-- The request taken, with the stamp of its bus request (R419). -/
  opn : Option BrReq := none
  reqAt : Nat := 0
  /-- Stamp of clock 0 while a transaction runs. -/
  clock0 : Option Nat := none
  addr : Nat := 0
  be : BitVec 4 := 0
  ad : Word := 0
  /-- LAST of R419. -/
  last : Nat := 3
  /-- SRB_CLK runs, and SRB_RST_N has not been asserted since the bridge was last ready (R418). -/
  clk : Bool := false
  rst : Bool := false
  /-- Window sizes as delivered to the lanes, 0 for a disabled window (R423). -/
  sizes : List Nat := []
  deriving DecidableEq, Repr

/-! ### Module pairs and the lease (spec/17_module_redundancy.md) -/

/-- A member as another module's messages show it (R433, R434). -/
structure RdMember where
  slot : Nat
  rank : Nat := 0
  /-- LT of its latest message. -/
  at_ : Nat := 0
  /-- Type and sequence number of its latest messages, newest first. -/
  seen : List (Nat × Nat) := []
  deriving DecidableEq, Repr

/-- A RENEW this module sent as CLAIMING or HOLDER (R437): its number, its stamp, the members alive then, and those
that have acknowledged it. -/
structure RdRenew where
  n : Nat
  at_ : Nat
  alive : List Nat
  acked : List Nat := []
  deriving DecidableEq, Repr

/-- An own publication whose comparison is open (R444): its counter and instant, whether it can be compared (TT locked, not marked
invalid), and its dataset. -/
structure RdPub where
  counter : Nat
  at_ : Nat
  ok : Bool
  data : List Word
  deriving DecidableEq, Repr

/-- A comparison pair at work (R444). -/
structure RdPair where
  /-- The own publications not yet judged, oldest first. -/
  opn : List RdPub := []
  faulted : Bool := false
  /-- Consecutive matches of a faulted pair. -/
  matched : Nat := 0
  deriving DecidableEq, Repr

/-- A lease message as sent, with the planes and the inter-module links it travelled on (R433, R522). -/
structure LeaseOut where
  msg : LeaseMsg
  planes : List Nat := []
  links : List Nat := []
  deriving DecidableEq, Repr

/-- The redundancy unit beside its registers. -/
structure RdState where
  /-- The other members, in order of first hearing. -/
  members : List RdMember := []
  /-- Own message count, the messages last sent (newest first, at most 4), and the stamp of the latest periodic one. -/
  seq : Nat := 0
  out : List LeaseOut := []
  periodAt : Option Nat := none
  renews : List RdRenew := []
  /-- h_a of R436; the instant S + G of R437 counts from; the stamp of the CLAIM sent. -/
  ackAt : Nat := 0
  base : Nat := 0
  claimAt : Nat := 0
  /-- BARRED by command, and by a yield (R445, R446). -/
  bar : Bool := false
  yieldBar : Bool := false
  /-- Stamp of the latest message that showed a duplicate SLOT_ID (R432). -/
  dupAt : Option Nat := none
  pairs : List (Nat × RdPair) := []
  /-- Own RANK as last followed. -/
  rank : Nat := 0
  /-- Status words 0 and 1 as last delivered, with the stamp of the latest change (R447). -/
  status : Word × Word := (0, 0)
  changeAt : Nat := 0
  /-- Stamp of the latest status sample. -/
  sampleAt : Nat := 0
  deriving DecidableEq, Repr

/-! ### Event recorder (spec/18_event_recorder.md) -/

/-- A record in flash: its SEQ, the block it lies in, its offset there, and whether it is valid (R455). -/
structure FlashRec where
  seq : Nat
  block : Nat
  ofs : Nat
  valid : Bool := true
  filler : Bool := false
  entry : LogRec
  deriving DecidableEq, Repr

/-- An erase block of the partition: erase count, and BSEQ when it has been opened (R451). -/
structure EraseBlock where
  erases : Nat := 0
  bseq : Option Nat := none
  deriving DecidableEq, Repr

/-- The event recorder beside its registers. -/
structure ErState where
  /-- The records in staging while no lane holds them: the save of R507 and what is staged in a boot (R452). -/
  staging : List LogRec := []
  /-- Discards since the previous STAGING_DROP (R453). -/
  dropProg : Nat := 0
  dropHw : Nat := 0
  /-- Records in flash, oldest first, and the erase blocks by index. -/
  log : List FlashRec := []
  blocks : List (Nat × EraseBlock) := []
  /-- The block being written and the next free byte in it. -/
  cur : Nat := 196607
  free : Nat := 524288
  nextBseq : Nat := 0
  clrKey : List Byte := []
  /-- The open challenge: nonce and the end of its 10 s (R458). -/
  challenge : Option (List Byte × Nat) := none
  response : List (Nat × Word) := []
  /-- Blocks with records below this SEQ only are being erased (R458). -/
  eraseBelow : Option Nat := none
  /-- Records of each port's window, as words. -/
  bufs : List (Nat × List Word) := []
  /-- Count of staged records left unwritten at the latest supply loss (R455). -/
  unwritten : Nat := 0
  deriving DecidableEq, Repr

/-! ### Power unit (spec/19_power_and_ageing.md) -/

/-- What the retained save holds (R464) beside staging (R507). -/
structure SaveData where
  retained : List Host.Cell := []
  lg : LgSave := {}
  grace : Nat := 0
  degraded : Nat := 0
  unwritten : Nat := 0
  balance : Nat := 0
  heat : Nat := 0
  opSec : Nat := 0
  cycles : Nat := 0
  staging : List LogRec := []
  deriving DecidableEq, Repr

/-- A save region: the save count of its start word, the image identifier it names, and whether its end mark has been
written (R464). -/
structure SaveRegion where
  count : Nat
  bootId : BitVec 64 := 0
  /-- The CRC of R464 over the content, written before the end word. -/
  crc : BitVec 64 := 0
  ended : Bool := false
  data : SaveData := {}
  deriving DecidableEq, Repr

/-- A lane's core rail at work (R480, R481): consecutive samples below SLACK_LO, the stamp of the latest step, and a
step requested. -/
structure Vcore where
  low : Nat := 0
  stepAt : Option Nat := none
  wanted : Bool := false
  deriving DecidableEq, Repr

/-- The power unit beside its registers. -/
structure PwState where
  powerCycles : Nat := 0
  /-- Engines, distributor and voter are stopped: HOLDUP (R463) or retained in SLEEP (R467). -/
  frozen : Bool := false
  /-- OFF: the module is unpowered. -/
  off : Bool := false
  /-- Stamp of the power-up OP_SECONDS counts from, and its value then. -/
  upAt : Nat := 0
  opBase : Nat := 0
  /-- Stamp of the latest supply loss while it stands. -/
  lostAt : Option Nat := none
  /-- The two save regions by number, and whether a save is being written. -/
  saves : List (Nat × SaveRegion) := []
  saving : Option Nat := none
  /-- State before ENTERING; stamp of the request; quiet point reached; a lane excluded during the entry. -/
  before : Nat := 1
  entryAt : Nat := 0
  quiet : Bool := false
  abort : Bool := false
  /-- Stamp of retention and the distance counted then (R469). -/
  retainedAt : Nat := 0
  distAt : Nat := 0
  /-- The wake latch is armed; word 0 of PW_LAST_WAKE and the µs it has latched (R470). -/
  armed : Bool := false
  latch : Option (Word × Nat) := none
  /-- A supply that is present again in HOLDUP, with what its SUPPLY_PRESENT gave: slot code, key, SYSTEM slots (R465). -/
  back : Option (Nat × Bool × BitVec 2) := none
  /-- Balance and heat credit in nJ; each has reached 0 and waits for its consequences (R473 to R476). -/
  bal : Nat := 0
  heat : Nat := 0
  balZero : Bool := false
  heatZero : Bool := false
  /-- H_MAX, LVL1 and LVL2 in mJ as loaded (R489). -/
  hMax : Nat := 0
  lvl1 : Nat := 0
  lvl2 : Nat := 0
  /-- The status sample as last delivered: words 0 and 3, and its stamp. -/
  shown : Word × Word := (0, 0)
  shownAt : Nat := 0
  vcore : List (Nat × Vcore) := []
  /-- Accumulated reference corrections by group in 0.001 % (R486). -/
  refs : List (Nat × Int) := []
  /-- What a re-plan still owes, in its order: groups whose references are to be compared, and then flash blocks to be scanned
  again (R485). -/
  planRefs : List Nat := []
  planScans : List Nat := []
  /-- Corrected bits at the latest scan of each flash block (R487). -/
  scans : List (Nat × Nat) := []
  /-- Measured ratios R_on / R_lim in 0.001 by group, with their stamps (R482). -/
  ron : List (Nat × List (Nat × Nat)) := []
  /-- Channels that are on: the stamp of the turn-on, none once it has been measured. -/
  onAt : List (Nat × Option Nat) := []
  deriving DecidableEq, Repr

/-! ### Boot and update (spec/20_boot_update.md) -/

/-- A slot of the image region (R490 to R492): the header of its container and its image, both sparse bytes. Its state
stands in UP_SLOT. -/
structure UpSlot where
  header : List Byte := []
  image : List Host.Cell := []
  deriving DecidableEq, Repr

/-- The container store (R495); its state, prefix and CID stand in registers. `source`: 1 = host, 2 = relay. -/
structure UpStore where
  bytes : List Host.Cell := []
  source : Nat := 0
  /-- TOTAL named by the relay's chunks. -/
  total : Option Nat := none
  /-- Stamp at which the prefix grew last. -/
  grownAt : Nat := 0
  /-- The receipt check has passed (R499). -/
  passed : Bool := false
  /-- The slot being written by an application. -/
  target : Option (Nat × Nat) := none
  deriving DecidableEq, Repr

/-- A relay chunk on its way: offset, length, stamp of its latest sending (R497). -/
structure UpChunk where
  ofs : Nat
  len : Nat
  at_ : Nat
  /-- The plane it was sent on (0 = A), and its payload as R496 lays it out. -/
  plane : Nat := 0
  payload : List Byte := []
  deriving DecidableEq, Repr

/-- The relay to one destination (R497). -/
structure UpRelay where
  next : Nat := 0
  wait : List UpChunk := []
  /-- Prefix the destination has reported, in KiB. -/
  kib : Nat := 0
  /-- Stamp of the latest growth, and the end of a pause after BUSY or GAP. -/
  grownAt : Nat := 0
  pause : Option Nat := none
  deriving DecidableEq, Repr

/-- The boot and update unit beside its registers. Keys of `slots` are 2 × kind + slot. -/
structure UpState where
  slots : List (Nat × UpSlot) := []
  store : UpStore := {}
  relay : List (Nat × UpRelay) := []
  /-- Answers to relay chunks: CID, status, KiB. The latest first. -/
  answers : List (Word × Nat × Nat) := []
  /-- Customer keys by slot, and the Sprinvos key hash. -/
  keys : List (Nat × List Byte) := []
  /-- UP_KEY_NEW as written. -/
  keyNew : List (Nat × Word) := []
  /-- The selection of this boot: slots of PROGRAM and TABLES; the first selection; copy attempts made; slots barred by
  HASH (as 2 × kind + slot). -/
  sel : Option (Nat × Nat) := none
  first : Option (Nat × Nat) := none
  attempts : Nat := 0
  hashBad : List Nat := []
  /-- The booted SYSTEM slot, and the first one in order at this POR. -/
  sys : Option Nat := none
  sysFirst : Option Nat := none
  /-- SYSTEM slots that failed HASH at this POR; a SYSTEM has been booted and no boot has completed since (R504). -/
  sysBad : List Nat := []
  sysDue : Bool := false
  /-- The blocks' own configuration memories as the booted SYSTEM image fills them (R490). -/
  config : List Host.Cell := []
  /-- NEXT_MAINT stood at the reset this boot follows (R506). -/
  maintAsk : Bool := false
  /-- This boot follows a POR, and the program start it asks for is WARM. -/
  por : Bool := true
  warm : Bool := false
  /-- The program start waits for the ACK key (R506). -/
  ackWait : Bool := false
  /-- The copies have passed and the boot waits for its mode decision. -/
  ready : Bool := false
  /-- Stamp of the end of the last STARTUP activation of the running start-up (R174). -/
  startEnd : Option Nat := none
  deriving DecidableEq, Repr

/-! ### Panel (spec/21_connectors_electrical.md) -/

/-- The ACK key and the lamp test (R536 to R539). -/
structure KeyState where
  /-- Stamp at which the key was accepted as pressed. -/
  pressedAt : Option Nat := none
  /-- Held continuously since step 1 of the boot (R506). -/
  sincePower : Bool := false
  /-- The lamp test runs; stamp of its start. -/
  lamp : Bool := true
  lampAt : Nat := 0
  deriving DecidableEq, Repr

/-! ### The module -/

/-- The whole module (R11, spec/01_architecture.md), the always-on sections and flash stores it keeps, and the queue
of waiting commands. -/
structure State where
  /-- LT of the latest happening in ns (R24). -/
  lt : Nat := 0
  /-- Registers of the module-level blocks. -/
  rf : RegFile := {}
  la : Lane := {}
  lb : Lane := {}
  lc : Lane := {}
  vt : Voter := {}
  hp : HostState := {}
  lg : LgState := {}
  sc : ScState := {}
  /-- Field channels and groups by number. -/
  chan : List (Nat × FdChan) := []
  grp : List (Nat × FdGroup) := []
  /-- Maps of R305 that are applied: the first I or Q word by map key. -/
  maps : List (Nat × Nat) := []
  fb : FbState := {}
  nw : NwState := {}
  cn : CanState := {}
  br : BrState := {}
  rd_ : RdState := {}
  er : ErState := {}
  pw : PwState := {}
  up : UpState := {}
  key : KeyState := {}
  /-- The slot code of the rack, sampled at POR (R524). -/
  slotCode : Nat := 0
  /-- End of each block's latest reset, by block base (R57). -/
  rst : List (Nat × Nat) := []
  /-- The model's own counter of free values taken. -/
  free : Nat := 0
  /-- The commands that wait, first in first out. -/
  pending : List Instr := []
  deriving DecidableEq, Repr

/-- Register values of the module-level blocks after POR that are not 0. -/
def porModule : List (Nat × Word) :=
  [(0x0, 0x1), (0x14, 0x43), (0xFF14, 0x1), (0x10004, 0xA618), (0x10008, 0xC0A8640A), (0x1000C, 0xA420010),
   (0x1FF14, 0x1), (0x6100C, 0x641900A), (0x61020, 0xC2), (0x61024, 0xFFFFFFFF), (0x61040, 0x19147D18), (0x61044, 0xA0CCD),
   (0x6105C, 0x320000), (0x61070, 0x320001), (0x61080, 0x210), (0x6FF14, 0x1), (0x80000, 0xC00), (0x80020, 0x183048),
   (0x8FF14, 0x1), (0x9FF14, 0x1)] ++
  (List.range 128).flatMap (fun n => [(0xA0000 + 0x100 * n + 0x10, 0x2), (0xA0000 + 0x100 * n + 0x44, 0x20)]) ++
  [(0xAFF14, 0x1), (0x100000, 0x800), (0x100008, 0x1F40408), (0x10FF14, 0x1), (0x120108, 0x208), (0x12FF14, 0x1),
   (0x14000C, 0x80), (0x14400C, 0x80), (0x14800C, 0x80), (0x14C00C, 0x80), (0x14FF14, 0x1), (0x150000, 0x1F40000),
   (0x150104, 0x4), (0x150108, 0x640000), (0x150114, 0x4), (0x150118, 0x640000), (0x150124, 0x4), (0x150128, 0x640000),
   (0x150134, 0x4), (0x150138, 0x640000), (0x150144, 0x4), (0x150148, 0x640000), (0x150154, 0x4), (0x150158, 0x640000),
   (0x150164, 0x4), (0x150168, 0x640000), (0x150174, 0x4), (0x150178, 0x640000), (0x15FF14, 0x1), (0x160000, 0xFF001),
   (0x160004, 0x30000), (0x160008, 0xFA0064), (0x160100, 0xFF), (0x160108, 0xFF), (0x160110, 0xFF), (0x16FF14, 0x1),
   (0x17FF14, 0x1), (0x180000, 0x400), (0x180018, 0xFFFFFFFF), (0x180024, 0x3E695A00), (0x18002C, 0x1), (0x18FF14, 0x1),
   (0x190000, 0x8), (0x19FF14, 0x1)]

/-- Register values of the lane-level blocks after POR that are not 0. -/
def porLane : List (Nat × Word) :=
  [(0x2FF14, 0x1), (0x40300, 0xFFFFFFFF), (0x40304, 0xFFFFFFFF), (0x4FF14, 0x1), (0x5FF14, 0x1)]

/-- The module right after POR (R8, R251 row 1): every register at its POR value, the lanes in self-test, no session,
memory with nothing listed, no command waiting. -/
def State.reset : State :=
  { rf := { eff := porModule }, la := { rf := { eff := porLane } }, lb := { rf := { eff := porLane } },
    lc := { rf := { eff := porLane } } }

end Sys2Proof.Machine
end

