-- ==== Sys2Proof/Machine/LaneOps.lean ====
section
/-! DEFINITION. A lane's SRAM with its error correction (R28, R88), its register file, its engines, and the tables of
the configuration area that the lane reads (R152, R153). -/

namespace Sys2Proof.Machine

/-! ### Register files -/

/-- Field `f` of entry (i, j), value in effect. -/
def RegFile.rd (r : RegFile) (f : Fld) (i : Nat := 0) (j : Nat := 0) : Nat := Cells.rd r.eff f i j

/-- Sets field `f` of entry (i, j) in the values in effect. -/
def RegFile.wr (r : RegFile) (f : Fld) (v : Nat) (i : Nat := 0) (j : Nat := 0) : RegFile :=
  { r with eff := Cells.wr r.eff f v i j }

/-- Adds to a counter in the values in effect (R56). -/
def RegFile.bump (r : RegFile) (f : Fld) (i : Nat := 0) (j : Nat := 0) (n : Nat := 1) : RegFile :=
  { r with eff := Cells.bump r.eff f i j n }

/-- The register word at an address, value in effect. -/
def RegFile.word (r : RegFile) (a : Nat) : Word := Cells.get r.eff a

/-- The shadow of the register at an address: the value in effect where nothing was staged (R54). -/
def RegFile.shadowWord (r : RegFile) (a : Nat) : Word := (NMap.look r.shadow a).getD (r.word a)

/-- Base address of a block's registers (R52, spec/01_architecture.md). -/
def blockBase : Block → Nat
  | .sys => 0x0 | .hp => 0x10000 | .le => 0x20000 | .tsk => 0x40000 | .evt => 0x50000 | .lg => 0x60000
  | .vt => 0x80000 | .sc => 0x90000 | .ch => 0xA0000 | .fb => 0x100000 | .nw => 0x120000 | .cn => 0x140000
  | .br => 0x150000 | .rd => 0x160000 | .er => 0x170000 | .pw => 0x180000 | .up => 0x190000

/-- One past the last address of a block's range (R52). -/
def blockEnd : Block → Nat
  | .sys => 0x10000 | .hp => 0x20000 | .le => 0x40000 | .tsk => 0x50000 | .evt => 0x60000 | .lg => 0x80000
  | .vt => 0x90000 | .sc => 0xA0000 | .ch => 0xB0000 | .fb => 0x120000 | .nw => 0x140000 | .cn => 0x150000
  | .br => 0x160000 | .rd => 0x170000 | .er => 0x180000 | .pw => 0x190000 | .up => 0x1A0000

/-- A common register field at a block (R541). -/
def Fld.at (f : Fld) (b : Block) : Fld := { f with base := blockBase b + f.base }

/-- A lane register field. -/
def Lane.rd (l : Lane) (f : Fld) (i : Nat := 0) (j : Nat := 0) : Nat := l.rf.rd f i j

/-- Sets a lane register field. -/
def Lane.wr (l : Lane) (f : Fld) (v : Nat) (i : Nat := 0) (j : Nat := 0) : Lane := { l with rf := l.rf.wr f v i j }

/-- Adds to a lane counter (R56). -/
def Lane.bump (l : Lane) (f : Fld) (i : Nat := 0) (j : Nat := 0) (n : Nat := 1) : Lane :=
  { l with rf := l.rf.bump f i j n }

/-! ### SRAM -/

/-- The word at byte address `a` (R6, R68). -/
def memWord (m : List Host.Cell) (a : Nat) : Word :=
  bytesWord (Cells.get m a) (Cells.get m (a + 1)) (Cells.get m (a + 2)) (Cells.get m (a + 3))

/-- The memory with the word at byte address `a` replaced. -/
def memSetWord (m : List Host.Cell) (a : Nat) (w : Word) : List Host.Cell :=
  Cells.set (Cells.set (Cells.set (Cells.set m a (w.extractLsb' 0 8)) (a + 1) (w.extractLsb' 8 8))
    (a + 2) (w.extractLsb' 16 8)) (a + 3) (w.extractLsb' 24 8)

/-- The word at byte address `a` of a lane, without any check of its error correction. -/
def Lane.word (l : Lane) (a : Nat) : Word := memWord l.mem a

/-- A whole-word write stores fresh check bits and removes an error of the word (R88). -/
def Lane.setWord (l : Lane) (a : Nat) (w : Word) : Lane :=
  { l with mem := memSetWord l.mem a w, ecc1 := l.ecc1.filter (· != a), ecc2 := l.ecc2.filter (· != a),
           watch := l.watch.filter (· != a) }

/-- The retained slot of D word `k`: its offset in the retained area in words, ranges packed in list order (R73). -/
def retainSlot : List (Nat × Nat) → Nat → Nat → Option Nat
  | [], _, _ => none
  | (first, count) :: t, base, k =>
    if first ≤ k && k < first + count then some (base + (k - first)) else retainSlot t (base + count) k

/-- Base of the D space, and its number of words (R67). -/
def dBase : Nat := 0x02000000
def dWords : Nat := 2097152
/-- Base of the retained area (R28). -/
def retBase : Nat := 0x03200000

/-- A program or distributor write of a word; a D word of a listed range also goes to its retained slot (R73). -/
def Lane.store (l : Lane) (a : Nat) (w : Word) : Lane :=
  let l1 := l.setWord a w
  if dBase ≤ a && a < dBase + 4 * dWords then
    match retainSlot l.retain 0 ((a - dBase) / 4) with
    | some k => l1.setWord (retBase + 4 * k) w
    | none => l1
  else l1

/-- Why an instruction faults: its code (R86) and, where it keeps words of its earlier cycles, the lane as those
words leave it (R87). -/
abbrev Flt := Nat × Option Lane

/-- A fault that keeps nothing. -/
def flt (code : Nat) : Flt := (code, none)

/-- The engine fault codes of R86 and R137. -/
def cIllegalOp : Nat := 1
def cAddr : Nat := 2
def cStack : Nat := 3
def cNest : Nat := 4
def cDivZero : Nat := 5
def cWriteProt : Nat := 6
def cEcc : Nat := 7
def cService : Nat := 8

/-- A corrected access counts in LE_ECC_CORR_CNT and sets LE_ECC_FLAGS.CORR (R88, R92). -/
def Lane.corrected (l : Lane) : Lane :=
  (l.bump R.LE_ECC_CORR_CNT_COUNT).wr R.LE_ECC_FLAGS_CORR 1

/-- A read of a word by an engine: an uncorrectable error faults with ECC and keeps what the lane has counted so far, a
single-bit error is corrected and counted (R88). -/
def Lane.readW (l : Lane) (a : Nat) : Except Flt (Word × Lane) :=
  if l.ecc2.contains a then .error (cEcc, some l)
  else if l.ecc1.contains a then .ok (l.word a, l.corrected)
  else .ok (l.word a, l)

/-- Reads `n` consecutive words from byte address `a`. -/
def Lane.readWords (l : Lane) (a : Nat) : Nat → Except Flt (List Word × Lane)
  | 0 => .ok ([], l)
  | n + 1 =>
    match l.readW a with
    | .error f => .error f
    | .ok (w, l1) =>
      match Lane.readWords l1 (a + 4) n with
      | .error f => .error f
      | .ok (ws, l2) => .ok (w :: ws, l2)

/-- Writes consecutive words from byte address `a`. -/
def Lane.storeWords (l : Lane) (a : Nat) : List Word → Lane
  | [] => l
  | w :: ws => Lane.storeWords (l.store a w) (a + 4) ws

/-- Bit `k` of a word replaced. -/
def setBitOf (w : Word) (k : Nat) (b : Bool) : Word :=
  if b then w ||| (1#32 <<< k) else w &&& ~~~(1#32 <<< k)

/-- A bit write of an engine: reads the word, changes one bit and writes the word back; a read that finds an
uncorrectable error faults with ECC (R85, R88). -/
def Lane.bitWrite (l : Lane) (a k : Nat) (b : Bool) : Except Flt Lane :=
  match l.readW a with
  | .error f => .error f
  | .ok (w, l1) => .ok (l1.store a (setBitOf w k b))

/-! ### Engines -/

/-- Engine `e` of a lane. -/
def Lane.engine (l : Lane) (e : Nat) : Eng := NMap.get l.eng {} e

/-- The lane with engine `e` replaced. -/
def Lane.setEngine (l : Lane) (e : Nat) (g : Eng) : Lane := { l with eng := NMap.put l.eng e g }

/-- What the lane keeps of task `n`. -/
def Lane.task (l : Lane) (n : Nat) : Task := NMap.get l.tasks {} n

/-- The lane with that replaced. -/
def Lane.setTask (l : Lane) (n : Nat) (k : Task) : Lane := { l with tasks := NMap.put l.tasks n k }

/-- DEPTH (R62, R63). -/
def Regs.depth (r : Regs) : Nat := r.hw.length + r.m

/-- Index register `n`. -/
def Regs.getX (r : Regs) (n : Nat) : Word := Cells.get r.x n

/-- The registers with index register `n` replaced. -/
def Regs.setX (r : Regs) (n : Nat) (w : Word) : Regs := { r with x := Cells.set r.x n w }

/-- Number of code words (R28). -/
def codeWords : Nat := 0x300000

/-- Base of task `n`'s stack (R72). -/
def stackBase (n : Nat) : Nat := 0x03B00000 + 0x4000 * n

/-- Base of task `n`'s L space (R67). -/
def lBase (n : Nat) : Nat := 0x02900000 + 0x2000 * n

/-! ### The task table and the range table (R152, R153) -/

/-- Word `k` of the task table entry of task `n`. -/
def Lane.tk (l : Lane) (n k : Nat) : Word := l.word (0x03300000 + 32 * n + 4 * k)

def Lane.tkKind (l : Lane) (n : Nat) : Nat := fieldOf (l.tk n 0) 3 0
def Lane.tkPriority (l : Lane) (n : Nat) : Nat := fieldOf (l.tk n 0) 9 4
def Lane.tkEngines (l : Lane) (n : Nat) : Nat := fieldOf (l.tk n 0) 13 10
def Lane.tkEnergy (l : Lane) (n : Nat) : Nat := fieldOf (l.tk n 0) 19 16
def Lane.tkHeat (l : Lane) (n : Nat) : Nat := fieldOf (l.tk n 0) 23 20
def Lane.tkEntry (l : Lane) (n : Nat) : Nat := fieldOf (l.tk n 1) 21 0
def Lane.tkPeriod (l : Lane) (n : Nat) : Nat := fieldOf (l.tk n 2) 16 0
def Lane.tkSource (l : Lane) (n : Nat) : Nat := fieldOf (l.tk n 2) 8 0
def Lane.tkAngle (l : Lane) (n : Nat) : Nat := fieldOf (l.tk n 2) 15 0
def Lane.tkOffset (l : Lane) (n : Nat) : Nat := fieldOf (l.tk n 3) 16 0
def Lane.tkDivider (l : Lane) (n : Nat) : Nat := fieldOf (l.tk n 3) 7 0
def Lane.tkBudget (l : Lane) (n : Nat) : Nat := (l.tk n 5).toNat
def Lane.tkFaultTask (l : Lane) (n : Nat) : Nat := fieldOf (l.tk n 6) 5 0
def Lane.tkFaultEn (l : Lane) (n : Nat) : Bool := fieldOf (l.tk n 6) 6 6 == 1
def Lane.tkOnFault (l : Lane) (n : Nat) : Nat := fieldOf (l.tk n 6) 8 7

/-- Task kinds of R152. -/
def kCyclic : Nat := 1
def kEvent : Nat := 2
def kPosition : Nat := 3
def kPhase : Nat := 4
def kStartup : Nat := 5
def kFault : Nat := 6

/-- Range table entry `i` as stored: first word in [15:0], count − 1 in [31:16] (R153). -/
def Lane.range (l : Lane) (i : Nat) : Word := l.word (0x03300800 + 4 * i)

/-- (index of the range entry, first word, word count) of each range of a list of the range table. -/
def Lane.ranges (l : Lane) (first num : Nat) : List (Nat × Nat × Nat) :=
  (List.range num).map fun k =>
    let w := l.range (first + k)
    (first + k, fieldOf w 15 0, fieldOf w 31 16 + 1)

def Lane.inRanges (l : Lane) (n : Nat) : List (Nat × Nat × Nat) :=
  l.ranges (fieldOf (l.tk n 4) 9 0) (fieldOf (l.tk n 4) 15 10)
def Lane.outRanges (l : Lane) (n : Nat) : List (Nat × Nat × Nat) :=
  l.ranges (fieldOf (l.tk n 4) 25 16) (fieldOf (l.tk n 4) 31 26)

/-- Whether the fields of the task table entry lie in their legal sets and the fields that must be 0 are 0 (R152,
R153, first part of pass 1 of R154). -/
def Lane.tkLegal (l : Lane) (n : Nat) : Bool :=
  let k := l.tkKind n
  let w2 := (l.tk n 2).toNat
  let w3 := (l.tk n 3).toNat
  decide (1 ≤ k ∧ k ≤ 6) && l.tkEngines n != 0 && fieldOf (l.tk n 0) 15 14 == 0 && fieldOf (l.tk n 0) 31 24 == 0 &&
  decide (l.tkEntry n < codeWords) && fieldOf (l.tk n 1) 31 22 == 0 &&
  (if k == kCyclic then decide (1 ≤ w2 ∧ w2 ≤ 80000 ∧ w3 < w2)
   else if k == kEvent then decide (w2 < 512) && w3 == 0
   else if k == kPhase then decide (w2 < 65536 ∧ w3 < 256)
   else w2 == 0 && w3 == 0) &&
  decide (fieldOf (l.tk n 4) 9 0 + fieldOf (l.tk n 4) 15 10 ≤ 1024) &&
  decide (fieldOf (l.tk n 4) 25 16 + fieldOf (l.tk n 4) 31 26 ≤ 1024) &&
  (l.inRanges n).all (fun r => decide (r.2.1 + r.2.2 ≤ 65536)) &&
  (l.outRanges n).all (fun r => decide (r.2.1 + r.2.2 ≤ 65536)) &&
  decide (l.tkOnFault n < 3) && fieldOf (l.tk n 6) 31 9 == 0 && (l.tk n 7) == 0

/-- Whether two lists of ranges have a word in common. -/
def rangesOverlap (a b : List (Nat × Nat × Nat)) : Bool :=
  a.any fun x => b.any fun y => decide (x.2.1 < y.2.1 + y.2.2 ∧ y.2.1 < x.2.1 + x.2.2)

/-- Pass 1 of R154: the entries in use after it, in rising order. -/
def Lane.tablePass1 (l : Lane) : List Nat :=
  (List.range 64).foldl (fun used n =>
    if l.tkKind n != 0 && l.tkLegal n &&
       used.all (fun m => !rangesOverlap (l.inRanges n) (l.inRanges m) &&
         !rangesOverlap (l.outRanges n) (l.outRanges m))
    then used ++ [n] else used) []

/-- The entries in use after both passes of R154. -/
def Lane.tableUsed (l : Lane) : List Nat :=
  let p1 := l.tablePass1
  p1.filter fun n =>
    !(l.tkFaultEn n) || (p1.contains (l.tkFaultTask n) && l.tkKind (l.tkFaultTask n) == kFault)

/-- Loads the task table: the entries in use, and for each entry treated as unused TABLE_ERR and one clamp (R154). -/
def Lane.loadTaskTable (l : Lane) : Lane :=
  let used := l.tableUsed
  let bad := ((List.range 64).filter fun n => l.tkKind n != 0 && !used.contains n).length
  let l1 := { l with used := used }
  if bad = 0 then l1
  else { l1 with rf := (l1.rf.wr R.TSK_FLAGS_TABLE_ERR 1).bump (R.BLK_CLAMP_CNT_COUNT.at .tsk) 0 0 bad }

/-- Whether a list of (first, count) ranges holds element `k`. -/
def inOwned (rs : List (Nat × Nat)) (k : Nat) : Bool := rs.any fun r => decide (r.1 ≤ k ∧ k < r.1 + r.2)

end Sys2Proof.Machine
end

