-- ==== Sys2Proof/Machine/Flags.lean ====
section
/-! DEFINITION. The flag computations of the word instructions (R62, R121 to R126), and the condition codes (R80). -/

namespace Sys2Proof.Machine

/-- Whether condition code `c` holds; none for a reserved code (R80, R107). -/
def condHolds (c : Nat) (r : Regs) : Option Bool :=
  match c with
  | 0x0 => some true
  | 0x1 => some r.ba
  | 0x2 => some (!r.ba)
  | 0x3 => some r.z
  | 0x4 => some (!r.z)
  | 0x5 => some r.n
  | 0x6 => some (!r.n)
  | 0x7 => some r.c
  | 0x8 => some (!r.c)
  | 0x9 => some r.v
  | 0xA => some (!r.z && !r.n)
  | 0xB => some (r.z || r.n)
  | _ => none

/-- Sets the four flags; a set V also sets SV (R62, R115). -/
def Regs.flags (r : Regs) (c v z n : Bool) : Regs :=
  { r with c := c, v := v, z := z, n := n, sv := r.sv || v }

/-- Flags of a 32-bit result with given carry and overflow: Z and N from the result (R121). -/
def Regs.flags32 (r : Regs) (c v : Bool) (x : Word) : Regs := r.flags c v (x == 0) x.msb

/-- Carry out of bit 31 of a sum (R121). -/
def addCarry (a b : Word) : Bool := decide (2 ^ 32 ≤ a.toNat + b.toNat)

/-- Signed overflow of a sum (R121). -/
def addOverflow (a b : Word) : Bool := decide (a.toInt + b.toInt < -2 ^ 31 ∨ 2 ^ 31 ≤ a.toInt + b.toInt)

/-- Signed overflow of a difference (R121). -/
def subOverflow (a b : Word) : Bool := decide (a.toInt - b.toInt < -2 ^ 31 ∨ 2 ^ 31 ≤ a.toInt - b.toInt)

/-- SW as a word (R62). -/
def Regs.sw (r : Regs) : Word :=
  BitVec.ofNat 32 (r.depth % 256 * 256 + (if r.sv then 16 else 0) + (if r.n then 8 else 0) + (if r.z then 4 else 0)
    + (if r.v then 2 else 0) + (if r.c then 1 else 0))

end Sys2Proof.Machine
end

