-- ==== Sys2Proof/Machine/Operands.lean ====
section
/-! DEFINITION. Operand spaces and operand forms of the Format M instructions: which spaces a class accepts, the
encoding checks, the element index, and the address of an element (R67 to R69, R77, R78, R81, R96, R97, R117, R118). -/

namespace Sys2Proof.Machine

/-- Space codes of R67. -/
def spI : Nat := 0
def spQ : Nat := 1
def spM : Nat := 2
def spD : Nat := 3
def spS : Nat := 4
def spW : Nat := 5
def spTM : Nat := 6
def spCT : Nat := 7
def spL : Nat := 8
def spK : Nat := 9
def spKL : Nat := 10

/-- Lane offset of element 0 of a space for the running task (R67, R71). -/
def spaceBase (sp task : Nat) : Nat :=
  match sp with
  | 0 => 0x02800000 | 1 => 0x02840000 | 2 => 0x02880000 | 3 => 0x02000000 | 4 => 0x00C00000
  | 5 => 0x01000000 | 6 => 0x028C0000 | 7 => 0x028E0000 | _ => lBase task

/-- Number of word elements of a space, or of blocks of TM and CT (R118). -/
def spaceWords (sp : Nat) : Nat :=
  match sp with
  | 0 => 65536 | 1 => 65536 | 2 => 65536 | 3 => 2097152 | 4 => 1048576 | 5 => 4194304 | 6 => 8192 | 7 => 8192
  | 8 => 2048 | _ => 0

/-- Number of bit elements of a space (R97). -/
def spaceBits (sp : Nat) : Nat :=
  match sp with
  | 0 => 2097152 | 1 => 2097152 | 2 => 2097152 | 4 => 33554432 | 8 => 65536 | _ => 0

/-- Lane offset of word element `k` (R68). -/
def wordAddr (sp task k : Nat) : Nat := spaceBase sp task + 4 * k

/-- Lane offset of block `k` of TM or CT (R71). -/
def blockAddr (sp k : Nat) : Nat := spaceBase sp 0 + 16 * k

/-- Operand classes of R96 and R117 with the spaces each accepts and the spaces that fault with WRITE_PROT. -/
inductive OpClass where
  | bitRead | bitWrite | edge | wordRead | wordWrite | doubleRead | doubleWrite | timer | counter | blockAcc | signal
  deriving DecidableEq, Repr

def OpClass.accepts : OpClass → List Nat
  | .bitRead => [0, 1, 2, 4, 8]
  | .bitWrite => [1, 2, 8, 4]
  | .edge => [1, 2, 8]
  | .wordRead => [0, 1, 2, 3, 5, 8, 9, 10]
  | .wordWrite => [1, 2, 3, 8, 5]
  | .doubleRead => [0, 1, 2, 3, 5, 8]
  | .doubleWrite => [1, 2, 3, 8, 5]
  | .timer => [6]
  | .counter => [7]
  | .blockAcc => [6, 7]
  | .signal => [4, 5]

def OpClass.protects : OpClass → List Nat
  | .bitWrite => [0, 9, 10]
  | .edge => [0, 9, 10]
  | .wordWrite => [0, 9, 10]
  | .doubleWrite => [0]
  | _ => []

/-- Code words of a Format M instruction with this operand (R76, R77). -/
def opLen (o : MOp) : Nat := if o.hasExt then 2 else 1

/-- The low 18 bits: OFS of an indexed operand (R77). -/
def opOfs (o : MOp) : Nat := o.low.toNat % 2 ^ 18

/-- XR of an indexed operand (R77). -/
def opXr (o : MOp) : Nat := o.low.toNat / 2 ^ 18

/-- The fields the format requires to be 0: A (direct) or OFS (indexed) with S and W, the high bits of their extension
word, and A with KL (R77, R97, R118). -/
def opReservedOk (o : MOp) : Bool :=
  match o.sp.toNat with
  | 4 => (if o.x then opOfs o == 0 else o.low == 0) && decide (o.ext.toNat < 2 ^ 25)
  | 5 => (if o.x then opOfs o == 0 else o.low == 0) && decide (o.ext.toNat < 2 ^ 22)
  | 10 => o.low == 0
  | _ => true

/-- The checks of R95 and R116 before an element index is formed: ILLEGAL_OP for an indexed K or KL (R78), a space the
class does not take and a field that must be 0 (R81), then WRITE_PROT. -/
def opCheck (c : OpClass) (o : MOp) : Except Flt Unit :=
  let sp := o.sp.toNat
  if o.x && (sp == spK || sp == spKL) then .error (flt cIllegalOp)
  else if !(c.accepts.contains sp || c.protects.contains sp) then .error (flt cIllegalOp)
  else if !opReservedOk o then .error (flt cIllegalOp)
  else if c.protects.contains sp then .error (flt cWriteProt)
  else .ok ()

/-- The element index (R78): formed as an unsigned number without wrap. -/
def opIndex (o : MOp) (r : Regs) : Nat :=
  let sp := o.sp.toNat
  let base := if sp == spS || sp == spW then o.ext.toNat else if o.x then opOfs o else o.low.toNat
  if o.x then (r.getX (opXr o)).toNat + base else base

/-- Reads the bit operand of a bit-read or edge instruction (R68, R69, R88). -/
def readBit (l : Lane) (task sp k : Nat) : Except Flt (Bool × Lane) :=
  if spaceBits sp ≤ k then .error (flt cAddr)
  else
    match l.readW (wordAddr sp task (k / 32)) with
    | .error f => .error f
    | .ok (w, l1) => .ok (w.getLsbD (k % 32), l1)

/-- Writes a bit element (R68, R85). -/
def writeBit (l : Lane) (task sp k : Nat) (b : Bool) : Except Flt Lane :=
  l.bitWrite (wordAddr sp task (k / 32)) (k % 32) b

/-- The word operand `v` of R120: the sign-extended short immediate, the extension word, or a word element. -/
def readOperand (l : Lane) (task : Nat) (r : Regs) (o : MOp) : Except Flt (Word × Lane) :=
  let sp := o.sp.toNat
  if sp == spK then .ok (o.low.signExtend 32, l)
  else if sp == spKL then .ok (o.ext, l)
  else
    let k := opIndex o r
    if spaceWords sp ≤ k then .error (flt cAddr) else l.readW (wordAddr sp task k)

end Sys2Proof.Machine
end

