-- ==== Sys2Proof/Machine/Proof.lean ====
section
/-! DEFINITION. The proof-signature unit of a lane: the CRC of R237, proof records (R235, R236), windows and their
close records (R19, R238, R239). -/

namespace Sys2Proof.Machine

/-- One bit step of the CRC of R237 (ECMA-182 polynomial, no reflection). -/
def crc64Bit (c : BitVec 64) : BitVec 64 :=
  if c.msb then (c <<< 1) ^^^ 0x42F0E1EBA9EA3693#64 else c <<< 1

/-- One byte fed into the register (R237). -/
def crc64Byte (c : BitVec 64) (b : Byte) : BitVec 64 :=
  let c0 := c ^^^ (b.setWidth 64 <<< 56)
  crc64Bit (crc64Bit (crc64Bit (crc64Bit (crc64Bit (crc64Bit (crc64Bit (crc64Bit c0)))))))

/-- The register after a list of bytes. -/
def crc64 (c : BitVec 64) (bs : List Byte) : BitVec 64 := bs.foldl crc64Byte c

/-- The register at window open (R237). -/
def crcInit : BitVec 64 := 0xFFFFFFFFFFFFFFFF#64

/-- A list of words folded, each least significant byte first (R237). -/
def foldWords (c : BitVec 64) (ws : List Word) : BitVec 64 := ws.foldl (fun c w => crc64 c (wordBytes w)) c

/-- The signature of a register value: the final XOR (R237). -/
def signature (c : BitVec 64) : BitVec 64 := c ^^^ crcInit

/-- Word 0 of a proof record (R235). -/
def recordHead (kind task engine len : Nat) : Word :=
  BitVec.ofNat 32 (kind % 256 + task % 64 * 2 ^ 8 + engine % 4 * 2 ^ 14 + len % 65536 * 2 ^ 16)

/-- KIND codes of R236. -/
def rkCommit : Nat := 0x01
def rkPd : Nat := 0x02
def rkSdt : Nat := 0x03
def rkMd : Nat := 0x04
def rkMdPop : Nat := 0x05
def rkCan : Nat := 0x06
def rkCanPop : Nat := 0x07
def rkBrd : Nat := 0x08
def rkBwr : Nat := 0x09
def rkRec : Nat := 0x0A
def rkArm : Nat := 0x0B
def rkDisarm : Nat := 0x0C
def rkPwr : Nat := 0x0D
def rkPrd : Nat := 0x0E
def rkEcls : Nat := 0x0F
def rkClose : Nat := 0xFF

/-- Close reasons of R239. -/
def crEnd : Nat := 0
def crCount : Nat := 1
def crFault : Nat := 2
def crCancel : Nat := 3

/-- Closes the open window of engine `e` with a reason: folds the close record and presents it (R239). -/
def Lane.closeWindow (l : Lane) (e reason : Nat) : Lane :=
  let g := l.engine e
  let ws := [recordHead rkClose g.task e 4, 0, 0, BitVec.ofNat 32 (g.act.pos + reason * 2 ^ 14)]
  let crc := foldWords g.act.crc ws
  let it : Item := { kind := 1, engine := e, task := g.task, win := g.act.winNo, pos := g.act.pos, words := ws,
                     sig := signature crc }
  { l with items := l.items ++ [it] }.setEngine e { g with act := { g.act with crc := crc } }

/-- Opens a window for engine `e`: the next window number of its task, an empty register (R237, R238). -/
def Lane.openWindow (l : Lane) (e : Nat) : Lane :=
  let g := l.engine e
  let k := l.task g.task
  (l.setTask g.task { k with windows := k.windows + 1 }).setEngine e
    { g with act := { g.act with winNo := k.windows, pos := 0, crc := crcInit } }

/-- Issues an effect of engine `e`: folds its proof record, presents it, and closes the window on the count of 4096
effects, opening the next one at once (R19, R235). `ckpt` adds the request checkpoint of R139. -/
def Lane.emit (l : Lane) (e kind : Nat) (t0 t1 : Word) (len : Nat) (data : List Word) (ckpt : Bool := false) : Lane :=
  let g := l.engine e
  let ws := recordHead kind g.task e len :: t0 :: t1 :: data
  let crc := foldWords g.act.crc ws
  let it : Item := { kind := 0, engine := e, task := g.task, win := g.act.winNo, pos := g.act.pos, words := ws }
  let its := if ckpt then [it, { it with kind := 2, sig := signature crc }] else [it]
  let l1 := { l with items := l.items ++ its }.setEngine e
    { g with act := { g.act with crc := crc, pos := g.act.pos + 1 } }
  if g.act.pos + 1 = 4096 then (l1.closeWindow e crCount).openWindow e else l1

end Sys2Proof.Machine
end

