-- ==== Sys2Proof/Machine/TaskOps.lean ====
section
/-! DEFINITION. What a lane's dispatcher does with its tasks: releases, ends, faults, cancels, input latches and
dispatch decisions (R155 to R170, R252, R253). -/

namespace Sys2Proof.Machine

/-- STATE codes of TSK_STAT_n (R179). -/
def tsIdle : Nat := 0
def tsReady : Nat := 1
def tsRunning : Nat := 2
def tsPreempted : Nat := 3
def tsDisabled : Nat := 4

/-- LAST_END codes of TSK_STAT_n (R179). -/
def leEnd : Nat := 1
def leFault : Nat := 2
def leCancel : Nat := 3
def leBudget : Nat := 4
def leStop : Nat := 5

/-- What the dispatcher may release: the program mode with the start-up flag (R174, R175), whether the lane state is
SIMPLEX-DIAG (R252) or SAFE (R265), and whether the module enters SLEEP (R467). -/
structure Phase where
  run : Bool := true
  startup : Bool := false
  simplex : Bool := false
  safe : Bool := false
  entering : Bool := false
  deriving DecidableEq, Repr

def Lane.tskState (l : Lane) (n : Nat) : Nat := l.rd R.TSK_STAT_STATE n

/-- Whether task `n` is pending: ready, running or preempted (R157). -/
def Lane.isPending (l : Lane) (n : Nat) : Bool :=
  l.tskState n == tsReady || l.tskState n == tsRunning || l.tskState n == tsPreempted

/-- Whether the TSK_ENABLE bit of task `n` is 1 (R156). -/
def Lane.enabled (l : Lane) (n : Nat) : Bool := (l.rd R.TSK_ENABLE_EN (n / 32)).testBit (n % 32)

/-- Number of engines of a mask. -/
def maskCount (m : Nat) : Nat := ((List.range 4).filter fun e => m.testBit e).length

/-- STATE of a task that is not pending: IDLE, or DISABLED when its TSK_ENABLE bit is 0 (R179). -/
def Lane.restState (l : Lane) (n : Nat) : Nat := if l.enabled n then tsIdle else tsDisabled

/-- An overrun at `t`: the release is discarded, shown and counted (R157). What stood before the first one of a stamp is kept
for a cancel of that stamp (R159). -/
def Lane.overrun (l : Lane) (n t : Nat) : Lane :=
  let k := l.task n
  let was := match k.overAt with
    | some w => if w.1 = t then w else (t, l.rd R.TSK_STAT_OVERRUN n, l.rd R.TSK_OVERRUN_CNT_COUNT n)
    | none => (t, l.rd R.TSK_STAT_OVERRUN n, l.rd R.TSK_OVERRUN_CNT_COUNT n)
  ((l.setTask n { k with overAt := some was }).wr R.TSK_STAT_OVERRUN 1 n).bump R.TSK_OVERRUN_CNT_COUNT n

/-- Makes an enabled, not pending task READY with its release stamp; a pending one overruns (R157), and a cancel that
carries the same stamp wins (R159). The Bool says whether the release was accepted. -/
def Lane.admitRelease (l : Lane) (n t : Nat) : Lane × Bool :=
  if (l.task n).cancelAt == some t then (l.bump R.TSK_CANCEL_RACE_CNT_COUNT, false)
  else if l.isPending n then (l.overrun n t, false)
  else ((l.wr R.TSK_STAT_STATE tsReady n).setTask n { l.task n with stamp := t, evrec := [] }, true)

/-- A task of priority 0 to 7 that can have no pair in SIMPLEX-DIAG is not released (R253). -/
def Lane.unpairable (l : Lane) (ph : Phase) (n : Nat) : Bool :=
  ph.simplex && decide (l.tkPriority n ≤ 7) && maskCount (l.tkEngines n) == 1

/-- A release of a task of kind CYCLIC, EVENT, POSITION or PHASE by its own cause: discarded when the task is not used
or not enabled (R156), while no task is released (R175, R265), for an unpaired safety-priority task in
SIMPLEX-DIAG (R253), and when a cancel carries the same stamp (R159). -/
def Lane.releaseOwn (l : Lane) (ph : Phase) (n t : Nat) : Lane × Bool :=
  if !l.used.contains n || !ph.run || ph.safe || !l.enabled n then (l, false)
  else if ph.startup then (l.wr R.TSK_FLAGS_BAD_RELEASE 1, false)
  else if l.unpairable ph n then ({ l with unpaired := true }, false)
  else l.admitRelease n t

/-- A release by a comparator hit or TSK_RELEASE (R155, R156): a STARTUP, FAULT or unused task is a bad release. -/
def Lane.releaseBy (l : Lane) (ph : Phase) (n t : Nat) : Lane × Bool :=
  if !l.used.contains n || l.tkKind n == kStartup || l.tkKind n == kFault then
    (l.wr R.TSK_FLAGS_BAD_RELEASE 1, false)
  else l.releaseOwn ph n t

/-- A release of a FAULT task with its record (R167, R168): records queue up to 16, a further one is lost; R159 and R253 hold
for it as for any release, and in STOP, MAINT and SAFE no task is released (R175, R265). -/
def Lane.releaseFault (l : Lane) (ph : Phase) (n t : Nat) (rec : Word) : Lane :=
  if !l.used.contains n || l.tkKind n != kFault || !l.enabled n || !ph.run || ph.safe then l
  else if l.unpairable ph n then { l with unpaired := true }
  else if (l.task n).cancelAt == some t then l.bump R.TSK_CANCEL_RACE_CNT_COUNT
  else
    let k := l.task n
    if 16 ≤ k.faultq.length then l.wr R.TSK_FLAGS_FAULT_LOST 1
    else
      let l1 := l.setTask n { k with faultq := k.faultq ++ [(t, rec)], stamp := if l.isPending n then k.stamp else t }
      if l.isPending n then l1 else l1.wr R.TSK_STAT_STATE tsReady n

/-- An EVENT activation that ends completes its source when its owed mark is set (R192). -/
def Lane.complete (l : Lane) (n : Nat) : Lane :=
  let k := l.task n
  if k.owed then
    let s := l.tkSource n
    (l.setTask n { k with owed := false }).wr R.EVT_SRC_STAT_OWED (l.rd R.EVT_SRC_STAT_OWED s - 1) s
  else l

/-- The status of task `n` after its activation or its waiting release ended: LAST_END, the deferral marks cleared,
the source completed, and STATE at rest, or READY again for a FAULT task with records waiting (R158, R168). -/
def Lane.taskEnded (l : Lane) (n code : Nat) : Lane :=
  let l1 := ((l.wr R.TSK_STAT_LAST_END code n).wr R.TSK_STAT_DEFERRED_ENERGY 0 n).wr R.TSK_STAT_DEFERRED_HEAT 0 n
  let l2 := l1.complete n
  let k := l2.task n
  match k.faultq with
  | [] =>
    let l3 := l2.setTask n { k with ctx := none }
    l3.wr R.TSK_STAT_STATE (l3.restState n) n
  | r :: _ => (l2.setTask n { k with ctx := none, stamp := r.1 }).wr R.TSK_STAT_STATE tsReady n

/-- A task given to engine `e` for its next boundary gives it up, with the other half of its pair. -/
def Lane.unreserve (l : Lane) (e : Nat) : Lane :=
  let clear (l : Lane) (f : Nat) : Lane := l.setEngine f { l.engine f with next := none, nextPair := none }
  match (l.engine e).nextPair with
  | some p => clear (clear l e) p.1
  | none => if (l.engine e).next.isSome then clear l e else l

/-- Whether a decision has given task `n` to an engine for its next boundary (R160). -/
def Lane.isReserved (l : Lane) (n : Nat) : Bool := (List.range 4).any fun e => (l.engine e).next == some n

/-- A task that is not started any more gives up the engines a decision has given it (R158, R160). -/
def Lane.unreserveTask (l : Lane) (n : Nat) : Lane :=
  (List.range 4).foldl (fun l e => if (l.engine e).next == some n then l.unreserve e else l) l

/-- TSK_ENABLE of task `n` has become 0: its releases not yet started are removed, a started activation completes (R156 and
the register's own words). -/
def Lane.removeReleases (l : Lane) (n : Nat) : Lane :=
  if l.enabled n then l
  else
    let l1 := l.setTask n { l.task n with faultq := [] }
    if l1.tskState n == tsReady then
      ((((l1.wr R.TSK_STAT_DEFERRED_ENERGY 0 n).wr R.TSK_STAT_DEFERRED_HEAT 0 n).complete n).unreserveTask n).wr
        R.TSK_STAT_STATE tsDisabled n
    else l1

/-- Engine `e` becomes idle; its instruction count stays (R84). -/
def Lane.freeEngine (l : Lane) (e : Nat) : Lane := l.setEngine e { icnt := (l.engine e).icnt }

/-- Engine `e` runs no task any more and returns to the dispatcher 4 cycles after `t`; until then it is in TRAP and
LE_ENG_STAT shows the task it ran (R87, R92, R158). -/
def Lane.trapEngine (l : Lane) (e t : Nat) : Lane :=
  let g := l.engine e
  l.setEngine e { icnt := g.icnt, task := g.task, r := g.r, next := g.next, nextPair := g.nextPair, trapUntil := t + 8 }

/-- The activation on engine `e` ends by END: the window closes, the engine is free (R19, R112). -/
def Lane.endActivation (l : Lane) (e reason code : Nat) : Lane :=
  let n := (l.engine e).task
  ((l.closeWindow e reason).freeEngine e).taskEnded n code

/-- The activation on engine `e` ends at `t` by a fault, a cancel or its budget: the window closes, and the engine is on its
way back to the dispatcher (R87, R158). -/
def Lane.stopActivation (l : Lane) (e t reason code : Nat) : Lane :=
  let n := (l.engine e).task
  ((l.closeWindow e reason).trapEngine e t).taskEnded n code

/-- Clears the TSK_ENABLE bit of task `n` in the value in effect, the shadow and the pending set (R167). -/
def Lane.suspend (l : Lane) (n : Nat) : Lane :=
  let a := R.TSK_ENABLE_EN.addr (n / 32)
  let clr := fun w : Word => setBitOf w (n % 32) false
  let fix := fun m : List (Nat × Word) => m.map fun c => if c.1 = a then (c.1, clr c.2) else c
  { l with rf := { eff := Cells.set l.rf.eff a (clr (Cells.get l.rf.eff a)), shadow := fix l.rf.shadow,
                   pend := l.rf.pend.map fun p => (p.1, fix p.2) } }

/-- What follows an activation of task `n` ended by a fault or by its budget (R167): the flag, the fault task with
its record, and ON_FAULT. A FAULT task has neither (R168). -/
def Lane.afterFault (l : Lane) (ph : Phase) (n t code : Nat) (budget : Bool) : Lane :=
  let l1 := l.wr R.TSK_STAT_FAULT_SEEN 1 n
  let l2 := if !budget && code == cStack then l1.wr R.TSK_STAT_STACK_FAULT 1 n else l1
  if l.tkKind n == kFault then l2
  else
    let l3 :=
      if l.tkFaultEn n then
        l2.releaseFault ph (l.tkFaultTask n) t
          (BitVec.ofNat 32 (n + (if budget then 0 else code * 2 ^ 8) + (if budget then 2 else 1) * 2 ^ 16))
      else l2
    if l.tkOnFault n = 1 then
      let l4 := (l3.suspend n).removeReleases n
      if l4.isPending n then l4 else l4.wr R.TSK_STAT_STATE (l4.restState n) n
    else if l.tkOnFault n = 2 then { l3 with stopReq := true }
    else l3

/-- An instruction of engine `e` faults (R87): the fault record, the flags and the count, the window closes, no output
commit, and the engine returns to the dispatcher 4 cycles later. -/
def Lane.faultEngine (l : Lane) (ph : Phase) (e t code : Nat) : Lane :=
  let g := l.engine e
  let n := g.task
  let r := l.rf
  let r := r.wr R.LE_FAULT_REC_CODE code n
  let r := r.wr R.LE_FAULT_REC_ENGINE e n
  let r := r.wr R.LE_FAULT_REC_PC g.r.pc.toNat n
  let r := r.wr R.LE_FAULT_REC_ICNT_LO (g.icnt.toNat % 2 ^ 32) n
  let r := r.wr R.LE_FAULT_REC_ICNT_HI (g.icnt.toNat / 2 ^ 32) n
  let r := r.wr R.LE_FAULT_FLAGS_CODE_SEEN
    (r.rd R.LE_FAULT_FLAGS_CODE_SEEN ||| (2 ^ (code - 1))) 
  let r := r.bump R.LE_FAULT_CNT_COUNT
  let r := if code = cEcc then r.wr R.LE_ECC_FLAGS_UNCORR 1 else r
  (({ l with rf := r } : Lane).stopActivation e t crFault leFault).afterFault ph n t code false

/-! ### Input latch (R169) -/

/-- The value of I word `k` a latch with task-start stamp `t` takes: the latest sample stamped before it; 0 for a
word never sampled (R15, R169). -/
def Lane.latchWord (l : Lane) (t k : Nat) : Word :=
  match NMap.look l.samples k with
  | none => 0
  | some c => if c.stamp < t then c.cur else c.prev

/-- The force entries enabled for word `k` of a space (0 = I, 1 = Q), applied to a word (R177). -/
def Lane.forced (l : Lane) (space k : Nat) (w : Word) : Word :=
  (List.range 64).foldl (fun w i =>
    if l.rd R.TSK_FORCE_EN i = 1 && l.rd R.TSK_FORCE_SPACE i = space && l.rd R.TSK_FORCE_WORD i = k then
      let m := BitVec.ofNat 32 (l.rd R.TSK_FORCE_MASK i)
      (w &&& ~~~m) ||| (BitVec.ofNat 32 (l.rd R.TSK_FORCE_VALUE i) &&& m)
    else w) w

/-- Writes one range of the input latch into I. -/
def Lane.latchRange (l : Lane) (t first : Nat) : Nat → Lane
  | 0 => l
  | n + 1 =>
    let l1 := l.setWord (wordAddr spI 0 first) (l.forced 0 first (l.latchWord t first))
    Lane.latchRange l1 t (first + 1) n

/-- Cycles of the latch or commit of a list of ranges: 2 + ⌈words / 4⌉ each (R169, R170). -/
def rangeCycles (rs : List (Nat × Nat × Nat)) : Nat := (rs.map fun r => 2 + (r.2.2 + 3) / 4).sum

/-- The whole input latch of task `n` at stamp `t`. -/
def Lane.latch (l : Lane) (n t : Nat) : Lane :=
  (l.inRanges n).foldl (fun l r => l.latchRange t r.2.1 r.2.2) l

/-- What a latch at stamp `t` takes of the communication objects (R15, R135, R138). -/
def Lane.commAt (l : Lane) (t : Nat) : List (Nat × CommObj) :=
  l.comm.map fun c => (c.1, if c.2.stamp < t then c.2.cur else c.2.prev)

/-- The records written into L before the first instruction: the event record (R188) or the oldest fault record
(R168). -/
def Lane.writeRecords (l : Lane) (n : Nat) : Lane :=
  let k := l.task n
  if l.tkKind n == kEvent then
    let ws := if k.evrec.isEmpty then [0x80000000#32, 0, 0] else k.evrec
    l.storeWords (lBase n) ws
  else if l.tkKind n == kFault then
    match k.faultq with
    | [] => l
    | w :: q => (l.setWord (lBase n) w.2).setTask n { k with faultq := q }
  else l

/-- The input latch of the activation on engine `e` begins at its task-start stamp: the latch, the records of R168 and R188,
and what the activation reads of gauge and communication objects. Both engines of a pair take one latch (R252). -/
def Lane.takeInputs (l : Lane) (e : Nat) : Lane :=
  let g := l.engine e
  if !g.fresh then l
  else
    let t := g.act.start
    let l1 := (l.latch g.task t).writeRecords g.task
    let act := { g.act with gauge := if l.gauge.stamp < t then l.gauge else l.gaugePrev, comm := l.commAt t }
    let l2 := l1.setEngine e { g with fresh := false, act := act }
    match g.pair with
    | some f => l2.setEngine f { l2.engine f with fresh := false, act := act }
    | none => l2

/-- The latches whose stamp has come by `t`: every sample stamped before them has been delivered (R13, R15). -/
def Lane.latchDue (l : Lane) (t : Nat) : Lane :=
  (List.range 4).foldl (fun l e => if (l.engine e).act.start ≤ t then l.takeInputs e else l) l

/-- A new activation of task `n` starts on engine `e` at task-start stamp `t`: its state of R59 and its first window; its
input latch follows at `t` (R162, R169, R239). -/
def Lane.startActivation (l : Lane) (e n t : Nat) : Lane :=
  let k := l.task n
  let g : Eng := {
    st := .run, task := n, icnt := (l.engine e).icnt, fresh := true,
    r := { pc := BitVec.ofNat 22 (l.tkEntry n) },
    act := { start := t, prev := k.prevStart, cycles := rangeCycles (l.inRanges n) } }
  let l2 := (l.setTask n { k with prevStart := some t }).setEngine e g
  let l3 := ((l2.wr R.TSK_STAT_DEFERRED_ENERGY 0 n).wr R.TSK_STAT_DEFERRED_HEAT 0 n)
  (l3.wr R.TSK_STAT_STATE tsRunning n |>.wr R.TSK_STAT_ENGINE e n).openWindow e

/-- The task on engine `e` is preempted: its register state goes to its context slot (R61). -/
def Lane.preempt (l0 : Lane) (e : Nat) : Lane :=
  let l := l0.takeInputs e
  let g := l.engine e
  let n := g.task
  ((l.setTask n { l.task n with ctx := some { r := g.r, act := { g.act with cycles := g.act.cycles + 16 }, pair := g.pair } }).wr
    R.TSK_STAT_STATE tsPreempted n).freeEngine e

/-- Task `n` is placed on engine `e` at stamp `t`: resumed from its context slot with the 16-cycle restore, or started
(R162). -/
def Lane.place (l : Lane) (e n t : Nat) : Lane :=
  match (l.task n).ctx with
  | some c =>
    let l1 := l.setTask n { l.task n with ctx := none }
    (l1.setEngine e { st := .run, task := n, icnt := (l.engine e).icnt, r := c.r, act := { c.act with cycles := c.act.cycles + 16 } }).wr R.TSK_STAT_STATE tsRunning n
      |>.wr R.TSK_STAT_ENGINE e n
  | none => l.startActivation e n t

/-! ### Dispatch decisions (R160 to R165, R190, R252) -/

/-- Whether engine `e` is on its way back to the dispatcher at `t` (R87, R158). -/
def Lane.returning (l : Lane) (t e : Nat) : Bool := (l.engine e).st == .idle && decide (t < (l.engine e).trapUntil)

/-- The engines task `n` may use in a decision at `t`: its ENGINES set, less those on their way back to the dispatcher and,
for an EVENT task of priority 8 to 63, the masked busy engines (R87, R190). -/
def Lane.engineSet (l : Lane) (t n : Nat) : List Nat :=
  (List.range 4).filter fun e =>
    (l.tkEngines n).testBit e && !l.returning t e &&
      !(l.tkKind n == kEvent && decide (8 ≤ l.tkPriority n) && (l.engine e).st != .idle &&
        !(l.rd R.EVT_ENG_MASK_MASK).testBit e)

/-- Whether the caddy's masks admit task `n` (R163). -/
def Lane.admitted (l : Lane) (n : Nat) : Bool :=
  l.admitEnergy.testBit (l.task n).energy && l.admitHeat.testBit (l.task n).heat

/-- Whether the engine is taken in this decision: running, waiting, or already given a task for its next boundary. -/
def Lane.engineIdle (l : Lane) (e : Nat) : Bool := (l.engine e).st == .idle && (l.engine e).next == none

/-- The task an engine runs as this decision sees it. -/
def Lane.engineTask (l : Lane) (e : Nat) : Nat := ((l.engine e).next).getD (l.engine e).task

/-- The engine R161 gives task `n` from a set: the lowest idle one, or else the one whose task has the largest PRIORITY
value (of equals the highest-numbered), if that value is larger than the task's own. -/
def Lane.chooseEngine (l : Lane) (n : Nat) (es : List Nat) : Option Nat :=
  match es.find? (fun e => l.engineIdle e) with
  | some e => some e
  | none =>
    let best := es.foldl (fun b e =>
      match b with
      | none => some e
      | some f => if l.tkPriority (l.engineTask f) ≤ l.tkPriority (l.engineTask e) then some e else some f) none
    match best with
    | none => none
    | some e => if l.tkPriority (l.engineTask e) ≤ l.tkPriority n then none else some e

/-- The engine that holds the other half of a pair gives it up with its partner (R252). -/
def Lane.preemptPair (l : Lane) (e : Nat) : Lane :=
  match (l.engine e).pair with
  | some f => (l.preempt e).freeEngine f
  | none => l.preempt e

/-- Gives engine `e` to task `n` in a decision acting at `t`: an idle engine starts at once, a running one is
preempted first (16 cycles, 32 ns), one in WAIT changes at its next boundary (R160 to R162). -/
def Lane.give (l0 : Lane) (e n t : Nat) : Lane :=
  let l := l0.unreserve e
  let g := l.engine e
  match g.st with
  | .idle => l.place e n t
  | .wait => l.setEngine e { g with next := some n }
  | .run => (l.preemptPair e).place e n (t + 32)

/-- Joins engine `f` to engine `e` as a pair (R252). -/
def Lane.joinPair (l : Lane) (e f : Nat) : Lane :=
  let g := l.engine e
  (l.setEngine e { g with pair := some f }).setEngine f { g with pair := some e, icnt := (l.engine f).icnt }

/-- Marks task `n` deferred (R165). -/
def Lane.defer (l : Lane) (n : Nat) : Lane :=
  let k := l.task n
  let l1 := l.wr R.TSK_STAT_DEFERRED_ENERGY (if l.admitEnergy.testBit k.energy then 0 else 1) n
  let l2 := l1.wr R.TSK_STAT_DEFERRED_HEAT (if l.admitHeat.testBit k.heat then 0 else 1) n
  (l2.wr R.TSK_STAT_DEFER_SEEN 1 n).bump R.TSK_DEFER_CNT_COUNT n

/-- Gives engines `e` and `f` to task `n` as a pair in a decision acting at `t`: both start at the later of the boundaries at
which the decision acts; an engine that reaches its boundary first is idle until then (R160, R252). -/
def Lane.givePair (l0 : Lane) (e f n t : Nat) : Lane :=
  let l := (l0.unreserve e).unreserve f
  let idle (x : Nat) : Bool := (l.engine x).st == .idle
  let late := if idle e && idle f then t else t + 32
  let waits := (l.engine e).st == .wait || (l.engine f).st == .wait
  let yield_ (l : Lane) (x : Nat) : Lane := if (l.engine x).st == .run then l.preemptPair x else l
  let l1 := yield_ (yield_ l e) f
  if waits then
    let l2 := l1.setEngine e { l1.engine e with next := some n, nextPair := some (f, true) }
    l2.setEngine f { l2.engine f with next := some n, nextPair := some (e, false) }
  else (l1.place e n late).joinPair e f

/-- What a decision of lane A does with one task; the lanes behind it carry out the same (R18, R160). -/
inductive Choice where
  | defer (n : Nat)
  | one (n e : Nat)
  | pair (n e f : Nat)
  deriving DecidableEq, Repr

/-- The choice for task `n` in a decision at `t` (R161; in SIMPLEX-DIAG a task of priority 0 to 7 needs two engines, chosen one
after the other, so that a pair the first choice preempts leaves its other engine idle for the second, R252). -/
def Lane.choose (l : Lane) (ph : Phase) (t n : Nat) : Option Choice :=
  if l.tskState n == tsReady && decide (7 < l.tkPriority n) && !l.admitted n then some (.defer n)
  else
    match l.chooseEngine n (l.engineSet t n) with
    | none => none
    | some e =>
      if ph.simplex && decide (l.tkPriority n ≤ 7) then
        let l1 := if (l.engine e).st == .run then l.preemptPair e else l
        (l1.chooseEngine n ((l1.engineSet t n).filter (· != e))).map fun f => .pair n e f
      else some (.one n e)

/-- A choice carried out, acting at `t`. -/
def Lane.carry (t : Nat) (l : Lane) : Choice → Lane
  | .defer n => l.defer n
  | .one n e => l.give e n t
  | .pair n e f => l.givePair e f n t

/-- Whether task `a` comes before task `b` in a decision: by PRIORITY, release stamp, number (R161). -/
def Lane.before (l : Lane) (a b : Nat) : Bool :=
  let pa := l.tkPriority a
  let pb := l.tkPriority b
  let sa := (l.task a).stamp
  let sb := (l.task b).stamp
  decide (pa < pb) || (pa == pb && (decide (sa < sb) || (sa == sb && decide (a < b))))

/-- Inserts a task into a list ordered by R161. -/
def Lane.insertTask (l : Lane) (a : Nat) : List Nat → List Nat
  | [] => [a]
  | b :: t => if l.before a b then a :: b :: t else b :: Lane.insertTask l a t

/-- The pending tasks that are not running and that no earlier decision has given an engine, in the order of R161. -/
def Lane.candidates (l : Lane) : List Nat :=
  ((List.range 64).filter fun n => (l.tskState n == tsReady || l.tskState n == tsPreempted) && !l.isReserved n).foldl
    (fun acc n => l.insertTask n acc) []

/-- The choices of a dispatch decision at `t`, which acts 4 cycles later, in the order of R161: each sees what those before it did, and a task
preempted in the decision is not considered again in it. -/
def Lane.choices (l : Lane) (ph : Phase) (t : Nat) : List Choice :=
  (l.candidates.foldl (fun (p : Lane × List Choice) n =>
    if p.1.tskState n == tsReady || p.1.tskState n == tsPreempted then
      match p.1.choose ph t n with
      | some c => (Lane.carry (t + 8) p.1 c, p.2 ++ [c])
      | none => p
    else p) (l, [])).2

/-- A decision carried out (R160). -/
def Lane.decide_ (l : Lane) (cs : List Choice) (t : Nat) : Lane :=
  let l1 := cs.foldl (Lane.carry t) l
  { l1 with decisions := (l1.decisions + 1) % 2 ^ 32 }

/-! ### Cancels (R158, R159, R166) -/

/-- A waiting release of FAULT task `n` is its oldest record: it goes with the release (R158, R168). -/
def Lane.dropRecord (l : Lane) (n : Nat) : Lane := l.setTask n { l.task n with faultq := (l.task n).faultq.drop 1 }

/-- The window of the activation on engine `e` closes; each engine of a pair presents its close (R252). -/
def Lane.closePair (l : Lane) (e reason : Nat) (pair : Option Nat) : Lane :=
  let l1 := l.closeWindow e reason
  match pair with
  | none => l1
  | some f => { l1 with items := l1.items ++ (l1.items.drop l.items.length).map (fun i => { i with engine := f }) }

/-- The activation on engine `e` ends at `t`, on both engines of its pair, which return to the dispatcher 4 cycles later (R158,
R252). -/
def Lane.endBoth (l : Lane) (e t reason code : Nat) : Lane :=
  let g := l.engine e
  let l1 := (l.closePair e reason g.pair).trapEngine e t
  (match g.pair with
   | some f => l1.trapEngine f t
   | none => l1).taskEnded g.task code

/-- Cancels task `n` at `t` with a LAST_END code: a waiting release is removed, a started activation ends without commit, a
task in WAIT ends when its instruction completes (R158). -/
def Lane.cancelTask (l0 : Lane) (n code t : Nat) : Lane :=
  let l := l0.unreserveTask n
  let st := l.tskState n
  if st == tsReady then (l.dropRecord n).taskEnded n code
  else if st == tsPreempted then
    match (l.task n).ctx with
    | none => l.taskEnded n code
    | some c =>
      -- the window of the preempted activation closes; an engine number stands in its close record
      let e := l.rd R.TSK_STAT_ENGINE n
      let g := l.engine e
      let l1 := (l.setEngine e { st := .run, task := n, icnt := g.icnt, r := c.r, act := c.act }).closePair e crCancel c.pair
      (l1.setEngine e g).taskEnded n code
  else if st == tsRunning then
    (List.range 4).foldl (fun l0 e =>
      let l := if (l0.engine e).task = n then l0.takeInputs e else l0
      let g := l.engine e
      if g.st == .idle || g.task != n || l.tskState n != tsRunning then l
      else if g.st == .wait then l.setEngine e { g with act := { g.act with cancel := some code } }
      else l.endBoth e t crCancel code) l
  else l

/-- A cancel of task `n` by TSK_CANCEL stamped `t` (R158, R159): every release of the same stamp is discarded and counted as
a race, an earlier pending activation is cancelled. -/
def Lane.cancelAtStamp (l : Lane) (n t : Nat) : Lane :=
  let k := l.task n
  let race (l : Lane) (c : Nat) : Lane := if c = 0 then l else l.bump R.TSK_CANCEL_RACE_CNT_COUNT 0 0 c
  let l1 :=
    if l.tkKind n == kFault then
      let late := k.faultq.filter fun r => r.1 == t
      let l1 := race (l.setTask n { k with faultq := k.faultq.filter fun r => r.1 != t }) late.length
      if l1.tskState n == tsReady && (l1.task n).faultq.isEmpty then l1.wr R.TSK_STAT_STATE (l1.restState n) n
      else l1.cancelTask n leCancel t
    else
      let l1 := match k.overAt with
        | some w =>
          if w.1 = t then
            race ((l.wr R.TSK_STAT_OVERRUN w.2.1 n).wr R.TSK_OVERRUN_CNT_COUNT w.2.2 n) (l.rd R.TSK_OVERRUN_CNT_COUNT n - w.2.2)
          else l
        | none => l
      if l1.tskState n == tsReady && k.stamp == t then race (((l1.complete n).unreserveTask n).wr R.TSK_STAT_STATE (l1.restState n) n) 1
      else l1.cancelTask n leCancel t
  l1.setTask n { l1.task n with cancelAt := some t, overAt := none }

end Sys2Proof.Machine
end

