-- ==== Sys2Proof/Machine/Events.lean ====
section
/-! DEFINITION. A lane's event controller: raises, selection, delivery, hold-off and completion
(spec/07_events.md). -/

namespace Sys2Proof.Machine

/-- A raise of source `n` stamped `t` (R182, R183): discarded when EN is 0; the first stamp is kept when PEND was 0. -/
def Lane.evRaise (l : Lane) (n t : Nat) : Lane :=
  if l.rd R.EVT_SRC_CFG_EN n = 0 then l
  else
    let l1 := if l.rd R.EVT_SRC_STAT_PEND n = 0 then
        { (l.wr R.EVT_SRC_STAT_PEND 1 n) with first := NMap.put l.first n t }
      else l
    if l1.rd R.EVT_SRC_STAT_ACC n = 255 then l1.wr R.EVT_SRC_STAT_ACC_SAT 1 n
    else l1.wr R.EVT_SRC_STAT_ACC (l1.rd R.EVT_SRC_STAT_ACC n + 1) n

/-- The group of a source (R180). -/
def evGroup (n : Nat) : Nat := n / 16

/-- Whether group `g` is held off at `t` (R186). -/
def Lane.heldOff (l : Lane) (g t : Nat) : Bool :=
  match NMap.look l.hold g with
  | some e => decide (t < e)
  | none => false

/-- Whether source `n` is eligible at `t` (R184). -/
def Lane.eligible (l : Lane) (ph : Phase) (t n : Nat) : Bool :=
  l.rd R.EVT_SRC_CFG_EN n == 1 && l.rd R.EVT_SRC_STAT_PEND n == 1 && l.rd R.EVT_SRC_STAT_OWED n == 0 &&
  !l.heldOff (evGroup n) t && l.rd R.EVT_CTRL_GDIS == 0 && ph.run && !ph.startup &&
  (match NMap.look l.first n with
   | some f => decide (f + 8 ≤ t)
   | none => true)

/-- Whether source `a` comes before `b` in the selection: PRIO, then number (R185). -/
def Lane.evBefore (l : Lane) (a b : Nat) : Bool :=
  let pa := l.rd R.EVT_SRC_CFG_PRIO a
  let pb := l.rd R.EVT_SRC_CFG_PRIO b
  decide (pa < pb) || (pa == pb && decide (a < b))

/-- The source the selection takes at `t`, if any, with deliveries at least 4 cycles apart (R185). -/
def Lane.selectEvent (l : Lane) (ph : Phase) (t : Nat) : Option Nat :=
  let free := match l.lastDelivery with
    | some d => decide (d + 8 ≤ t)
    | none => true
  if !free then none
  else ((l.first.map (·.1)).filter fun n => l.eligible ph t n).foldl
    (fun b n => match b with
      | none => some n
      | some m => if l.evBefore n m then some n else some m) none

/-- The event record of a delivery of source `n` at `t` (R188). -/
def Lane.eventRecord (l : Lane) (n t : Nat) : List Word :=
  [BitVec.ofNat 32 (n + l.rd R.EVT_SRC_STAT_ACC n * 2 ^ 16), BitVec.ofNat 32 (NMap.get l.first 0 n / 1000),
   BitVec.ofNat 32 (t / 1000)]

/-- The tasks a delivery of source `n` names (R187). -/
def Lane.eventTasks (l : Lane) (n : Nat) : List Nat :=
  l.used.filter fun k => l.tkKind k == kEvent && l.tkSource k == n

/-- One release by a delivery with its record: an accepted one sets the task's owed mark and adds to OWED (R187). -/
def Lane.releaseEvent (ph : Phase) (n t : Nat) (er : List Word) (l : Lane) (k : Nat) : Lane :=
  let r := l.releaseOwn ph k t
  if r.2 then
    (r.1.setTask k { r.1.task k with owed := true, evrec := er }).wr R.EVT_SRC_STAT_OWED
      (r.1.rd R.EVT_SRC_STAT_OWED n + 1) n
  else r.1

/-- A delivery of source `n` at `t` (R185 to R187). -/
def Lane.deliverEvent (l : Lane) (ph : Phase) (n t : Nat) : Lane :=
  let er := l.eventRecord n t
  let l1 := (l.wr R.EVT_SRC_STAT_PEND 0 n).wr R.EVT_SRC_STAT_ACC 0 n
  let g := evGroup n
  let h := l.rd R.EVT_GRP_CFG_HOLDOFF g
  let l2 : Lane := { l1 with first := NMap.del l1.first n, lastDelivery := some t }
  let l3 := if h = 0 then l2
    else { (l2.wr R.EVT_GRP_STAT_HELD 1 g) with hold := NMap.put l2.hold g (t + 1000 * h) }
  let l4 := (l3.eventTasks n).foldl (Lane.releaseEvent ph n t er) l3
  let l5 := if l4.rd R.EVT_SRC_STAT_OWED n = 0 then
      (l4.bump R.EVT_UNSERVED_CNT_COUNT).wr R.EVT_FLAGS_UNSERVED 1
    else l4
  l5.bump R.EVT_DELIVER_CNT_COUNT

/-- The end of the hold-off of group `g` (R186). -/
def Lane.holdEnd (l : Lane) (g t : Nat) : Lane :=
  match NMap.look l.hold g with
  | some e => if e ≤ t then { (l.wr R.EVT_GRP_STAT_HELD 0 g) with hold := NMap.del l.hold g } else l
  | none => l

/-- Completion of source `n` by EVT_DONE (R193). -/
def Lane.evDone (l : Lane) (n : Nat) : Lane :=
  if l.rd R.EVT_SRC_STAT_OWED n = 0 then (l.bump R.EVT_SPURIOUS_CNT_COUNT).wr R.EVT_FLAGS_SPURIOUS 1
  else
    let l1 := l.wr R.EVT_SRC_STAT_OWED 0 n
    { l1 with tasks := l1.tasks.map fun c =>
        if l1.tkKind c.1 == kEvent && l1.tkSource c.1 == n then (c.1, { c.2 with owed := false }) else c }

/-- Clearing EN of a source clears its PEND and ACC and leaves OWED (R182). -/
def Lane.evDisable (l : Lane) (n : Nat) : Lane :=
  { ((l.wr R.EVT_SRC_STAT_PEND 0 n).wr R.EVT_SRC_STAT_ACC 0 n) with first := NMap.del l.first n }

/-- What a reset clears of the event controller: PEND, ACC, ACC_SAT, OWED, the owed marks and the hold-offs (R195). -/
def Lane.evClear (l : Lane) : Lane :=
  let eff := Cells.clearRange (Cells.clearRange l.rf.eff R.EVT_SRC_STAT_PEND.base 0x800) R.EVT_GRP_STAT_HELD.base 0x80
  { l with rf := { l.rf with eff := eff }, first := [], hold := [], lastDelivery := none,
           tasks := l.tasks.map fun c => (c.1, { c.2 with owed := false }) }

/-- Number of bits set in a word. -/
def bitCount (w : Word) : Nat := ((List.range 32).filter fun k => w.getLsbD k).length

/-- Loads the event table of the configuration tables into the registers (R195): the low bits of each word that the
register has, each non-zero reserved bit counted in CLAMP_CNT. -/
def Lane.loadEvents (l : Lane) : Lane :=
  let words := (List.range 512).map (fun n => (R.EVT_SRC_CFG_EN.addr n, l.word (0x03301800 + 4 * n), 0xF#32)) ++
    (List.range 32).map (fun g => (R.EVT_GRP_CFG_HOLDOFF.addr g, l.word (0x03302000 + 4 * g), 0xFFFF#32)) ++
    [(R.EVT_ENG_MASK_MASK.addr, l.word 0x03302080, 0xF#32)]
  let eff := words.foldl (fun r w => Cells.set r w.1 (w.2.1 &&& w.2.2)) l.rf.eff
  let bad := (words.map fun w => bitCount (w.2.1 &&& ~~~w.2.2)).sum
  { l with rf := ({ l.rf with eff := eff }).bump (R.BLK_CLAMP_CNT_COUNT.at .evt) 0 0 bad }

end Sys2Proof.Machine
end

