-- ==== Sys2Proof/Machine/Ops.lean ====
section
/-! DEFINITION. Operations on the whole module: registers, the serving lanes and the copy mirror (R12, R257), the
input distributor's deliveries (R13), event raises (R181) and records entering the recorder (R452, R453). -/

namespace Sys2Proof.Machine

/-! ### Registers of the module-level blocks -/

/-- Field `f` of entry (i, j) of a module-level block. -/
def State.rd (s : State) (f : Fld) (i : Nat := 0) (j : Nat := 0) : Nat := s.rf.rd f i j

/-- Sets a field of a module-level block. -/
def State.wr (s : State) (f : Fld) (v : Nat) (i : Nat := 0) (j : Nat := 0) : State := { s with rf := s.rf.wr f v i j }

/-- Adds to a counter of a module-level block (R56). -/
def State.bump (s : State) (f : Fld) (i : Nat := 0) (j : Nat := 0) (n : Nat := 1) : State :=
  { s with rf := s.rf.bump f i j n }

/-- Sets a field to 1 when a condition holds. -/
def State.flagIf (s : State) (c : Bool) (f : Fld) (i : Nat := 0) : State := if c then s.wr f 1 i else s

/-- Sets a whole register of a module-level block. -/
def State.wrWord (s : State) (a : Nat) (w : Word) : State := { s with rf := { s.rf with eff := Cells.set s.rf.eff a w } }

/-- Whether bit `k` of a field is set. -/
def State.bit (s : State) (f : Fld) (k : Nat) : Bool := (s.rd f).testBit k

/-- Sets bit `k` of a field. -/
def State.setBit (s : State) (f : Fld) (k : Nat) (b : Bool) : State :=
  s.wr f (if b then s.rd f ||| 2 ^ k else s.rd f &&& (2 ^ f.width - 1 - 2 ^ k))

/-! ### Lanes -/

/-- Lane `x`: 0 = A, 1 = B, 2 = C. -/
def State.lane (s : State) (x : Nat) : Lane := if x = 0 then s.la else if x = 1 then s.lb else s.lc

/-- The module with lane `x` replaced. -/
def State.setLane (s : State) (x : Nat) (l : Lane) : State :=
  if x = 0 then { s with la := l } else if x = 1 then { s with lb := l } else { s with lc := l }

/-- Lane state codes of R250. -/
def vsSelftest : Nat := 0
def vsSimplex : Nat := 1
def vsTriplex : Nat := 2
def vsSafe : Nat := 6
/-- DUPLEX-x. -/
def vsDuplex (x : Nat) : Nat := 3 + x

def State.vstate (s : State) : Nat := s.rd R.VT_STATE_STATE
def State.isSafe (s : State) : Bool := s.vstate == vsSafe
def State.isDuplex (s : State) : Bool := decide (3 ≤ s.vstate ∧ s.vstate ≤ 5)

/-- Whether lane `x` votes. -/
def State.votes (s : State) (x : Nat) : Bool := (s.rd R.VT_STATE_VOTING).testBit x

/-- Whether lane `x` serves: a voting lane, or in SAFE one that voted at the entry (R12). -/
def State.serves (s : State) (x : Nat) : Bool := if s.isSafe then s.vt.safeServing.contains x else s.votes x

/-- The serving lanes, lowest letter first. -/
def State.servingLanes (s : State) : List Nat := [0, 1, 2].filter fun x => s.serves x

/-- The voting lanes, lowest letter first. -/
def State.votingLanes (s : State) : List Nat := [0, 1, 2].filter fun x => s.votes x

/-- The lowest-lettered serving lane, where a host reads (R12); lane A when none serves. -/
def State.frontNo (s : State) : Nat := s.servingLanes.headD 0
def State.front (s : State) : Lane := s.lane s.frontNo

/-- The memory of a copy's target after its primary's memory went from `old` to `new`: every write is applied to it
(R257). -/
def mirrorCells (old new tgt : List Host.Cell) : List Host.Cell :=
  let t1 := new.foldl (fun t c => if Cells.get old c.1 = c.2 then t else Cells.set t c.1 c.2) tgt
  old.foldl (fun t c => if Cells.get new c.1 = 0 then Cells.set t c.1 0 else t) t1

/-- Before an operation the primary of each running copy is told which words of its target hold an error. -/
def State.watchCopies (s : State) : State :=
  s.vt.copies.foldl (fun s c =>
    let l := s.lane c.1
    s.setLane c.2.primary { s.lane c.2.primary with watch := l.ecc1 ++ l.ecc2 }) s

/-- Applies the writes of the primary of each running copy to its target (R257); a word rewritten there holds no error any more
(R88). -/
def State.mirror (s0 s : State) : State :=
  s.vt.copies.foldl (fun s c =>
    let l := s.lane c.1
    let p := s.lane c.2.primary
    let s1 := s.setLane c.1 { l with mem := mirrorCells (s0.lane c.2.primary).mem p.mem l.mem,
                                     ecc1 := l.ecc1.filter p.watch.contains, ecc2 := l.ecc2.filter p.watch.contains }
    s1.setLane c.2.primary { s1.lane c.2.primary with watch := [] }) s

/-- An operation carried out in every serving lane at the same point of its instruction stream (R12, R14), with the
mirror of the copies. -/
def State.onLanes (s : State) (g : Lane → Lane) : State :=
  State.mirror s (s.servingLanes.foldl (fun s x => s.setLane x (g (s.lane x))) s.watchCopies)

/-- The stamp of the happening becomes the module's local time (R24); the input latches whose stamp has come are taken before
the happening (R15, R169). -/
def State.now (s : State) (t : Nat) : State := { (s.onLanes fun l => l.latchDue t) with lt := t }

/-- A field of a lane-level block, from the lowest-lettered serving lane. -/
def State.lrd (s : State) (f : Fld) (i : Nat := 0) (j : Nat := 0) : Nat := s.front.rd f i j

/-- Sets a field of a lane-level block in every serving lane. -/
def State.lwr (s : State) (f : Fld) (v : Nat) (i : Nat := 0) (j : Nat := 0) : State :=
  s.onLanes (fun l => l.wr f v i j)

/-- Program modes of SYS_MODE_STAT.MODE (R175). -/
def mdRun : Nat := 0
def mdStop : Nat := 1
def mdMaint : Nat := 2
def mdRestarting : Nat := 3

def State.mode (s : State) : Nat := s.rd R.SYS_MODE_STAT_MODE
def State.startup (s : State) : Bool := s.rd R.SYS_MODE_STAT_STARTUP == 1

/-- Whether the module is in STOP or MAINT. -/
def State.stopped (s : State) : Bool := s.mode == mdStop || s.mode == mdMaint

/-- What the dispatchers may release now. During the start-up of a program start the mode still reads RESTARTING. -/
def State.phase (s : State) : Phase :=
  { run := s.mode == mdRun || (s.mode == mdRestarting && s.startup), startup := s.startup,
    simplex := s.vstate == vsSimplex, safe := s.isSafe, entering := s.rd R.PW_STATE_STATE == 3 }

/-- Codes of PW_STATE.STATE (R460). -/
def psBoot : Nat := 0
def psRun : Nat := 1
def psStabled : Nat := 2
def psEntering : Nat := 3
def psSleep : Nat := 4
def psHoldup : Nat := 5

/-- The module is in RECOVERY, where only the host access unit and UP run (R505). -/
def State.recovering (s : State) : Bool := s.rd R.UP_STATE_STATE == 2

def State.pwState (s : State) : Nat := s.rd R.PW_STATE_STATE

/-- Outputs, telegrams and the lease are given up: SLEEP or its entry, HOLDUP, or no power (R463, R467). -/
def State.pwDown (s : State) : Bool :=
  s.pw.off || s.pwState == psEntering || s.pwState == psSleep || s.pwState == psHoldup

/-! ### The input distributor (R13) -/

/-- The first whole µs of LT after `t`, in ns (R372, R393, R406). -/
def usAfter (t : Nat) : Nat := (t / 1000 + 1) * 1000

/-- A sample of I word `k` stamped `t` reaches a lane. -/
def Lane.sample (l : Lane) (k : Nat) (v : Word) (t : Nat) : Lane :=
  let c := NMap.get l.samples {} k
  let d : Sample := { stamp := t, cur := v, prev := if c.stamp < t then c.cur else c.prev }
  { l with samples := NMap.put l.samples k d }

/-- A sample of I word `k` stamped `t` is delivered. -/
def State.sample (s : State) (k : Nat) (v : Word) (t : Nat) : State := s.onLanes (fun l => l.sample k v t)

/-- A communication object stamped `t` reaches a lane. -/
def Lane.putComm (l : Lane) (key : Nat) (o : CommObj) (t : Nat) : Lane :=
  let c := NMap.get l.comm {} key
  let d : CommCell := { stamp := t, cur := o, prev := if c.stamp < t then c.cur else c.prev }
  { l with comm := NMap.put l.comm key d }

/-- A communication object is delivered. -/
def State.putComm (s : State) (key : Nat) (o : CommObj) (t : Nat) : State := s.onLanes (fun l => l.putComm key o t)

/-- The object as last delivered. -/
def State.comm (s : State) (key : Nat) : CommObj := (NMap.get s.front.comm {} key).cur

/-- A raise of source `n` stamped `t` by its owning block (R181, R183). While the lanes are frozen nothing is raised
(R472). -/
def State.raise (s : State) (n t : Nat) : State :=
  if s.pw.frozen then s else s.onLanes (fun l => l.evRaise n t)

/-! ### Line Gauge time -/

/-- TT at LT `t` (R201). -/
def LgState.ttAt (g : LgState) (t : Nat) : Nat :=
  let dt := (t : Int) - g.ttLt
  (((g.tt : Int) + dt + dt * g.rate / 1000000000) % 2 ^ 64).toNat

def State.ttLocked (s : State) : Bool := s.rd R.LG_TT_LOCKED == 1

/-! ### Records (spec/18_event_recorder.md) -/

/-- WRITER codes of R448. -/
def wrProgram : Nat := 0
def wrBlock : Nat := 1
def wrRecorder : Nat := 2

/-- Bytes a record occupies (R448). -/
def LogRec.size (r : LogRec) : Nat := 64 + 16 * ((r.data.length + 15) / 16)

/-- Bytes of a list of records. -/
def recSizes (rs : List LogRec) : Nat := (rs.map LogRec.size).sum

/-- The record formed at stamp `t` (R448, R449). -/
def State.mkRec (s : State) (type writer source : Nat) (data : List Byte) (t : Nat) : LogRec :=
  { type := type, writer := writer, source := source, data := data,
    tt := if s.ttLocked then some (s.lg.ttAt t) else none, lt := t,
    opSec := satNat 32 (s.pw.opBase + (t - s.pw.upAt) / 1000000000), cycles := s.pw.powerCycles }

/-- Little-endian bytes of a number. -/
def leBytes (n : Nat) : Nat → List Byte
  | 0 => []
  | k + 1 => BitVec.ofNat 8 n :: leBytes (n / 256) k

/-- The queue of staging: the lead lane's copy, or what the recorder holds while no lane serves (R452). -/
def State.stagedRecs (s : State) : List LogRec := if s.servingLanes.isEmpty then s.er.staging else s.front.staging

/-- The queue of staging in every lane, or in the recorder while no lane serves (R452). -/
def State.setStaged (s : State) (st : List LogRec) : State :=
  (if s.servingLanes.isEmpty then { s with er := { s.er with staging := st } } else s.onLanes fun l => { l with staging := st }).wr
    R.ER_STAGE_BYTES (recSizes st)

/-- Puts records at the end of staging. -/
def State.pushStaging (s : State) (rs : List LogRec) : State := s.setStaged (s.stagedRecs ++ rs)

/-- The records the recorder holds are written back into the staging of every lane (R452, R507). -/
def State.restoreStaging (s : State) : State :=
  let st := s.er.staging
  { s with er := { s.er with staging := [] }, la := { s.la with staging := st }, lb := { s.lb with staging := st },
           lc := { s.lc with staging := st } }

/-- States of ER_STATE. -/
def erRecovering : Nat := 0
def erReady : Nat := 1
def erHoldup : Nat := 2

/-- A record enters staging (R452, R453). One that does not fit is discarded and counted; after discards the next one
that fits is preceded by STAGING_DROP. From entry into HOLDUP on no record is taken (R455). -/
def State.stage (s : State) (r : LogRec) : State :=
  if s.rd R.ER_STATE_STATE = erHoldup then s
  else
    let prog := r.writer == wrProgram
    let dropped := s.er.dropProg != 0 || s.er.dropHw != 0
    let need := r.size + (if dropped then 80 else 0)
    let limit := if prog then 1835008 else 2097152
    if recSizes s.stagedRecs + need ≤ limit then
      if dropped then
        let d := s.mkRec 0x0005 wrRecorder 0x17 (leBytes s.er.dropProg 4 ++ leBytes s.er.dropHw 4) r.lt
        ({ s with er := { s.er with dropProg := 0, dropHw := 0 } } : State).pushStaging [d, r]
      else s.pushStaging [r]
    else if prog then
      ((({ s with er := { s.er with dropProg := s.er.dropProg + 1 } } : State).bump R.ER_DROP_CNT_PROG).wr R.ER_FLAGS_DROP_PROG 1).raise
        387 r.lt
    else
      ((({ s with er := { s.er with dropHw := s.er.dropHw + 1 } } : State).bump R.ER_DROP_CNT_HW).wr R.ER_FLAGS_DROP_HW 1).raise
        387 r.lt

/-- A recorder entry of block `b` of a type with its data bytes (R449, R454). -/
def State.record (s : State) (b : Block) (type : Nat) (data : List Byte) (t : Nat) : State :=
  s.stage (s.mkRec type wrBlock (blockBase b / 0x10000) data t)

/-- A byte from a number. -/
def byte (n : Nat) : Byte := BitVec.ofNat 8 n

/-! ### Tables -/

/-- The lane the module-level blocks read the configuration tables from: every lane holds the same tables (R152). While no lane
serves it is one whose self-test passed (R503). -/
def State.tab (s : State) : Lane :=
  if s.servingLanes.isEmpty then s.lane (([0, 1, 2].find? fun x => NMap.get s.vt.test 0 x == 1).getD 0) else s.front

/-- A word of the configuration tables at a lane offset. -/
def State.tw (s : State) (a : Nat) : Word := s.tab.word a

/-- Whether the module acts as lease holder (R436, R442), and what the RD table names as leased. -/
def State.acting (s : State) : Bool := s.rd R.RD_STATE_ACTING == 1
def State.fieldLeased (s : State) (g : Nat) : Bool := (fieldOf (s.tw 0x03391010) 23 16).testBit g
def State.canLeased (s : State) (c : Nat) : Bool := (fieldOf (s.tw 0x03391010) 27 24).testBit c
def State.fbLeased (s : State) : Bool := (s.tw 0x03391010).getLsbD 28

/-- Clamps a value into a field's legal set (R53): the nearest legal value. -/
def Fld.clamp (f : Fld) (v : Nat) : Nat :=
  match f.legal with
  | .any => v
  | .range lo hi => if v < lo then lo else if hi < v then hi else v
  | .mult4 lo hi =>
    let w := if v % 4 < 2 then v - v % 4 else if v % 4 = 2 then v - 2 else v + 1
    if w < lo then lo else if hi < w then hi else w
  | .signed w neg pos => fromSigned w (clampInt (-(neg : Int)) pos (toSigned w v))
  | .zeroTo n => if v = 0 then n else v

/-- The blocks in the order of their ranges. -/
def allBlocks : List Block := [.sys, .hp, .le, .tsk, .evt, .lg, .vt, .sc, .ch, .fb, .nw, .cn, .br, .rd, .er, .pw, .up]

/-- Whether address `a` lies in the range of block `b`. -/
def inBlock (b : Block) (a : Nat) : Bool := decide (blockBase b ≤ a ∧ a < blockEnd b)

/-- The block of an address. -/
def blockOf (a : Nat) : Option Block := allBlocks.find? fun b => inBlock b a

/-- Whether the bridge is ready: SRB_CLK runs and SRB_RST_N has been high long enough (R418). -/
def State.brReady (s : State) : Bool := s.br.clk && !s.br.rst

/-- The module is unpowered: the bridge's outputs float, and no transaction or request is left (R417, R429). -/
def State.brFloat (s : State) : State := { s with br := { last := s.br.last, clk := s.br.clk, rst := s.br.rst } }

/-- Whether the block of an address is in a reset at `t` (R57). -/
def State.resettingAt (s : State) (a t : Nat) : Bool :=
  match blockOf a with
  | some b => decide (t < NMap.get s.rst 0 (blockBase b))
  | none => false

end Sys2Proof.Machine
end

