-- ==== Sys2Proof/Machine/Chase.lean ====
section
/-! DEFINITION. The Safety Chase (spec/10_safety_chase.md): its table, terminals, equations, states, degraded mode. -/

namespace Sys2Proof.Machine

/-! ### The table (R280, R284) -/

/-- Words of the Chase table. -/
def scWords : Nat := 1049

/-- CRC-32 of IEEE 802.3, one bit step (reflected form). -/
def crc32Bit (c : Word) : Word := if c.getLsbD 0 then (c >>> 1) ^^^ 0xEDB88320#32 else c >>> 1

/-- One byte of the CRC-32. -/
def crc32Byte (c : Word) (b : Byte) : Word :=
  let c0 := c ^^^ b.setWidth 32
  crc32Bit (crc32Bit (crc32Bit (crc32Bit (crc32Bit (crc32Bit (crc32Bit (crc32Bit c0)))))))

/-- The CRC-32 of IEEE 802.3 over a list of bytes (R280). -/
def crc32 (bs : List Byte) : Word := bs.foldl crc32Byte 0xFFFFFFFF#32 ^^^ 0xFFFFFFFF#32

/-- Word `k` of a table. -/
def tabWord (tab : List Word) (k : Nat) : Word := tab.getD k 0

/-- Group word, terminal words 0 and 1, timer word of a table (R280). -/
def scGroupW (tab : List Word) (g : Nat) : Word := tabWord tab (8 + g)
def scTermW (tab : List Word) (i : Nat) : Word := tabWord tab (16 + 4 * i)
def scTimerW (tab : List Word) (t : Nat) : Word := tabWord tab (0x410 + t)

def scPeriodMs (tab : List Word) (g : Nat) : Nat := fieldOf (scGroupW tab g) 15 0
/-- Pulse width in µs. -/
def scWidthUs (tab : List Word) (g : Nat) : Nat := fieldOf (scGroupW tab g) 25 16 * 10
def scRole (tab : List Word) (i : Nat) : Nat := fieldOf (scTermW tab i) 1 0
def scSlot (tab : List Word) (i : Nat) : Nat := fieldOf (scTermW tab i) 10 8
def scTpEn (tab : List Word) (i : Nat) : Bool := (scTermW tab i).getLsbD 11
def scDarkPeriod (tab : List Word) (i : Nat) : Nat := fieldOf (scTermW tab i) 23 16
def scDarkW (tab : List Word) (i : Nat) : Nat := fieldOf (scTermW tab i) 27 24
def scStuck (tab : List Word) (i : Nat) : Nat := fieldOf (tabWord tab (16 + 4 * i + 1)) 15 0

/-- FILTER in samples of 10 µs (R272). -/
def scFilter (tab : List Word) (i : Nat) : Nat :=
  [1, 10, 50, 100, 200, 500, 1000, 2000].getD (fieldOf (scTermW tab i) 6 4) 1

/-- Roles of R280. -/
def srNone : Nat := 0
def srIn : Nat := 1
def srOut : Nat := 2

/-- Term `m` of equation `n`: POS and NEG as 64-bit masks (R282). -/
def scTermPos (tab : List Word) (n m : Nat) : BitVec 64 :=
  tabWord tab (0x90 + 16 * n + 4 * m + 1) ++ tabWord tab (0x90 + 16 * n + 4 * m)
def scTermNeg (tab : List Word) (n m : Nat) : BitVec 64 :=
  tabWord tab (0x90 + 16 * n + 4 * m + 3) ++ tabWord tab (0x90 + 16 * n + 4 * m + 2)

/-- Whether a term is used. -/
def scTermUsed (tab : List Word) (n m : Nat) : Bool := scTermPos tab n m != 0 || scTermNeg tab n m != 0

/-- Whether equation `n` has a used term. -/
def scEqUsed (tab : List Word) (n : Nat) : Bool := [0, 1, 2, 3].any fun m => scTermUsed tab n m

/-- Literals L49 to L62. -/
def scReserved : BitVec 64 := 0x7FFE000000000000#64

/-- The checks on one terminal entry. -/
def scTermOk (tab : List Word) (i : Nat) : Bool :=
  let w := scTermW tab i
  let role := scRole tab i
  let dp := scDarkPeriod tab i
  let dw := scDarkW tab i
  decide (role ≤ 2) && fieldOf w 3 2 == 0 && fieldOf w 7 7 == 0 && fieldOf w 15 12 == 0 && fieldOf w 31 28 == 0 &&
  (!scTpEn tab i || role == srIn) && (dp == 0 || role == srOut) &&
  (if role == srOut && dp != 0 then decide (1 ≤ dw ∧ dw ≤ 5) else dw == 0) &&
  fieldOf (tabWord tab (16 + 4 * i + 1)) 31 16 == 0 && tabWord tab (16 + 4 * i + 2) == 0 &&
  tabWord tab (16 + 4 * i + 3) == 0

/-- The checks on one group word (R274, R280). -/
def scGroupOk (tab : List Word) (g : Nat) : Bool :=
  let w := scGroupW tab g
  let tp := [0, 1, 2, 3].any fun k => scTpEn tab (4 * g + k)
  if w == 0 then !tp
  else decide (10 ≤ scPeriodMs tab g ∧ scPeriodMs tab g ≤ 1000) && decide (200 ≤ scWidthUs tab g ∧ scWidthUs tab g ≤ 1000) &&
    fieldOf w 31 26 == 0 && (!tp || decide (8 * (scWidthUs tab g + 300) ≤ 1000 * scPeriodMs tab g))

/-- The checks on one equation. -/
def scEqOk (tab : List Word) (n : Nat) : Bool :=
  ([0, 1, 2, 3].all fun m =>
    (scTermPos tab n m ||| scTermNeg tab n m) &&& scReserved == 0 && scTermPos tab n m &&& scTermNeg tab n m == 0) &&
  (decide (32 ≤ n) || scRole tab n == srOut || !scEqUsed tab n)

/-- The checks on one timer word. -/
def scTimerOk (tab : List Word) (t : Nat) : Bool :=
  let w := scTimerW tab t
  if w == 0 then !scEqUsed tab (32 + t) else fieldOf w 15 0 != 0 && fieldOf w 31 17 == 0

/-- The CRC-32 over the table received (R280). -/
def scCrc (tab : List Word) : Word := crc32 ((tab.take 0x418).flatMap wordBytes)

/-- The checks on load (R284). -/
def scTableOk (tab : List Word) : Bool :=
  tabWord tab 0 == 0x00015343#32 && scCrc tab == tabWord tab 0x418 &&
  decide (1 ≤ (tabWord tab 2).toNat ∧ (tabWord tab 2).toNat ≤ 120) &&
  ([3, 4, 5, 6, 7].all fun k => tabWord tab k == 0) && ((List.range 8).all fun g => scGroupOk tab g) &&
  ((List.range 32).all fun i => scTermOk tab i) && ((List.range 56).all fun n => scEqOk tab n) &&
  ((List.range 8).all fun t => scTimerOk tab t)

/-! ### Access -/

def State.scTerm (s : State) (i : Nat) : ScTerm := NMap.get s.sc.terms {} i
def State.setScTerm (s : State) (i : Nat) (x : ScTerm) : State :=
  { s with sc := { s.sc with terms := NMap.put s.sc.terms i x } }

/-- The role of a terminal as loaded. -/
def State.scRoleOf (s : State) (i : Nat) : Nat := s.rd R.SC_TERM_STAT_ROLE i

/-- Codes of SC_TERM_STAT.FAULT. -/
def tfOwn : Nat := 1
def tfForeign : Nat := 2
def tfStuck : Nat := 3
def tfSwLane : Nat := 4
def tfSwChase : Nat := 5
def tfExt : Nat := 6
def tfMode : Nat := 7

def State.scFaultOf (s : State) (i : Nat) : Nat := s.rd R.SC_TERM_STAT_FAULT i

/-- The channel of terminal `i` (R269). -/
def scChannel (i : Nat) : Nat := 16 * (i / 4) + i % 4

/-- Chase states of R286. -/
def csTest : Nat := 0
def csNormal : Nat := 1
def csDegraded : Nat := 2
def csHeld : Nat := 3
def csExpired : Nat := 4

def State.scState (s : State) : Nat := s.rd R.SC_STATE_STATE

/-- Declares a terminal fault: its code, the flag, the count and the recorder entry (R276 to R279, R290). -/
def State.scTermFault (s : State) (i code slot t : Nat) : State :=
  let s1 := (s.wr R.SC_TERM_STAT_FAULT code i).bump R.SC_FAULT_CNT_TERM
  let s2 := if code = tfForeign then s1.wr R.SC_TERM_STAT_SLOT_SEEN slot i else s1
  let s3 := if s.scRoleOf i = srOut then s2.wr R.SC_FLAGS_OUT_FAULT 1 else s2.wr R.SC_FLAGS_IN_FAULT 1
  s3.record .sc 0x0402 [byte i, byte code, byte (s3.rd R.SC_TERM_STAT_SLOT_SEEN i)] t

/-! ### States and degraded time (R286 to R289) -/

/-- The degraded time in s at `t` (R288). -/
def State.scElapsed (s : State) (t : Nat) : Nat :=
  if s.scState = csDegraded then min 7200 (s.sc.degrBase + (t - s.sc.degrAt) / 1000000000) else s.rd R.SC_DEGR_ELAPSED

/-- The limit in s. -/
def State.scLimit (s : State) : Nat := 60 * s.rd R.SC_DEGR_LIMIT

/-- The voter drives the bypass while the lane state is TRIPLEX and the Chase DEGRADED (R288). -/
def State.scBypass (s : State) : State :=
  s.wr R.SC_STATE_BYPASS (if s.scState = csDegraded ∧ s.vstate = vsTriplex then 1 else 0)

/-- A change of the Chase state: the degraded time is kept or starts, the chase switches open outside NORMAL, the
bypass follows, a recorder entry names it (R286, R288, R290). -/
def State.scEnter (s : State) (st t : Nat) : State :=
  let old := s.scState
  if old = st then s
  else
    let el := s.scElapsed t
    let s1 := (s.wr R.SC_DEGR_ELAPSED el).wr R.SC_STATE_STATE st
    let s2 : State :=
      if st = csDegraded then { s1 with sc := { s1.sc with degrAt := t, degrBase := el, degrFlash := el } } else s1
    let s3 := if st = csNormal then s2 else s2.wr R.SC_CHASE_CMD_CMD 0
    let s4 := s3.flagIf (st == csExpired) R.SC_FLAGS_EXPIRED_SEEN
    s4.scBypass.record .sc 0x0401 [byte old, byte st, byte (s4.rd R.SC_STATE_CAUSE)] t

/-- Cause codes of SC_STATE.CAUSE. -/
def scTable : Nat := 1
def scCorrupt : Nat := 2
def scEval : Nat := 3
def scSelftest : Nat := 4
def scHbCause : Nat := 5
def scComparator : Nat := 6

/-- A Chase fault and its transition (R287 rows 3 to 7). -/
def State.scFault (s : State) (cause t : Nat) : State :=
  let s1 := ((s.wr R.SC_STATE_CAUSE cause).wr R.SC_FLAGS_CHASE_FAULT 1).bump R.SC_FAULT_CNT_CHASE
  let st := s1.scState
  if st = csTest then
    if s1.scLimit ≤ s1.scElapsed t then s1.scEnter csExpired t
    else if s1.vstate = vsTriplex then s1.scEnter csDegraded t
    else s1.scEnter csHeld t
  else if st = csNormal then
    if s1.vstate = vsTriplex then s1.scEnter csDegraded t else s1.scEnter csHeld t
  else s1

/-- The Chase after a change of the lane state (R287 rows 8 and 9, R288). -/
def State.scLaneState (s : State) (t : Nat) : State :=
  let s1 :=
    if s.scState = csDegraded && s.vstate != vsTriplex then s.scEnter csHeld t
    else if s.scState = csHeld && s.vstate == vsTriplex && decide (s.scElapsed t < s.scLimit) then s.scEnter csDegraded t
    else s
  s1.scBypass

/-- Row 1 of R287: TEST, the table loaded and checked, timers and latches cleared (R283, R284). -/
def State.scLoad (s : State) (t : Nat) : State :=
  let s1 := s.scEnter csTest t
  let tab := (List.range scWords).map fun k => s.tw (0x03303000 + 4 * k)
  let s2 := ({ s1 with sc := { s1.sc with table := tab, timers := [], latches := 0, misses := 0 } } : State).wr
    R.SC_TABLE_CRC_CRC (scCrc tab).toNat
  if scTableOk tab then
    let s3 := (s2.wr R.SC_TABLE_ID_ID (tabWord tab 1).toNat).wr R.SC_DEGR_LIMIT (tabWord tab 2).toNat
    (List.range 32).foldl (fun s i => s.wr R.SC_TERM_STAT_ROLE (scRole tab i) i) s3
  else
    let s3 := (s2.wr R.SC_TABLE_ID_ID 0).wr R.SC_DEGR_LIMIT 0
    let s4 := (List.range 32).foldl (fun s i => s.wr R.SC_TERM_STAT_ROLE srNone i) s3
    s4.scFault scTable t

/-- CHASE_SELFTEST_END: a pass enters NORMAL with the degraded time 0; a failure is a Chase fault (R287). -/
def State.scTestEnd (s : State) (pass : Bool) (t : Nat) : State :=
  if s.scState != csTest then s
  else if pass then
    ({ s with sc := { s.sc with degrFlash := 0 } } : State).wr R.SC_DEGR_ELAPSED 0 |>.scEnter csNormal t
  else s.scFault scSelftest t

/-- HEARTBEAT_MISS: three consecutive missing heartbeats are a Chase fault (R287). -/
def State.scHeartbeat (s : State) (missing : Bool) (t : Nat) : State :=
  if missing then
    let n := s.sc.misses + 1
    let s1 : State := { s with sc := { s.sc with misses := min n 3 } }
    if n = 3 then s1.scFault scHbCause t else s1
  else { s with sc := { s.sc with misses := 0 } }

/-- DEGRADED_LIMIT (R287 row 10). -/
def State.scLimitReached (s : State) (t : Nat) : State :=
  if s.scState = csDegraded ∧ s.scLimit ≤ s.scElapsed t then
    (s.scEnter csExpired t).wr R.SC_DEGR_ELAPSED s.scLimit
  else s

/-- DEGRADED_WARN: 80 % of DEGR_MIN (R288). -/
def State.scWarn (s : State) (t : Nat) : State :=
  if s.scState = csDegraded ∧ 4 * s.scLimit ≤ 5 * s.scElapsed t then s.wr R.SC_FLAGS_DEGR_WARN 1 else s

/-- DEGRADED_TIME_RECORD: the flash record every minute (R288). -/
def State.scRecordTime (s : State) (t : Nat) : State :=
  if s.scState = csDegraded then { s with sc := { s.sc with degrFlash := s.scElapsed t } } else s

/-! ### Inputs (R271 to R273) -/

/-- The level of a pin at `mv` with group supply `ug`, both in mV (R271); none inside the band. -/
def scLevel (mv ug : Int) : Option Bool :=
  if ug < 10000 then some false
  else if 65 * ug ≤ 100 * mv then some true
  else if 100 * mv ≤ 35 * ug then some false
  else none

/-- Whether both switches have been commanded open for `d` ns at `t`. -/
def ScTerm.openSince (x : ScTerm) (d t : Nat) : Bool :=
  match x.openAt with
  | some a => decide (a + d ≤ t)
  | none => false

/-- The slots that pulse in group `g`: those at least one TP_EN terminal names (R274). -/
def State.scSlots (s : State) (g : Nat) : List Nat :=
  (([0, 1, 2, 3].map fun k => 4 * g + k).filter (scTpEn s.sc.table)).map (scSlot s.sc.table) |>.eraseDups

/-- Whether a pulse of `slot` of group `g` is in progress, or its 300 µs, at `t` (R274, R275). -/
def State.scInPulse (s : State) (g slot t : Nat) : Bool :=
  match NMap.look s.sc.cycles g with
  | none => false
  | some (t0, _) =>
    let a := t0 + slot * (scPeriodMs s.sc.table g * 1000000) / 8
    decide (a ≤ t ∧ t < a + scWidthUs s.sc.table g * 1000 + 300000)

/-- Whether the filtered value of terminal `i` is frozen at `t`, by a pulse of any slot of its group (R275). -/
def State.scFrozen (s : State) (i t : Nat) : Bool :=
  scTpEn s.sc.table i && (s.scSlots (i / 4)).any fun k => s.scInPulse (i / 4) k t

/-- Whether the pin of terminal `i` shows its own source's pulse at `t`, and not its contact. -/
def State.scOwnPulse (s : State) (i t : Nat) : Bool :=
  scTpEn s.sc.table i && s.scInPulse (i / 4) (scSlot s.sc.table i) t

/-- Whether the source of `slot` of group `g` is off for its test pulse at `t` (R274). -/
def State.scSourceOff (s : State) (g slot t : Nat) : Bool :=
  (s.scSlots g).contains slot &&
  match NMap.look s.sc.cycles g with
  | none => false
  | some (t0, _) =>
    let a := t0 + slot * (scPeriodMs s.sc.table g * 1000000) / 8
    decide (a ≤ t ∧ t < a + scWidthUs s.sc.table g * 1000)

/-- CHASE_INPUT_SAMPLE of terminal `i`: the level against the thresholds, the filter and UNDET (R271, R272), and the
end of a stuck declaration (R273). While its own source pulses, an input counts as it read before the pulse; while it is frozen, the
filter goes on and its value follows at the end of the window, so that no pulse adds more than its window (R275). -/
def State.scSample (s : State) (i : Nat) (mv ug : Int) (t : Nat) : State :=
  let x := s.scTerm i
  let lv :=
    if s.scRoleOf i == srIn && s.scOwnPulse i t && decide (10000 ≤ ug) then x.level
    else (scLevel mv ug).or x.level
  let x := { x with levelAt := if lv == x.level then x.levelAt else t, level := lv }
  if s.scRoleOf i != srIn then
    -- the readback of an output (R279)
    let low := s.scFaultOf i == tfExt && lv == some false && decide (x.levelAt + 1000000 ≤ t) && x.openSince 1000000 t
    s.setScTerm i { x with extLow := x.extLow || low }
  else
    match lv with
    | none =>
      -- inside the band since power-up: UNDET until a threshold or three filter periods
      if s.rd R.SC_TERM_STAT_UNDET i = 0 then
        if x.undetAt = 0 then (s.setScTerm i { x with undetAt := t }).wr R.SC_TERM_STAT_UNDET 1 i else s.setScTerm i x
      else if x.undetAt + 3 * scFilter s.sc.table i * 10000 ≤ t then (s.setScTerm i x).wr R.SC_TERM_STAT_UNDET 0 i
      else s.setScTerm i x
    | some b =>
      let run := if b == x.filt then 0 else x.run + 1
      let hit := !s.scFrozen i t && decide (0 < run ∧ scFilter s.sc.table i ≤ run)
      let filt := if hit then b else x.filt
      let x1 := { x with run := if hit then 0 else run, filt := filt, oneAt := if filt && !x.filt then t else x.oneAt }
      let s1 := (s.setScTerm i x1).wr R.SC_TERM_STAT_UNDET 0 i
      if s1.scFaultOf i = tfStuck ∧ filt = false then s1.wr R.SC_TERM_STAT_FAULT 0 i else s1

/-- CHASE_INPUT_STUCK: the filtered value has been 1 for STUCK seconds (R273). -/
def State.scInputStuck (s : State) (i t : Nat) : State :=
  let x := s.scTerm i
  let k := scStuck s.sc.table i
  if s.scRoleOf i = srIn ∧ 0 < k ∧ x.filt = true ∧ x.oneAt + k * 1000000000 ≤ t ∧ s.scFaultOf i = 0 then
    s.scTermFault i tfStuck 0 t
  else s

/-! ### Test pulses (R274 to R276) -/

/-- TEST_CYCLE_START of group `g`: the running cycle's pattern is judged for the clearing of latched faults, and the
next cycle begins (R274, R276). The pattern is correct when every pulse of the group gave a correct sample: a contact open at one of
them has given no test information. -/
def State.scTestCycle (s : State) (g t : Nat) : State :=
  let n := match NMap.look s.sc.cycles g with
    | some (_, n) => n
    | none => 0
  let s1 : State := { s with sc := { s.sc with cycles := NMap.put s.sc.cycles g (t, n + 1) } }
  ([0, 1, 2, 3].map fun k => 4 * g + k).foldl (fun s i =>
    let x := s.scTerm i
    let full := (s.scSlots g).all x.cycleSeen.contains && !x.cycleBad
    s.setScTerm i { x with foundBefore := x.found, found := [], goodCycle := x.goodCycle || (x.cycleFault && full), cycleBad := false,
                           cycleSeen := [], cycleFault := s.scFaultOf i == tfOwn || s.scFaultOf i == tfForeign }) s1

/-- The sample of terminal `i` 50 µs before the end of the pulse of a slot of its group (R276). -/
def State.scPulseTerm (slot t : Nat) (s : State) (i : Nat) (high : Bool) : State :=
  let x := s.scTerm i
  if !(scTpEn s.sc.table i && x.filt) then s
  else
    let own := scSlot s.sc.table i == slot
    let kind := if own && high then 1 else if !own && !high then 2 else 0
    if kind = 0 then s.setScTerm i { x with cycleSeen := slot :: x.cycleSeen }
    else
      let same := x.foundBefore.contains (kind, slot)
      let s1 := s.setScTerm i { x with found := (kind, slot) :: x.found, cycleBad := true, goodCycle := false }
      if same && s.scFaultOf i == 0 then s1.scTermFault i (if kind = 1 then tfOwn else tfForeign) slot t else s1

/-- TEST_PULSE_SAMPLE: the samples of the four terminals of group `g` at a pulse of `slot`. -/
def State.scPulse (s : State) (g slot : Nat) (highs : BitVec 4) (t : Nat) : State :=
  [0, 1, 2, 3].foldl (fun s k => State.scPulseTerm slot t s (4 * g + k) (highs.getLsbD k)) s

/-- Clearing of latched terminal faults by CLR_FAULTS or an ACK release (R276, R278, R279). -/
def State.scClearFaults (s : State) : State :=
  (List.range 32).foldl (fun s i =>
    let x := s.scTerm i
    let f := s.scFaultOf i
    let ok := if f = tfOwn || f = tfForeign then x.goodCycle else if f = tfExt then x.extLow
      else f == tfSwLane || f == tfSwChase
    if ok then (s.setScTerm i { x with goodCycle := false, extLow := false }).wr R.SC_TERM_STAT_FAULT 0 i else s) s

/-! ### Outputs (R270, R278, R279) -/

/-- High-side output modes of the CH block (R269, R301). -/
def hsModes : List Nat := [0x08, 0x09, 0x0A]

/-- Whether the channel of SAFE_OUT terminal `i` is in a high-side output mode. -/
def State.scModeOk (s : State) (i : Nat) : Bool := hsModes.contains (s.rd R.CH_MODE_MODE (scChannel i))

/-- Whether the chase switch is held open: the lane switch is stuck, or the channel's mode is wrong (R269, R278). -/
def State.scHeldOff (s : State) (i : Nat) : Bool := s.scFaultOf i == tfSwLane || !s.scModeOk i

/-- Whether the Chase's further line opens the lane switch: for a dark pulse, while the chase switch is stuck, or while the
channel's mode is wrong (R269, R270, R278). -/
def State.scLaneOpen (s : State) (i : Nat) : Bool :=
  s.scRoleOf i == srOut && ((s.scTerm i).dark == some true || s.scFaultOf i == tfSwChase || !s.scModeOk i)

/-- Whether the chase switch of terminal `i` is closed: the Chase's drive or the bypass, never in SAFE, not during its
dark pulse (R270, R278, R288, R289). DESIGN CHOICE (log entry 93): the bypass does not close the switch of a terminal that is held
open for a stuck lane switch, a wrong mode or its dark pulse. -/
def State.scClosed (s : State) (i : Nat) : Bool :=
  !s.isSafe && !s.pwDown && s.scRoleOf i == srOut && !s.scHeldOff i && (s.scTerm i).dark != some false &&
    (s.rd R.SC_STATE_BYPASS == 1 || (s.scState == csNormal && (s.rd R.SC_CHASE_CMD_CMD 0).testBit i))

/-- Whether the lane switch of terminal `i` is commanded on by its channel. -/
def State.scLaneOn (s : State) (i : Nat) : Bool := s.rd R.CH_STAT_ON (scChannel i) == 1

/-- Notes since when both switches of every SAFE_OUT are commanded open; an output that is not energised, other than by a
dark pulse, begins anew with the chase switch (R278, R279). -/
def State.scOpenSince (s : State) (t : Nat) : State :=
  (List.range 32).foldl (fun s i =>
    if s.scRoleOf i = srOut then
      let x := s.scTerm i
      let x1 := { x with darkLane := x.darkLane && (x.dark.isSome || (s.scClosed i && s.scLaneOn i)) }
      if s.scClosed i || s.scLaneOn i then s.setScTerm i { x1 with openAt := none }
      else if x.openAt.isNone then s.setScTerm i { x1 with openAt := some t }
      else s.setScTerm i x1
    else s) s

/-- DARK_PULSE_START of an energised SAFE_OUT: one switch opens, alternating, the chase switch first (R278). -/
def State.scDarkStart (s : State) (i : Nat) : State :=
  let x := s.scTerm i
  if s.scRoleOf i = srOut ∧ 0 < scDarkPeriod s.sc.table i ∧ s.scClosed i = true ∧ s.scLaneOn i = true ∧ x.dark = none then
    s.setScTerm i { x with dark := some x.darkLane, darkLane := !x.darkLane }
  else s

/-- DARK_PULSE_END: a pin that does not read low declares the opened switch stuck (R278); between the thresholds it reads as before
(R271). -/
def State.scDarkEnd (s : State) (i : Nat) (mv ug : Int) (t : Nat) : State :=
  let x := s.scTerm i
  match x.dark with
  | none => s
  | some lane =>
    let s1 := s.setScTerm i { x with dark := none }
    if (scLevel mv ug).or x.level == some false then s1 else s1.scTermFault i (if lane then tfSwLane else tfSwChase) 0 t

/-- EXT_POTENTIAL: the pin has read high for 1 ms while both switches were commanded open (R279). DESIGN CHOICE (log entry 92): a
terminal has one fault code, and while one stands no other is declared, except by a dark pulse, whose finding replaces it. -/
def State.scExtPotential (s : State) (i t : Nat) : State :=
  let x := s.scTerm i
  if s.scRoleOf i = srOut ∧ x.openSince 1000000 t = true ∧ x.level = some true ∧ x.levelAt + 1000000 ≤ t ∧
      s.scFaultOf i = 0 then
    (s.setScTerm i { x with extLow := false }).scTermFault i tfExt 0 t
  else s

/-! ### The Chase cycle (R281 to R283, R285, R290) -/

/-- Literal of terminal `i` (R281): 0 unless SAFE_IN, while undetermined, and while a fault is declared. -/
def State.scLiteral (s : State) (i : Nat) : Bool :=
  s.scRoleOf i == srIn && (s.scTerm i).filt && s.scFaultOf i == 0 && s.rd R.SC_TERM_STAT_UNDET i == 0

/-- L0 to L31 and the whole literal vector, from the timers and latches of the cycle before. -/
def State.scLow (s : State) : Nat :=
  (List.range 32).foldl (fun a i => if s.scLiteral i then a + 2 ^ i else a) 0
def State.scTimerBits (s : State) : Nat :=
  (List.range 8).foldl (fun a k => if (NMap.get s.sc.timers {} k).out then a + 2 ^ k else a) 0
def State.scLits (s : State) : BitVec 64 :=
  BitVec.ofNat 64 (s.scLow + s.scTimerBits * 2 ^ 32 + s.sc.latches % 256 * 2 ^ 40 +
    (if s.sc.ackRel then 2 ^ 48 else 0) + 2 ^ 63)

/-- Equation `n` over the literals (R282). -/
def scEquation (tab : List Word) (lits : BitVec 64) (n : Nat) : Bool :=
  [0, 1, 2, 3].any fun m =>
    scTermUsed tab n m && scTermPos tab n m &&& lits == scTermPos tab n m && scTermNeg tab n m &&& lits == 0

/-- One step of a timer (R283). -/
def scTimerStep (w : Word) (x : ScTimer) (inp : Bool) : ScTimer :=
  let n := fieldOf w 15 0 * 10
  if w = 0 then {}
  else if w.getLsbD 16 then
    if inp then { run := 0, left := n, out := true }
    else { run := 0, left := x.left - 1, out := decide (0 < x.left) }
  else
    let r := if inp then min (x.run + 1) n else 0
    { run := r, left := 0, out := inp && decide (n ≤ r) }

/-- The discrepancy run of terminal `i` (R285). -/
def State.scDiscRun (s : State) (i : Nat) : State :=
  if s.scRoleOf i != srOut then s
  else
    let x := s.scTerm i
    let diff := (s.rd R.SC_CHASE_CMD_CMD 0).testBit i != (s.rd R.SC_CHASE_CMD_CMD 1).testBit i
    s.setScTerm i (if diff then { x with discRun := min (x.discRun + 1) 50 } else { x with discRun := 0, discSet := false })

/-- The fault code MODE follows the channel's mode (R269). -/
def State.scModeFault (s : State) (i t : Nat) : State :=
  if s.scRoleOf i != srOut then s
  else if !s.scModeOk i && s.scFaultOf i == 0 then s.scTermFault i tfMode 0 t
  else if s.scModeOk i && s.scFaultOf i == tfMode then s.wr R.SC_TERM_STAT_FAULT 0 i
  else s

/-- The status words the Chase delivers every cycle: SC_STATE and L0 to L31 (R290, R305). -/
def State.scDeliver (s : State) (t : Nat) : State :=
  match NMap.look s.maps 16 with
  | some w => (s.sample w (s.rf.word R.SC_STATE_STATE.base) t).sample (w + 1) (s.rf.word R.SC_LIT_LIT.base) t
  | none => s

/-- CHASE_CYCLE (R283). The command is the Chase's own only in NORMAL; every other state holds the switches open or
leaves them to the bypass (R286). `agree`: the second evaluation, in complementary logic, gave the same results; a
difference is a Chase fault (R284). -/
def State.scCycle (s : State) (agree : Bool) (t : Nat) : State :=
  if s.pw.frozen then s
  else
  let tab := s.sc.table
  let lits := s.scLits
  let eq := scEquation tab lits
  let timers := (List.range 8).map fun k => (k, scTimerStep (scTimerW tab k) (NMap.get s.sc.timers {} k) (eq (32 + k)))
  let z := (List.range 8).foldl (fun a k =>
    let v := (s.sc.latches.testBit k || eq (40 + k)) && !eq (48 + k)
    if v then a + 2 ^ k else a) 0
  let low := lits.toNat % 2 ^ 32
  let s1 : State := { s with sc := { s.sc with timers := timers, latches := z, ackRel := false } }
  let hi := s1.scTimerBits + z * 2 ^ 8 + (if s.sc.ackRel then 2 ^ 16 else 0) + 2 ^ 31
  let s2 := (s1.wr R.SC_LIT_LIT low 0).wr R.SC_LIT_LIT hi 1
  let cmd := (List.range 32).foldl (fun a i => if eq i && !s.scHeldOff i then a + 2 ^ i else a) 0
  let s3 := s2.wr R.SC_CHASE_CMD_CMD (if s.scState = csNormal then cmd else 0) 0
  let s4 := (List.range 32).foldl (fun s i => (s.scModeFault i t).scDiscRun i) s3
  let s5 := (s4.scOpenSince t).scDeliver t
  if agree then s5 else s5.scFault scEval t

/-- CHASE_DISCREPANCY: 50 consecutive cycles of difference set DISC once (R285, R290). -/
def State.scDisc (s : State) (i t : Nat) : State :=
  let x := s.scTerm i
  if 50 ≤ x.discRun ∧ x.discSet = false then
    let s1 := ((s.setScTerm i { x with discSet := true }).setBit R.SC_DISC_DISC i true).bump R.SC_TERM_STAT_DISC_CNT i
    s1.record .sc 0x0403 [byte i] t
  else s

/-- A release of the ACK key from a press of at least 100 ms and less than 5 s (R281): L48 for the next cycle, and the
clearing of faults. -/
def State.scAckRelease (s : State) : State :=
  ({ s with sc := { s.sc with ackRel := true } } : State).scClearFaults

end Sys2Proof.Machine
end

