-- ==== Sys2Proof/Machine/Field.lean ====
section
/-! DEFINITION. Field channels: groups, selection, inputs, counting, outputs, commits and frames
(spec/11_field_digital.md). -/

namespace Sys2Proof.Machine

/-! ### Access -/

def State.ch (s : State) (c : Nat) : FdChan := NMap.get s.chan {} c
def State.setCh (s : State) (c : Nat) (x : FdChan) : State := { s with chan := NMap.put s.chan c x }
def State.group (s : State) (g : Nat) : FdGroup := NMap.get s.grp {} g
def State.setGroup (s : State) (g : Nat) (x : FdGroup) : State := { s with grp := NMap.put s.grp g x }

/-- The channels of group `g` (R297). -/
def chansOf (g : Nat) : List Nat := (List.range 16).map fun k => 16 * g + k

/-- Mode codes of R301 and R331. -/
def cmOff : Nat := 0
def cmDi : Nat := 1
def cmUp : Nat := 2
def cmQuad : Nat := 3
def cmFreq : Nat := 4
def cmHs : Nat := 8
def cmPwm : Nat := 9
def cmPulse : Nat := 10
def cmTp : Nat := 11
def cmAiU : Nat := 0x10
def cmAiI : Nat := 0x11
def cmRes : Nat := 0x12
def cmRes3 : Nat := 0x13
def cmRtd : Nat := 0x14
def cmRtd3 : Nat := 0x15
def cmTc : Nat := 0x16
def cmAoU : Nat := 0x18
def cmAoI : Nat := 0x19

def State.chMode (s : State) (c : Nat) : Nat := s.rd R.CH_MODE_MODE c
def isDin (m : Nat) : Bool := decide (1 ≤ m ∧ m ≤ 4)
def isHs (m : Nat) : Bool := decide (8 ≤ m ∧ m ≤ 10)
def isAi (m : Nat) : Bool := decide (0x10 ≤ m ∧ m ≤ 0x16)
def isAo (m : Nat) : Bool := m == cmAoU || m == cmAoI
def isPaired (m : Nat) : Bool := m == cmRes3 || m == cmRtd3 || m == cmTc

/-- Fault codes of CH_STAT.FAULT. -/
def fcOpenWire : Nat := 1
def fcOpenLoad : Nat := 2
def fcOverload : Nat := 3
def fcShort : Nat := 4
def fcBackfeed : Nat := 5
def fcStuck : Nat := 6
def fcOvertemp : Nat := 7
def fcGroupOff : Nat := 8
def fcGroupOverload : Nat := 9
def fcPar : Nat := 10
def fcOverrange : Nat := 12
def fcSensorShort : Nat := 13
def fcFeedLow : Nat := 14
def fcCjc : Nat := 15

def State.chFault (s : State) (c : Nat) : Nat := s.rd R.CH_STAT_FAULT c
/-- Whether channel `c` samples: in SLEEP only a DI channel of a group of WAKE_GRP does (R468). -/
def State.samples (s : State) (c : Nat) : Bool :=
  s.pwState != psSleep || ((s.rd R.PW_WAKE_GRP).testBit (c / 16) && s.chMode c == cmDi)

def State.powered (s : State) (c : Nat) : Bool := s.rd R.CH_GRP_STAT_POWERED (c / 16) == 1
def State.overvolt (s : State) (c : Nat) : Bool := s.rd R.CH_GRP_STAT_OVERVOLT (c / 16) == 1
def State.feedLow (s : State) (c : Nat) : Bool := s.rd R.CH_FEED_STAT_FEED_LOW (c / 16) == 1
def State.tripped (s : State) (c : Nat) : Bool := s.rd R.CH_STAT_TRIPPED c == 1
def State.inTransition (s : State) (c : Nat) : Bool := (s.ch c).transEnd.isSome

/-- A clamp or a rejected commit counts in the block (R53, R55). -/
def State.clampCnt (s : State) (b : Block) (n : Nat := 1) : State := s.bump (R.BLK_CLAMP_CNT_COUNT.at b) 0 0 n

/-! ### Ranges (R331, R338, R340, R341) -/

/-- The channel whose CH_ACFG0 and CH_ACFG1 apply (R331). -/
def State.acfgOf (s : State) (c : Nat) : Nat := if isPaired (s.chMode c) then c - c % 2 else c

/-- RANGE in effect for a mode (R338, R340, R344). -/
def rangeClamp (m r : Nat) : Nat :=
  if m = cmAiU then min r 4 else if m = cmAiI then min r 2 else if m = cmRes ∨ m = cmRes3 then min r 1
  else if m = cmRtd ∨ m = cmRtd3 ∨ m = cmTc then 0 else if m = cmAoU then min r 1 else if m = cmAoI then 0 else r

/-- TYPE in effect for a mode (R340, R341). -/
def typeClamp (m y : Nat) : Nat :=
  if m = cmRtd ∨ m = cmRtd3 then min y 2 else if m = cmTc then min y 7
  else if m = cmRes ∨ m = cmRes3 then 0 else y

def State.chRange (s : State) (c : Nat) : Nat := rangeClamp (s.chMode c) (s.rd R.CH_ACFG0_RANGE (s.acfgOf c))
def State.chType (s : State) (c : Nat) : Nat := typeClamp (s.chMode c) (s.rd R.CH_ACFG0_TYPE (s.acfgOf c))

/-- The upper end of the range in force, in the value word's unit (R337, R338, R340). -/
def upperEnd (m r : Nat) : Int :=
  if m = cmAiU then [10000000, 10000000, 1000000, 40000000, 160000000].getD r 0
  else if m = cmAiI then 20000000
  else if m = cmRes ∨ m = cmRes3 then (if r = 0 then 400000 else 4000000)
  else 0

/-- The lower end of the range in force (R338). -/
def lowerEnd (m r : Nat) : Int :=
  if m = cmAiU then (if r = 0 then -10000000 else if r = 2 then -1000000 else 0)
  else if m = cmAiI then (if r = 1 then 4000000 else if r = 2 then -20000000 else 0)
  else 0

/-- The measurable span of an analogue input in the value word's unit (R338, R340, R341). -/
def State.spanOf (s : State) (c : Nat) : Int × Int :=
  let m := s.chMode c
  let r := s.chRange c
  if m = cmAiU ∨ m = cmAiI then
    (if lowerEnd m r < 0 then lowerEnd m r * 105 / 100 else if m = cmAiI then 0 else lowerEnd m r, upperEnd m r * 105 / 100)
  else if m = cmTc then (Config.tcLow (s.chType c), Config.tcHigh (s.chType c))
  else if m = cmRes ∨ m = cmRes3 then (0, upperEnd m r)
  else (-200000, 850000)

/-- The end of a span that is nearest to a value. -/
def nearestEnd (p : Int × Int) (z : Int) : Int := if p.1 + p.2 ≤ 2 * z then p.2 else p.1

/-! ### Events and fault declarations (R328, R329) -/

/-- Raises EVn for a fault declaration or an overrun of channel `c`. DI mode raises no event for an overrun. -/
def State.chEvent (s : State) (c t : Nat) : State := if s.rd R.CH_MODE_EVT c = 0 then s else s.raise c t

/-- Declares a fault: the code, the count, the flag and the event. A code that stands is no new declaration. -/
def State.chDeclare (s : State) (c code t : Nat) : State :=
  if s.chFault c = code then s
  else (((s.wr R.CH_STAT_FAULT code c).bump R.CH_FAULT_CNT_COUNT c).wr R.CH_FLAGS_FAULT_SEEN 1 c).chEvent c t

/-- An overrun of channel `c` (R314, R315, R316, R337). -/
def State.chOverrun (s : State) (c t : Nat) : State :=
  let s1 := (s.setCh c { s.ch c with overrun := true }).wr R.CH_FLAGS_OVERRUN 1 c
  if s1.chMode c = cmDi then s1 else s1.chEvent c t

/-- The VALUE bit takes a value; in DI mode a change raises the edge that EVT selects (R329). -/
def State.chSetValue (s : State) (c : Nat) (v : Bool) (t : Nat) : State :=
  let old := s.rd R.CH_STAT_VALUE c == 1
  let s1 := s.wr R.CH_STAT_VALUE (if v then 1 else 0) c
  let e := s.rd R.CH_MODE_EVT c
  if s.chMode c = cmDi ∧ old ≠ v ∧ ((v = true ∧ (e = 1 ∨ e = 3)) ∨ (v = false ∧ (e = 2 ∨ e = 3))) then s1.raise c t else s1

/-! ### Paralleled sets (R321) -/

/-- The members of the paralleled set of power channel `k`, or `[k]`. -/
def parSet (par k : Nat) : List Nat :=
  if par = 4 ∧ 12 ≤ k then [12, 13, 14, 15]
  else if (par = 1 ∨ par = 3) ∧ (k = 12 ∨ k = 13) then [12, 13]
  else if (par = 2 ∨ par = 3) ∧ (k = 14 ∨ k = 15) then [14, 15]
  else [k]

/-- The members of the set of channel `c`, its leader first. -/
def State.parMembers (s : State) (c : Nat) : List Nat :=
  (parSet (s.rd R.CH_GRP_CFG_PAR (c / 16)) (c % 16)).map fun k => 16 * (c / 16) + k

/-- The leader of the set of channel `c`. -/
def State.parLeader (s : State) (c : Nat) : Nat := (s.parMembers c).headD c

/-! ### Outputs (R318 to R326, R345, R348) -/

/-- Whether the present program mode forces the output off, or ends its timed states (R325). -/
def State.chStopOff (s : State) (c : Nat) : Bool :=
  s.stopped && (c % 16 < 4 || s.rd R.CH_MODE_STOP_STATE c == 0)

/-- On and off time of a DO_PWM period in µs: the on time is rounded, and a phase shorter than 10 µs is omitted (R322). -/
def FdChan.pwmOn (x : FdChan) : Nat :=
  let on := (2 * (10 * x.period * x.duty) + 65536) / 131072
  if on < 10 then 0 else if 10 * x.period < on + 10 then 10 * x.period else on

/-- Whether the running DO_PWM period is in its on phase at `t`. -/
def FdChan.pwmHigh (x : FdChan) (t : Nat) : Bool := decide (t < x.periodAt + 1000 * x.pwmOn) || x.pwmOn == 10 * x.period

/-- The state a high-side channel is commanded to, before what opens its switch. -/
def State.chWanted (s : State) (c : Nat) : Bool :=
  let l := s.parLeader c
  let x := s.ch l
  let m := s.chMode l
  if m = cmHs then x.pulseEnd.isSome || x.timed.getD x.on
  else if m = cmPwm then x.on && decide (0 < x.pwmOn)
  else if m = cmPulse then x.dopEnd.isSome
  else false

/-- Whether channel `c` is a terminal of the Chase whose lane switch the Chase holds open (R269, R270, R278). -/
def State.scOpens (s : State) (c : Nat) : Bool := decide (c % 16 < 4) && s.scLaneOpen (4 * (c / 16) + c % 16)

/-- Whether the lane switch, or the output stage, of channel `c` is commanded on, whatever the phase of its pulses. -/
def State.chOnNow (s : State) (c : Nat) : Bool :=
  let m := s.chMode c
  let x := s.ch c
  let gated := s.fieldLeased (c / 16) && !s.acting
  if !s.powered c || s.isSafe || s.pwDown || s.inTransition c then false
  else if m = cmTp then !s.overvolt c && !s.tripped c
  else if isHs m then
    !gated && !s.overvolt c && !s.tripped c && !x.backfed && s.chFault c != fcShort && (s.ch (s.parLeader c)).commits &&
      !s.scOpens c && !s.chStopOff c && s.chWanted c
  else if isAo m then
    !gated && !s.feedLow c && !x.backfed &&
      (s.rd R.CH_TRIM_CTL_DRIVE c == 1 || (x.commits && x.on && !s.chStopOff c))
  else false

/-- Whether the switch of channel `c` is on at `t`: a test-pulse source is off for the pulse of its slot (R274, R326), a
DO_PWM output in its off phase (R322). -/
def State.chSwitch (s : State) (c t : Nat) : Bool :=
  s.chOnNow c &&
    (if s.chMode c = cmTp then !s.scSourceOff (c / 16) (c % 16 - 4) t
     else if s.chMode c = cmPwm then (s.ch (s.parLeader c)).pwmHigh t
     else true)

/-- CH_STAT.ON and TIMED follow the channel's state. -/
def State.chOut (s : State) (c : Nat) : State :=
  let x := s.ch (s.parLeader c)
  let timed := s.chMode c == cmHs && (x.pulseEnd.isSome || x.timed.isSome)
  (s.wr R.CH_STAT_ON (if s.chOnNow c then 1 else 0) c).wr R.CH_STAT_TIMED (if timed then 1 else 0) c

/-- The same for every channel of group `g`, and for all. -/
def State.grpOut (s : State) (g : Nat) : State := (chansOf g).foldl State.chOut s
def State.allOut (s : State) : State := (List.range 8).foldl State.grpOut s

/-- Ends timed levels and pulses on every channel, and drops the switch commands on their way (R325, R228). -/
def State.chEndTimed (s : State) : State :=
  { s with chan := s.chan.map fun p => (p.1, { p.2 with timed := none, pulseEnd := none }), lg := { s.lg with switches := [] } }

/-! ### Value words (R307, R336) -/

/-- Clamped to INT16, as 16 bits. -/
def int16 (z : Int) : Nat := fromSigned 16 (clampInt (-32768) 32767 z)

/-- The value word of channel `c` (R299, R307, R331, R334, R336). -/
def State.chWord (s : State) (c : Nat) : Nat :=
  let x := s.ch c
  let m := s.chMode c
  let f := s.chFault c
  if s.inTransition c then 0
  else if !s.powered c then (if m == cmDi || isHs m || m == cmTp then f * 2 ^ 24 else 0)
  else if m = cmDi then int16 (x.mv / 10) + f * 2 ^ 24
  else if m = cmUp then x.count.toNat
  else if m = cmQuad then (if c % 2 = 0 then fromSigned 32 x.count else 0)
  else if m = cmFreq then x.result.toNat % 2 ^ 32
  else if isHs m || m == cmTp then
    let ms := s.parMembers c
    let ma := if ms.headD c = c then (ms.map fun d => (s.ch d).ma).sum else x.ma
    int16 ma + f * 2 ^ 24
  else if isAi m then
    if isPaired m && c % 2 == 1 then 0
    else if f = fcOpenWire ∨ f = fcSensorShort ∨ f = fcFeedLow ∨ f = fcCjc then 0x80000000
    else if f = fcGroupOff then 0
    else if f = fcOverrange then fromSigned 32 (nearestEnd (s.spanOf c) x.last)
    else if s.rd R.CH_STAT_UNDET c = 1 then 0
    else fromSigned 32 (clampInt (-2147483648) 2147483647 x.result)
  else if isAo m then (if f = fcGroupOff then 0 else fromSigned 32 (clampInt (-2147483648) 2147483647 x.result))
  else 0

/-- CH_VALUE follows the channel's state. -/
def State.chShow (s : State) (c : Nat) : State := s.wr R.CH_VALUE_VALUE (s.chWord c) c

/-- Output state and value word of channel `c` after a change. -/
def State.chRefresh (s : State) (c : Nat) : State := (s.chOut c).chShow c

/-- Starts the channel's input afresh: no level accepted, no conversion complete, UNDET 1 for the input modes
(R312, R334). -/
def State.chStart (s : State) (c t : Nat) : State :=
  let s1 := s.setCh c { s.ch c with raw := none, run := 0, filt := none, acceptAt := t, changedAt := t, undetAt := t,
                                    undetDone := false, edgeAt := none, lvl := none, convs := [], full := false, beyond := 0,
                                    openRun := 0, shortRun := 0, hiSince := none, limit := false, last := 0,
                                    result := 0, convFrom := t, heat := s.rd R.PW_STATE_HEAT_LEVEL, heatTo := none }
  ((s1.wr R.CH_STAT_UNDET 1 c).wr R.CH_STAT_VALUE 0 c).wr R.CH_STAT_STUCK 0 c

/-- An analogue input that starts while its group's feed is low declares FEED_LOW (R350). -/
def State.chFeed (s : State) (c t : Nat) : State :=
  if isAi (s.chMode c) && s.feedLow c then s.chDeclare c fcFeedLow t else s

/-! ### Groups (R298 to R300) -/

/-- GROUP_POWERED: 9.5 V for 10 ms with EN = 1; inputs start anew and outputs apply the kept state (R298, R299). -/
def State.grpPowered (s : State) (g t : Nat) : State :=
  if s.rd R.CH_GRP_CFG_EN g = 0 ∨ s.rd R.CH_GRP_STAT_POWERED g = 1 ∨ s.rd R.CH_GRP_STAT_REVERSED g = 1 then s
  else
    let s1 := s.wr R.CH_GRP_STAT_POWERED 1 g
    let s2 := (chansOf g).foldl (fun s c => (s.chStart c t).chFeed c t) s1
    (chansOf g).foldl State.chRefresh s2

/-- A channel of an unpowered group (R299): GROUP_OFF, value 0, UNDET 0. -/
def State.chUnpowered (s : State) (c t : Nat) : State :=
  let s1 := ((s.chSetValue c false t).wr R.CH_STAT_UNDET 0 c).wr R.CH_STAT_STUCK 0 c
  (s1.chDeclare c fcGroupOff t).chRefresh c

/-- GROUP_UNPOWERED: undervoltage, EN 0 or reversal (R298). -/
def State.grpUnpowered (s : State) (g t : Nat) : State :=
  if s.rd R.CH_GRP_STAT_POWERED g = 0 then s
  else
    let s1 := (s.wr R.CH_GRP_STAT_POWERED 0 g).wr R.CH_GRP_FLAGS_OFF_SEEN 1 g
    (chansOf g).foldl (fun s c => s.chUnpowered c t) s1

/-- GROUP_OVERVOLT and GROUP_OVERVOLT_END (R298). DESIGN CHOICE (log entry 94): OVERVOLT is judged in a powered group only, so that
a group that qualifies above 42 V shows it when the command comes after that. -/
def State.grpOvervolt (s : State) (g : Nat) : State :=
  if s.rd R.CH_GRP_STAT_POWERED g = 0 then s
  else ((s.wr R.CH_GRP_STAT_OVERVOLT 1 g).wr R.CH_GRP_FLAGS_OVERVOLT_SEEN 1 g).grpOut g
def State.grpOvervoltEnd (s : State) (g : Nat) : State := (s.wr R.CH_GRP_STAT_OVERVOLT 0 g).grpOut g

/-! ### Trips and output faults (R300, R319, R321, R326 to R328) -/

/-- Trips one channel. One that has not cooled since a trip for OVERTEMP still waits for that (R319). -/
def State.chTripOne (s : State) (c code t : Nat) : State :=
  let x := s.ch c
  let s1 := s.setCh c { x with tripAt := t, hot := code == fcOvertemp || (s.tripped c && x.hot), released := false,
                               grpHeld := code == fcGroupOverload || x.grpHeld }
  (((s1.wr R.CH_STAT_FAULT 0 c).chDeclare c code t).wr R.CH_STAT_TRIPPED 1 c).chRefresh c

/-- Trips channel `c`; a trip of any member trips the whole paralleled set (R321). -/
def State.chTrip (s : State) (c code t : Nat) : State := (s.parMembers c).foldl (fun s d => s.chTripOne d code t) s

/-- OUTPUT_TRIP: OVERLOAD of an output that is on, or OVERTEMP (R319). -/
def State.outTrip (s : State) (c : Nat) (hot : Bool) (t : Nat) : State :=
  if (isHs (s.chMode c) || s.chMode c == cmTp) && (hot || s.rd R.CH_STAT_ON c == 1) then
    s.chTrip c (if hot then fcOvertemp else fcOverload) t
  else s

/-- PAR_MISMATCH of the set of channel `c` (R321). -/
def State.parMismatch (s : State) (c t : Nat) : State :=
  if 1 < (s.parMembers c).length && isHs (s.chMode c) && s.rd R.CH_STAT_ON c == 1 then s.chTrip c fcPar t else s

/-- GROUP_TRIP: every output of the group trips with GROUP_OVERLOAD (R300). -/
def State.grpTrip (s : State) (g t : Nat) : State :=
  if s.rd R.CH_GRP_STAT_POWERED g = 0 then s
  else
    let s1 := ((s.wr R.CH_GRP_STAT_TRIPPED 1 g).wr R.CH_GRP_FLAGS_OVERLOAD_SEEN 1 g).bump R.CH_GRP_TRIP_CNT_COUNT g
    (chansOf g).foldl (fun s c =>
      if isHs (s.chMode c) || s.chMode c == cmTp then s.chTripOne c fcGroupOverload t else s) s1

/-- The group's trip holds its outputs while one of them is held off by it. -/
def State.grpTripState (s : State) (g : Nat) : State :=
  if (chansOf g).any fun c => s.tripped c && (s.ch c).grpHeld then s else s.wr R.CH_GRP_STAT_TRIPPED 0 g

/-- A trip ends: the code clears as the output restarts (R319, R328). -/
def State.chUntrip (s : State) (c : Nat) : State :=
  let f := s.chFault c
  let s1 := (s.setCh c { s.ch c with released := false, hot := false, grpHeld := false }).wr R.CH_STAT_TRIPPED 0 c
  let s2 := if f = fcOverload ∨ f = fcOvertemp ∨ f = fcGroupOverload ∨ f = fcPar then s1.wr R.CH_STAT_FAULT 0 c else s1
  (s2.grpTripState (c / 16)).chRefresh c

/-- Ends the trip once a commit of 0 was applied 10 ms after it and the switch is not hot (R319). -/
def State.chTripCheck (s : State) (c : Nat) : State :=
  if s.tripped c && (s.ch c).released && !(s.ch c).hot then s.chUntrip c else s

/-- TP_SOURCE_RESTART: 1 s after the trip condition has ended (R326). -/
def State.tpRestart (s : State) (c : Nat) : State :=
  if s.chMode c = cmTp ∧ s.tripped c = true then s.chUntrip c else s

/-- OPEN_WIRE (R327, R339). -/
def State.openWire (s : State) (c t : Nat) : State :=
  let m := s.chMode c
  if s.powered c && !s.inTransition c &&
      ((isDin m && s.rd R.CH_CFG_OPEN_DET c == 1) || (m == cmAiI && s.rd R.CH_ACFG0_RANGE c == 1)) then
    (s.chDeclare c fcOpenWire t).chShow c
  else s

/-- OPEN_LOAD (R327, R345). -/
def State.openLoad (s : State) (c t : Nat) : State :=
  let m := s.chMode c
  if s.rd R.CH_STAT_ON c == 1 && ((isHs m && s.rd R.CH_CFG_OPEN_DET c == 1) || m == cmAoI) then
    (s.chDeclare c fcOpenLoad t).chShow c
  else s

/-- SHORT_TO_SUPPLY: the pin at or above half the supply for 1 ms while off; the switch stays open (R327). -/
def State.shortToSupply (s : State) (c t : Nat) : State :=
  if isHs (s.chMode c) && s.powered c && !s.inTransition c && s.rd R.CH_STAT_ON c == 0 then
    (s.chDeclare c fcShort t).chRefresh c
  else s

/-- BACKFEED of an output that is on: the switch opens, a high-side output as after a trip (R328, R345). DESIGN CHOICE (log entry
98): TP_SRC is none of the output modes of R327's OPEN_LOAD, SHORT_TO_SUPPLY and BACKFEED. -/
def State.backfeed (s : State) (c t : Nat) : State :=
  let m := s.chMode c
  if s.rd R.CH_STAT_ON c == 1 && (isHs m || isAo m) then
    let s1 := s.setCh c { s.ch c with backfed := true, tripAt := t, released := false }
    let s2 := if isHs m then s1.wr R.CH_STAT_TRIPPED 1 c else s1
    (s2.chDeclare c fcBackfeed t).chRefresh c
  else s

/-- BACKFEED_CLEAR: 1 ms below the supply (R328). -/
def State.backfeedClear (s : State) (c : Nat) : State :=
  ((s.setCh c { s.ch c with backfed := false }).chTripCheck c).chRefresh c

/-- FAULT_CODE_CLEAR: the condition has been absent for 100 ms. Trip codes end with the output's restart, OPEN_WIRE of
AI_TC with its next test, STUCK with the filtered value, FEED_LOW with the feed (R313, R328, R343, R350). -/
def State.faultClear (s : State) (c : Nat) : State :=
  let f := s.chFault c
  if (f = fcOpenWire ∧ s.chMode c ≠ cmTc) ∨ (f = fcGroupOff ∧ s.powered c = true) ∨
      (f = fcStuck ∧ s.rd R.CH_STAT_STUCK c = 0) ∨ (f = fcFeedLow ∧ ¬ (isAi (s.chMode c) = true ∧ s.feedLow c = true)) ∨
      f = fcOpenLoad ∨ f = fcShort ∨ f = fcOverrange ∨ f = fcSensorShort ∨ f = fcCjc ∨
      (f = fcBackfeed ∧ (s.ch c).backfed = false) ∨ (f = fcOverload ∧ s.chMode c = cmAoU) then
    (s.wr R.CH_STAT_FAULT 0 c).chRefresh c
  else s

/-! ### Input samples (R309 to R314) -/

/-- Un in V by code. -/
def chUn (u : Nat) : Int := [24, 36, 48, 72, 96, 110].getD u 110

/-- The raw level at `mv` with supply `ug`, in mV (R309); none inside the hysteresis band. -/
def chLevel (un : Nat) (mv ug : Int) : Option Bool :=
  if 6 ≤ un then scLevel mv ug
  else if 600 * chUn un ≤ mv then some true
  else if mv ≤ 350 * chUn un then some false
  else none

/-- FILTER in samples of 1 µs (R311). -/
def chFilter (code : Nat) : Nat := [10, 100, 500, 1000, 2000, 5000, 10000, 20000].getD code 10

/-- The limit current of an input's sink in mA, and its wetting current and period in mA and ms (R310). -/
def chIlim (code : Nat) : Nat := [1, 2, 5, 10].getD code 10
def chWet (code : Nat) : Nat := [0, 10, 25].getD code 0
def chWetMs (code : Nat) : Nat := [10, 20, 50, 100].getD code 100

/-- Whether the sink of channel `c` draws its wetting current at `t`: while the raw level is high, for 1 ms of every
WET_PERIOD, the first time as the level becomes high (R310; DESIGN CHOICE: where in the period). -/
def State.chWetting (s : State) (c t : Nat) : Bool :=
  let x := s.ch c
  s.rd R.CH_CFG_WET c != 0 && x.raw == some true &&
    decide ((t - x.changedAt) % (1000000 * chWetMs (s.rd R.CH_CFG_WET_PERIOD c)) < 1000000)

/-- The current in µA that the sink of an input draws at `t`: as 10 kΩ up to ILIM, or the wetting current (R299, R304,
R310). -/
def State.chSink (s : State) (c t : Nat) : Nat :=
  if !(isDin (s.chMode c) && s.powered c && !s.inTransition c) then 0
  else if s.chWetting c t then 1000 * chWet (s.rd R.CH_CFG_WET c)
  else min ((s.ch c).mv / 10).toNat (1000 * chIlim (s.rd R.CH_CFG_ILIM c))

/-- One sample of an input of a powered group: level, filter, UNDET, VALUE and the end of STUCK. -/
def State.chSampleIn (s : State) (c : Nat) (mv ug : Int) (t : Nat) : State :=
  let x := s.ch c
  let n := chFilter (s.rd R.CH_MODE_FILTER c)
  let lv := match chLevel (s.rd R.CH_CFG_UN c) mv ug with
    | some b => some b
    | none => x.raw
  match lv with
  | none => s.setCh c { x with mv := mv }
  | some b =>
    let same := x.raw == some b
    let run := if same then min (x.run + 1) n else 1
    let hit := decide (n ≤ run)
    let filt := if hit then some b else x.filt
    let x1 := { x with mv := mv, raw := some b, run := run, filt := filt, changedAt := if same then x.changedAt else t,
                       acceptAt := if hit then t else x.acceptAt,
                       edgeAt := if x.raw == some (!b) then some t else x.edgeAt,
                       oneAt := if filt == some true && x.filt != some true then t else x.oneAt }
    let s1 := s.setCh c x1
    match filt with
    | none => s1
    | some v =>
      let s2 := s1.wr R.CH_STAT_UNDET 0 c
      let s3 := if !v && s2.rd R.CH_STAT_STUCK c == 1 then
          (s2.wr R.CH_STAT_STUCK 0 c).wr R.CH_STAT_FAULT (if s2.chFault c = fcStuck then 0 else s2.chFault c) c
        else s2
      let inv := s.rd R.CH_MODE_INV c == 1
      if s3.rd R.CH_STAT_STUCK c = 1 then s3.chSetValue c false t else s3.chSetValue c (v != inv) t

/-- One sample of channel `c` of a powered group. `cool`: its switch has cooled by 10 °C since its trip. -/
def State.chSample (s : State) (c : Nat) (mv ug ma : Int) (cool : Bool) (t : Nat) : State :=
  let m := s.chMode c
  let s1 := s.setCh c { s.ch c with mv := mv, ma := ma, hot := (s.ch c).hot && !cool }
  let s2 :=
    if s.inTransition c then s1
    else if isDin m then s1.chSampleIn c mv ug t
    else if isHs m || m == cmTp then
      ((s1.wr R.CH_STAT_UNDET 0 c).chSetValue c (decide (0 < ug ∧ ug ≤ 2 * mv)) t).chTripCheck c
    else if isAo m || m == cmOff then s1.wr R.CH_STAT_UNDET 0 c
    else s1
  s2.chShow c

/-- FIELD_SAMPLE of group `g` at a whole µs: its supply, current and feed rail, and its sixteen pins and loads
(R298, R299, R311, R318, R350). A negative supply is a reversed one. -/
def State.fieldSample (s : State) (g : Nat) (ug ig : Int) (rail : Nat) (mvs mas : List Int) (cool : BitVec 16) (t : Nat) :
    State :=
  let s1 := (s.wr R.CH_GRP_STAT_UG (min 65535 (ug / 10).toNat) g).wr R.CH_GRP_STAT_CURRENT (min 4095 (ig / 10).toNat) g
  let s2 := (s1.wr R.CH_GRP_STAT_REVERSED (if ug < 0 then 1 else 0) g).flagIf (decide (ug < 0)) R.CH_GRP_FLAGS_REVERSED_SEEN g
  let s3 := s2.wr R.CH_FEED_STAT_RAIL (min 2047 (rail / 10)) g
  if s.rd R.CH_GRP_STAT_POWERED g = 0 then (chansOf g).foldl (fun s c => s.chUnpowered c t) s3
  else
    let s4 := (List.range 16).foldl (fun s k =>
      if s.samples (16 * g + k) then s.chSample (16 * g + k) (mvs.getD k 0) ug (mas.getD k 0) (cool.getLsbD k) t else s) s3
    (chansOf g).foldl (fun s c => if s.samples c then s.chShow c else s) s4

/-- UNDET_TIMEOUT: three filter periods without an accepted level (R312). -/
def State.undetTimeout (s : State) (c t : Nat) : State :=
  let x := s.ch c
  if isDin (s.chMode c) && s.powered c && !s.inTransition c && s.rd R.CH_STAT_UNDET c == 1 &&
      decide (x.undetAt + 3000 * chFilter (s.rd R.CH_MODE_FILTER c) ≤ t) then
    (((s.setCh c { x with undetDone := true }).wr R.CH_STAT_UNDET 0 c).chSetValue c false t).chShow c
  else s

/-- CHANNEL_STUCK: the filtered value has stayed 1 for STUCK seconds (R313). -/
def State.channelStuck (s : State) (c t : Nat) : State :=
  let x := s.ch c
  let k := s.rd R.CH_CFG_STUCK c
  if isDin (s.chMode c) && s.powered c && decide (0 < k) && x.filt == some true && decide (x.oneAt + k * 1000000000 ≤ t) &&
      s.rd R.CH_STAT_STUCK c == 0 then
    let s1 := ((s.wr R.CH_STAT_STUCK 1 c).wr R.CH_FLAGS_STUCK_SEEN 1 c).chDeclare c fcStuck t
    ((s1.chSetValue c false t).chShow c).record .ch 0x0501 [byte c] t
  else s

/-- INPUT_OVERRUN: 16 filter periods of a changing raw level without an accepted one (R314). -/
def State.inputOverrun (s : State) (c t : Nat) : State :=
  let x := s.ch c
  if s.chMode c = cmDi ∧ s.powered c = true ∧ x.acceptAt < x.changedAt ∧
      x.acceptAt + 16000 * chFilter (s.rd R.CH_MODE_FILTER c) ≤ t then s.chOverrun c t
  else s

/-! ### Counting and frequency (R315 to R317) -/

/-- COUNT_UP by one edge. -/
def State.countUp (s : State) (c : Nat) : State :=
  let x := s.ch c
  let n := x.count + 1
  if 0xFFFFFFFF ≤ n then (s.setCh c { x with count := 0xFFFFFFFF }).wr R.CH_FLAGS_COUNT_SAT 1 c
  else s.setCh c { x with count := n }

/-- A step of a quadrature count at the even channel `e`. -/
def State.countQuad (s : State) (e : Nat) (up : Bool) : State :=
  let x := s.ch e
  let n := if up then x.count + 1 else x.count - 1
  if 2147483647 ≤ n then (s.setCh e { x with count := 2147483647 }).wr R.CH_FLAGS_COUNT_SAT 1 e
  else if n ≤ -2147483647 then (s.setCh e { x with count := -2147483647 }).wr R.CH_FLAGS_COUNT_SAT 1 e
  else s.setCh e { x with count := n }

/-- The level of a counting channel: the one its latest edge led to, before the first edge the one its samples show. -/
def FdChan.level (x : FdChan) : Bool := x.lvl.getD (x.raw.getD false)

/-- COUNT_EDGE: the accepted level of channel `c` becomes `lv`. `short`: the phase before it was shorter than 2.5 µs;
`both`: the partner of a quadrature pair changed in the same accepted sample (R315, R316). DESIGN CHOICE (log entry 97): OVERRUN of
such a change is set on the even channel, which holds the count. -/
def State.countEdge (s : State) (c : Nat) (lv short both : Bool) (t : Nat) : State :=
  let m := s.chMode c
  if !s.powered c || s.inTransition c || !(m == cmUp || m == cmQuad) then s
  else
    let s0 := if short then s.chOverrun c t else s
    let e := c - c % 2
    let a := if c % 2 = 0 then lv else (s.ch e).level
    let b := if c % 2 = 1 then lv else (s.ch (e + 1)).level
    let s1 := s0.setCh c { s0.ch c with lvl := some lv, edgeAt := some t }
    if m = cmUp then
      let edge := s.rd R.CH_CFG_EDGE c
      let s2 := if edge = 2 ∨ (edge = 0 ∧ lv = true) ∨ (edge = 1 ∧ lv = false) then s1.countUp c else s1
      s2.chShow c
    else if both then (s1.setCh (2 * e + 1 - c) { s1.ch (2 * e + 1 - c) with
        lvl := some (!(s1.ch (2 * e + 1 - c)).level), edgeAt := some t }).chOverrun e t
    else
      -- after an edge of A, A leads B where the levels differ; after an edge of B, where they agree
      ((s1.countQuad e (if c % 2 = 0 then a != b else a == b)).chShow e)

/-- FREQ_GATE_END with `n` whole periods over `d` units of 10 ns (R317). An unpowered input shows no edge. -/
def State.freqGateEnd (s : State) (c n d : Nat) : State :=
  if s.chMode c = cmFreq ∧ s.inTransition c = false then
    let v := if n = 0 ∨ d = 0 ∨ s.powered c = false then 0 else (2 * n * 10 ^ 10 + d) / (2 * d)
    (s.setCh c { s.ch c with result := (min v 0xFFFFFFFF : Nat) }).chShow c
  else s

/-! ### Commits (R308, R316, R319, R322 to R325, R344) -/

/-- Setpoint limits of an analogue output in its unit (R344). -/
def aoLimits (m range : Nat) : Int × Int :=
  if m = cmAoI then (0, 24000000) else if range = 0 then (0, 10500000) else (-10500000, 10500000)

/-- Whether a commit has been applied to channel `c` after one at present: a commit within the transition of an analogue output is
not one after it (R345). -/
def State.chCommitted (s : State) (c : Nat) : Bool := (s.ch c).commits || !(isAo (s.chMode c) && s.inTransition c)

/-- The Q value word of channel `c` as applied by a commit. -/
def State.chCommitQ (s : State) (c : Nat) (w : Word) : State :=
  let x := s.ch c
  let m := s.chMode c
  let load := w.getLsbD 31 && !x.q.getLsbD 31
  let x1 := { x with q := w, commits := s.chCommitted c }
  if m = cmUp ∧ load = true then s.setCh c { x1 with count := (w.toNat % 2 ^ 31 : Nat) }
  else if m = cmQuad ∧ c % 2 = 0 ∧ load = true then s.setCh c { x1 with count := toSigned 31 w.toNat }
  else if m = cmPwm ∧ w.toNat / 65536 < 10 then
    ((s.setCh c x1).clampCnt .ch).wr R.CH_FLAGS_CLAMP_Q 1 c
  else if isAo m then
    let l := aoLimits m (s.rd R.CH_ACFG0_RANGE c)
    let y := toSigned 32 w.toNat
    if y < l.1 ∨ l.2 < y then ((s.setCh c x1).clampCnt .ch).wr R.CH_FLAGS_CLAMP_Q 1 c else s.setCh c x1
  else s.setCh c x1

/-- The on bit of channel `c` as applied by a commit at `t`. DESIGN CHOICE (log entries 96 and 99): an on bit is kept also while the
mode gives it no meaning, and a 0 applied while the pin is still above the supply counts for the release of R319. -/
def State.chCommitOn (s : State) (c : Nat) (b : Bool) (t : Nat) : State :=
  let x := s.ch c
  let m := s.chMode c
  let x1 := { x with on := b, commits := s.chCommitted c, timed := if b != x.on then none else x.timed }
  let s1 :=
    if m = cmPulse then
      if b && !x.on then
        let d := x.q.toNat % 2 ^ 24
        if d = 0 then s.setCh c { x1 with dopEnd := none }
        else if d < 10 then
          ((s.setCh c { x1 with dopEnd := some (t + 10000) }).clampCnt .ch).wr R.CH_FLAGS_CLAMP_Q 1 c
        else s.setCh c { x1 with dopEnd := some (t + 1000 * d) }
      else s.setCh c { x1 with dopEnd := if b then x.dopEnd else none }
    else s.setCh c x1
  if !b then
    (s1.parMembers c).foldl (fun s d =>
      if s.tripped d && s.chMode d != cmTp && decide ((s.ch d).tripAt + 10000000 ≤ t) then
        (s.setCh d { s.ch d with released := true }).chTripCheck d
      else s) s1
  else s1

/-- Applies one commit set: the Q value words, then the on bits, all at the same µs. -/
def State.applySet (s : State) (g : Nat) (cs : CommitSet) (t : Nat) : State :=
  let own := (chansOf g).filter fun c => s.parLeader c == c
  let s1 := own.foldl (fun s c =>
    match NMap.look cs.words (1 + c % 16) with
    | some w => s.chCommitQ c w
    | none => s) s
  match NMap.look cs.words 0 with
  | some w => own.foldl (fun s c => s.chCommitOn c (w.getLsbD (c % 16)) t) s1
  | none => s1

/-- PERIOD and DUTY of a Q value word as applied (R322). -/
def pwmOf (w : Word) : Nat × Nat := (max 10 (w.toNat / 65536), w.toNat % 65536)

/-- A DO_PWM channel runs while its on bit is 1; one that begins to run at `t` starts its first period with the latest
PERIOD and DUTY (R322). -/
def State.pwmFirst (s : State) (c t : Nat) : State :=
  let x := s.ch c
  if s.chMode c = cmPwm ∧ x.on = true then
    if x.pwmRun then s
    else s.setCh c { x with pwmRun := true, period := (pwmOf x.q).1, duty := (pwmOf x.q).2, periodAt := t }
  else if x.pwmRun then s.setCh c { x with pwmRun := false }
  else s

/-- VALUE of an analogue output: its readback lies within 1 % of the upper limit of the applied setpoint (R337). -/
def State.aoJudge (s : State) (c t : Nat) : State :=
  if isAo (s.chMode c) && s.powered c && !s.inTransition c then
    let l := aoLimits (s.chMode c) (s.rd R.CH_ACFG0_RANGE c)
    let y := clampInt l.1 l.2 (toSigned 32 (s.ch c).q.toNat)
    let z := (s.ch c).result
    s.chSetValue c (decide (100 * (z - y) ≤ l.2 ∧ 100 * (y - z) ≤ l.2)) t
  else s

/-- COMMIT_APPLY: the sets released by `t` are applied in their order of release (R308). -/
def State.commitApply (s : State) (g t : Nat) : State :=
  let x := s.group g
  let due := x.commits.filter fun cs => decide (cs.released ≤ t)
  let s1 := s.setGroup g { x with commits := x.commits.filter fun cs => decide (t < cs.released) }
  let s2 := due.foldl (fun s cs => s.applySet g cs t) s1
  (chansOf g).foldl (fun s c => ((s.pwmFirst c t).aoJudge c t).chRefresh c) s2

/-- PWM_PERIOD_START: a new PERIOD or DUTY takes effect (R322). -/
def State.pwmStart (s : State) (c t : Nat) : State :=
  let x := s.ch c
  if s.chMode c = cmPwm ∧ x.on = true then
    (s.setCh c { x with pwmRun := true, period := (pwmOf x.q).1, duty := (pwmOf x.q).2, periodAt := t }).chRefresh c
  else s

/-- DO_PULSE_END (R323). -/
def State.doPulseEnd (s : State) (c t : Nat) : State :=
  match (s.ch c).dopEnd with
  | some e => if e ≤ t then (s.setCh c { s.ch c with dopEnd := none }).chRefresh c else s
  | none => s

/-! ### Hardware-timed outputs (R228, R324) -/

/-- Whether the channel is configured for hardware-timed output. -/
def State.isHwt (s : State) (c : Nat) : Bool := s.chMode c == cmHs && s.rd R.CH_MODE_HWT c == 1

/-- Every member of the set of channel `c`, refreshed. -/
def State.parRefresh (s : State) (c : Nat) : State := (s.parMembers c).foldl State.chRefresh s

/-- SWITCH_COMMAND: the oldest command for channel `c` that has been on its way for at least 4 µs reaches it. -/
def State.switchCommand (s : State) (c t : Nat) : State :=
  match s.lg.switches.find? fun w => w.channel == c && decide (w.fired + 4000 ≤ t) with
  | none => s
  | some w =>
    let s1 : State := { s with lg := { s.lg with switches := s.lg.switches.erase w } }
    if s.fieldLeased (c / 16) && !s.acting then s1.bump R.RD_GATE_CNT
    else if !s.isHwt c then s1
    else
      let x := s1.ch c
      let e := t + 1000 * w.value
      let x1 :=
        if w.pulse then { x with pulseEnd := some (match x.pulseEnd with
          | some o => max o e
          | none => e) }
        else { x with timed := some (decide (w.value ≠ 0)) }
      (s1.setCh c x1).parRefresh c

/-- OUTPUT_PULSE_END: a comparator pulse runs out (R228). -/
def State.outputPulseEnd (s : State) (c t : Nat) : State :=
  match (s.ch c).pulseEnd with
  | some e => if e ≤ t then (s.setCh c { s.ch c with pulseEnd := none }).parRefresh c else s
  | none => s

/-! ### Frames to the lanes (R305, R306) -/

/-- Words 0 and 1 of a group's input frame. -/
def State.frame0 (s : State) (g : Nat) : Word :=
  BitVec.ofNat 32 ((List.range 16).foldl (fun a k =>
    a + (s.rd R.CH_STAT_VALUE (16 * g + k)) * 2 ^ k + (s.rd R.CH_STAT_UNDET (16 * g + k)) * 2 ^ (16 + k)) 0)
def State.frame1 (s : State) (g : Nat) : Word :=
  BitVec.ofNat 32 ((List.range 16).foldl (fun a k =>
    a + (if s.chFault (16 * g + k) = 0 then 0 else 2 ^ k) + (if (s.ch (16 * g + k)).overrun then 2 ^ (16 + k) else 0)) 0)

/-- The nineteen words of the input frame. -/
def State.inputFrame (s : State) (g : Nat) : List Word :=
  [s.frame0 g, s.frame1 g] ++ ((chansOf g).map fun c => s.rf.word (R.CH_VALUE_VALUE.addr c)) ++
    [s.rf.word (R.CH_GRP_STAT_UG.addr g)]

/-- Delivers a list of words as one node from I word `w` on (R171, R306). -/
def State.deliverWords (s : State) (w : Nat) (ws : List Word) (t : Nat) : State :=
  s.onLanes (fun l => (ws.foldl (fun (p : Lane × Nat) v => (p.1.sample p.2 v t, p.2 + 1)) (l, w)).1)

/-- INPUT_FRAME_DELIVERY of group `g` at `t`: on a change of words 0 or 1, or 100 µs after the latest frame; the return
of an overrun bit to 0 is no change (R306). -/
def State.inputDelivery (s : State) (g t : Nat) : State :=
  if s.pw.frozen then s
  else
    let x := s.group g
    let w0 := s.frame0 g
    let w1 := s.frame1 g
    let due := match x.frameAt with
      | none => true
      | some a => decide (a + 100000 ≤ t) ||
          (decide (a < t) && (w0 != x.w0 || w1.extractLsb' 0 16 != x.w1.extractLsb' 0 16 || (w1 &&& ~~~x.w1) != 0))
    if !due then s
    else
      let ws := s.inputFrame g
      let s1 := s.setGroup g { x with frameAt := some t, w0 := w0, w1 := w1 }
      let s2 := (chansOf g).foldl (fun s c => s.setCh c { s.ch c with overrun := false }) s1
      match NMap.look s.maps (2 * g) with
      | some w => s2.deliverWords w ws t
      | none => s2

end Sys2Proof.Machine
end

