-- ==== Sys2Proof/Machine/Analogue.lean ====
section
/-! DEFINITION. Field channels: analogue functions, output trim and the isolated feed (spec/12_field_analogue.md), and
the channel table with its checks (R302, R303, R332). -/

namespace Sys2Proof.Machine

/-- round(a / b), a value rounded to .5 away from zero, for b > 0 (R347). -/
def roundDiv (a b : Int) : Int := if 0 ≤ a then (2 * a + b) / (2 * b) else -((2 * -a + b) / (2 * b))

/-! ### Selection -/

/-- MODE clamped (R301, R331): the nearest legal code, of two equally near the lower one. -/
def modeClamp (m : Nat) : Nat :=
  if m = 5 ∨ m = 6 then 4 else if m = 7 then 8 else if m = 12 ∨ m = 13 then 11 else if m = 14 ∨ m = 15 then 16
  else if m = 23 then 22 else if 26 ≤ m then 25 else m

/-- T_c in µs by RATE (R333). -/
def ratePeriod (r : Nat) : Nat := [100, 1000, 10000, 20000, 60000, 100000].getD r 100000

/-- The heat level in force for an analogue input at `t` (R335). -/
def State.chHeat (s : State) (c t : Nat) : Nat :=
  if isAi (s.chMode c) && s.rd R.CH_ACFG0_HEAT_EXEMPT (s.acfgOf c) == 0 then
    match (s.ch c).heatTo with
    | some (l, b) => if b ≤ t then l else (s.ch c).heat
    | none => (s.ch c).heat
  else 0

/-- T_c in µs of an analogue input at heat level `l` (R333, R335). -/
def State.aiPeriod (s : State) (c l : Nat) : Nat :=
  ratePeriod (s.rd R.CH_ACFG0_RATE (s.acfgOf c)) * (if l = 0 then 1 else if l = 1 then 4 else 16)

/-- The effective T_c in µs at `t` (R335, R352). -/
def State.effPeriod (s : State) (c t : Nat) : Nat :=
  let m := s.chMode c
  if isAi m then s.aiPeriod c (s.chHeat c t) else if isAo m then Config.aoPeriod % 2 ^ 21 else 0

/-- CH_ASTAT.TRIM_USER follows the channel's trim; the other fields are read off the channel (R352). -/
def State.chAstat (s : State) (c : Nat) : State :=
  s.wr R.CH_ASTAT_TRIM_USER (if s.rd R.CH_TRIM_GAIN c = 0 ∧ s.rd R.CH_TRIM_OFS c = 0 then 0 else 1) c

/-- CH_ASTAT as it reads at `t`. -/
def State.astatWord (s : State) (c t : Nat) : Word :=
  R.CH_ASTAT_HEAT_LEVEL.ins (R.CH_ASTAT_EFF_PERIOD.ins (s.rf.word (R.CH_ASTAT_EFF_PERIOD.addr c)) (s.effPeriod c t)) (s.chHeat c t)

/-- A level whose boundary has come is in force: the averaging restarts without UNDET (R335). -/
def State.heatSettle (s : State) (c t : Nat) : State :=
  let x := s.ch c
  match x.heatTo with
  | some (l, b) => if b ≤ t then s.setCh c { x with heat := l, heatTo := none, convs := [] } else s
  | none => s

/-- A change of the field groups' heat level at `t`: each analogue input it applies to takes it at the first boundary that
is aligned for the new period (R335). -/
def State.setHeatLevel (s : State) (lvl t : Nat) : State :=
  (List.range 128).foldl (fun s c =>
    let s1 := s.heatSettle c t
    let x := s1.ch c
    if isAi (s.chMode c) && s.rd R.CH_ACFG0_HEAT_EXEMPT (s.acfgOf c) == 0 then
      let p := 1000 * s.aiPeriod c lvl
      if x.heat = lvl then s1.setCh c { x with heatTo := none }
      else s1.setCh c { x with heatTo := some (lvl, (t + p - 1) / p * p) }
    else s1.setCh c { x with heat := lvl, heatTo := none }) s

/-! ### Resistance thermometers (R340): IEC 60751, α = 0.003 85 -/

/-- The resistance of a Pt sensor of 1 Ω at 0 °C at `t` in 0.001 °C, in units of 10^-24 Ω. -/
def ptCurve (t : Int) : Int :=
  let lin := 10 ^ 24 + 39083 * 10 ^ 14 * t - 5775 * 10 ^ 8 * t * t
  if 0 ≤ t then lin else lin - 4183 * (t - 100000) * t * t * t / 1000

/-- The temperature in 0.001 °C nearest to a resistance, by halving the interval [lo, lo + 2^n). -/
def ptSearch (r : Int) : Nat → Int → Int
  | 0, lo => if r - ptCurve lo ≤ ptCurve (lo + 1) - r then lo else lo + 1
  | n + 1, lo => if ptCurve (lo + 2 ^ n) ≤ r then ptSearch r n (lo + 2 ^ n) else ptSearch r n lo

/-- R0 in Ω by TYPE. -/
def rtdR0 (y : Nat) : Int := [100, 500, 1000].getD y 1000

/-- Temperature of a resistance in nΩ (1 Ω = 10^9), from −200 °C on. -/
def rtdTemp (y : Nat) (rn : Int) : Int := ptSearch (rn * 10 ^ 15 / rtdR0 y) 21 (-200000)

/-- Excitation in units of 0.25 mA (R340). -/
def excite (m r y : Nat) : Int :=
  if m = cmRes ∨ m = cmRes3 then (if r = 0 then 4 else 1) else (if y = 0 then 4 else 1)

/-! ### Conversion (R333 to R343) -/

/-- What one conversion yields: the value in the value word's unit, whether it lies beyond the measurable span, the
open-wire limit or below the short limit. -/
structure Conv where
  val : Int
  beyond : Bool := false
  open_ : Bool := false
  short : Bool := false
  /-- The converter saturated (R337). -/
  sat : Bool := false
  deriving DecidableEq, Repr

/-- A conversion of the channel: `v` in µV for AI_U and AO_U, nA for AI_I and AO_I, nV for the others; `v2` the odd
channel's nV in the three-wire modes, the voltage of pin k in µV for AI_TC; `cj` the cold junction in 0.01 °C. -/
def State.convert (s : State) (c : Nat) (v v2 cj : Int) : Conv :=
  let m := s.chMode c
  let r := s.chRange c
  let y := s.chType c
  if m = cmAiU ∨ m = cmAiI then
    let lo := (s.spanOf c).1
    let hi := (s.spanOf c).2
    { val := clampInt lo hi v, beyond := decide (v < lo ∨ hi < v), sat := decide (v < lo ∨ hi < v) }
  else if m = cmTc then
    let z := Config.tcTemp y v cj
    let pin (u : Int) : Bool := decide (u < -2000000 ∨ 12000000 < u)
    let sat := decide (v < -80000000 ∨ 80000000 < v)
    { val := clampInt (Config.tcLow y) (Config.tcHigh y) z,
      beyond := pin v2 || pin (v2 - v / 1000) || sat || decide (z < Config.tcLow y ∨ Config.tcHigh y < z), sat := sat }
  else if isAi m then
    let i := excite m r y
    -- resistance in nΩ: nV × 1000 per mA
    let lead : Int := s.rd R.CH_ACFG0_R_LEAD (s.acfgOf c) * 10000000
    let rn := if isPaired m then (2 * v2 - v) * 4000 / i else v * 4000 / i - lead
    let top : Int :=
      if m = cmRes ∨ m = cmRes3 then upperEnd m r * 1000000 else ptCurve 850000 * rtdR0 y / 10 ^ 15
    let op := decide (110 * top < 100 * (v * 4000 / i)) || (isPaired m && decide (110 * top < 100 * (v2 * 4000 / i)))
    if m = cmRes ∨ m = cmRes3 then
      { val := clampInt 0 (upperEnd m r) (roundDiv rn 1000000), beyond := decide (rn < 0 ∨ top < rn), open_ := op,
        short := decide (rn < 10 * 10 ^ 9), sat := decide (rn < 0 ∨ top < rn) }
    else
      let bot := ptCurve (-200000) * rtdR0 y / 10 ^ 15
      { val := clampInt (-200000) 850000 (rtdTemp y rn), beyond := decide (rn < bot ∨ top < rn), open_ := op,
        short := decide (10 * rn < rtdR0 y * 10 ^ 9), sat := decide (rn < bot ∨ top < rn) }
  else { val := v }

/-- The limit comparison of R337. -/
def State.limitBit (s : State) (c : Nat) (old : Bool) (z : Int) : Bool :=
  let a := s.acfgOf c
  let m := s.chMode c
  let hi := toSigned 16 (s.rd R.CH_ACFG1_HI a)
  let lo := toSigned 16 (s.rd R.CH_ACFG1_LO a)
  let temp := m == cmRtd || m == cmRtd3 || m == cmTc
  let up := upperEnd m (s.chRange c)
  let ge (l : Int) : Bool := if temp then decide (100 * l ≤ z) else decide (l * up ≤ z * 32768)
  if ge hi then true else if !ge lo then false else old

/-- The cold-junction source of an AI_TC channel is in fault (R342). -/
def State.cjcBad (s : State) (c : Nat) : Bool :=
  let a := s.acfgOf c
  if s.rd R.CH_ACFG0_CJC_SRC a = 0 then s.rd R.CH_CJC_TEMP_FAIL (c / 16) == 1
  else
    let d := 16 * (c / 16) + s.rd R.CH_ACFG0_CJC_CH a
    s.chFault d != 0 || s.rd R.CH_STAT_UNDET d == 1

/-- The cold-junction temperature used, in 0.01 °C (R342). -/
def State.cjcTemp (s : State) (c : Nat) (cj : Int) : Int :=
  let a := s.acfgOf c
  if s.rd R.CH_ACFG0_CJC_SRC a = 0 then cj else roundDiv (s.ch (16 * (c / 16) + s.rd R.CH_ACFG0_CJC_CH a)).result 10

/-- The result enters the value word: the mean of the last N conversions, the comparison and UNDET, of a pair in both channels (R333,
R334, R337). -/
def State.convResult (s : State) (c : Nat) (z : Int) (t : Nat) : State :=
  let x := s.ch c
  let n := 2 ^ min 4 (s.rd R.CH_ACFG0_AVG (s.acfgOf c))
  let cs := (z :: x.convs).take n
  let full := x.full || decide (n ≤ cs.length)
  let mean := roundDiv cs.sum cs.length
  if full then
    let lim := s.limitBit c x.limit mean
    let s1 := (s.setCh c { x with convs := cs, full := true, result := mean, limit := lim }).wr R.CH_STAT_UNDET 0 c
    let s1 := if isPaired (s.chMode c) then s1.wr R.CH_STAT_UNDET 0 (c + 1) else s1
    s1.chSetValue c (lim != (s.rd R.CH_MODE_INV c == 1)) t
  else s.setCh c { x with convs := cs }

/-- Whether a conversion that ends at `e` was in progress when the heat level changed: it is discarded (R335). -/
def State.convLost (s : State) (c e : Nat) : Bool :=
  match (s.ch c).heatTo with
  | some (l, b) => decide (b < e ∧ e < b + 1000 * s.aiPeriod c l)
  | none => false

/-- Whether a conversion that ends at `e` began before the channel started: it is not one of the N (R334, R350). -/
def State.convEarly (s : State) (c e : Nat) : Bool :=
  let l := if s.rd R.CH_ACFG0_HEAT_EXEMPT (s.acfgOf c) = 0 then (s.ch c).heat else 0
  decide (e < (s.ch c).convFrom + 1000 * s.aiPeriod c l)

/-- CONVERSION_END of channel `c`, at the µs its value word takes the result, 10 µs after the conversion (R333). While the
feed is low the results are discarded (R350). -/
def State.conversionEnd (s0 : State) (c : Nat) (v v2 cj : Int) (t : Nat) : State :=
  let m := s0.chMode c
  let e := t - 10000
  let lost := s0.convLost c e
  let s := if (s0.ch c).heatTo.any fun h => decide (h.2 < e) then s0.heatSettle c e else s0
  if !s.powered c || s.inTransition c || (isPaired m && c % 2 == 1) then s
  else if isAo m then
    if s.feedLow c then s
    else (((s.setCh c { s.ch c with result := v }).aoJudge c t).wr R.CH_STAT_UNDET 0 c).chShow c
  else if !isAi m || lost then s
  else
    let s0 :=
      if m = cmTc then
        (s.wr R.CH_CJC_TEMP_TEMP (int16 cj) (c / 16)).wr R.CH_CJC_TEMP_FAIL (if cj < -5000 ∨ 11000 < cj then 1 else 0) (c / 16)
      else s
    if s0.feedLow c || s0.convEarly c e then s0
    else
      let x := s0.ch c
      let k := s0.convert c v v2 (s0.cjcTemp c cj)
      let hot := m == cmAiI && s0.rd R.CH_ACFG0_RANGE c == 1 && decide (21000000 < v)
      let x1 := { x with last := if x.shuntOff then x.last else k.val,
                         beyond := if k.beyond then min 3 (x.beyond + 1) else 0, openRun := if k.open_ then min 3 (x.openRun + 1) else 0,
                         shortRun := if k.short then min 3 (x.shortRun + 1) else 0,
                         hiSince := if hot then (match x.hiSince with
                           | some a => some a
                           | none => some t) else none }
      let s1 := s0.setCh c x1
      let s2 := if k.sat then s1.chOverrun c t else s1
      let long := match x1.hiSince with
        | some a => decide (a + 100000000 ≤ t)
        | none => false
      let s3 :=
        if m = cmTc ∧ s2.cjcBad c = true then s2.chDeclare c fcCjc t
        else if x1.openRun = 3 then s2.chDeclare c fcOpenWire t
        else if x1.shortRun = 3 then s2.chDeclare c fcSensorShort t
        else if decide (x1.beyond = 3) || long || (m != cmAiU && m != cmAiI && k.beyond) then s2.chDeclare c fcOverrange t
        else s2
      (s3.convResult c k.val t).chShow c

/-- SHUNT_DISCONNECT: above 30 mA the shunt opens with OVERRANGE (R339). -/
def State.shuntOff (s : State) (c t : Nat) : State :=
  if s.chMode c = cmAiI ∧ s.powered c = true then
    ((s.setCh c { s.ch c with shuntOff := true, last := upperEnd cmAiI (s.chRange c) }).chDeclare c fcOverrange t).chShow c
  else s

/-- SHUNT_RECONNECT: the trial every 1 s; it stays connected when the current stayed below 25 mA (R339). -/
def State.shuntTry (s : State) (c : Nat) (ok : Bool) : State :=
  if s.chMode c = cmAiI ∧ (s.ch c).shuntOff = true ∧ ok = true then s.setCh c { s.ch c with shuntOff := false } else s

/-- TC_OPEN_TEST: a test result in µV above 100 mV declares OPEN_WIRE, the next other one clears it (R343). -/
def State.tcTest (s : State) (c : Nat) (uv : Int) (t : Nat) : State :=
  if s.chMode c = cmTc ∧ c % 2 = 0 ∧ s.powered c = true ∧ s.feedLow c = false then
    if 100000 < uv then (s.chDeclare c fcOpenWire t).chShow c
    else if s.chFault c = fcOpenWire then (s.wr R.CH_STAT_FAULT 0 c).chShow c
    else s
  else s

/-- AO_OVERLOAD: a voltage output at its limit for 20 ms (R345). -/
def State.aoOverload (s : State) (c t : Nat) : State :=
  if s.chMode c = cmAoU ∧ s.rd R.CH_STAT_ON c = 1 then (s.chDeclare c fcOverload t).chShow c else s

/-! ### Output trim (R346 to R348) -/

/-- The value the output stage is driven with for setpoint `y` (R346). -/
def trimDrive (g b lo hi y : Int) : Int := clampInt lo hi (roundDiv ((y - b) * 2 ^ 24) (2 ^ 24 + g))

/-- What the output stage of channel `c` is driven with, before the factory trim: raw under DRIVE, else the applied
setpoint with the user trim (R344, R346, R348). -/
def State.chDrive (s : State) (c : Nat) : Int :=
  let l := aoLimits (s.chMode c) (s.chRange c)
  if s.rd R.CH_TRIM_CTL_DRIVE c = 1 then
    toSigned 32 (if s.rd R.CH_TRIM_CTL_POINT c = 0 then s.rd R.CH_TRIM_S1 c else s.rd R.CH_TRIM_S2 c)
  else
    trimDrive (toSigned 32 (s.rd R.CH_TRIM_GAIN c)) (toSigned 32 (s.rd R.CH_TRIM_OFS c)) l.1 l.2
      (clampInt l.1 l.2 (toSigned 32 (s.ch c).q.toNat))

/-- G and b of the four trim values (R347). -/
def trimOf (s1 s2 m1 m2 : Int) : Int × Int :=
  let g := roundDiv (((m2 - m1) - (s2 - s1)) * 2 ^ 24) (s2 - s1)
  (g, roundDiv (m1 * 2 ^ 24 - s1 * (2 ^ 24 + g)) (2 ^ 24))

/-- Whether the four values give a trim that is taken (R347). -/
def trimOk (lo hi s1 s2 m1 m2 : Int) : Bool :=
  decide (lo ≤ s1 ∧ s1 ≤ hi ∧ lo ≤ s2 ∧ s2 ≤ hi ∧ hi - lo ≤ 2 * (s2 - s1)) &&
    (let t := trimOf s1 s2 m1 m2
     decide (t.1 ≤ 335544 ∧ -335544 ≤ t.1 ∧ 100 * t.2 ≤ hi ∧ -hi ≤ 100 * t.2))

/-- TRIM_APPLY in MAINT: a new trim, or REJ (R347, R348). -/
def State.trimApply (s : State) (c : Nat) : State :=
  if s.mode != mdMaint then s
  else
    let v (f : Fld) : Int := toSigned 32 (s.rd f c)
    let l := aoLimits (s.chMode c) (s.chRange c)
    if isAo (s.chMode c) && trimOk l.1 l.2 (v R.CH_TRIM_S1) (v R.CH_TRIM_S2) (v R.CH_TRIM_M1) (v R.CH_TRIM_M2) then
      let t := trimOf (v R.CH_TRIM_S1) (v R.CH_TRIM_S2) (v R.CH_TRIM_M1) (v R.CH_TRIM_M2)
      (((s.wr R.CH_TRIM_GAIN (fromSigned 32 t.1) c).wr R.CH_TRIM_OFS (fromSigned 32 t.2) c).wr R.CH_TRIM_CTL_SAVED 0 c).chAstat c
    else s.wr R.CH_TRIM_CTL_REJ 1 c

/-- TRIM_RESTORE in MAINT (R347). -/
def State.trimRestore (s : State) (c : Nat) : State :=
  if s.mode != mdMaint then s
  else (((s.wr R.CH_TRIM_GAIN 0 c).wr R.CH_TRIM_OFS 0 c).wr R.CH_TRIM_CTL_SAVED 0 c).chAstat c

/-- TRIM_SAVED: the flash write completes (R347). -/
def State.trimSaved (s : State) (c : Nat) : State :=
  (s.setCh c { s.ch c with trimFlash := (BitVec.ofNat 32 (s.rd R.CH_TRIM_GAIN c), BitVec.ofNat 32 (s.rd R.CH_TRIM_OFS c)) }).wr
    R.CH_TRIM_CTL_SAVED 1 c

/-- TRIM_DRIVE in MAINT: DRIVE and POINT are written (R348). -/
def State.trimSetDrive (s : State) (c : Nat) (drive point : Bool) : State :=
  if s.mode != mdMaint then s
  else
    ((s.wr R.CH_TRIM_CTL_DRIVE (if drive then 1 else 0) c).wr R.CH_TRIM_CTL_POINT (if point then 1 else 0) c).chRefresh c

/-- Leaving MAINT clears DRIVE (R348). -/
def State.trimLeave (s : State) : State := (List.range 128).foldl (fun s c => (s.wr R.CH_TRIM_CTL_DRIVE 0 c).chRefresh c) s

/-! ### The isolated feed (R349, R350) -/

/-- The allowance in mW of one channel by mode. -/
def allowOf (m : Nat) : Nat :=
  if m = cmAiU ∨ m = cmAiI ∨ m = cmTc then 40 else if m = cmRes ∨ m = cmRes3 ∨ m = cmRtd ∨ m = cmRtd3 then 45
  else if m = cmAoU then 200 else if m = cmAoI then 400 else 0

/-- FEED_LOW_ENTRY (R350). -/
def State.feedLowEntry (s : State) (g t : Nat) : State :=
  if s.rd R.CH_FEED_STAT_FEED_LOW g = 1 then s
  else
    let s1 := (s.wr R.CH_FEED_STAT_FEED_LOW 1 g).bump R.CH_FEED_LOW_CNT_COUNT g
    (chansOf g).foldl (fun s c =>
      if isAi (s.chMode c) then (s.chDeclare c fcFeedLow t).chShow c
      else if isAo (s.chMode c) then s.chRefresh c else s) s1

/-- FEED_LOW_EXIT: outputs resume, inputs restart their averaging with UNDET (R350). -/
def State.feedLowExit (s : State) (g t : Nat) : State :=
  if s.rd R.CH_FEED_STAT_FEED_LOW g = 0 then s
  else
    let s1 := s.wr R.CH_FEED_STAT_FEED_LOW 0 g
    (chansOf g).foldl (fun s c =>
      if isAi (s.chMode c) then
        let s2 := if s.chFault c = fcFeedLow then s.wr R.CH_STAT_FAULT 0 c else s
        (s2.chStart c t).chShow c
      else if isAo (s.chMode c) then s.chRefresh c else s) s1

/-! ### Checks on a CH set (R303, R332) -/

/-- A CH set as a function of register addresses. -/
def fget (w : Nat → Word) (f : Fld) (i : Nat) : Nat := f.ext (w (f.addr i))

/-- Whether channel `c` is part of a combination that concerns channels alone (R303 items 1 to 3, R332 items 1 and 3
to 5). -/
def chanBad (w : Nat → Word) (c : Nat) : Bool :=
  let m := fget w R.CH_MODE_MODE c
  let k := c % 16
  let p := c + 1 - 2 * (c % 2)
  let a := if isPaired m then c - c % 2 else c
  let rate := fget w R.CH_ACFG0_RATE a
  let d := 16 * (c / 16) + fget w R.CH_ACFG0_CJC_CH a
  let md := fget w R.CH_MODE_MODE d
  (m == cmTp && !(decide (4 ≤ k ∧ k ≤ 11))) ||
  (m == cmQuad && fget w R.CH_MODE_MODE p != cmQuad) ||
  (fget w R.CH_MODE_HWT c == 1 && m != cmHs) ||
  ((isAi m || isAo m) && k < 4) || (isPaired m && fget w R.CH_MODE_MODE p != m) ||
  ((m == cmRes || m == cmRes3 || m == cmRtd || m == cmRtd3) && rate < 1) || (m == cmTc && rate < 2) ||
  (fget w R.CH_ACFG0_CJC_SRC a == 1 && !(md == cmRtd || (md == cmRtd3 && d % 2 == 0))) ||
  (isAi m && decide (toSigned 16 (fget w R.CH_ACFG1_HI a) < toSigned 16 (fget w R.CH_ACFG1_LO a)))

/-- Whether channel `c` is part of an illegal paralleled set (R303 item 4, R332 item 2). -/
def parBad (w : Nat → Word) (c : Nat) : Bool :=
  let ms := (parSet (fget w R.CH_GRP_CFG_PAR (c / 16)) (c % 16)).map fun k => 16 * (c / 16) + k
  decide (1 < ms.length) &&
    (ms.any (fun d => fget w R.CH_MODE_MODE d != cmHs || fget w R.CH_CFG_DEMAG d != fget w R.CH_CFG_DEMAG (ms.headD c)) ||
     ms.tail.any (fun d => fget w R.CH_MODE_HWT d == 1))

/-- The feed allowance of group `g` in mW (R349). -/
def allowance (w : Nat → Word) (g : Nat) : Nat :=
  300 + ((chansOf g).map fun c => allowOf (fget w R.CH_MODE_MODE c)).sum

/-- The channels and the groups that are part of an illegal combination. -/
def chBadChans (w : Nat → Word) : List Nat :=
  (List.range 128).filter fun c =>
    chanBad w c || parBad w c || (decide (3000 < allowance w (c / 16)) && allowOf (fget w R.CH_MODE_MODE c) != 0)
def chBadGroups (w : Nat → Word) : List Nat :=
  (List.range 8).filter fun g => (chansOf g).any (parBad w) || decide (3000 < allowance w g)

/-- Whether the CH set `w` may take effect (R303, R332). -/
def State.chSetOk (s : State) (w : Nat → Word) : Bool :=
  (chBadChans w).isEmpty && (chBadGroups w).isEmpty &&
    (s.mode != mdRun || (List.range 32).all fun i =>
      s.scRoleOf i == srNone ||
        (fget w R.CH_MODE_MODE (scChannel i) == s.rd R.CH_MODE_MODE (scChannel i) &&
         fget w R.CH_MODE_FILTER (scChannel i) == s.rd R.CH_MODE_FILTER (scChannel i)))

/-! ### A set takes effect; the table load (R302 to R304) -/

/-- A change of a channel's MODE begins the transition of 1 ms (R304). A trip holds on into another high-side mode, and a
fault code clears as R328 states. -/
def State.chTransition (s : State) (c t : Nat) : State :=
  let x := s.ch c
  let out := isHs (s.chMode c)
  let s1 := s.setCh c { x with transEnd := some (t + 1000000), pulseEnd := none, timed := none, dopEnd := none, count := 0,
                               pwmRun := false, shuntOff := false, result := 0, hot := x.hot && out,
                               commits := if isAo (s.chMode c) then false else x.commits }
  let s2 := ((s1.wr R.CH_STAT_UNDET 1 c).wr R.CH_STAT_VALUE 0 c).wr R.CH_STAT_STUCK 0 c
  let s3 := if s2.tripped c && !out then s2.chUntrip c else s2
  (s3.chAstat c).chRefresh c

/-- MODE_TRANSITION_END: the channel starts in its new mode (R304). -/
def State.transitionEnd (s : State) (c t : Nat) : State :=
  match (s.ch c).transEnd with
  | some e =>
    if e ≤ t then
      let s1 := s.setCh c { s.ch c with transEnd := none }
      let m := s.chMode c
      let s2 := if isDin m || isAi m then (s1.chStart c t).chFeed c t else s1.wr R.CH_STAT_UNDET 0 c
      s2.chRefresh c
    else s
  | none => s

/-- After the registers of a CH set took effect at `t`; `old` holds the MODE of each channel before. -/
def State.chSetApplied (s : State) (old : Nat → Nat) (t : Nat) : State :=
  let s1 := (List.range 8).foldl (fun s g =>
    let s1 := s.wr R.CH_FEED_STAT_ALLOW (allowance (fun a => s.rf.word a) g) g
    if s1.rd R.CH_GRP_CFG_EN g = 0 then s1.grpUnpowered g t else s1) s
  (List.range 128).foldl (fun s c =>
    if s.chMode c = old c then (s.chAstat c).chRefresh c else s.chTransition c t) s1

/-- Bits of the four channel words and of CH_GRP_CFG that are not reserved. -/
def chMasks : List Word := [0x0003F71F#32, 0x00FFFFF7#32, 0xFFF1FF77#32, 0xFFFFFFFF#32]
def chGrpMask : Word := 0x0000000F#32

/-- Set bits of a word. -/
def popcount (w : Word) : Nat := (List.range 32).foldl (fun a k => if w.getLsbD k then a + 1 else a) 0

/-- One channel entry of the table with every field clamped, and the number of clamps (R302). -/
def chEntryClamp (w0 w1 w2 w3 : Word) : List Word × Nat :=
  let m := modeClamp (R.CH_MODE_MODE.ext w0)
  let step (f : Fld) (p : Word × Nat) (v : Nat) : Word × Nat := (f.ins p.1 v, if f.ext p.1 = v then p.2 else p.2 + 1)
  let fix (f : Fld) (p : Word × Nat) : Word × Nat := step f p (f.clamp (f.ext p.1))
  let rsv (w : Word) (k : Nat) : Word × Nat :=
    let mk := chMasks.getD k 0
    (w &&& mk, popcount (w &&& ~~~mk))
  let a := fix R.CH_MODE_STOP_STATE (step R.CH_MODE_MODE (rsv w0 0) m)
  let b := fix R.CH_CFG_UN (fix R.CH_CFG_WET (fix R.CH_CFG_GATE (fix R.CH_CFG_EDGE (rsv w1 1))))
  let c0 := rsv w2 2
  let c1 := step R.CH_ACFG0_RATE c0 (min 5 (R.CH_ACFG0_RATE.ext w2))
  let c2 := step R.CH_ACFG0_AVG c1 (min 4 (R.CH_ACFG0_AVG.ext w2))
  let c3 := step R.CH_ACFG0_RANGE c2 (rangeClamp m (R.CH_ACFG0_RANGE.ext w2))
  let c4 := step R.CH_ACFG0_TYPE c3 (typeClamp m (R.CH_ACFG0_TYPE.ext w2))
  ([a.1, b.1, c4.1, w3], a.2 + b.2 + c4.2)

/-- The load of the CH registers from the table (R302). DESIGN CHOICE (log entry 95): TABLE_ERR is set for an illegal combination, not
for a field that is only clamped. -/
def State.chLoad (s : State) : State :=
  let s1 := (List.range 128).foldl (fun s c =>
    let w k := s.tw (0x03302400 + 16 * c + 4 * k)
    let e := chEntryClamp (w 0) (w 1) (w 2) (w 3)
    let base := blockBase .ch + 0x100 * c
    let rf := { s.rf with eff := Cells.set (Cells.set (Cells.set (Cells.set s.rf.eff base (e.1.getD 0 0)) (base + 4) (e.1.getD 1 0))
      (base + 8) (e.1.getD 2 0)) (base + 12) (e.1.getD 3 0) }
    let s2 : State := { s with rf := rf }
    if e.2 = 0 then s2 else s2.clampCnt .ch e.2) s
  let s2 := (List.range 8).foldl (fun s g =>
    let w := s.tw (0x03302C00 + 4 * g)
    let v := w &&& chGrpMask
    let p := R.CH_GRP_CFG_PAR.clamp (R.CH_GRP_CFG_PAR.ext v)
    let n := popcount (w &&& ~~~chGrpMask) + (if p = R.CH_GRP_CFG_PAR.ext v then 0 else 1)
    let s2 : State := { s with rf := { s.rf with eff := Cells.set s.rf.eff (R.CH_GRP_CFG_EN.addr g) (R.CH_GRP_CFG_PAR.ins v p) } }
    if n = 0 then s2 else s2.clampCnt .ch n) s1
  let w := fun a => s2.rf.word a
  let s3 := (chBadChans w).foldl (fun s c =>
    let b := blockBase .ch + 0x100 * c
    let s1 : State := { s with rf := { s.rf with eff := Cells.set (Cells.set s.rf.eff b 0) (b + 4) 0 } }
    (s1.clampCnt .ch).wr R.CH_BLK_FLAGS_TABLE_ERR 1) s2
  let s4 := (chBadGroups w).foldl (fun s g =>
    ((s.wr R.CH_GRP_CFG_PAR 0 g).clampCnt .ch).wr R.CH_BLK_FLAGS_TABLE_ERR 1) s3
  (List.range 8).foldl (fun s g => s.wr R.CH_FEED_STAT_ALLOW (allowance (fun a => s.rf.word a) g) g) s4

/-- The channels after a reset of the block and the table load: inputs start anew, outputs are off until their first
commit, a group without EN is unpowered (R298, R312, R316, R325). `por`: the trims are read from flash and every group
qualifies again. -/
def State.chReset (s : State) (por : Bool) (t : Nat) : State :=
  let s1 : State := { s with chan := s.chan.map fun p =>
    (p.1, ({ heat := p.2.heat, trimFlash := p.2.trimFlash, backfed := p.2.backfed } : FdChan)), grp := [] }
  let s2 := if por then (List.range 128).foldl (fun s c =>
      (s.wr R.CH_TRIM_GAIN (s.ch c).trimFlash.1.toNat c).wr R.CH_TRIM_OFS (s.ch c).trimFlash.2.toNat c) s1 else s1
  let s3 := (List.range 8).foldl (fun s g => if s.rd R.CH_GRP_CFG_EN g = 0 then s.grpUnpowered g t else s) s2
  (List.range 128).foldl (fun s c => ((s.chStart c t).chAstat c).chRefresh c) s3

end Sys2Proof.Machine
end

