-- ==== Sys2Proof/Machine/Engine.lean ====
section
/-! DEFINITION. How an engine carries out one instruction: fetch, the instruction's body, retirement, faults, and the
lockstep of a pair (R76, R82 to R88, R252). -/

namespace Sys2Proof.Machine

/-- What an instruction does to its lane and engine, or the fault it raises. -/
abbrev Body := Lane → Eng → Except Flt (Lane × Eng)

/-- The fetch of `len` code words at PC: beyond the code store faults with ADDR, an uncorrectable word with ECC
(R86, R88). -/
def Lane.fetch (l : Lane) (pc len : Nat) : Except Flt Lane :=
  if codeWords ≤ pc then .error (flt cAddr)
  else
    match l.readW (4 * pc) with
    | .error f => .error f
    | .ok (_, l1) =>
      if len ≤ 1 then .ok l1
      else if codeWords ≤ pc + 1 then .error (flt cAddr)
      else
        match l1.readW (4 * (pc + 1)) with
        | .error f => .error f
        | .ok (_, l2) => .ok l2

/-- Copies the state of engine `e` to its partner, with the items it presented (lockstep, R252). -/
def Lane.mirrorPair (l0 l : Lane) (e : Nat) : Lane :=
  match (l0.engine e).pair with
  | none => l
  | some f =>
    let its := l.items.drop l0.items.length
    let g := l.engine e
    let d := g.icnt - (l0.engine e).icnt
    let held := l0.engine f
    let g' : Eng := if g.st == .idle then { g with icnt := held.icnt + d, pair := none, next := held.next, nextPair := held.nextPair }
      else { g with icnt := held.icnt + d, pair := some e, next := held.next, nextPair := held.nextPair }
    let l1 : Lane := { l with items := l.items ++ its.map (fun i => { i with engine := f }) }
    l1.setEngine f g'

/-- The boundary of engine `e` at which the pair reserved for it with engine `f` acts (R160, R252): both start when neither
is in WAIT any more. -/
def Lane.pairBoundary (l : Lane) (e f k t : Nat) (first : Bool) : Lane :=
  if l.tskState k != tsReady && l.tskState k != tsPreempted then l.unreserve e
  else
    let g := l.engine e
    let l1 := if g.st == .idle then l else
      let l1 := l.preemptPair e
      l1.setEngine e { l1.engine e with next := g.next, nextPair := g.nextPair }
    if (l1.engine f).st == .wait then l1
    else
      let l2 := l1.unreserve e
      let p := if first then (e, f) else (f, e)
      (l2.place p.1 k (t + 32)).joinPair p.1 p.2

/-- The task reserved for engine `e` takes it at its boundary, or when the engine has returned to the dispatcher (R158, R160).
In the entry into SLEEP no activation starts and none resumes (R467). -/
def Lane.nextAt (l : Lane) (ph : Phase) (e t : Nat) : Lane :=
  let g := l.engine e
  let u := if g.st == .idle then max t g.trapUntil else t
  match g.next, g.nextPair with
  | none, _ => l
  | some k, some p => if ph.entering then l.unreserve e else l.pairBoundary e p.1 k u p.2
  | some k, none =>
    let l1 := l.unreserve e
    if (l1.tskState k == tsReady || l1.tskState k == tsPreempted) && !ph.entering then
      (if g.st == .idle then l1.place e k u else (l1.preemptPair e).place e k (t + 32))
    else l1

/-- An engine in WAIT that has completed its instruction acts on what a decision or a cancel left for its boundary
(R158, R160). -/
def Lane.atBoundary (l : Lane) (ph : Phase) (e t : Nat) : Lane :=
  match (l.engine e).act.cancel with
  | some code => (l.endBoth e t crCancel code).nextAt ph e t
  | none => l.nextAt ph e t

/-- Retires an instruction: the count of R84, the activation's count, its cycles. -/
def Eng.retire (g : Eng) (cyc : Nat) : Eng :=
  { g with icnt := if g.icnt = BitVec.allOnes 64 then g.icnt else g.icnt + 1,
           act := { g.act with retired := g.act.retired + 1, cycles := g.act.cycles + cyc } }

/-- The engine after its instruction: a spill or a fill showed TRAP for its extra cycles (R64). -/
def Eng.trapped (g g0 : Eng) (t : Nat) : Eng :=
  if g.r.m = g0.r.m then g else { g with trapUntil := t + 2 * (g.act.cycles - g0.act.cycles) }

/-- One instruction of `len` code words and base count `cyc` on engine `e` at time `t`. An engine that is not in RUN
executes nothing. A fault takes R87; the instruction then has no other effect than the words it keeps and the accesses it
counted (R88). -/
def Lane.instr (l0 : Lane) (ph : Phase) (e t len cyc : Nat) (body : Body) : Lane :=
  let l := l0.takeInputs e
  let g := l.engine e
  if g.st != .run then l
  else
    let l2 :=
      match l.fetch g.r.pc.toNat len with
      | .error (c, k) => (k.getD l).faultEngine ph e t c
      | .ok l1 =>
        match body l1 g with
        | .ok (l2, g2) => l2.setEngine e ((g2.trapped g t).retire cyc)
        | .error (c, k) => ((k.map (Lane.setEngine · e g)).getD l1).faultEngine ph e t c
    Lane.mirrorPair l l2 e

/-- PC advanced by the length of the instruction (R76). -/
def Eng.adv (g : Eng) (len : Nat) : Eng := { g with r := { g.r with pc := g.r.pc + BitVec.ofNat 22 len } }

/-- The engine with new registers and PC advanced. -/
def Eng.done (g : Eng) (r : Regs) (len : Nat) : Eng := Eng.adv { g with r := r } len

/-- A body that only computes on the registers, with an encoding check. -/
def regBody (ok : Bool) (f : Regs → Regs) : Body := fun l g =>
  if ok then .ok (l, g.done (f g.r) 1) else .error (flt cIllegalOp)

end Sys2Proof.Machine
end

