-- ==== Sys2Proof/Machine/BitLogic.lean ====
section
/-! DEFINITION. The bodies of the bit-logic and program-flow instructions (spec/04_bit_and_flow.md). -/

namespace Sys2Proof.Machine

/-- A bit-read instruction (R99): the new BA from the old one and the operand bit. -/
def bitReadBody (o : MOp) (f : Bool → Bool → Bool) : Body := fun l g => do
  opCheck .bitRead o
  let (v, l1) ← readBit l g.task o.sp.toNat (opIndex o g.r)
  pure (l1, g.done { g.r with ba := f g.r.ba v } (opLen o))

/-- A bit-write instruction (R103, R104): what it writes, if it writes. The range check comes before the ownership
check. -/
def bitWriteBody (o : MOp) (f : Bool → Option Bool) : Body := fun l g => do
  opCheck .bitWrite o
  let sp := o.sp.toNat
  let k := opIndex o g.r
  if spaceBits sp ≤ k then throw (flt cAddr)
  if sp == spS && !inOwned l.ownedS k then throw (flt cWriteProt)
  match f g.r.ba with
  | none => pure (l, g.adv (opLen o))
  | some b =>
    let l1 ← writeBit l g.task sp k b
    pure (l1, g.adv (opLen o))

/-- An edge instruction (R105). -/
def edgeBody (o : MOp) (f : Bool → Bool → Bool) : Body := fun l g => do
  opCheck .edge o
  let sp := o.sp.toNat
  let k := opIndex o g.r
  let (m, _) ← readBit l g.task sp k  -- one access reads and writes the word (R85)
  let l2 ← writeBit l g.task sp k g.r.ba
  pure (l2, g.done { g.r with ba := f g.r.ba m } (opLen o))

/-! ### The branch stack (R63 to R65) -/

/-- A branch-stack entry: pending operation in [3:1], saved BA in [0] (R63). -/
def branchEntry (op : Nat) (ba : Bool) : BitVec 4 := BitVec.ofNat 4 (op * 2 + (if ba then 1 else 0))

/-- Writes spilled entries, one word each, from spill word `p` of task `n` (R63, R65). -/
def Lane.spill (l : Lane) (n p : Nat) (es : List (BitVec 4)) : Lane :=
  l.storeWords (stackBase n + 4 * p) (es.map (·.setWidth 32))

/-- Push of an entry (R64): at 15 hardware entries the spill trap moves the eight oldest out, 10 cycles. -/
def pushEntry (l : Lane) (g : Eng) (e : BitVec 4) : Except Flt (Lane × Eng) :=
  if g.r.depth = 255 then .error (flt cStack)
  else
    let hw := g.r.hw ++ [e]
    if hw.length = 15 then
      .ok (l.spill g.task g.r.m (hw.take 8),
        { g with r := { g.r with hw := hw.drop 8, m := g.r.m + 8 }, act := { g.act with cycles := g.act.cycles + 10 } })
    else .ok (l, { g with r := { g.r with hw := hw } })

/-- The entry a pop would return (R101): the newest hardware entry. -/
def topEntry (r : Regs) : Except Flt (BitVec 4) :=
  if r.depth = 0 then .error (flt cNest)
  else .ok (r.hw.getLastD 0)

/-- Pop of an entry (R64): with fewer than two hardware entries left and some spilled, the fill trap reads up to eight
back, 2 + n cycles; an uncorrectable spilled word faults with ECC and nothing is popped (R65). -/
def popEntry (l : Lane) (g : Eng) : Except Flt (Lane × Eng) :=
  if g.r.depth = 0 then .error (flt cNest)
  else
    let hw := g.r.hw.dropLast
    if hw.length < 2 ∧ 0 < g.r.m then
      let n := min 8 g.r.m
      match l.readWords (stackBase g.task + 4 * (g.r.m - n)) n with
      | .error f => .error f
      | .ok (ws, l1) =>
        .ok (l1, { g with r := { g.r with hw := ws.map (·.setWidth 4) ++ hw, m := g.r.m - n },
                          act := { g.act with cycles := g.act.cycles + 2 + n } })
    else .ok (l, { g with r := { g.r with hw := hw } })

/-- A branch open (R100); `op` is the pending operation of R63. -/
def branchOpenBody (op : Nat) (low : BitVec 20) : Body := fun l g => do
  if low ≠ 0 then throw (flt cIllegalOp)
  let (l1, g1) ← pushEntry l g (branchEntry op g.r.ba)
  pure (l1, g1.done { g1.r with ba := false } 1)

/-- The pending operation of an entry applied to the saved and the present BA (R101). -/
def applyPending (op : Nat) (s b : Bool) : Option Bool :=
  match op with
  | 0 => some (s && b)
  | 1 => some (s && !b)
  | 2 => some (s || b)
  | 3 => some (s || !b)
  | 4 => some (xor s b)
  | 5 => some (xor s (!b))
  | _ => none

/-- The branch close (R101). -/
def bendBody (rest : BitVec 26) : Body := fun l g => do
  if rest ≠ 0 then throw (flt cIllegalOp)
  let e ← topEntry g.r
  match applyPending (e.toNat / 2) (e.getLsbD 0) g.r.ba with
  | none => throw (flt cIllegalOp)
  | some b =>
    let (l1, g1) ← popEntry l g
    pure (l1, g1.done { g1.r with ba := b } 1)

/-! ### BA and status (R106) -/

/-- LDC (R106): a reserved condition code faults with ILLEGAL_OP. -/
def ldcBody (low : BitVec 20) : Body := fun l g =>
  if 16 ≤ low.toNat then .error (flt cIllegalOp)
  else
    match condHolds low.toNat g.r with
    | none => .error (flt cIllegalOp)
    | some b => .ok (l, g.done { g.r with ba := b } 1)

/-! ### Jumps, subroutines, loops (R108 to R111) -/

/-- The engine with PC at a jump target. -/
def Eng.goto (g : Eng) (target : BitVec 22) : Eng := { g with r := { g.r with pc := target } }

/-- A taken jump takes one cycle more (R82). -/
def Eng.extra (g : Eng) (n : Nat) : Eng := { g with act := { g.act with cycles := g.act.cycles + n } }

/-- JMP and the conditional jumps (R108). -/
def jmpBody (c : BitVec 4) (target : BitVec 22) : Body := fun l g =>
  match condHolds c.toNat g.r with
  | none => .error (flt cIllegalOp)
  | some true =>
    if codeWords ≤ target.toNat then .error (flt cAddr) else .ok (l, (g.goto target).extra 1)
  | some false => .ok (l, g.adv 1)

/-- Most call frames a task can have open (R66). -/
def maxFrames : Nat := 1920

/-- Address of frame `k` of task `n` (R66). -/
def frameAddr (n k : Nat) : Nat := stackBase n + 0x400 + 8 * k

/-- CALL (R109): the return index, which may be 0x30_0000, and DEPTH go into the frame. -/
def callBody (c : BitVec 4) (target : BitVec 22) : Body := fun l g => do
  if c ≠ 0 then throw (flt cIllegalOp)
  if codeWords ≤ target.toNat then throw (flt cAddr)
  if g.r.frames = maxFrames then throw (flt cStack)
  let l1 := l.storeWords (frameAddr g.task g.r.frames)
    [BitVec.ofNat 32 (g.r.pc.toNat + 1), BitVec.ofNat 32 g.r.depth]
  pure (l1, { g with r := { g.r with frames := g.r.frames + 1, pc := target } })

/-- RET (R110). -/
def retBody (rest : BitVec 26) : Body := fun l g => do
  if rest ≠ 0 then throw (flt cIllegalOp)
  if g.r.frames = 0 then throw (flt cNest)
  let a := frameAddr g.task (g.r.frames - 1)
  let (w0, l1) ← l.readW a
  let (w1, l2) ← l1.readW (a + 4)
  if fieldOf w1 7 0 ≠ g.r.depth then throw (cNest, some l2)
  if codeWords ≤ fieldOf w0 21 0 then throw (cAddr, some l2)
  pure (l2, { g with r := { g.r with frames := g.r.frames - 1, pc := w0.setWidth 22 } })

/-- REPT (R111): bit [25] must be 0, [24:22] names the index register. -/
def reptBody (c : BitVec 4) (target : BitVec 22) : Body := fun l g =>
  if 8 ≤ c.toNat then .error (flt cIllegalOp)
  else
    let n := c.toNat
    let x := g.r.getX n
    if x = 0 then .ok (l, g.adv 1)
    else if x - 1 ≠ 0 then
      if codeWords ≤ target.toNat then .error (flt cAddr)
      else .ok (l, ({ g with r := (g.r.setX n (x - 1)) }.goto target).extra 1)
    else .ok (l, { g with r := g.r.setX n 0 }.adv 1)

/-! ### Ending an activation (R112, R170) -/

/-- The words of a Q range after forcing (R177). -/
def Lane.commitWords (l : Lane) (first n : Nat) : List Word :=
  (List.range n).map fun k => l.forced 1 (first + k) (l.word (wordAddr spQ 0 (first + k)))

/-- The Q words a commit reads, checked for uncorrectable errors (R88). -/
def Lane.commitEcc (l : Lane) (rs : List (Nat × Nat × Nat)) : Bool :=
  rs.any fun r => (List.range r.2.2).any fun k => l.ecc2.contains (wordAddr spQ 0 (r.2.1 + k))

/-- The Q words a commit reads with a single-bit error, each corrected and counted (R88). -/
def Lane.commitFix (l : Lane) (first n : Nat) : Lane :=
  (List.range n).foldl (fun l k => if l.ecc1.contains (wordAddr spQ 0 (first + k)) then l.corrected else l) l

/-- The output commit of engine `e`: one effect per output range, in list order (R170). -/
def Lane.outputCommit (l : Lane) (e : Nat) : Lane :=
  let n := (l.engine e).task
  (l.outRanges n).foldl (fun l r =>
    (l.commitFix r.2.1 r.2.2).emit e rkCommit (l.range r.1) (BitVec.ofNat 32 r.1) (4 * r.2.2) (l.commitWords r.2.1 r.2.2)) l

/-- END, ENDBA, ENDNBA on engine `e` (R112): a taken form with DEPTH 0 and no open frame commits the outputs, closes
the window and ends the activation; the END itself counts as retired (R84). -/
def Lane.endInstr (l0 : Lane) (ph : Phase) (e t : Nat) (low : BitVec 20) (taken : Bool → Bool) : Lane :=
  let l := l0.takeInputs e
  let g := l.engine e
  if g.st != .run then l
  else
    let res : Lane :=
      match l.fetch g.r.pc.toNat 1 with
      | .error (c, k) => (k.getD l).faultEngine ph e t c
      | .ok l1 =>
        if low ≠ 0 then l1.faultEngine ph e t cIllegalOp
        else if !taken g.r.ba then l1.setEngine e ((g.adv 1).retire 1)
        else if g.r.depth ≠ 0 ∨ g.r.frames ≠ 0 then l1.faultEngine ph e t cNest
        else if l1.commitEcc (l1.outRanges g.task) then l1.faultEngine ph e t cEcc
        else
          let l2 := l1.setEngine e (g.retire (1 + rangeCycles (l1.outRanges g.task)))
          (l2.outputCommit e).endActivation e crEnd leEnd
    Lane.mirrorPair l res e

/-- The body of a fetch of a word whose OP or FUNC no chapter assigns (R79, R86). -/
def illegalBody : Body := fun _ _ => .error (flt cIllegalOp)

end Sys2Proof.Machine
end

