-- ==== Sys2Proof/Machine/Hash.lean ====
section
/-! DEFINITION. SHA-256 and HMAC-SHA-256 (FIPS 180-4, RFC 2104), which R38, R44, R458, R490 and R507 name. -/

namespace Sys2Proof.Machine

/-- The largest number `r + x` with `x` below `2 ^ n` whose `k`-th power does not exceed `y`, when `r ^ k ≤ y`: bit by bit. -/
def rootUp (k y : Nat) : Nat → Nat → Nat
  | 0, r => r
  | n + 1, r => rootUp k y n (if (r + 2 ^ n) ^ k ≤ y then r + 2 ^ n else r)

/-- The first 32 bits of the fractional part of the `k`-th root of `p`. -/
def rootFraction (k p : Nat) : Nat := rootUp k (p * 2 ^ (32 * k)) 37 0 % 2 ^ 32

/-- The primes below 312, of which there are 64. -/
def smallPrimes : List Nat :=
  (List.range 310).map (· + 2) |>.filter fun n => (List.range 16).all fun d => n == d + 2 || n % (d + 2) != 0

/-- The round constants: the cube roots of the first 64 primes. -/
def shaK : List Nat := smallPrimes.map (rootFraction 3)

/-- The initial hash value: the square roots of the first eight primes. -/
def shaInit : List Word := (smallPrimes.take 8).map fun p => BitVec.ofNat 32 (rootFraction 2 p)

/-- Rotate right. -/
def rotr (x : Word) (n : Nat) : Word := (x >>> n) ||| (x <<< (32 - n))

/-- A big-endian word of the first four bytes of a list. -/
def beWord : List Byte → Word
  | a :: b :: c :: d :: _ => bytesWord d c b a
  | _ => 0

/-- The message schedule, newest word first, extended by `n` words. -/
def shaExtend : Nat → List Word → List Word
  | 0, w => w
  | n + 1, w =>
    let a := w.getD 1 0
    let b := w.getD 14 0
    let s1 := rotr a 17 ^^^ rotr a 19 ^^^ (a >>> 10)
    let s0 := rotr b 7 ^^^ rotr b 18 ^^^ (b >>> 3)
    shaExtend n ((s1 + w.getD 6 0 + s0 + w.getD 15 0) :: w)

/-- One round on the eight working words. -/
def shaRound (st : List Word) (kw : Nat × Word) : List Word :=
  match st with
  | [a, b, c, d, e, f, g, h] =>
    let t1 := h + (rotr e 6 ^^^ rotr e 11 ^^^ rotr e 25) + ((e &&& f) ^^^ (~~~e &&& g)) + BitVec.ofNat 32 kw.1 + kw.2
    let t2 := (rotr a 2 ^^^ rotr a 13 ^^^ rotr a 22) + ((a &&& b) ^^^ (a &&& c) ^^^ (b &&& c))
    [t1 + t2, a, b, c, d + t1, e, f, g]
  | _ => st

/-- The sixteen big-endian words of a 64-byte block. -/
def blockWords (bs : List Byte) : List Word := (List.range 16).map fun k => beWord (bs.drop (4 * k))

/-- The compression of one block. -/
def shaBlock (h : List Word) (bs : List Byte) : List Word :=
  let w := (shaExtend 48 (blockWords bs).reverse).reverse
  List.zipWith (· + ·) h ((shaK.zip w).foldl shaRound h)

/-- The blocks of a padded message, `n` of them. -/
def shaBlocks : Nat → List Word → List Byte → List Word
  | 0, h, _ => h
  | n + 1, h, bs => shaBlocks n (shaBlock h bs) (bs.drop 64)

/-- `n` bytes of a number, most significant first. -/
def beBytes (x : Nat) : Nat → List Byte
  | 0 => []
  | n + 1 => BitVec.ofNat 8 (x / 256 ^ n) :: beBytes x n

/-- SHA-256 of a list of bytes. -/
def sha256 (m : List Byte) : List Byte :=
  let z := (119 - m.length % 64) % 64
  let p := m ++ [0x80#8] ++ List.replicate z 0#8 ++ beBytes (8 * m.length) 8
  (shaBlocks (p.length / 64) shaInit p).flatMap fun w => beBytes w.toNat 4

/-- A key padded to a block and masked. -/
def hmacPad (key : List Byte) (mask : Byte) : List Byte :=
  let k := if 64 < key.length then sha256 key else key
  (k ++ List.replicate (64 - k.length) 0#8).map fun b => b ^^^ mask

/-- HMAC-SHA-256. -/
def hmac (key m : List Byte) : List Byte := sha256 (hmacPad key 0x5C#8 ++ sha256 (hmacPad key 0x36#8 ++ m))

end Sys2Proof.Machine
end

