-- ==== Sys2Proof/Machine/Frames.lean ====
section
/-! DEFINITION. Management frames, their replies, and the replies of requests still in service (R36 to R41, R48, R57). -/

namespace Sys2Proof.Machine

/-! ### Codes (R40, R41) -/

def stOk : Nat := 0
def stChallenge : Nat := 1
def stBusy : Nat := 2
def stTargetReset : Nat := 3
def stNoSession : Nat := 0x10
def stAuthFail : Nat := 0x11
def stRole : Nat := 0x12
def stSeq : Nat := 0x13
def stBadAddr : Nat := 0x20
def stQuoin : Nat := 0x22
def stMode : Nat := 0x23
def stBadCmd : Nat := 0x24

/-- The role a command needs: 1 = READ, 2 = WRITE, 3 = MAINT, 0 = any; none for an unknown code. -/
def cmdRole (c : Nat) : Option Nat :=
  if c = 0x03 ∨ c = 0x04 then some 0 else if c = 0x10 then some 1 else if c = 0x11 ∨ c = 0x12 ∨ c = 0x20 ∨ c = 0x21 then some 2
  else if c = 0x22 then some 3 else none

/-- What a command answers beside the header: status, ARG, payload. -/
structure Answer where
  status : Nat
  arg : Nat := 0
  payload : List Word := []
  deriving DecidableEq, Repr

/-! ### Frames (R38, R39) -/

def portNo : Port → Nat
  | .a => 0
  | .b => 1

def framePort (f : Frame) : Nat := portNo f.port
def frameCmd (f : Frame) : Nat := f.command.toNat

/-- Whether a datagram is one the module takes: untagged, whole, to port 47 501 (R36). -/
def frameTaken (f : Frame) : Bool := !f.tagged && !f.fragment && f.dstPort == 47501#16

/-- Check 1 of R39. The length check covers every command, READ among them. -/
def frameOk (f : Frame) : Bool :=
  f.magic == 0x5356#16 && f.version == 1 && decide (f.count.toNat ≤ 256) && f.len == 36 + 4 * f.count.toNat &&
    f.payload.length == f.count.toNat && f.mac.length == 16

/-- The bytes of a frame up to its MAC; `status` stands in a reply. -/
def frameBytes (command session seq status count address arg : Nat) (payload : List Word) : List Byte :=
  leBytes 0x5356 2 ++ [1, byte command] ++ leBytes session 2 ++ leBytes seq 2 ++ leBytes status 2 ++ leBytes count 2 ++
    leBytes address 4 ++ leBytes arg 4 ++ payload.flatMap wordBytes

/-- The MAC a request must carry under a session key. -/
def requestMac (key : List Byte) (f : Frame) : List Byte :=
  (hmac key (frameBytes (frameCmd f) f.session.toNat f.seq.toNat 0 f.count.toNat f.address.toNat f.arg.toNat f.payload)).take 16

/-- The payload of the reply to a frame: COUNT of a READ reply repeats the request's, whatever the status (R40). -/
def replyPayload (f : Frame) (a : Answer) : List Word :=
  if frameCmd f = 0x10 then a.payload ++ ((List.range f.count.toNat).drop a.payload.length).map Config.noDataWord else a.payload

/-- The reply to a frame, with its MAC; no key, no MAC (OPEN, AUTH, NO_SESSION). It repeats COMMAND, SEQ and ADDRESS; ARG
is 0 where R41 names none. -/
def replyTo (f : Frame) (session : Nat) (key : Option (List Byte)) (a : Answer) : Reply :=
  let ws := replyPayload f a
  let bytes := frameBytes (frameCmd f) session f.seq.toNat a.status ws.length f.address.toNat a.arg ws
  { ip := f.srcIp, udpPort := f.srcPort, command := (frameCmd f), session := session, seq := f.seq.toNat, status := a.status,
    count := ws.length, address := f.address, arg := BitVec.ofNat 32 a.arg, payload := ws,
    mac := match key with
      | some k => (hmac k bytes).take 16
      | none => List.replicate 16 0 }

/-- A reply leaves on a port. -/
def State.send (s : State) (p : Nat) (r : Reply) : State := { s with hp := { s.hp with sent := NMap.put s.hp.sent p r } }

/-! ### Requests in service (R48, R57) -/

def State.setHp (s : State) (h : HostState) : State := { s with hp := h }

def State.session (s : State) (p n : Nat) : Option Session := s.hp.sessions.find? fun x => x.port == p && x.number == n

def State.putSession (s : State) (x : Session) : State :=
  s.setHp { s.hp with sessions := s.hp.sessions.map fun y => if y.port == x.port && y.number == x.number then x else y }

/-- The service of a session's request ends: its reply is stored and leaves (R48). -/
def State.replyDue (s : State) (x : Session) (t : Nat) : State :=
  match x.serving with
  | some v =>
    if v.until_ ≤ t then
      (s.putSession { x with lastSeq := v.seq, reply := some v.reply, serving := none }).send x.port v.reply
    else s
  | none => s

/-- The replies whose service has ended by `t`. -/
def State.repliesDue (s : State) (t : Nat) : State := s.hp.sessions.foldl (fun s x => s.replyDue x t) s

/-- An open request whose target is reset or leaves before its service has ended completes with TARGET_RESET (R57). -/
def Serving.turned (v : Serving) (key : List Byte) (hit : Nat → Bool) : Serving :=
  if v.reply.status == stOk && (List.range v.words).any (fun k => hit (v.frame.address.toNat + 4 * k)) then
    let a : Answer := { status := stTargetReset, arg := if frameCmd v.frame = 0x10 then 0 else v.words }
    { v with reply := replyTo v.frame v.reply.session (some key) a }
  else v

/-- The open requests to the addresses `hit` names complete with TARGET_RESET (R57). -/
def State.turnOpen (s : State) (hit : Nat → Bool) : State :=
  s.setHp { s.hp with sessions := s.hp.sessions.map fun x => { x with serving := x.serving.map fun v => v.turned x.key hit } }

/-- A reset of a block begins at `t`: an open request to it completes with TARGET_RESET, and until the reset ends the block is
not ready (R57). -/
def State.resetting (s : State) (b : Block) (t : Nat) : State :=
  let s1 := s.turnOpen fun a => decide (blockBase b ≤ a ∧ a < blockEnd b)
  { s1 with rst := NMap.put s.rst (blockBase b) (t + Config.resetTime (blockBase b) t) }

end Sys2Proof.Machine
end

