-- ==== Sys2Proof/Machine/Forme.lean ====
section
/-! DEFINITION. The Forme bus: schedules, the cycle, the star, quarantine, switches and frames
(spec/13_forme_bus.md). -/

namespace Sys2Proof.Machine

/-! ### Schedules and the frame table (R356, R357, R370) -/

/-- Word `k` of schedule `p`. -/
def State.fbW (s : State) (p k : Nat) : Word := s.tw (0x03310000 + 0x8000 * p + 4 * k)
/-- CYCLE_LEN, SLOT_LEN, ML in µs; LEAD, MLEAD, G in 100 ns. -/
def State.fbLen (s : State) (p : Nat) : Nat := fieldOf (s.fbW p 0) 15 0
def State.fbNs (s : State) (p : Nat) : Nat := fieldOf (s.fbW p 1) 10 0
def State.fbSlot (s : State) (p : Nat) : Nat := fieldOf (s.fbW p 1) 23 16
def State.fbNm (s : State) (p : Nat) : Nat := fieldOf (s.fbW p 2) 11 0
def State.fbMl (s : State) (p : Nat) : Nat := fieldOf (s.fbW p 2) 18 16
def State.fbLead (s : State) (p : Nat) : Nat := fieldOf (s.fbW p 3) 7 0
def State.fbMlead (s : State) (p : Nat) : Nat := fieldOf (s.fbW p 3) 15 8
def State.fbG (s : State) (p : Nat) : Nat := fieldOf (s.fbW p 3) 23 16
def State.fbReq (s : State) (p : Nat) : Nat := fieldOf (s.fbW p 4) 7 0
/-- The word of static slot `n`, and of dynamic ID `m` from 1 on. -/
def State.fbStatic (s : State) (p n : Nat) : Word := s.fbW p (16 + n)
def State.fbDynamic (s : State) (p m : Nat) : Word := s.fbW p (1040 + (m - 1))
def fbOwner (w : Word) : Nat := fieldOf w 3 0
def fbEntry (w : Word) : Nat := fieldOf w 25 16

def State.fbE0 (s : State) (i : Nat) : Word := s.tw (0x03308100 + 8 * i)
def State.fbE1 (s : State) (i : Nat) : Word := s.tw (0x03308100 + 8 * i + 4)
def State.fbBase (s : State) (i : Nat) : Nat := fieldOf (s.fbE0 i) 15 0
/-- LEN as it stands, and as it loads: a multiple of 4 up to 1 488 (R53, R370). -/
def State.fbLenWord (s : State) (i : Nat) : Nat := fieldOf (s.fbE0 i) 27 16
def State.fbBytes (s : State) (i : Nat) : Nat :=
  let n := s.fbLenWord i
  if 1488 ≤ n then 1488 else if n % 4 = 3 then n + 1 else n - n % 4
def State.fbIsTx (s : State) (i : Nat) : Bool := (s.fbE0 i).getLsbD 28
def State.fbEv (s : State) (i : Nat) : Nat := fieldOf (s.fbE1 i) 4 0
def State.fbEvEn (s : State) (i : Nat) : Bool := (s.fbE1 i).getLsbD 5
def State.fbOnCommit (s : State) (i : Nat) : Bool := (s.fbE1 i).getLsbD 6

/-- Frame duration d(L) in 10 ns (R357). -/
def fbDur (len : Nat) : Nat := 8 * (34 + max len 40)

/-- Minislots k(L) that a dynamic frame occupies. -/
def fbOcc (mlead ml len : Nat) : Nat := (10 * mlead + fbDur len + 40 + 100 * ml - 1) / (100 * ml)

/-- The words of a schedule that name a frame entry, as (static, number, word): slot 0 carries the sync frame, and an
unused word names none. -/
def State.fbWords (s : State) (p : Nat) : List (Bool × Nat × Word) :=
  ((List.range (s.fbNs p - 1)).map (fun n => (true, n + 1, s.fbStatic p (n + 1))) ++
    (List.range (s.fbNm p)).map (fun m => (false, m + 1, s.fbDynamic p (m + 1)))).filter fun x => fbOwner x.2.2 ≤ 8

/-- The word of schedule `p` that names entry `i`. -/
def State.fbNamed (s : State) (p i : Nat) : Option (Bool × Nat × Word) := (s.fbWords p).find? fun x => fbEntry x.2.2 == i

/-- Whether schedule `p` is usable (R356, R357). -/
def State.fbUsable (s : State) (p : Nat) : Bool :=
  let cl := s.fbLen p
  let ns := s.fbNs p
  let sl := s.fbSlot p
  let nm := s.fbNm p
  let ml := s.fbMl p
  let lead := s.fbLead p
  let mlead := s.fbMlead p
  let g := s.fbG p
  decide (1000 ≤ cl ∧ cl ≤ 64000 ∧ 2 ≤ ns ∧ ns ≤ 1024 ∧ 10 ≤ sl ∧ nm ≤ 4000 ∧ 1 ≤ ml ∧ ml ≤ 4 ∧ 5 ≤ lead ∧ lead ≤ 50 ∧
    2 ≤ mlead ∧ mlead ≤ 9 ∧ 2 ≤ g ∧ g ≤ 49) &&
  decide (ns * sl + nm * ml + 20 ≤ cl) && decide (g < lead ∧ mlead + 2 ≤ 10 * ml) &&
  fbOwner (s.fbStatic p 0) == 8 &&
  ((List.range ns).all fun n => fbOwner (s.fbStatic p n) ≤ 8 || fbOwner (s.fbStatic p n) == 15) &&
  ((List.range nm).all fun m => fbOwner (s.fbDynamic p (m + 1)) ≤ 8 || fbOwner (s.fbDynamic p (m + 1)) == 15) &&
  decide (((s.fbWords p).map fun x => fbEntry x.2.2).Nodup) &&
  (s.fbWords p).all (fun x =>
    let i := fbEntry x.2.2
    (s.fbIsTx i == (fbOwner x.2.2 == 8)) &&
    (if x.1 then decide (fbDur (s.fbBytes i) + 20 * lead ≤ 100 * sl) else decide (fbOcc mlead ml (s.fbBytes i) ≤ nm)))

/-- Whether schedule `p` was found usable at the load. -/
def State.fbIsUsable (s : State) (p : Nat) : Bool := s.bit R.FB_SCHED_STAT_USABLE p

/-! ### Controller (R355, R366) -/

/-- Controller states. -/
def fsOff : Nat := 0
def fsLockup : Nat := 1
def fsPress : Nat := 2
def fsParked : Nat := 3

def State.fbState (s : State) : Nat := s.rd R.FB_STATE_STATE
def State.fbSched (s : State) : Nat := s.rd R.FB_STATE_SCHED
def State.fbCycle (s : State) : Nat := s.rd R.FB_CYCLE_CYCLE
def State.fbTx (s : State) (i : Nat) : FbTx := NMap.get s.fb.tx {} i
def State.setFbTx (s : State) (i : Nat) (x : FbTx) : State := { s with fb := { s.fb with tx := NMap.put s.fb.tx i x } }
def State.fbBr (s : State) (b : Nat) : FbBranch := NMap.get s.fb.br {} b
def State.setFbBr (s : State) (b : Nat) (x : FbBranch) : State := { s with fb := { s.fb with br := NMap.put s.fb.br b x } }

/-- A change of the controller state raises EV176 (R366, R373). -/
def State.fbEnter (s : State) (st t : Nat) : State := if s.fbState = st then s else (s.wr R.FB_STATE_STATE st).raise 176 t

/-- Branch states. -/
def bsDisabled : Nat := 0
def bsActive : Nat := 1
def bsQuarantined : Nat := 2
def bsLocked : Nat := 3

/-- Whether branch `b` is enabled, and whether it is in use: enabled with its link up (R353, R365). -/
def State.fbEnabled (s : State) (b : Nat) : Bool := (s.rd R.FB_BR_EN_EN).testBit b
def State.fbInUse (s : State) (b : Nat) : Bool := s.fbEnabled b && s.rd R.FB_BR_STAT_LINK b == 1

/-- A branch's state follows its EN bit and its link (R365). -/
def State.fbBranchUse (s : State) (b : Nat) : State :=
  if s.fbInUse b then
    if s.rd R.FB_BR_STAT_STATE b = bsDisabled then (s.wr R.FB_BR_STAT_STATE bsActive b).wr R.FB_BR_STAT_V 0 b else s
  else s.wr R.FB_BR_STAT_STATE bsDisabled b

/-- The link of branch `b` comes up or goes down (R353, R365, R373). -/
def State.fbSetLink (s : State) (b : Nat) (up : Bool) (t : Nat) : State :=
  if s.rd R.FB_BR_STAT_LINK b = (if up then 1 else 0) then s
  else ((s.wr R.FB_BR_STAT_LINK (if up then 1 else 0) b).fbBranchUse b).raise (168 + b) t

/-- BRANCH_LINK_CHANGE: the PHY of a branch that is not enabled is off and has no link (R353). -/
def State.fbLink (s : State) (b : Nat) (up : Bool) (t : Nat) : State := s.fbSetLink b (up && s.fbEnabled b) t

/-- The branches after a change of FB_BR_EN: the PHY of a branch no longer enabled goes off (R353, R365). -/
def State.fbBranches (s : State) (t : Nat) : State :=
  (List.range 8).foldl (fun s b => if s.fbEnabled b then s.fbBranchUse b else (s.fbSetLink b false t).fbBranchUse b) s

/-- A frame leaves every branch in use but `not_` (R354). -/
def State.fbSend (s : State) (not_ : Option Nat) (o : FbOut) : State :=
  let bs := (List.range 8).filter fun b => s.fbInUse b && some b != not_
  { s with fb := { s.fb with out := bs.foldl (fun m b => NMap.put m b o) s.fb.out } }

/-- An entry into QUARANTINED or LOCKED, or a release: event and recorder entry (R365). -/
def State.fbBranchEvent (s : State) (b t : Nat) : State :=
  (s.raise (160 + b) t).record .fb 0x0601 [byte b, byte (s.rd R.FB_BR_STAT_STATE b)] t

/-- BRANCH_RELEASE (R365). -/
def State.fbRelease (s : State) (b t : Nat) : State :=
  let s1 := ((s.setFbBr b { s.fbBr b with left := 0 }).wr R.FB_BR_STAT_V 0 b).wr R.FB_BR_STAT_QUAR_N 0 b
  let s2 := if s.rd R.FB_BR_STAT_STATE b = bsDisabled then s1 else s1.wr R.FB_BR_STAT_STATE bsActive b
  s2.fbBranchEvent b t

/-- The Forme header of a frame of the module (R358). -/
def State.fbHeader (s : State) (kind : Nat) (sync null flag : Bool) (id len : Nat) : List Byte :=
  let flags := (if sync then 1 else 0) + (if null then 2 else 0) + (if s.fbState = fsLockup then 4 else 0) + (if flag then 8 else 0) +
    16 * s.fbSched
  [byte (1 + 16 * kind), byte flags] ++ leBytes id 2 ++ leBytes (s.fbCycle % 65536) 2 ++ leBytes len 2

/-- A whole frame of the module from its MAC header to its FCS: the payload is padded to 40 bytes (R357, R358). -/
def fbFrameBytes (header payload : List Byte) : List Byte :=
  let body := List.replicate 6 (byte 0xFF) ++ (leBytes Config.fbSource.toNat 6).reverse ++ [byte 0x88, byte 0xB5] ++ header ++ payload ++
    List.replicate (40 - payload.length) (byte 0)
  body ++ leBytes (crc32 body).toNat 4

/-- The sync frame of the running cycle, from its Forme header on (R358, R359, R369). It leaves every branch in use. -/
def State.fbSync (s : State) (t : Nat) : State :=
  let c := s.fbCycle
  let ann := s.rd R.FB_SCHED_STAT_PENDING == 1 && decide (s.fb.firstAnn ≤ c ∧ c < s.rd R.FB_SWITCH_AT_CYCLE)
  let next := if ann then s.rd R.FB_SCHED_STAT_TARGET else s.fbSched
  let at_ := if ann then s.rd R.FB_SWITCH_AT_CYCLE else 0
  let tt := if s.ttLocked then s.lg.ttAt t else 2 ^ 64 - 1
  let header := s.fbHeader 0 true false ann 0 16
  let payload := leBytes next 4 ++ leBytes at_ 4 ++ leBytes tt 8
  ({ s with fb := { s.fb with sync := header ++ payload } } : State).fbSend none (.own (fbFrameBytes header payload))

/-- How far the start of the running cycle lies from the nearest whole multiple of CYCLE_LEN of TT, in ns: positive when
it is late (R364). -/
def State.fbOffset (s : State) : Int :=
  let len := s.fbLen s.fbSched * 1000
  let off := if len = 0 then 0 else s.lg.ttAt s.fb.cycleAt % len
  if 2 * off ≤ len then off else (off : Int) - len

/-- What the controller adds to the network idle of the running cycle, in ns (R364). -/
def State.fbIdleAdj (s : State) : Int :=
  if s.rd R.FB_CFG_TT_ALIGN = 1 ∧ s.ttLocked = true then clampInt (-200) 200 (-s.fbOffset) else 0

/-- The instant at which the next cycle starts (R355, R364). -/
def State.fbNextAt (s : State) : Nat := ((s.fb.cycleAt : Int) + s.fbLen s.fbSched * 1000 + s.fbIdleAdj).toNat

/-- FB_SCHED_REQ.LAST codes. -/
def State.fbLast (s : State) (k : Nat) : State := s.wr R.FB_SCHED_STAT_LAST k

/-- Ends the announcement with a LAST code. -/
def State.fbAnnEnd (s : State) (last : Nat) : State :=
  ((s.fbLast last).wr R.FB_SCHED_STAT_PENDING 0).wr R.FB_SWITCH_AT_CYCLE 0

/-- A running announcement is abandoned (R369, R373). -/
def State.fbAbandon (s : State) (t : Nat) : State :=
  if s.rd R.FB_SCHED_STAT_PENDING = 1 then (s.fbAnnEnd 7).raise 178 t else s

/-- The entry into PARKED; a running announcement is abandoned (R366, R369). -/
def State.fbParkNow (s : State) (t : Nat) : State :=
  let s1 : State := { s with fb := { s.fb with park := false, started := false } }
  (s1.fbAbandon t).fbEnter fsParked t

/-- CYCLE_START at `t`, the end of the running cycle: the cycle count, the lock-up cycles left, the alignment to TT and the
sync frame; a controller that is to park does so instead (R355, R359, R364, R366). -/
def State.fbCycleStart (s : State) (t : Nat) : State :=
  if s.fb.started && t != s.fbNextAt then s
  else if s.fb.park then s.fbParkNow t
  else if s.fbState = fsLockup ∨ s.fbState = fsPress then
    let fb1 := { s.fb with started := true, cycleAt := t, dyn := [], own := [], accepted := [], bad := [], fwd := [] }
    let s1 : State := { s with fb := fb1 }
    let s2 := if s.fb.started then s1.wr R.FB_CYCLE_CYCLE (satNat 32 (s.fbCycle + 1)) else s1.wr R.FB_CYCLE_CYCLE 0
    let s3 :=
      if s.fb.started && s.fbState == fsLockup then s2.wr R.FB_STATE_LOCKUP_LEFT (s.rd R.FB_STATE_LOCKUP_LEFT - 1) else s2
    let al := s.rd R.FB_CFG_TT_ALIGN == 1 && s.ttLocked && decide (-200 ≤ s1.fbOffset ∧ s1.fbOffset ≤ 200)
    (s3.wr R.FB_STATE_TT_ALIGNED (if al then 1 else 0)).fbSync t
  else s

/-- LOCKUP_END: after 8 cycles of LOCKUP the controller enters PRESS (R366). -/
def State.fbLockupEnd (s : State) (t : Nat) : State :=
  if s.fbState = fsLockup ∧ s.rd R.FB_STATE_LOCKUP_LEFT = 0 then (s.fbEnter fsPress t).fbSync t else s

/-! ### Dynamic segment (R361) -/

/-- Whether minislot counter `m` falls inside one of the frames. -/
def fbInside (fs : List (Nat × Nat)) (m : Nat) : Bool := fs.any fun f => decide (f.1 < m ∧ m < f.1 + f.2)

/-- The module's own dynamic frames that are sent, in minislot order, given the branches' frames. -/
def fbSentOwn (nm : Nat) (other : List (Nat × Nat)) : List (Nat × Nat × Nat) → List (Nat × Nat) → List Nat
  | [], _ => []
  | (m, k, i) :: r, sent =>
    if fbInside other m || fbInside sent m || decide (nm < m + k - 1) then fbSentOwn nm other r sent
    else i :: fbSentOwn nm other r ((m, k) :: sent)

/-- Inserts by minislot. -/
def fbInsert (x : Nat × Nat × Nat) : List (Nat × Nat × Nat) → List (Nat × Nat × Nat)
  | [] => [x]
  | y :: r => if x.1 < y.1 then x :: y :: r else if x.1 = y.1 then x :: r else y :: fbInsert x r

/-- Whether minislot `m` is busy: a frame of a branch or of the module covers it beyond its start. -/
def State.fbBusy (s : State) (m : Nat) : Bool :=
  let sent := fbSentOwn (s.fbNm s.fbSched) s.fb.dyn s.fb.own []
  fbInside s.fb.dyn m || fbInside ((s.fb.own.filter fun x => sent.contains x.2.2).map fun x => (x.1, x.2.1)) m

/-! ### The star (R362, R363) -/

/-- The outcome of the star's checks. -/
inductive StarOut where
  | quarBlock | outOfSlot | header | overlong | forwarded
  deriving DecidableEq, Repr

/-- The permitted-start window that holds frame start `x` ns for branch `b`: static slot, or minislot counter. -/
def State.fbWindow (s : State) (b x : Nat) : Option (Bool × Nat) :=
  if s.fbState != fsPress then none
  else
    let p := s.fbSched
    let sl := s.fbSlot p * 1000
    let n := if sl = 0 then 0 else x / sl
    if n < s.fbNs p then
      let a := n * sl
      let lo := a + 100 * (s.fbLead p - s.fbG p)
      let hi := a + 100 * (s.fbLead p + s.fbG p)
      if fbOwner (s.fbStatic p n) = b ∧ lo ≤ x ∧ x < hi then some (true, n) else none
    else
      let ml := s.fbMl p * 1000
      let d := x - s.fbNs p * sl
      let m := if ml = 0 then 0 else d / ml + 1
      if 1 ≤ m ∧ m ≤ s.fbNm p then
        let a := (m - 1) * ml
        let lo := a + 100 * (s.fbMlead p - 2)
        let hi := a + 100 * (s.fbMlead p + 2)
        if fbOwner (s.fbDynamic p m) = b ∧ lo ≤ d ∧ d < hi ∧ s.fbBusy m = false then some (false, m) else none
      else none

/-- The permitted end in ns for a window and LEN (R362). -/
def State.fbEnd (s : State) (w : Bool × Nat) (len : Nat) : Nat :=
  let p := s.fbSched
  let sl := s.fbSlot p * 1000
  if w.1 then w.2 * sl + sl - 100 * (s.fbLead p - s.fbG p)
  else s.fbNs p * sl + (w.2 - 1) * (s.fbMl p * 1000) + fbOcc (s.fbMlead p) (s.fbMl p) len * (s.fbMl p * 1000) - 200

/-- The star's checks in their order (R363). -/
def State.starCheck (s : State) (b : Nat) (f : FbFrame) : StarOut :=
  if s.rd R.FB_BR_STAT_STATE b ≠ bsActive then .quarBlock
  else
    match s.fbWindow b f.start with
    | none => .outOfSlot
    | some w =>
      if f.ether ≠ 0x88B5 ∨ f.ver ≠ 1 ∨ f.kind ≠ (if w.1 then 0 else 1) ∨ f.id ≠ (if w.1 then w.2 else 1024 + w.2) then .header
      else if s.fbEnd w f.len ≤ f.stop then .overlong
      else .forwarded

/-- A frame that began in its window goes, whole or cut, to the controller and to every other branch in use; in the dynamic
segment it takes the minislots its LEN gives (R354, R361, R363). -/
def State.fbForward (s : State) (b : Nat) (f : FbFrame) (whole : Bool) : State :=
  match s.fbWindow b f.start with
  | none => s
  | some w =>
    let k := fbOcc (s.fbMlead s.fbSched) (s.fbMl s.fbSched) f.len
    let fb1 := { s.fb with fwd := s.fb.fwd ++ [{ branch := b, frame := f, whole := whole, win := w }],
                           dyn := if w.1 then s.fb.dyn else (w.2, k) :: s.fb.dyn }
    ({ s with fb := fb1 } : State).fbSend (some b) (.node b f whole)

/-- STAR_FRAME_CHECK: the outcome counted, the frame forwarded, blocked or cut, an acknowledgement of a switch noted (R354,
R363, R369). -/
def State.starFrame (s : State) (b : Nat) (f : FbFrame) : State :=
  let viol (s : State) : State := s.setFbBr b { s.fbBr b with viol := true }
  match s.starCheck b f with
  | .quarBlock => s.bump R.FB_BR_VIOL2_QUAR_BLOCK b
  | .outOfSlot => viol (s.bump R.FB_BR_VIOL_OUT_OF_SLOT b)
  | .header => (viol (s.bump R.FB_BR_VIOL_HEADER b)).fbForward b f false
  | .overlong => (viol (s.bump R.FB_BR_VIOL2_OVERLONG b)).fbForward b f false
  | .forwarded =>
    let s1 :=
      if f.switchAck && s.rd R.FB_SCHED_STAT_PENDING == 1 && decide (s.fb.firstAnn ≤ s.fbCycle) then
        s.setBit R.FB_SCHED_STAT_ACKED b true
      else s
    s1.fbForward b f true

/-! ### Quarantine and the network idle (R365, R371) -/

/-- The cycle-end work on one branch. -/
def State.fbBranchIdle (s : State) (b t : Nat) : State :=
  let x := s.fbBr b
  let st := s.rd R.FB_BR_STAT_STATE b
  let th := s.rd R.FB_CFG_QUAR_TH
  let clean := if x.viol then 0 else min 1000 (x.clean + 1)
  let s1 := s.setFbBr b { x with viol := false, clean := clean }
  let s2 := if clean = 1000 then s1.wr R.FB_BR_STAT_QUAR_N 0 b else s1
  if st = bsActive then
    let v := if x.viol then min 15 (s.rd R.FB_BR_STAT_V b + 1) else s.rd R.FB_BR_STAT_V b - 1
    let s3 := s2.wr R.FB_BR_STAT_V v b
    if x.viol && decide (th ≤ v) then
      let n := s3.rd R.FB_BR_STAT_QUAR_N b + 1
      let s4 := (s3.wr R.FB_BR_STAT_QUAR_N (min 15 n) b).bump R.FB_BR_STAT_QUAR_TOTAL b
      let s5 :=
        if 8 ≤ n then (s4.wr R.FB_BR_STAT_STATE bsLocked b).wr R.FB_FLAGS_LOCKED 1
        else ((s4.setFbBr b { s4.fbBr b with left := s.rd R.FB_CFG_QUAR_CYC }).wr R.FB_BR_STAT_STATE bsQuarantined b).wr
          R.FB_FLAGS_QUARANTINE 1
      s5.fbBranchEvent b t
    else s3
  else if st = bsQuarantined then
    if x.left ≤ 1 then
      ((s2.setFbBr b { s2.fbBr b with left := 0 }).wr R.FB_BR_STAT_STATE bsActive b).wr R.FB_BR_STAT_V (th - 1) b
    else s2.setFbBr b { s2.fbBr b with left := x.left - 1 }
  else s2

/-- A dynamic transmit entry after the segment: sent, or NOT_SENT with its count, flag and event (R371). -/
def State.fbDynResult (s : State) (i : Nat) (sent : Bool) (t : Nat) : State :=
  if sent then
    let x := s.fbTx i
    let s1 := ((s.setFbTx i { x with pending := false }).wr R.FB_FRM_STAT_NOT_SENT 0 i).wr R.FB_FRM_STAT_STATUS
      (if s.fbOnCommit i && !x.commits.isEmpty then 1 else 0) i
    s1.fbSend none (.own x.frame)
  else
    (((s.wr R.FB_FRM_STAT_NOT_SENT 1 i).bump R.FB_FRM_STAT_COUNT i).wr R.FB_FLAGS_NOT_SENT 1).raise 179 t

/-- NETWORK_IDLE at `t`. -/
def State.fbIdle (s : State) (t : Nat) : State :=
  if s.fbState = fsLockup ∨ s.fbState = fsPress then
    let sent := fbSentOwn (s.fbNm s.fbSched) s.fb.dyn s.fb.own []
    let s1 := s.fb.own.foldl (fun s x => s.fbDynResult x.2.2 (sent.contains x.2.2) t) s
    let s2 : State := { s1 with fb := { s1.fb with own := [] } }
    (List.range 8).foldl (fun s b => s.fbBranchIdle b t) s2
  else s

/-! ### Transmission (R366, R371) -/

/-- A commit reaches transmit entry `i`: from then on a dynamic frame of ON_COMMIT = 1 is pending (R371). -/
def State.fbCommit (s : State) (i : Nat) (ws : List (Nat × Word)) (t : Nat) : State :=
  let x := s.fbTx i
  let s1 := s.setFbTx i { x with commits := x.commits ++ [{ released := t, words := ws }] }
  match s.fbNamed s.fbSched i with
  | some (false, _, _) => if s.fbOnCommit i then s1.wr R.FB_FRM_STAT_STATUS 1 i else s1
  | _ => s1

/-- Applies the commit sets of a transmit entry released before `t`. -/
def fbApplySets (x : FbTx) (n t : Nat) : FbTx :=
  let due := x.commits.filter fun cs => decide (cs.released < t)
  let q0 := (List.range n).map fun k => x.q.getD k 0
  let q := due.foldl (fun q cs => (List.range n).map fun k => (NMap.look cs.words k).getD (q.getD k 0)) q0
  { x with q := q, commits := x.commits.filter (fun cs => decide (t ≤ cs.released)), pending := x.pending || !due.isEmpty }

/-- FRAME_PREPARATION of transmit entry `i` at `t`: the payload is taken and the frame formed; a static one is sent, a
dynamic entry that is pending takes part in the minislots (R354, R358, R361, R371). -/
def State.fbPrepare (s : State) (i t : Nat) : State :=
  if s.fbState = fsLockup ∨ s.fbState = fsPress then
    match s.fbNamed s.fbSched i with
    | none => s
    | some w =>
      if !s.fbIsTx i then s
      else
        let x := fbApplySets (s.fbTx i) (s.fbBytes i / 4) t
        let null := s.mode != mdRun || s.isSafe || s.fbState == fsLockup || (s.fbLeased && !s.acting)
        let header := s.fbHeader (if w.1 then 0 else 1) false null false (if w.1 then w.2.1 else 1024 + w.2.1) (s.fbBytes i)
        let frame := fbFrameBytes header (x.q.flatMap wordBytes)
        let s1 := s.setFbTx i { x with prepared := x.q, null := null, pending := !w.1 && (x.pending || !s.fbOnCommit i), frame := frame }
        if w.1 then s1.fbSend none (.own frame)
        else if (s1.fbTx i).pending then
          let k := fbOcc (s.fbMlead s.fbSched) (s.fbMl s.fbSched) (s.fbBytes i)
          let s2 : State := { s1 with fb := { s1.fb with own := fbInsert (w.2.1, k, i) s1.fb.own } }
          s2.wr R.FB_FRM_STAT_STATUS 1 i
        else s1.wr R.FB_FRM_STAT_STATUS 0 i
  else s

/-! ### Reception (R372) -/

/-- Delivers the status word, with the payload when there is one, as one sample, and mirrors it. -/
def State.fbDeliver (s : State) (i : Nat) (st : Nat) (cyc missed : Nat) (payload : Option (List Word)) (t : Nat) : State :=
  let w := BitVec.ofNat 32 (st + cyc * 256 + missed * 65536)
  let s1 := ((s.wr R.FB_FRM_STAT_STATUS st i).wr R.FB_FRM_STAT_CYCLE cyc i).wr R.FB_FRM_STAT_COUNT missed i
  match NMap.look s.maps (0x100 + i) with
  | some a => s1.deliverWords a (w :: payload.getD []) t
  | none => s1

/-- The word of the schedule in effect that a window belongs to. -/
def State.fbByWin (s : State) (w : Bool × Nat) : Option (Bool × Nat × Word) :=
  (s.fbWords s.fbSched).find? fun x => x.1 == w.1 && x.2.1 == w.2

/-- FORME_FRAME_ACCEPT of a frame of branch `b` that the star has forwarded to the controller at `t`; its sample is stamped with the
first whole µs after that. One seen and not
accepted shows BAD: a static one at its slot's end, a dynamic one at once (R354, R372, R373). -/
def State.fbAccept (s : State) (b : Nat) (f : FbFrame) (t : Nat) : State :=
  match s.fb.fwd.find? fun x => x.branch == b && x.frame == f with
  | none => s
  | some a =>
    let s0 : State := { s with fb := { s.fb with fwd := s.fb.fwd.erase a } }
    match s0.fbByWin a.win with
    | none => s0
    | some w =>
      let i := fbEntry w.2.2
      if s0.fbIsTx i then s0
      else if a.whole && f.fcs && f.len == s.fbBytes i && f.sched == s.fbSched then
        let s1 : State := { s0 with fb := { s0.fb with accepted := i :: s0.fb.accepted } }
        let s2 := s1.fbDeliver i (if f.null then 2 else 1) (s.fbCycle % 256) 0
          (if f.null then none else some ((List.range (f.len / 4)).map fun k => f.payload.getD k 0)) (usAfter t)
        if s.fbEvEn i then s2.raise (192 + s.fbEv i) t else s2
      else if w.1 then { s0 with fb := { s0.fb with bad := i :: s0.fb.bad } }
      else s0.fbDeliver i 16 (s.rd R.FB_FRM_STAT_CYCLE i) (s.rd R.FB_FRM_STAT_COUNT i) none (usAfter t)

/-- SLOT_END of static slot `n`: MISSING when no frame was accepted in it (R372). -/
def State.fbSlotEnd (s : State) (n t : Nat) : State :=
  if s.fbState != fsPress && s.fbState != fsLockup then s
  else
    match (s.fbWords s.fbSched).find? fun x => x.1 && x.2.1 == n with
    | none => s
    | some w =>
      let i := fbEntry w.2.2
      if s.fbIsTx i || s.fb.accepted.contains i then s
      else
        s.fbDeliver i (4 + (if s.fb.bad.contains i then 16 else 0)) (s.rd R.FB_FRM_STAT_CYCLE i)
          (min 65535 (s.rd R.FB_FRM_STAT_COUNT i + 1)) none t

/-! ### Schedule switch (R368, R369) -/

/-- FB_SCHED_REQ: a request accepted, or refused with its reason. -/
def State.fbRequest (s : State) (target : Nat) : State :=
  if s.fbState ≠ fsPress then s.fbLast 6
  else if s.rd R.FB_SCHED_STAT_PENDING = 1 then s.fbLast 3
  else if s.fbIsUsable target = false then s.fbLast 4
  else if target = s.fbSched then s.fbLast 5
  else
    let first := s.fbCycle + 1
    let s1 : State := { s with fb := { s.fb with firstAnn := first, passed := false } }
    (((s1.wr R.FB_SCHED_STAT_TARGET target).wr R.FB_SCHED_STAT_PENDING 1).wr R.FB_SCHED_STAT_ACKED 0).wr R.FB_SWITCH_AT_CYCLE
      (satNat 32 (first + s.rd R.FB_CFG_ANNOUNCE))

/-- SWITCH_CHECK at the start of cycle c_s - 1. -/
def State.fbSwitchCheck (s : State) (t : Nat) : State :=
  if s.rd R.FB_SCHED_STAT_PENDING = 1 ∧ s.fbCycle + 1 = s.rd R.FB_SWITCH_AT_CYCLE then
    let req := s.fbReq (s.rd R.FB_SCHED_STAT_TARGET)
    if req &&& s.rd R.FB_SCHED_STAT_ACKED = req then { s with fb := { s.fb with passed := true } }
    else (((s.fbAnnEnd 2).wr R.FB_FLAGS_SWITCH_ABORT 1).raise 178 t).fbSync t
  else s

/-- SCHEDULE_SWITCH at the first instant of cycle c_s; the receive entries the new schedule does not name are delivered
ABSENT (R369, R372). -/
def State.fbSwitch (s : State) (t : Nat) : State :=
  if s.rd R.FB_SCHED_STAT_PENDING = 1 ∧ s.fb.passed = true ∧ s.fbCycle = s.rd R.FB_SWITCH_AT_CYCLE then
    let s1 := ((s.fbAnnEnd 1).wr R.FB_STATE_SCHED (s.rd R.FB_SCHED_STAT_TARGET)).raise 177 t
    let new := (s1.fbWords s1.fbSched).map fun x => fbEntry x.2.2
    let gone := (List.range 1024).filter fun i => !s.fbIsTx i && !new.contains i
    let s2 := gone.foldl (fun s i => s.fbDeliver i 8 (s.rd R.FB_FRM_STAT_CYCLE i) (s.rd R.FB_FRM_STAT_COUNT i) none t) s1
    s2.fbSync t
  else s

/-! ### Start, sleep and reset (R366, R374) -/

/-- Enters LOCKUP with cycle count 0. -/
def State.fbLockup (s : State) (t : Nat) : State :=
  let s1 : State := { s with fb := { s.fb with started := false, own := [], dyn := [], accepted := [], bad := [], fwd := [], park := false } }
  ((s1.wr R.FB_CYCLE_CYCLE 0).wr R.FB_STATE_LOCKUP_LEFT 8).fbEnter fsLockup t

/-- The lanes enter SLEEP or HOLDUP: the controller enters PARKED, a running cycle is completed first (R366, R467). -/
def State.fbPark (s : State) (t : Nat) : State :=
  if s.fbState = fsOff ∨ s.fbState = fsParked then s
  else if s.fb.started then { s with fb := { s.fb with park := true } }
  else s.fbParkNow t

/-- Leaving SLEEP enters LOCKUP at once (R366). -/
def State.fbUnpark (s : State) (t : Nat) : State := if s.fbState = fsParked ∨ s.fb.park = true then (s.fbAbandon t).fbLockup t else s

/-- An abandoned SLEEP entry: a cycle that still runs goes on, a parked controller locks up again (R467). -/
def State.fbResume (s : State) (t : Nat) : State :=
  if s.fb.park then { s with fb := { s.fb with park := false } } else s.fbUnpark t

/-- The entry into OFF at a BLOCK reset: a running announcement is abandoned, and LAST shows it after the reset (R366, R369,
R373). -/
def State.fbOff (s : State) (t : Nat) : State := (s.fbAbandon t).fbEnter fsOff t

/-- The load after a reset: FB_CFG and FB_BR_EN clamped, the usable schedules, the start schedule and LOCKUP. -/
def State.fbLoad (s : State) (t : Nat) : State :=
  let w0 := s.tw 0x03308000
  let w1 := s.tw 0x03308004
  let bt := fieldOf (s.tw 0x03308008) 2 0
  let one (s : State) (f : Fld) (w : Word) : State :=
    let v := f.ext w
    let c := f.clamp v
    if c = v then s.wr f v else (s.wr f c).clampCnt .fb
  let br : State := { s with fb := { tx := s.fb.tx.map fun p => (p.1, ({} : FbTx)) } }
  let s1 := one (one (one (one (one br R.FB_CFG_ANNOUNCE w0) R.FB_CFG_QUAR_TH w0) R.FB_CFG_QUAR_CYC w0) R.FB_CFG_TT_ALIGN w0)
    R.FB_BR_EN_EN w1
  let us := (List.range 8).filter fun p => s1.fbUsable p
  let s2 := us.foldl (fun s p => s.setBit R.FB_SCHED_STAT_USABLE p true) (s1.wr R.FB_SCHED_STAT_USABLE 0)
  let s3 := if us.length = 8 then s2 else s2.clampCnt .fb (8 - us.length)
  let long := ((List.range 1024).filter fun i => s.fbLenWord i != s.fbBytes i).length
  let s4 := (if long = 0 then s3 else s3.clampCnt .fb long).fbBranches t
  match us.head? with
  | none => s4
  | some p =>
    let s5 := if us.contains bt then s4.wr R.FB_STATE_SCHED bt else (s4.wr R.FB_STATE_SCHED p).wr R.FB_FLAGS_TABLE_ERR 1
    if s5.resettingAt (blockBase .fb) t then { s5 with fb := { s5.fb with waits := true } } else s5.fbLockup t

/-- FB is ready again after a reset: a page that waits for it enters LOCKUP (R366). -/
def State.fbReady (s : State) (t : Nat) : State :=
  if s.fb.waits && !s.pwDown && !s.resettingAt (blockBase .fb) t then
    State.fbLockup { s with fb := { s.fb with waits := false } } t
  else s

/-- The controller is PARKED when retention is committed: the cycle that ran is completed before (R366, R467). -/
def State.fbParked (s : State) (t : Nat) : State := if s.fb.park then s.fbParkNow t else s

end Sys2Proof.Machine
end

