-- ==== Sys2Proof/Machine/LineGauge.lean ====
section
/-! DEFINITION. The Line Gauge (spec/08_line_gauge.md): train time, wheel sensors, slip, references, phase, class, and
the hit unit with its comparators. Lengths are in 2^-16 mm. -/

namespace Sys2Proof.Machine

/-- Whether the main section works: the lanes run, do not restart, and the module is not in RECOVERY (R198, R505). -/
def State.lgMain (s : State) : Bool := !s.pw.frozen && !s.pw.off && !s.recovering && s.vstate != vsSelftest

/-- What the main section does, where it works. -/
def State.lgDo (s : State) (f : State → State) : State := if s.lgMain then f s else s

/-- Ceiling of a quotient. -/
def ceilDiv (a b : Nat) : Nat := (a + b - 1) / b

/-! ### Train time (R201, R202) -/

/-- TT stops being locked: TT_LOST and EV373 (R202, R230). -/
def State.ttUnlock (s : State) (t : Nat) : State :=
  let s1 : State := { s with lg := { s.lg with lockRun := 0 } }
  if s.ttLocked then ((s1.wr R.LG_TT_LOCKED 0).wr R.LG_FLAGS_TT_LOST 1).raise 373 t else s1

/-- A measurement `o` in ns arrives at LT `t` (R201, R202). -/
def State.ttMeasure (s : State) (o : Int) (t : Nat) : State :=
  let g := s.lg
  let tt := g.ttAt t
  let ofs := clampInt (-0x7FFFFF) 0x7FFFFF o
  let s := s.wr R.LG_TT_LAST_OFS (fromSigned 24 ofs)
  let step := decide ((s.rd R.LG_TT_STEP_THR * 10000 : Nat) ≤ o.natAbs)
  if step then
    let g1 := { g with tt := (((tt : Int) - o) % 2 ^ 64).toNat, ttLt := t, isum := 0, ttStep := g.ttStep - o, lastMeas := some t }
    ({ s with lg := g1 } : State).ttUnlock t
  else
    let isum := g.isum + o
    let rate := match g.lastMeas with
      | none => clampInt (-100000) 100000 (Config.ttFirstRate o)
      | some p =>
        let dt : Int := (t : Int) - p
        clampInt (-100000) 100000 (-(o * 1000000000) / (4 * dt) - (isum * 1000000000) / (64 * dt))
    let low := decide (o.natAbs < s.rd R.LG_TT_LOCK_THR * 100)
    let run := if low then g.lockRun + 1 else 0
    let g1 := { g with tt := tt, ttLt := t, isum := isum, rate := rate, lastMeas := some t, lockRun := run }
    let s1 : State := { s with lg := g1 }
    if s.rd R.LG_TT_UNLOCK_THR * 100 ≤ o.natAbs then s1.ttUnlock t
    else if !s.ttLocked && decide (16 ≤ run) then (s1.wr R.LG_TT_LOCKED 1).raise 372 t
    else s1

/-- 4 s without a measurement (R202). -/
def State.ttTimeout (s : State) (t : Nat) : State :=
  match s.lg.lastMeas with
  | some p => if p + 4000000000 ≤ t then s.ttUnlock t else s
  | none => s

/-! ### Wheel sensors (R203 to R206) -/

def LgState.pair (g : LgState) (k : Nat) : WsPair := if k = 0 then g.pair0 else g.pair1
def LgState.setPair (g : LgState) (k : Nat) (p : WsPair) : LgState :=
  if k = 0 then { g with pair0 := p } else { g with pair1 := p }

/-- The edges of a pair stamped up to `t`, newest first, and the direction of the latest of them. -/
def WsPair.upTo (p : WsPair) (t : Nat) : List (Nat × Bool) := p.edges.filter fun e => decide (e.1 ≤ t)
def WsPair.dirAt (p : WsPair) (t : Nat) : Bool := ((p.upTo t).head?.map (·.2)).getD true

/-- Edge length of pair `k` (R205). -/
def State.edgeLen (s : State) (k : Nat) : Nat := if k = 0 then s.rd R.LG_WS_CAL_0 else s.rd R.LG_WS_CAL_1

def State.wsEnabled (s : State) (k : Nat) : Bool := (s.rd R.LG_WS_EN).testBit k
def State.wsValid (s : State) (k : Nat) : Bool := (s.rd R.LG_POS_WS_VALID).testBit k
def State.wsUsed (s : State) : Nat := s.rd R.LG_POS_USED

/-- Speed of pair `k` at instant `t` from the edges stamped up to `t` (R206); an edge not recorded lies infinitely far
back. -/
def State.wsSpeed (s : State) (k t : Nat) : Nat :=
  match (s.lg.pair k).upTo t with
  | e0 :: _ :: _ :: _ :: e4 :: _ =>
    if e0.1 + 500000000 ≤ t then 0 else 4 * s.edgeLen k * 1000000000 / (e0.1 - e4.1)
  | _ => 0

/-- Signed speed along the forward axis of pair `k` at `t`, with the direction of its latest edge by then. -/
def State.wsVel (s : State) (k t : Nat) : Int :=
  let v : Int := s.wsSpeed k t
  if (s.lg.pair k).dirAt t then v else -v

/-- Whether the directions have been opposite over 16 consecutive edges of each pair (R204). -/
def State.wsOpposed (s : State) : Bool :=
  let a := s.lg.pair0.dirs.take 16
  let b := s.lg.pair1.dirs.take 16
  decide (a.length = 16) && decide (b.length = 16) &&
    ((a.all (· == true) && b.all (· == false)) || (a.all (· == false) && b.all (· == true)))

/-- Whether a cause of R204 holds for pair `k` at `t`. -/
def State.wsBad (s : State) (k t : Nat) : Bool :=
  let p := s.lg.pair k
  !s.wsEnabled k || decide (4 < (p.qerrs.filter fun q => decide (t < q + 1000000000)).length) ||
    decide (64 ≤ p.others) || s.wsOpposed

/-- Makes pair `k` valid or invalid with its flag and event (R204, R230). -/
def State.wsSetValid (s : State) (k : Nat) (v : Bool) (t : Nat) : State :=
  if s.wsValid k == v then s
  else (((s.setBit R.LG_POS_WS_VALID k v).flagIf (!v) R.LG_FLAGS_WS_INVALID)).raise 377 t

/-- Pairs in which a cause holds become invalid; a pair found invalid ends a clean calibration run (R204, R211). -/
def State.wsCheck (s : State) (k t : Nat) : State :=
  if s.wsBad k t then
    let g := s.lg.setPair k { s.lg.pair k with badAt := t }
    ({ s with lg := { g with cal := g.cal.map fun c => { c with clean := false } } } : State).wsSetValid k false t
  else s

/-- A set of the LG block takes effect: a pair enabled by it starts its second without a cause, a pair disabled becomes invalid
(R204). `s0` is the state before. -/
def State.wsApplied (s s0 : State) (t : Nat) : State :=
  [0, 1].foldl (fun s k =>
    let s1 := s.wsCheck k t
    if s.wsEnabled k && !s0.wsEnabled k then { s1 with lg := s1.lg.setPair k { s1.lg.pair k with badAt := t } } else s1) s

/-- No more than 4 QERR stood in any 1 s of the last second: of each five within 1 s, the oldest is 2 s old (R204). -/
def WsPair.quiet (p : WsPair) (t : Nat) : Bool :=
  (p.qerrs.zip (p.qerrs.drop 4)).all fun q => decide (q.2 + 1000000000 ≤ q.1 ∨ q.2 + 2000000000 ≤ t)

/-- PAIR_VALID_RESTORE: 1 s in which no cause held (R204). -/
def State.wsRestore (s : State) (k t : Nat) : State :=
  let p := s.lg.pair k
  if !s.wsBad k t && p.quiet t && decide (p.badAt + 1000000000 ≤ t) then s.wsSetValid k true t else s

/-- Most edges of the history of R212. -/
def maxHistory : Nat := 65536

/-- The movement of a counted edge of the used pair (R205): travel, D with the hold-back after a change of direction,
the edge history. -/
def LgState.move (g : LgState) (fwd : Bool) (e t : Nat) : LgState :=
  let v := if fwd then g.travel + e else g.travel - e
  let turned := fwd != g.fwd
  -- a turn drops what is held and starts to hold anew
  let held := if turned then 1 else if g.heldEdges = 0 then 0 else g.heldEdges + 1
  let len := if turned then e else if g.heldEdges = 0 then 0 else g.heldLen + e
  let d := if held = 0 then g.dist + e else if held = 3 then g.dist + len else g.dist
  { g with travel := v, edgeAt := t, fwd := fwd, vhat := v, dist := d,
           heldEdges := if held = 3 then 0 else held,
           heldLen := if held = 3 then 0 else len,
           history := ((t, v, d) :: g.history).take maxHistory }

/-- The interpolated travel between edges of the used pair (R207). -/
def State.interpolate (s : State) (t : Nat) : Int :=
  let g := s.lg
  let p := g.pair s.wsUsed
  let step : Int := s.wsSpeed s.wsUsed t * (t - g.edgeAt : Nat) / 1000000000
  let e : Int := s.edgeLen s.wsUsed
  let fwd := (p.edges.head?.map (·.2)).getD g.fwd
  clampInt (g.travel - e) (g.travel + e) (if fwd then g.travel + step else g.travel - step)

/-- The main section takes up pair `p` as the used one: the travel goes on from the pair's latest edge; D, which counts the
movement, follows unless edges are held back (R205, R207). -/
def LgState.adopt (g : LgState) (p : WsPair) : LgState :=
  let by_ := if (p.edges.head?.map (·.2)).getD g.fwd then p.at_ - g.travel else g.travel - p.at_
  { g with travel := p.at_, edgeAt := p.since,
           dist := if g.heldEdges = 0 then ((g.dist : Int) + by_).toNat else g.dist }

/-- A counted edge of pair `k` in the running calibration run (R211). -/
def LgState.calEdge (g : LgState) (k : Nat) : LgState :=
  { g with cal := g.cal.map fun c => if k = 0 then { c with n0 := c.n0 + 1 } else { c with n1 := c.n1 + 1 } }

/-- The always-on section counts an edge of the pair used when the main section stopped (R207, R215); a calibration run that goes
on through SLEEP has it among the edges the pair counted (R211). -/
def State.aoEdge (s : State) (k : Nat) (lead : Bool) (t : Nat) : State :=
  if k = s.wsUsed then
    { s with lg := (s.lg.move (xor lead ((s.rd R.LG_WS_INV).testBit k)) (s.edgeLen k) t).calEdge k }
  else s

/-- WHEEL_EDGE: an accepted edge of pair `k` (R203 to R206). `lead` says that A leads B; `both` that A and B changed in
the same accepted sample. -/
def State.wheelEdge (s : State) (k : Nat) (lead both : Bool) (t : Nat) : State :=
  let p := s.lg.pair k
  if !s.lgMain then (if both then s else s.aoEdge k lead t)
  else if both then
    let s1 : State := { s with lg := s.lg.setPair k { p with qerrs := t :: p.qerrs.take 15 } }
    let s2 := if k = 0 then s1.bump R.LG_WS_QERR_CNT_0 else s1.bump R.LG_WS_QERR_CNT_1
    (s2.wr R.LG_FLAGS_QERR 1).wsCheck k t
  else
    let fwd := xor lead ((s.rd R.LG_WS_INV).testBit k)
    let fast := match p.edges with
      | e :: _ => decide (t < e.1 + 4000)
      | [] => false
    -- a cause that this edge ends held until now
    let wasBad := s.wsBad k t
    let o := s.lg.pair (1 - k)
    let oBad := s.wsBad (1 - k) t
    -- the edges of the last 50 ms and the five before them serve the speeds of R206 and R209
    let old := p.edges.filter (fun e => decide (e.1 + 50000000 < t))
    let keep := p.edges.filter (fun e => decide (t ≤ e.1 + 50000000)) ++ old.take 5
    let counted := k = s.wsUsed && s.rd R.LG_POS_SLIP == 0
    let e : Int := s.edgeLen k
    let at_ := if counted then (if fwd then s.lg.travel + e else s.lg.travel - e)
      else if s.rd R.LG_POS_SLIP = 0 then s.interpolate t else s.lg.vhat
    let p1 := { p with edges := (t, fwd) :: keep, dirs := fwd :: p.dirs.take 15, others := 0,
                       badAt := if wasBad then t else p.badAt, at_ := at_, since := t }
    let o1 := { o with others := o.others + 1, badAt := if oBad then t else o.badAt }
    let g := (s.lg.setPair k p1).setPair (1 - k) o1
    let g := g.calEdge k
    let g := if counted then g.move fwd (s.edgeLen k) t else g
    let s1 := ({ s with lg := g } : State).flagIf fast R.LG_FLAGS_OVERSPEED
    let s2 := (s1.wsCheck k t).wsCheck (1 - k) t
    if s2.rd R.LG_POS_STANDSTILL = 1 then (s2.wr R.LG_POS_STANDSTILL 0).raise 383 t else s2

/-- STANDSTILL_ENTRY: both pairs have speed 0 (R206). -/
def State.standstill (s : State) (t : Nat) : State :=
  if s.rd R.LG_POS_STANDSTILL = 0 && s.wsSpeed 0 t == 0 && s.wsSpeed 1 t == 0 then
    (s.wr R.LG_POS_STANDSTILL 1).raise 382 t
  else s

/-! ### Acceleration and slip (R208 to R210) -/

/-- dv/dt of pair `k` over the last 50 ms, in 2^-16 mm/s² (R209). -/
def State.wsAccel (s : State) (k t : Nat) : Int := (s.wsVel k t - s.wsVel k (t - 50000000)) * 20

/-- a_raw of an accelerometer reading in mm/s², within the measuring range of ±2 g (R208, R520). -/
def State.axisOf (s : State) (x y z : Int) : Int :=
  let a := clampInt (-19613) 19613 (if s.rd R.LG_SLIP_AXIS = 0 then x else if s.rd R.LG_SLIP_AXIS = 1 then y else z)
  if s.rd R.LG_SLIP_SIGN = 1 then -a else a

/-- The compensated acceleration a (R208). -/
def LgState.accel (g : LgState) : Int := g.aRaw - g.gAcc / 10000

/-- ACCEL_SAMPLE: the 1 ms reading, with the running mean of g_ofs updated while SLIP is 0 (R208). -/
def State.accelSample (s : State) (x y z : Int) (t : Nat) : State :=
  let a := s.axisOf x y z * 65536
  let g := { s.lg with aRaw := a }
  let g := if s.rd R.LG_POS_SLIP = 0 then
      { g with gAcc := g.gAcc + (a - s.wsAccel s.wsUsed t) - g.gAcc / 10000 } else g
  { s with lg := g }

/-- The three conditions of R209 at `t`. -/
def State.slipCond (s : State) (t : Nat) : Bool :=
  let v0 := s.wsVel 0 t
  let v1 := s.wsVel 1 t
  let vu := s.wsSpeed s.wsUsed t
  let c1 := s.wsValid 0 && s.wsValid 1 &&
    decide (s.rd R.LG_SLIP_DV_ABS * 65536 + vu * s.rd R.LG_SLIP_DV_REL / 65536 < (v0 - v1).natAbs)
  let lim := s.rd R.LG_SLIP_DA_LIM * 10 * 65536
  let off := fun k => s.wsValid k && decide (lim < (s.wsAccel k t - s.lg.accel).natAbs)
  c1 || off 0 || off 1 || (!s.wsValid 0 && !s.wsValid 1)

/-- The slip flag's onset (R209, R210). -/
def State.slipOnset (s : State) (t : Nat) : State :=
  let g := s.lg
  let g1 := { g with slipOn := t, vEst := s.wsVel s.wsUsed t * 1000000, slipAcc := 0, slipBase := g.vhat,
                     cal := g.cal.map fun c => { c with clean := false } }
  ((({ s with lg := g1 } : State).wr R.LG_POS_SLIP 1).wr R.LG_FLAGS_SLIP_SEEN 1).raise 370 t

/-- The travel under slip for one tick: v_est × 1 µs, with D and SLIP_ERR (R210). -/
def State.slipAdvance (s : State) : State :=
  let g := s.lg
  let ve := g.vEst + g.accel
  let acc := g.slipAcc + ve
  let v := g.slipBase + acc / 1000000000000
  let d := (v - g.vhat).natAbs
  { s with lg := { g with vEst := ve, slipAcc := acc, vhat := v, travel := v, dist := g.dist + d,
                          slipErr := g.slipErr + d * s.rd R.LG_SLIP_SLIP_RATE } }

/-- The counting goes on from the travel under slip with the next edge of each pair (R210). -/
def LgState.slipEnd (g : LgState) (t : Nat) : LgState :=
  let fix (p : WsPair) : WsPair := { p with at_ := g.vhat, since := t }
  { g with travel := g.vhat, edgeAt := t, pair0 := fix g.pair0, pair1 := fix g.pair1 }

/-- SLIP_CLEAR: 200 ms in which none of the conditions held (R209). -/
def State.slipClear (s : State) (t : Nat) : State :=
  if s.rd R.LG_POS_SLIP = 1 && decide (s.lg.slipHeld + 200000000 ≤ t) then
    (({ s with lg := s.lg.slipEnd t } : State).wr R.LG_POS_SLIP 0).raise 371 t
  else s

/-- D's quality becomes REDUCED (R210, R216). -/
def State.dqReduce (s : State) (t : Nat) : State :=
  let s1 := s.wr R.LG_FLAGS_DQ_REDUCED 1
  if s.rd R.LG_POS_DQ_REDUCED = 0 then (s1.wr R.LG_POS_DQ_REDUCED 1).raise 381 t else s1

/-- Whether SLIP has been 1 for longer than SLIP_MAX seconds. -/
def State.slipLong (s : State) (t : Nat) : Bool :=
  s.rd R.LG_POS_SLIP == 1 && decide (s.lg.slipOn + s.rd R.LG_SLIP_SLIP_MAX * 1000000000 < t)

/-- SLIP_MAX_EXPIRY (R210). -/
def State.slipMax (s : State) (t : Nat) : State := if s.slipLong t then s.dqReduce t else s

/-- D's quality becomes FULL when no cause is present (R212). -/
def State.dqRestore (s : State) (t : Nat) : State :=
  if s.slipLong t || s.rd R.LG_POS_AO_LOST == 1 then s else s.wr R.LG_POS_DQ_REDUCED 0

/-! ### Position (R205, R207, R213, R214) -/

/-- The orientation s of R212. -/
def State.orient (s : State) : Int := if s.rd R.LG_POS_ORIENT = 0 then 1 else -1

/-- P in 2^-16 mm, a signed quantity of 48 bits of whole mm (R24), and in whole mm, rounded toward minus infinity. -/
def State.pos16 (s : State) : Int := toSigned 64 (fromSigned 64 (s.lg.pBase + s.orient * s.lg.vhat))
def State.posMm (s : State) : Int := s.pos16 / 65536

/-- The used pair at a tick (R207). -/
def State.chooseUsed (s : State) (t : Nat) : Nat :=
  let u := s.wsUsed
  if s.wsValid 0 && s.wsValid 1 then
    let v0 := s.wsSpeed 0 t
    let v1 := s.wsSpeed 1 t
    if v0 = v1 then u
    else if 0 ≤ s.lg.accel then (if v0 < v1 then 0 else 1) else (if v0 < v1 then 1 else 0)
  else if s.wsValid 0 then 0 else if s.wsValid 1 then 1 else u

/-- Travel, D and USED at a tick (R205, R207, R210). -/
def State.travelTick (s : State) (t : Nat) : State :=
  let u := s.chooseUsed t
  let s := if s.rd R.LG_POS_SLIP = 1 then (s.wr R.LG_POS_USED u).slipAdvance
    else
      let s1 := ({ s with lg := s.lg.adopt (s.lg.pair u) } : State).wr R.LG_POS_USED u
      { s1 with lg := { s1.lg with vhat := s1.interpolate t } }
  let g := s.lg
  let d := g.dist + (if s.rd R.LG_POS_SLIP = 0 && g.heldEdges == 0 then (g.vhat - g.travel).natAbs else 0)
  { s with lg := { g with dRead := max g.dRead d } }

/-- The bound of R214 in mm. -/
def State.posErr (s : State) : Nat :=
  if s.rd R.LG_POS_REFERENCED = 0 then 0xFFFFFFFF
  else
    let dd := s.lg.dRead - s.lg.dAtRef
    min 0xFFFFFFFF (s.lg.eRef + ceilDiv (dd * s.rd R.LG_WS_CAL_TOL) (2 ^ 32) + ceilDiv (s.edgeLen s.wsUsed) 65536 +
      ceilDiv s.lg.slipErr (2 ^ 32))

/-- SPEED in mm/s, signed along increasing P when P is referenced (R207). -/
def State.speedNow (s : State) (t : Nat) : Int :=
  let v := s.wsVel s.wsUsed t / 65536
  if s.rd R.LG_POS_REFERENCED = 1 then s.orient * v else v

/-- Writes P, D, the bound and the speed into their registers. -/
def State.posRegs (s : State) (t : Nat) : State :=
  let p := fromSigned 64 (s.posMm)
  let d := s.lg.dRead / 65536 % 2 ^ 48
  ((((((s.wr R.LG_POS_P_LO (p % 2 ^ 32)).wr R.LG_POS_P_HI (p / 2 ^ 32)).wr R.LG_POS_D_LO (d % 2 ^ 32)).wr R.LG_POS_D_HI
    (d / 2 ^ 32)).wr R.LG_POS_ERR s.posErr).wr R.LG_POS_SPEED (fromSigned 32 (s.speedNow t)))

/-! ### References and calibration (R211, R212) -/

/-- REF_STAT.LAST codes. -/
def rfAccepted : Nat := 1
def rfOld : Nat := 2
def rfStep : Nat := 3
def rfDir : Nat := 4
def rfTt : Nat := 5

/-- A quantity of the edges, such as the signed travel, at stamp `t`, interpolated between the two edges around it (R212); none when
the history does not reach back to it. `now` is the present tick and value. DESIGN CHOICE (log entry 88): a stamp before the first
edge the history holds is older than the history, also where the train has not moved since. -/
def travelAt (hist : List (Nat × Int)) (nowT : Nat) (nowV : Int) (t : Nat) : Option Int :=
  match hist with
  | [] => if nowT ≤ t then some nowV else none
  | (e, v) :: rest =>
    if e ≤ t then
      if nowT ≤ e then some v else some (v + (nowV - v) * ((t - e : Nat) : Int) / ((nowT - e : Nat) : Int))
    else travelAt rest e v t

/-- A rejected reference (R212). -/
def State.refReject (s : State) (code t : Nat) : State :=
  ((s.wr R.LG_REF_LAST code).wr R.LG_FLAGS_REF_REJ 1).raise 369 t

/-- One pair's calibration at the end of a clean run (R211). -/
def State.calibrate (s : State) (k n e dp eSum t : Nat) : State :=
  if n = 0 then s
  else
    let new := dp * 65536 / n
    let s1 :=
      if 97 * e ≤ 100 * new ∧ 100 * new ≤ 103 * e then
        (if k = 0 then s.wr R.LG_WS_CAL_0 new else s.wr R.LG_WS_CAL_1 new).wr R.LG_WS_CAL_TOL (ceilDiv (eSum * 65536) dp)
      else s.wr R.LG_FLAGS_CAL_REJ 1
    s1.raise 380 t

/-- An accepted CAL reference closes the running calibration run and opens the next one (R211). -/
def State.calReference (s : State) (pRef : Int) (eRef t : Nat) : State :=
  let s1 := match s.lg.cal with
    | none => s
    | some c =>
      let dp := (pRef - c.pRef).natAbs
      if s.rd R.LG_WS_AUTO_CAL = 1 && c.clean && decide (1000000 ≤ dp) then
        (s.calibrate 0 c.n0 (s.edgeLen 0) dp (c.eRef + eRef) t).calibrate 1 c.n1 (s.edgeLen 1) dp (c.eRef + eRef) t
      else s
  let clean := s1.rd R.LG_POS_SLIP == 0 && s1.wsValid 0 && s1.wsValid 1
  { s1 with lg := { s1.lg with cal := some { pRef := pRef, eRef := eRef, clean := clean } } }

/-- The reference registers as they are taken at APPLY_REF: the shadows become the values in effect (R212). -/
def State.refTake (s : State) : State :=
  let take := fun (rf : RegFile) (a : Nat) =>
    { rf with eff := Cells.set rf.eff a (rf.shadowWord a), shadow := rf.shadow.filter (fun c => c.1 != a) }
  { s with rf := ([R.LG_REF_POS_LO.base, R.LG_REF_POS_HI.base, R.LG_REF_STAMP.base, R.LG_REF_E_REF.base].foldl take s.rf) }

/-- The line reference is applied at tick `t` (R212). ΔD of R214 counts from D at the stamp. DESIGN CHOICE (log entry 89): the age of
a stamp in TT is taken as its age in LT, in which the edges are stamped. -/
def State.applyRef (s0 : State) (t : Nat) : State :=
  let s : State := { s0.refTake with lg := { s0.lg with applyReq := false } }
  let pRef := toSigned 48 (s.rd R.LG_REF_POS_LO + s.rd R.LG_REF_POS_HI * 2 ^ 32)
  let tb := s.rd R.LG_REF_TB = 1
  let stampUs := s.rd R.LG_REF_STAMP
  let nowUs := if tb then s.lg.ttAt t / 1000 else t / 1000
  let age := sdiff nowUs stampUs 32
  let sgn : Int := if s.rd R.LG_REF_DIR = 0 then 1 else -1
  let refd := s.rd R.LG_POS_REFERENCED = 1
  let force := s.rd R.LG_REF_FORCE = 1
  if tb ∧ !s.ttLocked then s.refReject rfTt t
  else if age < 0 ∨ 2000000 ≤ age then s.refReject rfOld t
  else
    let at_ := t / 1000 * 1000 - age.toNat * 1000
    match travelAt (s.lg.history.map fun h => (h.1, h.2.1)) t s.lg.vhat at_ with
    | none => s.refReject rfOld t
    | some vr =>
      let pNew := pRef * 65536 + sgn * (s.lg.vhat - vr)
      if refd ∧ !force ∧ sgn ≠ s.orient then s.refReject rfDir t
      else if refd ∧ !force ∧ s.rd R.LG_REF_STEP_MAX * 100 * 65536 < (pNew - s.pos16).natAbs then s.refReject rfStep t
      else
        let dRef := ((travelAt (s.lg.history.map fun h => (h.1, (h.2.2 : Int))) t s.lg.dRead at_).getD s.lg.dRead).toNat
        let g := { s.lg with pBase := pNew - sgn * s.lg.vhat, refStamp := stampUs, eRef := s.rd R.LG_REF_E_REF,
                             slipErr := 0, dAtRef := dRef }
        let s1 := ((({ s with lg := g } : State).wr R.LG_POS_ORIENT (if sgn = 1 then 0 else 1)).wr R.LG_POS_REFERENCED 1).wr
          R.LG_POS_AO_LOST 0
        let s2 := ((s1.wr R.LG_REF_LAST rfAccepted).bump R.LG_REF_ACCEPT_CNT).raise 368 t
        let s3 := if s.rd R.LG_REF_KIND = 1 then s2.calReference pRef (s.rd R.LG_REF_E_REF) t else s2
        s3.dqRestore t

/-! ### Catenary phase (R217 to R219) -/

/-- Mean of the recorded crossing intervals in ns. -/
def LgState.period (g : LgState) : Nat := if g.intervals.isEmpty then 0 else g.intervals.sum / g.intervals.length

/-- Φ with 32 fractional bits at LT `t` (R218). -/
def LgState.phiNow (g : LgState) (t : Nat) : Nat := (g.phi + g.phiRate * (t - g.phiAt) / 1000) % 2 ^ 48

/-- Whether four intervals lie within 3 % of their mean and correspond to 10 Hz to 70 Hz (R218). -/
def stableFour (is : List Nat) : Bool :=
  let f := is.take 4
  let sum := f.sum
  decide (f.length = 4) && f.all fun i =>
    decide ((4 * i * 100 : Int) - 100 * sum ≤ 3 * sum ∧ (100 * sum : Int) - 4 * i * 100 ≤ 3 * sum) &&
      decide (i ≤ 100000000 ∧ 1000000000 ≤ 70 * i)

/-- PHASE_CROSSING: a positive crossing at LT `t` (R217, R218). -/
def State.phaseCrossing (s : State) (t : Nat) : State :=
  let g := s.lg
  let ivs := match g.lastCross with
    | some p => ((t - p) :: g.intervals).take 8
    | none => g.intervals
  let g1 := { g with lastCross := some t, intervals := ivs }
  let T := g1.period
  let s1 : State := { s with lg := g1 }
  if T = 0 then s1
  else
    let s2 := s1.wr R.LG_PH_FREQ ((2 * 1000000000000 + T) / (2 * T))
    let r0 : Nat := 65536000 * 2 ^ 32 / T
    let ofs : Nat := s.rd R.LG_PH_OFS * 2 ^ 32
    if s.rd R.LG_PH_PRESENT = 1 then
      let phi := g.phiNow t
      let eps := sdiff phi ofs 48
      let want : Int := (r0 : Int) - eps * 1000 / T
      let lim : Int := (g.phiRate : Int) * 2 / 100
      let rate := clampInt (g.phiRate - lim) (g.phiRate + lim) want
      { s2 with lg := { g1 with phi := phi, phiAt := t, phiRate := rate.toNat } }
    else if stableFour ivs then
      (({ s2 with lg := { g1 with phi := ofs, phiAt := t, phiRate := r0 } } : State).wr R.LG_PH_PRESENT 1).raise 374 t
    else s2

/-- PHASE_LOST: no crossing within 1.5 × T (R218). -/
def State.phaseLost (s : State) (t : Nat) : State :=
  match s.lg.lastCross with
  | none => s
  | some p =>
    if s.rd R.LG_PH_PRESENT = 1 && decide (2 * p + 3 * s.lg.period ≤ 2 * t) then
      let g := { s.lg with phi := s.lg.phiNow t, phiAt := t, phiRate := 0, lastCross := none, intervals := [] }
      ((({ s with lg := g } : State).wr R.LG_PH_PRESENT 0).wr R.LG_FLAGS_PH_LOST 1).raise 375 t
    else s

/-- The class of R219 from U_ac and U_dc in mV of catenary, the number of crossings and the frequency in mHz. -/
def lineClass (uac udc n f : Nat) : Nat :=
  if uac < 500000 ∧ udc < 500000 then 0
  else if 3 ≤ n ∧ 15500 ≤ f ∧ f < 18000 ∧ 11000000 ≤ uac ∧ uac < 18000000 then 3
  else if 3 ≤ n ∧ 47000 ≤ f ∧ f < 53000 ∧ 17500000 ≤ uac ∧ uac < 29000000 then 4
  else if n < 3 ∧ 1000000 ≤ udc ∧ udc < 1950000 then 1
  else if n < 3 ∧ 2000000 ≤ udc ∧ udc < 3900000 then 2
  else 7

/-- The end of the measuring range of the phase input in mV (R519). -/
def phaseRange : Nat := 200000

/-- CLASS_EVALUATION: the evaluation every 10 ms over the last 250 ms (R219). `uac` and `udc` are the RMS about the mean and
the magnitude of the mean in mV at the input, within its measuring range (R519), which SCALE turns into catenary voltages (R217). -/
def State.classEval (s : State) (uac udc n t : Nat) : State :=
  let k := s.rd R.LG_PH_SCALE
  let c := lineClass (min uac phaseRange * k) (min udc phaseRange * k) n (s.rd R.LG_PH_FREQ)
  let run := if c = s.rd R.LG_PH_EVAL then s.lg.classRun + 1 else 1
  let s1 := ({ s with lg := { s.lg with classRun := run } } : State).wr R.LG_PH_EVAL c
  if s.rd R.LG_PH_CONFIRM ≤ run ∧ c ≠ s.rd R.LG_PH_CLASS then (s1.wr R.LG_PH_CLASS c).raise 376 t else s1

/-! ### Comparators (R221 to R225) -/

/-- Fields of an arm record (R149). -/
def recQty (w : List Word) : Nat := fieldOf (w.getD 0 0) 2 0
def recDir (w : List Word) : Nat := fieldOf (w.getD 0 0) 5 4
def recAction (w : List Word) : Nat := fieldOf (w.getD 0 0) 10 8
def recBack (w : List Word) : Bool := (w.getD 0 0).getLsbD 11
def recArg (w : List Word) : Nat := fieldOf (w.getD 0 0) 20 12
def recTarget (w : List Word) : Nat := (w.getD 1 0).toNat + fieldOf (w.getD 2 0) 15 0 * 2 ^ 32
def recPulse (w : List Word) : Nat := fieldOf (w.getD 2 0) 31 16
def recBackLt (w : List Word) : Nat := (w.getD 3 0).toNat

/-- Makes comparator `n` IDLE in every lane bank: its record reads 0 (R225, R227). -/
def Lane.cmpIdle (l : Lane) (n : Nat) : Lane :=
  let l1 := (List.range 4).foldl (fun l k => l.wr R.LG_CMP_REC_WORDk 0 n k) l
  l1.wr R.LG_CMP_STAT_STATE 0 n

/-- An arm in the lane bank: the record, STATE, and BEHIND, LATE and LAST_HIT cleared (R221). -/
def Lane.cmpArm (l : Lane) (n : Nat) (w : List Word) : Lane :=
  let l1 := (List.range 4).foldl (fun l k => l.wr R.LG_CMP_REC_WORDk (w.getD k 0).toNat n k) l
  (((l1.wr R.LG_CMP_STAT_STATE 1 n).wr R.LG_CMP_STAT_BEHIND 0 n).wr R.LG_CMP_STAT_LATE 0 n).wr R.LG_CMP_STAT_LAST_HIT 0 n

/-- Sets REV_PASS of comparator `n` (R223). -/
def Lane.cmpRev (l : Lane) (n : Nat) : Lane :=
  (l.wr R.LG_CMP_STAT_REV_PASS 1 n).wr R.LG_REV_PASS_REV (l.rd R.LG_REV_PASS_REV (n / 32) ||| 2 ^ (n % 32)) (n / 32)

/-- Every comparator becomes IDLE, and arms not yet applied are dropped (R227). -/
def State.cmpAllIdle (s : State) : State :=
  let ns := s.lg.cmp.map (·.1)
  ({ s with lg := { s.lg with cmp := [], arms := [] } } : State).onLanes
    (fun l => ns.foldl (fun l n => l.cmpIdle n) l)

/-- The quantities of one tick as the hit unit sees them. -/
structure TickView where
  t : Nat
  lt : Nat
  tt : Nat
  /-- TT as it would read without the steps since the previous tick. -/
  ttNoStep : Nat
  ttOk : Bool
  p : Int
  /-- P as it would read without the reference applied at this tick. -/
  pNoRef : Int
  pOk : Bool
  d : Nat
  phi : Nat
  prevPhi : Nat
  phOk : Bool
  prevPhOk : Bool
  deriving DecidableEq, Repr

/-- Whether the comparator's quantity is valid at the tick (R222). -/
def TickView.valid (v : TickView) (qty : Nat) : Bool :=
  if qty = 1 then v.ttOk else if qty = 2 then v.pOk else if qty = 4 then v.phOk else true

/-- A phase crossing of angle `a` (R220). -/
def TickView.crosses (v : TickView) (a : Nat) : Bool :=
  v.phOk && v.prevPhOk && decide (sdiff v.prevPhi a 16 < 0) && decide (0 ≤ sdiff v.phi a 16)

/-- What the evaluation of an armed comparator at a tick finds: the comparator, whether REV_PASS and BEHIND are set
(R222 to R224). A TT step unlocks TT, so that a comparator whose target it passes fires when TT is locked again. -/
def HitCmp.eval (c : HitCmp) (v : TickView) : HitCmp × Bool × Bool :=
  let w := c.words
  let qty := recQty w
  let tgt := recTarget w
  let back := recBack w && reached v.lt (recBackLt w) 32
  let stepped := qty == 1 && reached v.tt tgt 32 && (c.stepped || !reached v.ttNoStep tgt 32)
  if c.due.isSome then (c, false, false)
  else if !v.valid qty then
    let c1 := { c with hold := true, side := none, stepped := stepped }
    (if back then { c1 with due := some (2, false, v.t) } else c1, false, false)
  else
    let c1 := { c with hold := false, fresh := false, stepped := stepped }
    if qty = 2 then
      let up := decide (0 ≤ sdiff v.p tgt 48)
      let dir := recDir w
      let c2 := { c1 with side := some up }
      let byBack := fun (c : HitCmp) => if back then { c with due := some (2, false, v.t) } else c
      match c.side with
      | none => (byBack c2, false, (dir == 0 && up) || (dir == 1 && !up))
      | some was =>
        if was == up then (byBack c2, false, false)
        else if dir == 2 || (dir == 0 && up) || (dir == 1 && !up) then
          let noRef := decide (0 ≤ sdiff v.pNoRef tgt 48)
          ({ c2 with due := some (if noRef == was then 3 else 1, false, v.t) }, false, false)
        else (byBack c2, true, false)
    else if qty = 4 then
      let hit := !c.fresh && v.crosses (tgt % 65536)
      (if hit then { c1 with due := some (1, false, v.t) } else c1, false, false)
    else
      let hit := if qty = 0 then reached v.lt tgt 32 else if qty = 1 then reached v.tt tgt 32 else reached v.d tgt 48
      if hit then ({ c1 with due := some (if stepped then 3 else 1, c.fresh, v.t) }, false, false)
      else (if back then { c1 with due := some (2, false, v.t) } else c1, false, false)

/-- Evaluates comparator `n` at a tick and shows its state in the lane banks. -/
def State.cmpTick (v : TickView) (s : State) (n : Nat) : State :=
  match NMap.look s.lg.cmp n with
  | none => s
  | some c =>
    let r := c.eval v
    let s1 : State := { s with lg := { s.lg with cmp := NMap.put s.lg.cmp n r.1 } }
    let s2 := s1.lwr R.LG_CMP_STAT_STATE (if r.1.hold then 2 else 1) n
    let s3 := if r.2.2 then s2.lwr R.LG_CMP_STAT_BEHIND 1 n else s2
    if r.2.1 then (s3.onLanes (fun l => l.cmpRev n)).raise 378 v.t else s3

/-- A phase crossing of their ANGLE releases PHASE tasks, one in every DIVIDER + 1 (R155, R220). -/
def Lane.phaseTasks (l : Lane) (ph : Phase) (v : TickView) : Lane :=
  l.used.foldl (fun l n =>
    if l.tkKind n == kPhase && v.crosses (l.tkAngle n) then
      let k := l.task n
      let c := k.crossings + 1
      let l1 := l.setTask n { k with crossings := c }
      if c % (l.tkDivider n + 1) == 0 then (l1.releaseOwn ph n v.t).1 else l1
    else l) l

/-- The sample of the tick (R199, R136). -/
def State.gaugeSample (s : State) (t : Nat) : GaugeSample :=
  { stamp := t, tt := s.lg.ttAt t, ttLocked := s.ttLocked, p := s.posMm, pRef := s.rd R.LG_POS_REFERENCED == 1,
    d := s.lg.dRead / 65536 % 2 ^ 48, dFull := s.rd R.LG_POS_DQ_REDUCED == 0, phi := s.lg.phiNow t / 2 ^ 32,
    phPresent := s.rd R.LG_PH_PRESENT == 1, speed := s.speedNow t }

/-- A gauge sample reaches a lane. -/
def Lane.putGauge (l : Lane) (g : GaugeSample) : Lane :=
  { l with gauge := g, gaugePrev := if l.gauge.stamp < g.stamp then l.gauge else l.gaugePrev }

/-- GAUGE_TICK at the whole µs `t` (R199): TT, Φ, P and D are formed, slip is judged, a requested reference is applied,
the armed comparators are evaluated and the sample is delivered. -/
def State.gaugeTick (s : State) (t : Nat) : State :=
  if !s.lgMain then s
  else
    let s1 := s.travelTick t
    let cond := s1.slipCond t
    let s2 : State := { s1 with lg := { s1.lg with slipHeld := if cond then t else s1.lg.slipHeld } }
    let s3 := if cond && s2.rd R.LG_POS_SLIP == 0 then s2.slipOnset t else s2
    let pNoRef := s3.posMm
    let s4 := if s3.lg.applyReq then s3.applyRef t else s3
    let tt := s4.lg.ttAt t
    let phi := s4.lg.phiNow t / 2 ^ 32
    let s5 := (((s4.posRegs t).wr R.LG_TT_TT_LO (tt % 2 ^ 32)).wr R.LG_TT_TT_HI (tt / 2 ^ 32)).wr R.LG_PH_PHI phi
    let g := s5.lg
    let v : TickView := {
      t := t, lt := t / 1000, tt := tt / 1000, ttNoStep := (((tt : Int) - g.ttStep) % 2 ^ 64).toNat / 1000,
      ttOk := s5.ttLocked, p := s5.posMm, pNoRef := pNoRef, pOk := s5.rd R.LG_POS_REFERENCED == 1,
      d := g.dRead / 65536 % 2 ^ 48, phi := phi, prevPhi := g.prevPhi, phOk := s5.rd R.LG_PH_PRESENT == 1,
      prevPhOk := g.prevPresent }
    let s6 := (g.cmp.map (·.1)).foldl (State.cmpTick v) s5
    let ph := s6.phase
    let smp := s6.gaugeSample t
    let s7 := s6.onLanes (fun l => (l.putGauge smp).phaseTasks ph v)
    { s7 with lg := { s7.lg with prevPhi := phi, prevPresent := v.phOk, ttStep := 0, lastTick := t } }

/-- COMPARATOR_ARM_APPLY at tick `t`: the arrivals released at least 1 µs before are applied in release order
(R221). -/
def State.armsApply (s : State) (t : Nat) : State :=
  let ripe := s.lg.arms.filter (fun a => decide (a.1 + 1000 ≤ t))
  let rest := s.lg.arms.filter (fun a => !decide (a.1 + 1000 ≤ t))
  ripe.foldl (fun s a =>
    match a.2.2 with
    | some w =>
      ({ s with lg := { s.lg with cmp := NMap.put s.lg.cmp a.2.1 { words := w } } } : State).onLanes
        (fun l => l.cmpArm a.2.1 w)
    | none =>
      ({ s with lg := { s.lg with cmp := NMap.del s.lg.cmp a.2.1 } } : State).onLanes (fun l => l.cmpIdle a.2.1))
    { s with lg := { s.lg with arms := rest } }

/-- COMPARATOR_FIRE: comparator `n`, whose condition a tick found met, becomes IDLE and performs its action with the
tick's stamp (R222 to R225). -/
def State.cmpFire (s : State) (n : Nat) : State :=
  match NMap.look s.lg.cmp n with
  | none => s
  | some c =>
    match c.due with
    | none => s
    | some (last, late, t) =>
      let w := c.words
      let s1 : State := { s with lg := { s.lg with cmp := NMap.del s.lg.cmp n } }
      let s2 := s1.onLanes fun l =>
        let l1 := ((l.cmpIdle n).bump R.LG_CMP_STAT_HIT_CNT n).wr R.LG_CMP_STAT_LAST_HIT last n
        if late then l1.wr R.LG_CMP_STAT_LATE 1 n else l1
      let s3 := if last = 2 then s2.raise 379 t else s2
      let ph := s3.phase
      if recAction w = 0 then s3.onLanes (fun l => (l.releaseBy ph (recArg w) t).1)
      else if recAction w = 1 then s3.raise (recArg w) t
      else
        { s3 with lg := { s3.lg with switches := s3.lg.switches ++
          [{ fired := t, channel := recArg w, pulse := recAction w == 2, value := recPulse w }] } }

/-! ### Starts and resets (R215, R216, R227, R231) -/

/-- The configuration words of the LG table in their order (R231): register address and table offset. -/
def lgTable : List (Nat × Nat) :=
  [(R.LG_TT_STEP_THR.base, 0), (R.LG_WS_CAL_0.base, 4), (R.LG_WS_CAL_1.base, 8), (R.LG_WS_CAL_TOL.base, 12),
   (R.LG_SLIP_DA_LIM.base, 16), (R.LG_SLIP_SLIP_MAX.base, 20), (R.LG_SLIP_SIGN.base, 24), (R.LG_PH_CONFIRM.base, 28),
   (R.LG_PH_OFS.base, 32)]

/-- The main section stops: P and D stand as they read, and the always-on section counts on from them (R198, R215). -/
def State.lgStop (s : State) : State :=
  if s.lg.aoFrom.isSome then s
  else
    let d := if s.lg.heldEdges = 0 then max s.lg.dist s.lg.dRead else s.lg.dist
    { s with lg := { s.lg with travel := s.lg.vhat, dist := d, aoFrom := some d } }

/-- Both pairs as a start of the main section finds them: no edge stamped yet, the travel as the always-on section has it. -/
def LgState.fresh (g : LgState) (t : Nat) : LgState :=
  let f (p : WsPair) : WsPair := { p with edges := [], dirs := [], others := 0, at_ := g.travel, since := t }
  { g with pair0 := f g.pair0, pair1 := f g.pair1, edgeAt := t, aoFrom := none }

/-- A start of the main section (R215, R216): with its supply kept, P and D follow the always-on counts and SLIP_ERR
grows for the distance counted; otherwise P and D come from the retained save and P is unreferenced. SLIP starts from 0, with its
event where it stood (R230). -/
def State.lgStart (s0 : State) (t : Nat) : State :=
  let sv := s0.lg.saved
  let from_ := s0.lg.aoFrom.getD s0.lg.dist
  let sl : State := { s0 with lg := s0.lg.fresh t }
  let s := if s0.rd R.LG_POS_SLIP = 1 then (sl.wr R.LG_POS_SLIP 0).raise 371 t else sl
  if s.lg.aoLost then
    let v : LgSave := sv.getD {}
    let g := { s.lg with pBase := v.p, vhat := 0, travel := 0, dist := v.d, dRead := v.d, heldEdges := 0, heldLen := 0,
                         history := [], aoLost := false }
    let g := g.fresh t
    let s1 := ((({ s with lg := g } : State).wr R.LG_POS_REFERENCED 0).wr R.LG_POS_AO_LOST 1).wr R.LG_FLAGS_AO_LOST 1
    let s2 := (s1.wr R.LG_POS_ORIENT v.orient.toNat).dqReduce t
    let s3 := match sv with
      | some v => ((s2.wr R.LG_WS_CAL_0 v.cal0.toNat).wr R.LG_WS_CAL_1 v.cal1.toNat).wr R.LG_WS_CAL_TOL v.calTol
      | none => ((s2.wr R.LG_WS_CAL_0 (R.LG_WS_CAL_0.clamp (s2.tw 0x03302104).toNat)).wr R.LG_WS_CAL_1
          (R.LG_WS_CAL_1.clamp (s2.tw 0x03302108).toNat)).wr R.LG_WS_CAL_TOL (fieldOf (s2.tw 0x0330210C) 31 16)
    s3.posRegs t
  else
    let g := { s.lg with slipErr := s.lg.slipErr + (s.lg.dist - from_) * s.rd R.LG_SLIP_SLIP_RATE,
                         dRead := max s.lg.dRead s.lg.dist }
    ({ s with lg := g } : State).posRegs t

/-- What the retained save takes of the Line Gauge (R215). -/
def State.lgSave (s : State) : State :=
  { s with lg := { s.lg with saved := some {
      p := s.pos16, d := s.lg.dist, orient := s.rd R.LG_POS_ORIENT == 1,
      cal0 := BitVec.ofNat 32 (s.rd R.LG_WS_CAL_0), cal1 := BitVec.ofNat 32 (s.rd R.LG_WS_CAL_1),
      calTol := s.rd R.LG_WS_CAL_TOL } } }

/-- What a COLD or WARM reset or a BLOCK reset does to the Line Gauge beside its register fields (R202, R227, R541):
TT is 0 and unlocked, phase and class start anew, every comparator is IDLE; the always-on section is not affected. -/
def State.lgClear (s : State) (t : Nat) : State :=
  let g := s.lg
  ({ s with lg := { g with tt := 0, ttLt := t, rate := 0, isum := 0, lastMeas := none, lockRun := 0, ttStep := 0,
                           aRaw := 0, gAcc := 0, slipAcc := 0, vEst := 0, cal := none, applyReq := false,
                           lastCross := none, intervals := [], phi := 0, phiAt := t, phiRate := 0, prevPhi := 0,
                           prevPresent := false, classRun := 0, switches := [],
                           pair0 := { g.pair0 with badAt := t }, pair1 := { g.pair1 with badAt := t } } } : State).cmpAllIdle

/-- Whether a pending set of the LG block is illegal (R232): the words it would leave in effect. -/
def lgSetIllegal (get : Nat → Word) : Bool :=
  let w := get R.LG_TT_STEP_THR.base
  let lock := R.LG_TT_LOCK_THR.ext w
  let unlock := R.LG_TT_UNLOCK_THR.ext w
  let step := R.LG_TT_STEP_THR.ext w
  decide (unlock ≤ lock) || decide (step * 10000 < unlock * 100) || R.LG_WS_EN.ext (get R.LG_WS_EN.base) == 0

end Sys2Proof.Machine
end

