-- ==== Sys2Proof/Machine/Recorder.lean ====
section
/-! DEFINITION. The event recorder: the record as it lies in flash, writing, recovery, reading and authorised clearing
(spec/18_event_recorder.md). -/

namespace Sys2Proof.Machine

def State.setEr (s : State) (e : ErState) : State := { s with er := e }

/-- Record types of the recorder itself (R454). -/
def rtPowerUp : Nat := 1
def rtSupplyLoss : Nat := 2
def rtRecovery : Nat := 3
def rtCleared : Nat := 4
def rtClearFail : Nat := 6

/-- A record of the recorder (R448: WRITER 2, SOURCE its own base). -/
def State.ownRec (s : State) (type : Nat) (data : List Byte) (t : Nat) : LogRec := s.mkRec type wrRecorder 0x17 data t

/-! ### The record in flash (R448) -/

/-- Bytes 0 to SIZE − 17 of a record with its SEQ. -/
def LogRec.body (r : LogRec) (seq : Nat) : List Byte :=
  let pad := (16 - r.data.length % 16) % 16
  leBytes (r.size + r.type * 2 ^ 16) 4 ++ leBytes (r.data.length + r.writer * 2 ^ 12 + r.source * 2 ^ 16) 4 ++
    leBytes seq 8 ++ leBytes (r.tt.getD (2 ^ 64 - 1)) 8 ++ leBytes r.lt 8 ++ leBytes r.opSec 4 ++ leBytes r.cycles 4 ++
    List.replicate 8 0#8 ++ r.data ++ List.replicate pad 0#8

/-- The whole record as it lies in flash: its body, CHECK, MARK and four erased bytes. -/
def LogRec.bytes (r : LogRec) (seq : Nat) : List Byte :=
  let b := r.body seq
  b ++ leBytes (signature (crc64 crcInit b)).toNat 8 ++ leBytes 0xA55A0F0F 4 ++ List.replicate 4 0xFF#8

/-- Bytes as words, least significant first. -/
def wordsFromBytes : List Byte → List Word
  | a :: b :: c :: d :: t => bytesWord a b c d :: wordsFromBytes t
  | [] => []
  | l => [bytesWord (l.getD 0 0) (l.getD 1 0) (l.getD 2 0) (l.getD 3 0)]

/-! ### SEQ (R450) -/

def State.nextSeq (s : State) : Nat := s.rd R.ER_NEXT_SEQ_SEQ 0 + s.rd R.ER_NEXT_SEQ_SEQ 1 * 2 ^ 32
def State.setNextSeq (s : State) (n : Nat) : State :=
  (s.wr R.ER_NEXT_SEQ_SEQ (n % 2 ^ 32) 0).wr R.ER_NEXT_SEQ_SEQ (n / 2 ^ 32) 1
def State.firstSeq (s : State) : Nat := s.rd R.ER_FIRST_SEQ_SEQ 0 + s.rd R.ER_FIRST_SEQ_SEQ 1 * 2 ^ 32
def State.setFirstSeq (s : State) (n : Nat) : State :=
  (s.wr R.ER_FIRST_SEQ_SEQ (n % 2 ^ 32) 0).wr R.ER_FIRST_SEQ_SEQ (n / 2 ^ 32) 1

/-- The valid records in flash, oldest first, fillers aside. -/
def State.validRecs (s : State) : List FlashRec := s.er.log.filter fun r => r.valid && !r.filler

/-! ### Reading (R456) -/

/-- STAT codes of ER_RD_STAT. -/
def fsBusy : Nat := 1
def fsFound : Nat := 2
def fsNotFound : Nat := 3
def fsTargetReset : Nat := 4

/-- A write of FETCH at port `p`. -/
def State.erFetch (s : State) (p : Nat) : State :=
  if s.rd R.ER_RD_STAT_STAT p = fsBusy then s.bump (R.BLK_CLAMP_CNT_COUNT.at .er)
  else s.wr R.ER_RD_STAT_STAT fsBusy p

/-- The record a fetch of port `p` finds: the first valid one from the SEQ wanted. -/
def State.erWanted (s : State) (p : Nat) : Option FlashRec :=
  let want := max (s.rd R.ER_RD_SEQ_SEQ p 0 + s.rd R.ER_RD_SEQ_SEQ p 1 * 2 ^ 32) s.firstSeq
  s.validRecs.find? fun r => decide (want ≤ r.seq ∧ r.seq < s.nextSeq)

/-- A fetch completes. -/
def State.erFetchDone (s : State) (p : Nat) : State :=
  if s.rd R.ER_RD_STAT_STAT p ≠ fsBusy then s
  else
    match s.erWanted p with
    | none => s.wr R.ER_RD_STAT_STAT fsNotFound p
    | some r =>
      let s1 := s.setEr { s.er with bufs := NMap.put s.er.bufs p (wordsFromBytes (r.entry.bytes r.seq)) }
      ((s1.wr R.ER_RD_SEQ_SEQ (r.seq % 2 ^ 32) p 0).wr R.ER_RD_SEQ_SEQ (r.seq / 2 ^ 32) p 1).wr R.ER_RD_STAT_STAT fsFound p

/-- Word `k` of port `p`'s read buffer. -/
def State.erBuf (s : State) (p k : Nat) : Word := (NMap.get s.er.bufs [] p).getD k 0

/-! ### Blocks (R451) -/

/-- Number of erase blocks and bytes of one. -/
def erBlocks : Nat := 196608
def erBlockBytes : Nat := 524288

/-- A running fetch of a record in block `b` completes, which it does before the block's erase begins (R456). -/
def State.fetchFirst (s : State) (b : Nat) : State :=
  [0, 1].foldl (fun s p => if (s.erWanted p).any fun r => r.block == b then s.erFetchDone p else s) s

def State.eraseBlock (s0 : State) (b : Nat) : State :=
  let s := s0.fetchFirst b
  let e := NMap.get s.er.blocks {} b
  s.setEr { s.er with blocks := NMap.put s.er.blocks b { erases := e.erases + 1, bseq := none },
                      log := s.er.log.filter fun r => r.block != b }

/-- The open block with the lowest BSEQ. -/
def State.oldestBlock (s : State) : Option Nat :=
  (s.er.blocks.foldl (fun (b : Option (Nat × Nat)) c =>
    match c.2.bseq, b with
    | none, _ => b
    | some q, none => some (c.1, q)
    | some q, some (k, m) => if q < m then some (c.1, q) else some (k, m)) none).map (·.1)

/-- FIRST_SEQ is no lower than the oldest valid record after an erase by wrap. -/
def State.firstFollows (s : State) : State :=
  match s.validRecs with
  | [] => s
  | r :: _ => if s.firstSeq < r.seq then s.setFirstSeq r.seq else s

/-- Opens the next block; at least two erased blocks stay ahead of it, the block with the lowest BSEQ being erased when
necessary (R451). -/
def State.openBlock (s : State) : State :=
  let b := (s.er.cur + 1) % erBlocks
  let e := NMap.get s.er.blocks {} b
  let s1 := s.setEr { s.er with cur := b, free := 16, nextBseq := s.er.nextBseq + 1,
                                blocks := NMap.put s.er.blocks b { e with bseq := some s.er.nextBseq } }
  let used := (s1.er.blocks.filter fun c => c.2.bseq.isSome).length
  if used + 2 ≤ erBlocks then s1
  else
    match s1.oldestBlock with
    | none => s1
    | some o => (((s1.eraseBlock o).bump R.ER_CLR_FAIL_WRAP_CNT_COUNT 1).wr R.ER_FLAGS_WRAP 1).firstFollows

/-- Makes room for a record of `n` bytes: a filler closes a block it does not fit in (R451). -/
def State.roomFor (s : State) (n : Nat) : State :=
  if s.er.free + n ≤ erBlockBytes then s
  else
    let s1 := if s.er.free < erBlockBytes then
        s.setEr { s.er with free := erBlockBytes,
                            log := s.er.log ++ [{ seq := 0, block := s.er.cur, ofs := s.er.free, filler := true,
                                                  entry := { type := 0, writer := wrRecorder, source := 0 } }] }
      else s
    s1.openBlock

/-- Programs record `r` with sequence number `seq` at the next free place; `ok`: its MARK has been programmed. -/
def State.program (s : State) (r : LogRec) (seq : Nat) (ok : Bool) : State :=
  let s1 := s.roomFor r.size
  s1.setEr { s1.er with log := s1.er.log ++ [{ seq := seq, block := s1.er.cur, ofs := s1.er.free, valid := ok, entry := r }],
                        free := s1.er.free + r.size }

/-- RECORD_WRITE: the record at the head of staging is programmed (R451). A failed read-back leaves a torn copy, and the
record stays at the head with its SEQ. -/
def State.recordWrite (s : State) (ok : Bool) : State :=
  match s.stagedRecs with
  | [] => s
  | r :: rest =>
    if s.rd R.ER_STATE_STATE = erRecovering then s
    else
      let n := s.nextSeq
      let s1 := s.program r n ok
      if ok then
        (s1.setStaged rest).setNextSeq (n + 1)
      else s1.wr R.ER_FLAGS_TORN 1

/-- A record goes to the head of staging, outside the limits of R453. -/
def State.stageHead (s : State) (rs : List LogRec) : State := s.setStaged (rs ++ s.stagedRecs)

/-! ### Supply loss and recovery (R455) -/

/-- Entry into HOLDUP: SUPPLY_LOSS at the head of the queue, and no further record is taken. -/
def State.erHoldupEntry (s : State) (t : Nat) : State :=
  (s.stageHead [s.ownRec rtSupplyLoss [] t]).wr R.ER_STATE_STATE erHoldup

/-- The module is unpowered: staging is gone, its count saved; `torn` says that a record was being programmed. -/
def State.erPowerOff (s : State) (torn : Bool) : State :=
  let n := s.stagedRecs.length
  let s1 := match s.stagedRecs with
    | r :: _ => if torn then s.program r s.nextSeq false else s
    | [] => s
  (s1.setStaged []).setEr { (s1.setStaged []).er with unwritten := n }

/-- RECORDER_RECOVERY: the append point is found, a torn record at the end of the newest block is closed off, and
POWER_UP is the first record of the boot. -/
def State.erRecover (s : State) (t : Nat) : State :=
  if s.rd R.ER_STATE_STATE ≠ erRecovering then s
  else
    let top := s.validRecs.foldl (fun a r => max a (r.seq + 1)) 0
    let torn := match s.er.log.getLast? with
      | some r => !r.valid && r.block == s.er.cur
      | none => false
    let up := s.ownRec rtPowerUp (leBytes (if top = 0 then Config.noSeq else top - 1) 8 ++ leBytes s.er.unwritten 4) t
    let rs := if torn then [up, s.ownRec rtRecovery (leBytes top 8 ++ leBytes s.er.cur 4) t] else [up]
    let kept := match (s.validRecs.filter fun r => r.entry.type == rtCleared).getLast? with
      | some r => ((r.entry.data.take 8).reverse).foldl (fun a b => a * 256 + b.toNat) 0
      | none => 0
    let oldest := match s.validRecs with
      | r :: _ => r.seq
      | [] => 0
    let s1 := (s.setFirstSeq (max kept oldest)).setNextSeq (if torn then top + 1 else top)
    let s2 := if torn then (s1.setEr { s1.er with free := erBlockBytes }).wr R.ER_FLAGS_TORN 1 else s1
    ((s2.setEr { s2.er with unwritten := 0 }).stageHead rs).wr R.ER_STATE_STATE erReady

/-! ### Resets of the read windows (R456) -/

/-- A block reset completes a running fetch with TARGET_RESET (R456). -/
def State.erResetFetch (s : State) : State :=
  [0, 1].foldl (fun s p => if s.rd R.ER_RD_STAT_STAT p = fsBusy then s.wr R.ER_RD_STAT_STAT fsTargetReset p else s) s

/-! ### Authorised clearing (R457, R458) -/

/-- The nonce the module draws next, and the module that has drawn it. -/
def State.drawNonce (s : State) : List Byte × State :=
  ((List.range 16).map (Config.nonceByte s.free), { s with free := s.free + 1 })

/-- Loads CLR_KEY from the ER table (R457). -/
def State.erLoadKey (s : State) : State :=
  s.setEr { s.er with clrKey := (List.range 8).flatMap fun k => wordBytes (s.tw (0x03392000 + 4 * k)) }

/-- ER_CLR_CMD.REQ: a challenge with a fresh nonce, open for 10 s; it replaces an open one. -/
def State.clearReq (s : State) (t : Nat) : State :=
  let (n, s1) := s.drawNonce
  let ws := wordsFromBytes n
  let s2 := (List.range 4).foldl (fun s k => s.wr R.ER_CLR_CHAL_BYTES (ws.getD k 0).toNat k) s1
  s2.setEr { s2.er with challenge := some (n, t + 10000000000) }

/-- The challenge closes. -/
def State.clearClose (s : State) : State :=
  ((List.range 4).foldl (fun s k => s.wr R.ER_CLR_CHAL_BYTES 0 k) s).setEr { s.er with challenge := none }

/-- Port and session as CLEARED and CLEAR_FAIL hold them (R454). -/
def clearWho (all : Bool) (port session : Nat) : List Byte :=
  leBytes ((if all then 2 ^ 8 else 0) + port % 2 * 2 ^ 9 + session % 16 * 2 ^ 10) 4

/-- UPTO as ER_CLR_SCOPE holds it (R458). -/
def State.uptoSeq (s : State) : Nat := s.rd R.ER_CLR_SCOPE_UPTO_LO + s.rd R.ER_CLR_SCOPE_UPTO_HI * 2 ^ 32

/-- ER_CLR_CMD.GO by a session of a port: the response is checked against the open challenge. -/
def State.clearGo (s : State) (port session t : Nat) : State :=
  let lo := s.rf.word (R.ER_CLR_SCOPE_UPTO_LO.addr 0)
  let hi := s.rf.word (R.ER_CLR_SCOPE_UPTO_HI.addr 0)
  let resp := (List.range 4).flatMap fun k => wordBytes (NMap.get s.er.response 0 k)
  let good := match s.er.challenge with
    | some (n, e) => decide (t < e) &&
        resp == (hmac s.er.clrKey (n ++ wordBytes lo ++ wordBytes hi ++ leBytes (Config.serial % 2 ^ 32) 4)).take 16
    | none => false
  let s1 := s.clearClose.raise 388 t
  if good then
    let all := hi.getLsbD 31
    let kept := if all then s.nextSeq else s.uptoSeq + 1
    let s2 := s1.stageHead [s1.ownRec rtCleared (leBytes kept 8 ++ clearWho all port session) t]
    ((s2.setFirstSeq kept).setEr { s2.er with eraseBelow := some kept }).wr R.ER_STATE_ERASING 1
  else
    ((s1.stage (s1.ownRec rtClearFail (clearWho false port session) t)).bump R.ER_CLR_FAIL_WRAP_CNT_COUNT 0).wr R.ER_FLAGS_CLR_FAIL 1

/-- CLEAR_CHALLENGE_EXPIRY: an open challenge closes after 10 s. -/
def State.clearExpiry (s : State) (t : Nat) : State :=
  match s.er.challenge with
  | some (_, e) => if e ≤ t then s.clearClose else s
  | none => s

/-- BACKGROUND_ERASE_END: every block that holds only records below the first one kept is erased. -/
def State.eraseEnd (s : State) : State :=
  match s.er.eraseBelow with
  | none => s
  | some k =>
    let bs := (s.er.blocks.filter fun c => c.2.bseq.isSome && c.1 != s.er.cur &&
      (s.er.log.filter fun r => r.block == c.1 && r.valid && !r.filler).all fun r => decide (r.seq < k)).map (·.1)
    let s1 := bs.foldl State.eraseBlock s
    (s1.setEr { s1.er with eraseBelow := none }).wr R.ER_STATE_ERASING 0

end Sys2Proof.Machine
end

