-- ==== Sys2Proof/Machine/Words.lean ====
section
/-! DEFINITION. The bodies of the word instructions: load and store, arithmetic, multiply and divide, register
operations, shifts, conversions, block move (R115 to R127). -/

namespace Sys2Proof.Machine

/-- A word-read instruction: what it does to the registers with its operand `v` (R117 to R123). -/
def wordReadBody (o : MOp) (f : Word → Regs → Except Flt Regs) : Body := fun l g => do
  opCheck .wordRead o
  let (v, l1) ← readOperand l g.task g.r o
  match f v g.r with
  | .error (c, _) => throw (c, some l1)
  | .ok r => pure (l1, g.done r (opLen o))

/-- Whether the module owns the words k .. k + n − 1 of a written space (R70). -/
def ownedWords (l : Lane) (sp k n : Nat) : Bool :=
  sp != spW || (List.range n).all fun i => inOwned l.ownedW (k + i)

/-- STW and STWD (R120): the range check, then the ownership check, then the writes. -/
def wordWriteBody (cls : OpClass) (n : Nat) (o : MOp) : Body := fun l g => do
  opCheck cls o
  let sp := o.sp.toNat
  let k := opIndex o g.r
  if spaceWords sp < k + n then throw (flt cAddr)
  if !ownedWords l sp k n then throw (flt cWriteProt)
  pure (l.storeWords (wordAddr sp g.task k) ([g.r.acc1, g.r.acc2].take n), g.adv (opLen o))

/-- LDD (R120). -/
def lddBody (o : MOp) : Body := fun l g => do
  opCheck .doubleRead o
  let sp := o.sp.toNat
  let k := opIndex o g.r
  if spaceWords sp < k + 2 then throw (flt cAddr)
  let (w0, l1) ← l.readW (wordAddr sp g.task k)
  let (w1, l2) ← l1.readW (wordAddr sp g.task (k + 1))
  pure (l2, g.done { g.r with acc1 := w0, acc2 := w1 } (opLen o))

/-! ### Arithmetic, logic and compare (R121) -/

def aluAdd (v : Word) (r : Regs) : Regs :=
  ({ r with acc1 := r.acc1 + v }).flags32 (addCarry r.acc1 v) (addOverflow r.acc1 v) (r.acc1 + v)

def aluSub (v : Word) (r : Regs) : Regs :=
  ({ r with acc1 := r.acc1 - v }).flags32 (r.acc1.ult v) (subOverflow r.acc1 v) (r.acc1 - v)

/-- AW, OW, XW: C and V 0, Z and N from the result. -/
def aluLogic (x : Word) (r : Regs) : Regs := ({ r with acc1 := x }).flags32 false false x

def aluCmp (v : Word) (r : Regs) : Regs := r.flags (r.acc1.ult v) false (r.acc1 == v) (r.acc1.slt v)

def aluCmpu (v : Word) (r : Regs) : Regs := r.flags (r.acc1.ult v) false (r.acc1 == v) (r.acc1.ult v)

/-! ### Multiply and divide (R122, R123) -/

/-- The product registers and flags: `p` in 64 bits, `over` when it does not fit. -/
def mulResult (p : BitVec 64) (beyond : Bool) (r : Regs) : Regs :=
  ({ r with acc1 := p.extractLsb' 0 32, acc2 := p.extractLsb' 32 32 }).flags false beyond (p == 0) p.msb

def aluMul (v : Word) (r : Regs) : Regs :=
  let p := r.acc1.toInt * v.toInt
  mulResult (BitVec.ofInt 64 p) (decide (p < -2 ^ 31 ∨ 2 ^ 31 ≤ p)) r

def aluMulu (v : Word) (r : Regs) : Regs :=
  let p := r.acc1.toNat * v.toNat
  mulResult (BitVec.ofNat 64 p) (decide (2 ^ 32 ≤ p)) r

/-- The quotient registers and flags (R123). -/
def divResult (q rem : Word) (beyond : Bool) (r : Regs) : Regs :=
  ({ r with acc1 := q, acc2 := rem }).flags false beyond (q == 0) q.msb

/-- DIV: truncated toward zero, the remainder with the sign of the dividend, saturated when the quotient does not fit. -/
def aluDiv (v : Word) (r : Regs) : Except Flt Regs :=
  if v = 0 then .error (flt cDivZero)
  else
    let d := (r.acc2 ++ r.acc1).toInt
    let q := d.tdiv v.toInt
    let rem := d.tmod v.toInt
    if -2 ^ 31 ≤ q ∧ q < 2 ^ 31 then .ok (divResult (BitVec.ofInt 32 q) (BitVec.ofInt 32 rem) false r)
    else .ok (divResult (if 0 < q then 0x7FFFFFFF#32 else 0x80000000#32) 0 true r)

def aluDivu (v : Word) (r : Regs) : Except Flt Regs :=
  if v = 0 then .error (flt cDivZero)
  else
    let d := (r.acc2 ++ r.acc1).toNat
    let q := d / v.toNat
    if q < 2 ^ 32 then .ok (divResult (BitVec.ofNat 32 q) (BitVec.ofNat 32 (d % v.toNat)) false r)
    else .ok (divResult 0xFFFFFFFF#32 0 true r)

/-! ### Register operations (R124) -/

/-- Register code of R124: 0 to 7 for X0 to X7, 8 for ACC1, 9 for ACC2. -/
def Regs.getReg (r : Regs) (k : Nat) : Word := if k < 8 then r.getX k else if k = 8 then r.acc1 else r.acc2

def Regs.setReg (r : Regs) (k : Nat) (w : Word) : Regs :=
  if k < 8 then r.setX k w else if k = 8 then { r with acc1 := w } else { r with acc2 := w }

/-- DST, SRC and IMM of a register operation (R124). -/
def dstOf (low : BitVec 20) : Nat := low.toNat / 2 ^ 16
def srcOf (low : BitVec 20) : Nat := low.toNat / 2 ^ 12 % 16
def immOf (low : BitVec 20) : BitVec 12 := low.extractLsb' 0 12

def movBody (low : BitVec 20) : Body :=
  regBody (decide (dstOf low ≤ 9) && decide (srcOf low ≤ 9) && immOf low == 0)
    (fun r => r.setReg (dstOf low) (r.getReg (srcOf low)))

def swapBody (low : BitVec 20) : Body := regBody (low == 0) (fun r => { r with acc1 := r.acc2, acc2 := r.acc1 })

/-- NEG and ABS share their flags: V when ACC1 was 0x8000_0000, C 0, Z and N from the result. -/
def aluNeg (r : Regs) : Regs := ({ r with acc1 := -r.acc1 }).flags32 false (r.acc1 == 0x80000000#32) (-r.acc1)

def aluAbs (r : Regs) : Regs :=
  let x := if r.acc1.msb then -r.acc1 else r.acc1
  ({ r with acc1 := x }).flags32 false (r.acc1 == 0x80000000#32) x

def aluInv (r : Regs) : Regs := aluLogic (~~~r.acc1) r

def addiBody (low : BitVec 20) : Body :=
  regBody (decide (dstOf low ≤ 9) && srcOf low == 0)
    (fun r => r.setReg (dstOf low) (r.getReg (dstOf low) + (immOf low).signExtend 32))

def aluSext (r : Regs) : Regs := { r with acc2 := if r.acc1.msb then 0xFFFFFFFF#32 else 0 }

/-! ### Shifts (R125) -/

/-- RC of a shift, and its CNT. -/
def rcOf (low : BitVec 20) : Bool := low.getLsbD 19
def cntOf (low : BitVec 20) : Nat := low.toNat % 64

/-- The encoding check of a 32-bit shift: [18:6] 0, CNT[5] 0, CNT 0 with RC = 1. -/
def shift32Ok (low : BitVec 20) : Bool :=
  low.toNat / 64 % 2 ^ 13 == 0 && decide (cntOf low < 32) && (!rcOf low || cntOf low == 0)

/-- The encoding check of a 64-bit shift: [18:6] 0 and RC 0. -/
def shift64Ok (low : BitVec 20) : Bool := low.toNat / 64 % 2 ^ 13 == 0 && !rcOf low

/-- The count of a 32-bit shift: CNT, or ACC2[4:0]. -/
def shiftCount (low : BitVec 20) (r : Regs) : Nat := if rcOf low then r.acc2.toNat % 32 else cntOf low

/-- A 32-bit shift: the result and the last bit out for a count, and its flags. -/
def shift32Body (low : BitVec 20) (f : Word → Nat → Word) (out : Word → Nat → Bool) : Body :=
  regBody (shift32Ok low) (fun r =>
    let n := shiftCount low r
    ({ r with acc1 := f r.acc1 n }).flags32 (n != 0 && out r.acc1 n) false (f r.acc1 n))

/-- A 64-bit shift on ACC2:ACC1. -/
def shift64Body (low : BitVec 20) (f : BitVec 64 → Nat → BitVec 64) (out : BitVec 64 → Nat → Bool) : Body :=
  regBody (shift64Ok low) (fun r =>
    let n := cntOf low
    let d := r.acc2 ++ r.acc1
    let x := f d n
    ({ r with acc1 := x.extractLsb' 0 32, acc2 := x.extractLsb' 32 32 }).flags (n != 0 && out d n) false (x == 0) x.msb)

/-- Last bit shifted or rotated out to the left, or to the right (R125). -/
def outLeft {w : Nat} (x : BitVec w) (n : Nat) : Bool := x.getLsbD (w - n)
def outRight {w : Nat} (x : BitVec w) (n : Nat) : Bool := x.getLsbD (n - 1)

/-! ### Conversions (R126) -/

/-- A conversion of ACC1: C 0, Z and N from ACC1, V as given. -/
def convResult (x : Word) (beyond : Bool) (r : Regs) : Regs := ({ r with acc1 := x }).flags32 false beyond x

/-- ACC1 clamped to a range of integers. -/
def satResult (lo hi z : Int) (r : Regs) : Regs :=
  convResult (BitVec.ofInt 32 (clampInt lo hi z)) (decide (z < lo ∨ hi < z)) r

def convBody (low : BitVec 20) (f : Regs → Regs) : Body := regBody (low == 0) f

/-- The bytes of a word reversed. -/
def byteSwap (w : Word) : Word :=
  bytesWord (w.extractLsb' 24 8) (w.extractLsb' 16 8) (w.extractLsb' 8 8) (w.extractLsb' 0 8)

/-! ### Block move (R127) -/

/-- The words of a block move, one per cycle in rising order; an uncorrectable source word faults with ECC and keeps
the words of the earlier cycles (R87, R127). -/
def bmovWords (task ssp dsp : Nat) (l : Lane) (s d : Nat) : Nat → Except Flt Lane
  | 0 => .ok l
  | n + 1 =>
    match l.readW (wordAddr ssp task s) with
    | .error (c, _) => .error (c, some l)
    | .ok (w, l1) => bmovWords task ssp dsp (l1.store (wordAddr dsp task d) w) (s + 1) (d + 1) n

def bmovBody (rest : BitVec 26) (ext : Word) : Body := fun l g => do
  let w := rest.toNat
  let func := w / 2 ^ 20
  let ssp := w / 2 ^ 16 % 16
  let dsp := w / 2 ^ 12 % 16
  let xs := w / 2 ^ 9 % 8
  let xd := w / 2 ^ 6 % 8
  let n := ext.toNat
  if func ≠ 0 ∨ w % 64 ≠ 0 ∨ n = 0 ∨ 256 < n then throw (flt cIllegalOp)
  if !([0, 1, 2, 3, 5, 8].contains ssp) then throw (flt cIllegalOp)
  if !([1, 2, 3, 5, 8, 0, 9, 10].contains dsp) then throw (flt cIllegalOp)
  if [0, 9, 10].contains dsp then throw (flt cWriteProt)
  let s := (g.r.getX xs).toNat
  let d := (g.r.getX xd).toNat
  if spaceWords ssp < s + n ∨ spaceWords dsp < d + n then throw (flt cAddr)
  if !ownedWords l dsp d n then throw (flt cWriteProt)
  let l1 ← bmovWords g.task ssp dsp l s d n
  pure (l1, (g.extra (3 + n)).adv 2)

end Sys2Proof.Machine
end

