-- ==== Sys2Proof/Machine/ConfigTables.lean ====
section
/-! DEFINITION. The communication tables of the configuration area as a lane reads them: PD entries, SDT channels, MD
sessions, signal maps (R387 to R397) and CAN buffers (R405). -/

namespace Sys2Proof.Machine

/-! ### PD entries (R388) -/

def Lane.pd (l : Lane) (n k : Nat) : Word := l.word (0x03360000 + 32 * n + 4 * k)
def Lane.pdDir (l : Lane) (n : Nat) : Nat := fieldOf (l.pd n 0) 1 0
def Lane.pdSdt (l : Lane) (n : Nat) : Bool := (l.pd n 0).getLsbD 2
def Lane.pdPlanes (l : Lane) (n : Nat) : Nat := fieldOf (l.pd n 0) 4 3
def Lane.pdPcp (l : Lane) (n : Nat) : Nat := fieldOf (l.pd n 0) 7 5
def Lane.pdTt (l : Lane) (n : Nat) : Bool := (l.pd n 0).getLsbD 8
def Lane.pdLease (l : Lane) (n : Nat) : Bool := (l.pd n 0).getLsbD 9
def Lane.pdZero (l : Lane) (n : Nat) : Bool := (l.pd n 0).getLsbD 10
def Lane.pdSrcFilt (l : Lane) (n : Nat) : Bool := (l.pd n 0).getLsbD 11
def Lane.pdEvRx (l : Lane) (n : Nat) : Bool := (l.pd n 0).getLsbD 12
def Lane.pdEvTmo (l : Lane) (n : Nat) : Bool := (l.pd n 0).getLsbD 13
def Lane.pdEvSlot (l : Lane) (n : Nat) : Nat := fieldOf (l.pd n 0) 20 14
def Lane.pdLen (l : Lane) (n : Nat) : Nat := fieldOf (l.pd n 2) 10 0
def Lane.pdCycle (l : Lane) (n : Nat) : Nat := fieldOf (l.pd n 3) 23 0
def Lane.pdTimeout (l : Lane) (n : Nat) : Nat := fieldOf (l.pd n 3) 15 0
def Lane.pdOffset (l : Lane) (n : Nat) : Nat := fieldOf (l.pd n 4) 23 0
def Lane.pdDeadline (l : Lane) (n : Nat) : Nat := fieldOf (l.pd n 5) 23 0
def Lane.pdSrcIp (l : Lane) (n : Nat) : Word := l.pd n 5
def Lane.pdDestIp (l : Lane) (n : Nat) : Word := l.pd n 6

/-- The rules of R388 on one entry alone. -/
def Lane.pdLegal (l : Lane) (n : Nat) : Bool :=
  let d := l.pdDir n
  (d == 1 || d == 2) && l.pdPlanes n != 0 && fieldOf (l.pd n 0) 31 21 == 0 && decide (l.pdEvSlot n ≤ 111) &&
  decide ((l.pd n 2).toNat ≤ 1432) && l.pd n 7 == 0 &&
  (if d == 1 then
    decide (1000 ≤ (l.pd n 3).toNat ∧ (l.pd n 3).toNat ≤ 10000000 ∧ (l.pd n 4).toNat < (l.pd n 3).toNat ∧
      50 ≤ (l.pd n 5).toNat ∧ (l.pd n 5).toNat ≤ (l.pd n 3).toNat / 2)
   else
    decide (1 ≤ (l.pd n 3).toNat ∧ (l.pd n 3).toNat ≤ 60000) && l.pd n 4 == 0 && (l.pdSrcFilt n || l.pd n 5 == 0) &&
      (l.pd n 6 == 0 || fieldOf (l.pd n 6) 31 28 == 14))

/-- Two SUBSCRIBE entries with the same COMID, SRC_FILT, SRC_IP and DEST_IP (R388). -/
def Lane.pdSame (l : Lane) (m n : Nat) : Bool :=
  l.pdLegal m && l.pdDir m == 2 && l.pd m 1 == l.pd n 1 && l.pdSrcFilt m == l.pdSrcFilt n && l.pd m 5 == l.pd n 5 &&
    l.pd m 6 == l.pd n 6

/-- Word `k` of SDT channel `c`, the PD entry it names, and whether the entry holds a channel at all (R395). -/
def Lane.sdt (l : Lane) (c k : Nat) : Word := l.word (0x03372000 + 32 * c + 4 * k)
def Lane.sdtPd (l : Lane) (c : Nat) : Nat := fieldOf (l.sdt c 0) 10 0
def Lane.sdtPresent (l : Lane) (c : Nat) : Bool := (List.range 5).any fun k => l.sdt c k != 0

/-- Whether exactly one channel names PD entry `n` (R395). -/
def Lane.pdNamed (l : Lane) (n : Nat) : Bool :=
  ((List.range 256).filter fun c => l.sdtPresent c && l.sdtPd c == n).length == 1

/-- Whether PD entry `n` is in use (R387, R388, R395). -/
def Lane.pdUsed (l : Lane) (n : Nat) : Bool :=
  decide (n < 2048) && l.pdLegal n && (!l.pdSdt n || l.pdNamed n) && !(l.pdDir n == 2 && (List.range n).any fun m => l.pdSame m n)

/-! ### SDT channels (R395) -/

def Lane.sdtCmp (l : Lane) (c : Nat) : Bool := (l.sdt c 0).getLsbD 11
def Lane.sdtSingleOk (l : Lane) (c : Nat) : Bool := (l.sdt c 0).getLsbD 12
def Lane.sdtCmpWin (l : Lane) (c : Nat) : Nat := fieldOf (l.sdt c 0) 18 13
def Lane.sdtSmi (l : Lane) (c : Nat) : Word := l.sdt c 1
def Lane.sdtUdv (l : Lane) (c : Nat) : Nat := fieldOf (l.sdt c 2) 15 0
def Lane.sdtTmo (l : Lane) (c : Nat) : Nat := fieldOf (l.sdt c 3) 15 0
def Lane.sdtLmi (l : Lane) (c : Nat) : Nat := fieldOf (l.sdt c 3) 23 16
def Lane.sdtPeriod (l : Lane) (c : Nat) : Nat := fieldOf (l.sdt c 4) 23 0

/-- Whether SDT channel `c` is in use: its carrying PD entry is in use with SDT = 1 and holds the trailer; a receiving channel's
figures lie in their ranges (R395). A channel entry of zeros is none. -/
def Lane.sdtUsed (l : Lane) (c : Nat) : Bool :=
  let n := l.sdtPd c
  decide (c < 256) && l.sdtPresent c && l.pdUsed n && l.pdSdt n && decide (16 ≤ l.pdLen n) &&
  fieldOf (l.sdt c 0) 31 19 == 0 && fieldOf (l.sdt c 2) 31 16 == 0 && fieldOf (l.sdt c 3) 31 24 == 0 &&
  fieldOf (l.sdt c 4) 31 24 == 0 && l.sdt c 5 == 0 && l.sdt c 6 == 0 && l.sdt c 7 == 0 &&
  (l.pdDir n == 1 ||
    (decide (1 ≤ l.sdtTmo c ∧ l.sdtTmo c ≤ 60000 ∧ 1 ≤ l.sdtLmi c ∧ 1000 ≤ l.sdtPeriod c ∧ l.sdtPeriod c ≤ 10000000) &&
      (!l.sdtCmp c || decide (1 ≤ l.sdtCmpWin c ∧ l.sdtCmpWin c ≤ 50))))

/-- Safe data length of a channel: LEN less the 16-byte trailer (R395). -/
def Lane.sdtLen (l : Lane) (c : Nat) : Nat := l.pdLen (l.sdtPd c) - 16

/-- The channel a PD entry with SDT = 1 carries. -/
def Lane.channelOf (l : Lane) (n : Nat) : Option Nat :=
  (List.range 256).find? fun c => l.sdtPd c == n && l.sdtUsed c

/-! ### MD sessions (R397) -/

def Lane.md (l : Lane) (s k : Nat) : Word := l.word (0x03370000 + 32 * s + 4 * k)
def Lane.mdRole (l : Lane) (s : Nat) : Nat := fieldOf (l.md s 0) 2 0
def Lane.mdPlane (l : Lane) (s : Nat) : Nat := fieldOf (l.md s 0) 4 3
def Lane.mdDepth (l : Lane) (s : Nat) : Nat := fieldOf (l.md s 0) 11 8
def Lane.mdEvRx (l : Lane) (s : Nat) : Bool := (l.md s 0).getLsbD 12
def Lane.mdEvSlot (l : Lane) (s : Nat) : Nat := fieldOf (l.md s 0) 19 13
def Lane.mdComId (l : Lane) (s : Nat) : Word := l.md s 1
def Lane.mdMax (l : Lane) (s : Nat) : Nat := fieldOf (l.md s 2) 12 0
def Lane.mdPeer (l : Lane) (s : Nat) : Word := l.md s 3
def Lane.mdReplyTmo (l : Lane) (s : Nat) : Nat := fieldOf (l.md s 4) 15 0
def Lane.mdDeadline (l : Lane) (s : Nat) : Nat := fieldOf (l.md s 5) 23 0

/-- MD roles of R397. -/
def mdCaller : Nat := 1
def mdReplier : Nat := 2
def mdNotifier : Nat := 3
def mdListener : Nat := 4

/-- The rules of R397 on one session alone; the ComIds of the update unit are none of its (R496). -/
def Lane.mdLegal (l : Lane) (s : Nat) : Bool :=
  decide (1 ≤ l.mdRole s ∧ l.mdRole s ≤ 4) && decide (1 ≤ l.mdPlane s) && decide (1 ≤ l.mdDepth s ∧ l.mdDepth s ≤ 8) &&
  decide (l.mdEvSlot s ≤ 111) && decide ((l.md s 2).toNat ≤ 4096) && fieldOf (l.md s 0) 31 20 == 0 &&
  (l.mdRole s != mdCaller || decide (1 ≤ l.mdReplyTmo s ∧ l.mdReplyTmo s ≤ 60000)) && fieldOf (l.md s 4) 31 16 == 0 &&
  decide (50 ≤ (l.md s 5).toNat ∧ (l.md s 5).toNat ≤ 1000000) && l.md s 6 == 0 && l.md s 7 == 0 &&
  fieldOf (l.md s 1) 31 8 != 0x0F5500

/-- Whether MD session `s` is in use: legal, and within the sum of DEPTH × M over the sessions in entry order (R397). -/
def Lane.mdUsed (l : Lane) (s : Nat) : Bool :=
  decide (s < 256) && l.mdLegal s &&
  decide (((List.range (s + 1)).map fun i => if l.mdLegal i then l.mdDepth i * l.mdMax i else 0).sum ≤ 2097152)

/-! ### Signal maps (R394) -/

def Lane.smap (l : Lane) (i k : Nat) : Word := l.word (0x03374000 + 16 * i + 4 * k)
def Lane.smPd (l : Lane) (i : Nat) : Nat := fieldOf (l.smap i 0) 10 0
def Lane.smSpace (l : Lane) (i : Nat) : Nat := if (l.smap i 0).getLsbD 11 then spW else spS
def Lane.smSwap (l : Lane) (i : Nat) : Bool := (l.smap i 0).getLsbD 12
def Lane.smOfs (l : Lane) (i : Nat) : Nat := fieldOf (l.smap i 1) 10 0
def Lane.smCount (l : Lane) (i : Nat) : Nat := fieldOf (l.smap i 1) 29 16
def Lane.smFirst (l : Lane) (i : Nat) : Nat := fieldOf (l.smap i 2) 24 0

/-- Elements of the map's space. -/
def smElems (sp : Nat) : Nat := if sp = spS then spaceBits spS else spaceWords spW

/-- Whether entry `i` holds a map at all. -/
def Lane.smPresent (l : Lane) (i : Nat) : Bool := (List.range 4).any fun k => l.smap i k != 0

/-- The rules of R394 on the entry of a map: its bits, a SUBSCRIBE entry in use, its place in the payload. -/
def Lane.smLegal (l : Lane) (i : Nat) : Bool :=
  decide (1 ≤ l.smCount i ∧ l.smCount i ≤ 11456) && l.pdUsed (l.smPd i) && l.pdDir (l.smPd i) == 2 &&
  (l.smSpace i = spS || l.smOfs i % 4 == 0) && fieldOf (l.smap i 0) 31 13 == 0 && fieldOf (l.smap i 1) 15 11 == 0 &&
  fieldOf (l.smap i 1) 31 30 == 0 && fieldOf (l.smap i 2) 31 25 == 0 && l.smap i 3 == 0

/-- Whether a map may be applied, overlaps apart: within LEN, within its space, no owned element (R394). -/
def Lane.smFits (l : Lane) (i : Nat) : Bool :=
  let sp := l.smSpace i
  let bytes := if sp = spS then (l.smCount i + 7) / 8 else 4 * l.smCount i
  let owned := if sp = spS then l.ownedS else l.ownedW
  l.smLegal i && decide (l.smOfs i + bytes ≤ l.pdLen (l.smPd i)) &&
  decide (l.smFirst i + l.smCount i ≤ smElems sp) &&
  owned.all fun r => !decide (r.1 < l.smFirst i + l.smCount i ∧ l.smFirst i < r.1 + r.2)

/-- Whether two maps share an element. -/
def Lane.smOverlap (l : Lane) (i j : Nat) : Bool :=
  l.smSpace i == l.smSpace j &&
    decide (l.smFirst i < l.smFirst j + l.smCount j ∧ l.smFirst j < l.smFirst i + l.smCount i)

/-- The maps that are applied: those that fit and overlap no lower-numbered applied map (R394). -/
def Lane.appliedMaps (l : Lane) : List Nat :=
  (List.range 1024).foldl (fun acc i =>
    if l.smFits i && acc.all (fun j => !l.smOverlap i j) then acc ++ [i] else acc) []

/-- The applied map that holds an element of S or W (R135). -/
def Lane.mapOf (l : Lane) (sp k : Nat) : Option Nat :=
  l.appliedMaps.find? fun i => l.smSpace i == sp && decide (l.smFirst i ≤ k ∧ k < l.smFirst i + l.smCount i)

/-! ### CAN buffers (R405) -/

def Lane.canWord (l : Lane) (c k : Nat) : Word := l.word (0x03380000 + 0x2000 * c + 4 * k)
def Lane.canBuf (l : Lane) (c b k : Nat) : Word := l.word (0x03380000 + 0x2000 * c + 0x100 + 64 * b + 4 * k)
def Lane.canDir (l : Lane) (c b : Nat) : Nat := fieldOf (l.canBuf c b 0) 1 0
def Lane.canPdo (l : Lane) (c b : Nat) : Bool := (l.canBuf c b 0).getLsbD 2
def Lane.canIde (l : Lane) (c b : Nat) : Bool := (l.canBuf c b 0).getLsbD 3
def Lane.canEvEn (l : Lane) (c b : Nat) : Bool := (l.canBuf c b 0).getLsbD 4
def Lane.canId (l : Lane) (c b : Nat) : Nat := fieldOf (l.canBuf c b 1) 28 0
def Lane.canMask (l : Lane) (c b : Nat) : Nat := fieldOf (l.canBuf c b 2) 28 0
def Lane.canBase (l : Lane) (c b : Nat) : Nat := fieldOf (l.canBuf c b 3) 15 0
def Lane.canNmap (l : Lane) (c b : Nat) : Nat := fieldOf (l.canBuf c b 3) 18 16
def Lane.canTmode (l : Lane) (c b : Nat) : Nat := fieldOf (l.canBuf c b 3) 21 20
def Lane.canSyncN (l : Lane) (c b : Nat) : Nat := fieldOf (l.canBuf c b 3) 29 22
def Lane.canInhibit (l : Lane) (c b : Nat) : Nat := fieldOf (l.canBuf c b 4) 15 0
def Lane.canTmr (l : Lane) (c b : Nat) : Nat := fieldOf (l.canBuf c b 4) 31 16

/-- One PDO mapping entry (R413): first frame bit, length, word, first word bit, sign. -/
structure MapEnt where
  fbit : Nat
  len : Nat
  word : Nat
  wbit : Nat
  sign : Bool
  rsv : Nat
  deriving DecidableEq, Repr

def mapEnt (w : Word) : MapEnt :=
  { fbit := fieldOf w 5 0, len := fieldOf w 10 6 + 1, word := fieldOf w 14 11, wbit := fieldOf w 19 15,
    sign := w.getLsbD 20, rsv := fieldOf w 31 21 }

def Lane.canMaps (l : Lane) (c b : Nat) : List MapEnt :=
  (List.range (l.canNmap c b)).map fun k => mapEnt (l.canBuf c b (5 + k))

/-- Bits a field takes in its word; with SIGN all bits from its first up. -/
def MapEnt.top (m : MapEnt) : Nat := if m.sign then 32 else m.wbit + m.len

/-- Whether two mapping entries overlap in frame bits or in word bits (R413). -/
def MapEnt.overlap (m k : MapEnt) : Bool :=
  decide (m.fbit < k.fbit + k.len ∧ k.fbit < m.fbit + m.len) ||
  (m.word == k.word && decide (m.wbit < k.top ∧ k.wbit < m.top))

/-- Whether a list of mapping entries is legal for the direction (R413). -/
def mapsLegal (tx : Bool) : List MapEnt → Bool
  | [] => true
  | m :: t => decide (m.fbit + m.len ≤ 64 ∧ m.wbit + m.len ≤ 32 ∧ m.word ≤ 7) && m.rsv == 0 && !(tx && m.sign) &&
      t.all (fun k => !m.overlap k) && mapsLegal tx t

/-- N_need in bytes (R413). -/
def nNeed (ms : List MapEnt) : Nat := (ms.foldl (fun a m => max a (m.fbit + m.len)) 0 + 7) / 8

/-- Whether every field of a buffer entry that R405 does not list is 0. -/
def Lane.canSpareZero (l : Lane) (c b : Nat) : Bool :=
  fieldOf (l.canBuf c b 0) 31 5 == 0 && fieldOf (l.canBuf c b 1) 31 29 == 0 && fieldOf (l.canBuf c b 2) 31 29 == 0 &&
  fieldOf (l.canBuf c b 3) 19 19 == 0 && fieldOf (l.canBuf c b 3) 31 30 == 0 &&
  [13, 14, 15].all fun k => l.canBuf c b k == 0

/-- Whether buffer `b` of controller `c` is in use (R405, R413). -/
def Lane.canUsed (l : Lane) (c b : Nat) : Bool :=
  let d := l.canDir c b
  decide (c < 4) && decide (b < 64) && (d == 1 || d == 2) && l.canSpareZero c b &&
  (if l.canPdo c b then
    mapsLegal (d == 2) (l.canMaps c b) && decide (l.canTmode c b ≤ 2) &&
    (d != 2 || l.canIde c b || decide (l.canId c b ≤ 0x7FF)) &&
    (d != 2 || l.canTmode c b != 1 || decide (1 ≤ l.canSyncN c b ∧ l.canSyncN c b ≤ 240)) &&
    (d != 1 || l.canTmode c b == 0)
   else true) &&
  (d == 1 || l.canMask c b == 0)

/-- The PD entries that carry lease messages, of a module that is a member of a lease group (R433). -/
def Lane.leaseTx (l : Lane) : Nat := fieldOf (l.word 0x0339100C) 10 0
def Lane.leaseRx (l : Lane) : Nat := fieldOf (l.word 0x0339100C) 26 16
def Lane.leasePd (l : Lane) (n : Nat) : Bool :=
  l.leaseEn && (n == l.leaseTx || n == l.leaseRx)

/-- Keys of the communication objects of a lane. -/
def keyPd (n : Nat) : Nat := n
def keySdt (c : Nat) : Nat := 0x1000 + c
def keyMd (s : Nat) : Nat := 0x2000 + s
def keyCan (c b : Nat) : Nat := 0x3000 + 64 * c + b

end Sys2Proof.Machine
end

