-- ==== Sys2Proof/Machine/Network.lean ====
section
/-! DEFINITION. The consist network: switches, ARP, egress queues, the TRDP engine and the PTP clock
(spec/14_train_network.md), with the comparison of safe data over both planes (R295). -/

namespace Sys2Proof.Machine

/-! ### Access -/

def State.nwPd (s : State) (n : Nat) : NwPd := NMap.get s.nw.pd {} n
def State.setNwPd (s : State) (n : Nat) (x : NwPd) : State := { s with nw := { s.nw with pd := NMap.put s.nw.pd n x } }
def State.nwSdt (s : State) (c : Nat) : NwSdt := NMap.get s.nw.sdt {} c
def State.setNwSdt (s : State) (c : Nat) (x : NwSdt) : State := { s with nw := { s.nw with sdt := NMap.put s.nw.sdt c x } }
def State.nwMd (s : State) (k : Nat) : NwMd := NMap.get s.nw.md {} k
def State.setNwMd (s : State) (k : Nat) (x : NwMd) : State := { s with nw := { s.nw with md := NMap.put s.nw.md k x } }
def State.queue (s : State) (q : Nat) : List QFrame := NMap.get s.nw.queues [] q
def State.setQueue (s : State) (q : Nat) (fs : List QFrame) : State :=
  { s with nw := { s.nw with queues := NMap.put s.nw.queues q fs } }
def State.setPtp (s : State) (p : PtpState) : State := { s with nw := { s.nw with ptp := p } }

/-- Whether the link of port `p` is up, as its pins have it. -/
def State.linkUp (s : State) (p : Nat) : Bool := (NMap.look s.nw.links p).isSome

/-- The endpoint's address on a plane. -/
def State.nwIp (s : State) (pl : Nat) : Word := BitVec.ofNat 32 (s.rd R.NW_IP_ADDR pl)

/-! ### VLANs (R377, R379) -/

/-- The VLAN tables and port words of the configuration tables (R379). The switches keep them as loaded, and forward by them while the
lanes restart (R376). -/
def State.vlanWords (s : State) : List Word :=
  (List.range 128).map (fun k => s.tw (0x03378100 + 4 * k)) ++ (List.range 4).map fun p => s.tw (0x03378300 + 4 * p)

/-- Entry of VID `v` in the VLAN table of a plane; its MEMBER and UNTAG bits. -/
def State.vlanEntry (s : State) (pl v : Nat) : Option Word :=
  ((s.nw.vlan.drop (64 * pl)).take 64).find? fun w => v != 0 && fieldOf w 11 0 == v
def State.vlanMembers (s : State) (pl v : Nat) : Option Nat := (s.vlanEntry pl v).map fun w => fieldOf w 14 12
def State.vlanUntag (s : State) (pl v : Nat) : Nat := ((s.vlanEntry pl v).map fun w => fieldOf w 18 16).getD 0

/-- PVID and default PCP of an external port. -/
def State.portPvid (s : State) (p : Nat) : Nat := fieldOf (s.nw.vlan.getD (128 + p) 0) 11 0
def State.portPcp (s : State) (p : Nat) : Nat := fieldOf (s.nw.vlan.getD (128 + p) 0) 14 12

/-! ### Egress queues (R380, R381) -/

/-- Bytes of frame buffer of a port. -/
def egressBytes : Nat := 262144

/-- Whether a frame fits in the buffer of egress port `q`. -/
def State.fits (s : State) (q bytes : Nat) : Bool := decide (((s.queue q).map fun f => f.bytes).sum + bytes ≤ egressBytes)

/-- A transit frame is queued, or discarded and counted (R380). -/
def State.enqueueTransit (s : State) (q : Nat) (f : QFrame) : State :=
  if s.fits q f.bytes then s.setQueue q (s.queue q ++ [f])
  else if q < 4 then s.bump R.NW_PORT_CNT_BUF_DROP q
  else if q = 6 then (s.bump R.NW_MIRROR_DROP_CNT).wr R.NW_FLAGS_MIRROR_DROP 1
  else s

/-- A copy of a frame received or sent on port `p` goes to SVC in MAINT (R400). -/
def State.mirrorPort (s : State) (p : Nat) (f : SentFrame) : State :=
  if s.mode = mdMaint ∧ s.rd R.NW_MIRROR_EN = 1 ∧ s.rd R.NW_MIRROR_PORT = p then
    s.enqueueTransit 6 { pcp := 0, bytes := f.len, copy := some f }
  else s

/-- The communication object of a PD entry as delivered. -/
def State.pdObj (s : State) (n : Nat) : CommObj :=
  let x := s.nwPd n
  { status := x.status, stampUs := (x.accAt.getD 0) / 1000, len := x.len, data := x.data, count := x.count }

/-- The status word of PD entry `n` changes: it is mirrored and delivered (R393). -/
def State.pdStatus (s : State) (n : Nat) (w : Word) (t : Nat) : State :=
  let s1 := (s.setNwPd n { s.nwPd n with status := w }).wr R.NW_PD_STAT_STATUS w.toNat n
  s1.putComm (keyPd n) (s1.pdObj n) t

/-- The status word of an SDT channel changes. -/
def State.sdtStatus (s : State) (c : Nat) (w : Word) (t : Nat) : State :=
  let x := { s.nwSdt c with status := w }
  let s1 := (s.setNwSdt c x).wr R.NW_SDT_STAT_STATUS w.toNat c
  s1.putComm (keySdt c) { status := w, stampUs := x.accAt.getD 0 / 1000, len := x.len, data := x.data, count := x.count } t

/-- The plane of an MD session in use (R397): 0 = A, 1 = B. -/
def State.mdPlaneNow (s : State) (k : Nat) : Nat :=
  let p := s.tab.mdPlane k
  if p = 1 then 0 else if p = 2 then 1 else if s.linkUp 0 || s.linkUp 1 then 0 else 1

/-- Whether an MD session is READY (R398). -/
def State.mdReady (s : State) (k : Nat) : Bool :=
  let x := s.nwMd k
  let r := s.tab.mdRole k
  let pl := s.mdPlaneNow k
  if r = mdCaller then x.outstanding.isNone
  else if r = mdReplier then x.popped.isSome
  else if r = mdNotifier then s.linkUp (2 * pl) || s.linkUp (2 * pl + 1)
  else false

/-- The status word of MD session `k` (R143), mirrored and delivered. -/
def State.mdStatus (s : State) (k t : Nat) : State :=
  let x := s.nwMd k
  let w := BitVec.ofNat 32 ((if s.mdReady k then 1 else 0) + (if x.replyTmo then 2 else 0) + (if x.late then 8 else 0) +
    (if x.dropped then 16 else 0) + min 0xFFFF x.queue.length * 65536)
  let s1 := s.wr R.NW_MD_STAT_STATUS w.toNat k
  let q := x.queue.headD { src := 0, sid := 0, len := 0, data := [] }
  s1.putComm (keyMd k) { status := w, stampUs := t / 1000, len := q.len, data := q.data, count := x.queue.length } t

/-- A copy became LATE (`drop` false) or DROPPED (R381). -/
def State.copyLate (s : State) (o : OwnCopy) (drop : Bool) (t : Nat) : State :=
  let s1 := if drop then (s.bump R.NW_DROP_CNT).wr R.NW_FLAGS_DROPPED 1 else (s.bump R.NW_LATE_CNT).wr R.NW_FLAGS_LATE 1
  let s2 := s1.raise 231 t
  if o.md then
    let x := s2.nwMd o.obj
    (s2.setNwMd o.obj (if drop then { x with dropped := true } else { x with late := true })).mdStatus o.obj t
  else
    let b : Word := if drop then 16#32 else 8#32
    if (s2.nwPd o.obj).pubAt = some o.tp then
      let w := (s2.nwPd o.obj).status ||| b
      let s3 := s2.pdStatus o.obj w t
      match s3.tab.channelOf o.obj with
      | some c => s3.sdtStatus c ((s3.nwSdt c).status ||| b) t
      | none => s3
    else s2

/-- Queues the module's own copy at egress port `q`; one that does not fit is DROPPED at once (R380). -/
def State.enqueueOwn (s : State) (q pcp bytes : Nat) (o : OwnCopy) (t : Nat) : State :=
  if s.fits q bytes then s.setQueue q (s.queue q ++ [{ pcp := pcp, bytes := bytes, own := some o }])
  else s.copyLate o true t

/-- The highest PCP waiting at a port. -/
def topPcp (fs : List QFrame) : Nat := fs.foldl (fun a f => max a f.pcp) 0

/-- A publication's copy left on plane `pl` (R390). -/
def State.copyLeft (s : State) (o : OwnCopy) (pl t : Nat) : State :=
  if o.md || (s.nwPd o.obj).pubAt != some o.tp then s
  else
    let x := s.nwPd o.obj
    let w := x.status ||| (if pl = 0 then 0x20#32 else 0x40#32) ||| (if x.pubInvalid then 0#32 else 1#32)
    let s1 := s.pdStatus o.obj w t
    match s1.tab.channelOf o.obj with
    | some c => s1.sdtStatus c w t
    | none => s1

/-- The residence time of a frame in units of 2^-16 ns: from its ingress stamp to its egress, in LT, with the rate of TT
while TT is locked (R385). -/
def State.residence (s : State) (inAt t : Nat) : Int :=
  let dt : Int := 65536 * (t - inAt : Nat)
  if s.ttLocked then dt + dt * s.lg.rate / 1000000000 else dt

/-- The plane of port `q` of a switch, and the number of the port in MEMBER and UNTAG: 2 is the internal port (R377, R379). -/
def portPlane (q : Nat) : Nat := if q < 4 then q / 2 else q - 4
def portBit (q : Nat) : Nat := if q < 4 then q % 2 else 2

/-- A transit frame as it leaves port `q`: its tag as UNTAG says, and a Sync or Delay_Req of PTP version 2 between the two
external ports of a plane with its residence time added (R377, R385). -/
def State.egressFrame (s : State) (q : Nat) (f : QFrame) (e : EthFrame) (t : Nat) : SentFrame :=
  let untag := (s.vlanUntag (portPlane q) f.vid).testBit (portBit q)
  let corrected := match e.ptp with
    | some m => if m.version = 2 ∧ m.type ≤ 1 ∧ f.inPort < 4 ∧ q < 4 then
        { e with ptp := some { m with correction := m.correction + s.residence f.inAt t } } else e
    | none => e
  let bare := if e.tag.isSome then e.len - 4 else e.len
  { tag := if untag then none else some (f.vid, f.pcp), len := if untag then bare else bare + 4, frame := some corrected }

/-- VID of the module's frames on a plane; 0: untagged (R378). -/
def State.ownVid (s : State) (pl : Nat) : Nat := if pl = 0 then s.rd R.NW_VID_VID_A else s.rd R.NW_VID_VID_B

/-- What leaves egress port `q` with a queued frame; a frame of the endpoint carries the VID of its plane, and no tag where that is 0
or the port is to send it untagged (R377, R378). -/
def State.sentOf (s : State) (q : Nat) (f : QFrame) (t : Nat) : SentFrame :=
  match f.copy, f.frame with
  | some c, _ => c
  | none, some e => s.egressFrame q f e t
  | none, none =>
    let vid := s.ownVid (portPlane q)
    { tag := if vid != 0 && !(s.vlanUntag (portPlane q) vid).testBit (portBit q) then some (vid, f.pcp) else none,
      len := f.bytes, own := f.own, ctl := f.ctl }

/-- A frame leaves egress port `q`. -/
def State.putSent (s : State) (q : Nat) (f : QFrame) (t : Nat) : State :=
  { s with nw := { s.nw with sent := NMap.put s.nw.sent q (s.sentOf q f t) } }

/-- The external ports of a plane that take a frame of the module: the members of its VLAN, of which the internal port is one, with
their link up (R377, R378). -/
def State.ownPorts (s : State) (pl : Nat) : List Nat :=
  let v := s.ownVid pl
  [2 * pl, 2 * pl + 1].filter fun q =>
    s.linkUp q && (v == 0 || (match s.vlanMembers pl v with
      | some m => m.testBit 2 && m.testBit (q % 2)
      | none => false))

/-- A frame of the endpoint that is no telegram is queued at ports `qs` (R378, R380); one that does not fit is DROPPED at once. -/
def State.sendCtl (s : State) (qs : List Nat) (pcp bytes : Nat) (c : NwCtl) (t : Nat) : State :=
  qs.foldl (fun s q =>
    if s.fits q bytes then s.setQueue q (s.queue q ++ [{ pcp := pcp, bytes := bytes, ctl := some c }])
    else ((s.bump R.NW_DROP_CNT).wr R.NW_FLAGS_DROPPED 1).raise 231 t) s

/-- The port a plane has learned for an address. -/
def State.learned (s : State) (pl : Nat) (mac : BitVec 48) : Option Nat :=
  (s.nw.fdb.find? fun e => e.plane == pl && e.mac == mac).map fun e => e.port

/-- Learns a source address, of a frame of the endpoint too: 2048 entries per plane (R376). -/
def State.learn (s : State) (pl : Nat) (mac : BitVec 48) (port t : Nat) : State :=
  let fdb := s.nw.fdb.filter fun e => !(e.plane == pl && e.mac == mac)
  if (fdb.filter fun e => e.plane == pl).length < 2048 then
    { s with nw := { s.nw with fdb := fdb ++ [{ plane := pl, mac := mac, port := port, at_ := t }] } }
  else s

def State.arpEntry (s : State) (pl : Nat) (ip : Word) : Option ArpEntry :=
  s.nw.arp.find? fun e => e.plane == pl && e.ip == ip

/-- The ports by which an answer of the endpoint reaches `ip`: the one learned for its MAC where the cache has that, else every port of
the VLAN. -/
def State.answerPorts (s : State) (pl : Nat) (ip : Word) : List Nat :=
  match (s.arpEntry pl ip).bind (·.mac) with
  | some m => match s.learned pl m with
    | some q => (s.ownPorts pl).filter (· == q)
    | none => s.ownPorts pl
  | none => s.ownPorts pl

/-- The endpoint takes a frame the internal port delivered: an ICMP echo request for its address is answered, but not in SLEEP (R378,
R468). -/
def State.endpointFrame (s : State) (pl : Nat) (f : EthFrame) (t : Nat) : State :=
  match f.echo with
  | some (ip, asker) =>
    if ip = s.nwIp pl ∧ s.pwState ≠ psSleep then
      (s.sendCtl (s.answerPorts pl asker) 0 f.len (.echoReply asker) t).learn pl (Config.nwMac pl) (4 + pl) t
    else s
  | none => s

/-- EGRESS_TRANSMIT of port `q`: the oldest frame of the highest priority starts; an own copy is on time, LATE, or, at
twice its deadline, removed (R380, R381). -/
def State.egress (s : State) (q t : Nat) : State :=
  let fs := s.queue q
  let p := topPcp fs
  match fs.find? fun f => f.pcp == p with
  | none => s
  | some f =>
    let s0 := s.setQueue q (fs.erase f)
    let s1 := if q < 4 then s0.mirrorPort q (s0.sentOf q f t) else s0
    match f.own with
    | none =>
      let s2 := s1.putSent q f t
      if q = 4 ∨ q = 5 then (match f.frame with
        | some e => s2.endpointFrame (q - 4) e t
        | none => s2) else s2
    | some o =>
      if o.tp + 2000 * o.deadline ≤ t then s0.copyLate o true t
      else
        let s2 := (s1.putSent q f t).copyLeft o (q / 2) t
        if o.tp + 1000 * o.deadline ≤ t then s2.copyLate o false t else s2

/-- COPY_DROP at port `q`: copies still queued at twice their deadline are removed (R381). -/
def State.copyDrop (s : State) (q t : Nat) : State :=
  let old (f : QFrame) : Bool := match f.own with
    | some o => decide (o.tp + 2000 * o.deadline ≤ t)
    | none => false
  let fs := s.queue q
  let s1 := s.setQueue q (fs.filter fun f => !old f)
  (fs.filterMap fun f => if old f then f.own else none).foldl (fun s o => s.copyLate o true t) s1

/-- Queued copies of leased entries are removed without counting when acting stops (R442). -/
def State.dropLeased (s : State) : State :=
  [0, 1, 2, 3].foldl (fun s q =>
    s.setQueue q ((s.queue q).filter fun f => match f.own with
      | some o => o.md || !s.tab.pdLease o.obj || s.tab.leasePd o.obj
      | none => true)) s

/-! ### Switches (R375 to R377) -/

/-- Whether an address is a group address. -/
def isGroup (mac : BitVec 48) : Bool := mac.getLsbD 40

/-- The VLAN identifier and the priority of a frame received on port `p`: its tag's, where it has one (R377). -/
def State.frameVid (s : State) (p : Nat) (f : EthFrame) : Nat :=
  match f.tag with
  | some (v, _) => if v.toNat = 0 then s.portPvid p else v.toNat
  | none => s.portPvid p
def State.framePcp (s : State) (p : Nat) (f : EthFrame) : Nat :=
  match f.tag with
  | some (_, c) => c.toNat
  | none => s.portPcp p

/-- SWITCH_FRAME_RECEIVED on external port `p`. -/
def State.switchFrame (s : State) (p : Nat) (f : EthFrame) (t : Nat) : State :=
  let pl := p / 2
  let s0 := s.mirrorPort p { tag := f.tag.map fun v => (v.1.toNat, v.2.toNat), len := f.len, frame := some f }
  if !f.fcs || decide (1522 < f.len) then s0.bump R.NW_PORT_CNT_FCS_ERR p
  else if f.pause || f.dst.toNat / 16 == 0x0180C200000 then s0
  else
    let vid := s.frameVid p f
    match s.vlanMembers pl vid with
    | none => s0
    | some m =>
      if !m.testBit (p % 2) then s0
      else
        let s1 := s0.learn pl f.src p t
        let other := 2 * pl + 1 - p % 2
        let internal := 4 + pl
        let outs := match (if isGroup f.dst then none else s1.learned pl f.dst) with
          | some d => if d = p then [] else [d]
          | none => [other, internal]
        (outs.filter fun q => if q = internal then m.testBit 2 else m.testBit (q % 2) && s1.linkUp q).foldl
          (fun s q => s.enqueueTransit q { pcp := s.framePcp p f, bytes := f.len, frame := some f, vid := vid, inPort := p, inAt := t }) s1

/-- ADDRESS_AGEING of a learned address after 300 s (R376). -/
def State.ageAddress (s : State) (pl : Nat) (mac : BitVec 48) (t : Nat) : State :=
  { s with nw := { s.nw with fdb := s.nw.fdb.filter fun e =>
    !(e.plane == pl && e.mac == mac && decide (e.at_ + 300000000000 ≤ t)) } }

/-! ### ARP (R378) -/

/-- Puts an entry into the cache of a plane: 256 entries. -/
def State.putArp (s : State) (e : ArpEntry) : State :=
  let rest := s.nw.arp.filter fun x => !(x.plane == e.plane && x.ip == e.ip)
  if (rest.filter fun x => x.plane == e.plane).length < 256 then { s with nw := { s.nw with arp := rest ++ [e] } } else s

/-- ENDPOINT_ARP: a request for the endpoint's own address is answered. -/
def State.endpointArp (s : State) (pl : Nat) (ip asker : Word) (t : Nat) : State :=
  if ip = s.nwIp pl then
    (({ s with nw := { s.nw with answers := s.nw.answers ++ [(pl, asker)] } } : State).sendCtl (s.answerPorts pl asker) 0 64
      (.arpReply asker) t).learn pl (Config.nwMac pl) (4 + pl) t
  else s

/-- ARP_REFRESH every 60 s, and ARP_RETRY 1 s after a failed request, with the answer if one came. An answer to a request that is
still open is taken at once, whichever command brings it. -/
def State.arpAsk (s : State) (pl : Nat) (ip : Word) (answer : Option (BitVec 48)) (retry : Bool) (t : Nat) : State :=
  match s.arpEntry pl ip with
  | none => s
  | some e =>
    let wait := if retry then 1000000000 else 60000000000
    if (!retry || e.mac.isNone) && decide (e.asked + wait ≤ t) then s.putArp { e with mac := answer, asked := t }
    else if e.mac.isNone && answer.isSome then s.putArp { e with mac := answer }
    else s

/-- Whether an IPv4 address is a multicast group. -/
def isMulticast (ip : Word) : Bool := ip.toNat / 2 ^ 28 == 14

/-- The egress ports of a frame of the module to `ip` on a plane: none where the destination is not resolved. A first
use of a unicast destination starts its resolution. -/
def State.routeOwn (s : State) (pl : Nat) (ip : Word) (t : Nat) : State × Option (List Nat) :=
  let up := s.ownPorts pl
  if isMulticast ip then (s, some up)
  else
    match s.arpEntry pl ip with
    | some e => match e.mac with
      | some m => (s, some (match s.learned pl m with
        | some q => up.filter (· == q)
        | none => up))
      | none => (s, none)
    | none => (s.putArp { plane := pl, ip := ip, asked := t }, none)

/-! ### Publication (R389, R390, R395) -/

/-- TXPD and TXSDT as released at `t`: the publish buffer of the entry is replaced (R142, R390). -/
def State.nwTxpd (s : State) (n : Nat) (ws : List Word) (t : Nat) : State :=
  s.setNwPd n { s.nwPd n with writes := (s.nwPd n).writes ++ [(t, ws)] }

/-- The buffer with the writes applied before `t`. -/
def NwPd.settle (x : NwPd) (t : Nat) : NwPd :=
  let due := x.writes.filter fun w => decide (w.1 < t)
  match due.getLast? with
  | none => x
  | some w => { x with buf := w.2, applied := true, writes := x.writes.filter fun w => decide (t ≤ w.1) }

/-- Whether the mark of R390 applies: STOP or MAINT, SAFE or SELFTEST, or no TXPD since the program start. -/
def State.pdInvalid (s : State) (x : NwPd) : Bool :=
  s.stopped || s.isSafe || s.vstate == vsSelftest || !x.applied

/-- Bytes of a PD frame with `len` bytes of dataset on the wire, with a tag. -/
def pdFrameBytes (len : Nat) : Nat := 18 + 20 + 8 + 40 + len + 4

/-- A copy with both topography counters in its header (R386). -/
def State.header (s : State) (o : OwnCopy) : OwnCopy :=
  { o with etb := BitVec.ofNat 32 (s.rd R.NW_TOPO_CNT 0), optrn := BitVec.ofNat 32 (s.rd R.NW_TOPO_CNT 1) }

/-- Queues the copies of a publication on those of the entry's planes that are in the mask `m`. -/
def State.sendCopiesOn (s : State) (n m len t : Nat) : State :=
  [0, 1].foldl (fun s pl =>
    if !((s.tab.pdPlanes n).testBit pl && m.testBit pl) then s
    else
      let r := s.routeOwn pl (s.tab.pdDestIp n) t
      match r.2 with
      | none => r.1.wr R.NW_FLAGS_ARP_FAIL 1
      | some qs => qs.foldl (fun s q => s.enqueueOwn q (s.tab.pdPcp n) (pdFrameBytes len)
          (s.header { obj := n, tp := t, deadline := s.tab.pdDeadline n }) t) (r.1.learn pl (Config.nwMac pl) (4 + pl) t)) s

/-- Queues the copies of a publication on the planes of the entry. -/
def State.sendCopies (s : State) (n len t : Nat) : State := s.sendCopiesOn n 3 len t

/-- A lease message of the words `ws` is published by the entry LEASE_PD_TX on the planes of the mask `m` (R433). -/
def State.leasePublish (s : State) (m : Nat) (ws : List Word) (t : Nat) : State :=
  let n := s.tab.leaseTx
  if !(s.tab.pdUsed n && s.tab.pdDir n == 1) then s
  else
    let x := s.nwPd n
    let c := match x.counter with
      | some c => (c + 1) % 2 ^ 32
      | none => 0
    (((s.setNwPd n { x with counter := some c, pubAt := some t, pubTt := s.ttLocked, pubData := ws, pubInvalid := false }).pdStatus n
      (BitVec.ofNat 32 (c % 65536 * 65536)) t).sendCopiesOn n m (4 * ws.length) t)

/-- The counter of a publication due at `t` on the basis in use, if one is due (R389). -/
def State.pdDue (s : State) (n t : Nat) : Option (Nat × Bool) :=
  let x := s.nwPd n
  let cyc := s.tab.pdCycle n
  let ofs := s.tab.pdOffset n
  let tt := s.tab.pdTt n && s.ttLocked
  let apart := match x.pubAt with
    | some a => decide (a + 500 * cyc ≤ t)
    | none => true
  if cyc = 0 ∨ apart = false then none
  else
    let us := if tt then s.lg.ttAt t / 1000 else t / 1000
    if ((us : Int) - ofs) % cyc ≠ 0 then none
    else if tt then some (fromSigned 32 (((us : Int) - ofs) / cyc), true)
    else some ((match x.counter with
      | some c => (c + 1) % 2 ^ 32
      | none => 0), false)

/-- The dataset of a safe telegram: the safe data and the 16 bytes of the SDTv2 trailer with the user data version, the safe
sequence counter and the safety code over the safe data (R395). -/
def State.withTrailer (s : State) (ch c : Nat) (ws : List Word) : List Word :=
  let l := s.tab
  let safe := (ws.flatMap wordBytes).take (l.sdtLen ch)
  let uuid := (List.range 4).map fun k => s.tw (0x03378014 + 4 * k)
  let code := Config.safetyCode (l.sdtSmi ch) uuid (BitVec.ofNat 32 (s.rd R.NW_TOPO_CNT 1)) safe
  let bs := safe ++ (List.range 16).map fun k => Config.sdtTrailer (l.sdtUdv ch) c code k
  (List.range ((bs.length + 3) / 4)).map fun k =>
    bytesWord (bs.getD (4 * k) 0) (bs.getD (4 * k + 1) 0) (bs.getD (4 * k + 2) 0) (bs.getD (4 * k + 3) 0)

/-- PD_PUBLICATION of entry `n` at `t`; `codesOk`: the two computed safety codes of a safe telegram are equal. -/
def State.publish (s : State) (n : Nat) (codesOk : Bool) (t : Nat) : State :=
  let l := s.tab
  if s.pwDown || !(l.pdUsed n && l.pdDir n == 1) || l.leasePd n then s
  else
    match s.pdDue n t with
    | none => s
    | some (c, _) =>
      let x := (s.nwPd n).settle t
      let inv := s.pdInvalid x
      let plain := padWords2 (l.pdLen n) x.buf
      let data := match (if l.pdSdt n then l.channelOf n else none) with
        | some ch => s.withTrailer ch c plain
        | none => plain
      let x1 := { x with counter := some c, pubAt := some t, pubTt := s.ttLocked, pubData := data, pubInvalid := inv }
      let s1 := s.setNwPd n x1
      let base := BitVec.ofNat 32 (c % 65536 * 65536)
      if l.pdSdt n then
        match l.channelOf n with
        | none => s1
        | some ch =>
          if inv then (s1.pdStatus n base t).sdtStatus ch base t
          else if !codesOk then
            (((s1.pdStatus n base t).sdtStatus ch (base ||| 0x180#32) t).wr R.NW_FLAGS_SDT_TX_ERR 1)
          else if l.pdLease n && !s.acting then (s1.pdStatus n base t).sdtStatus ch base t
          else ((s1.pdStatus n base t).sdtStatus ch base t).sendCopies n (l.pdLen n) t
      else
        let s2 := s1.pdStatus n (base ||| (if inv then 4#32 else 0#32)) t
        if l.pdLease n && !s.acting then s2
        else s2.sendCopies n (if inv then 0 else l.pdLen n) t
where
  /-- The dataset of `len` bytes as words. -/
  padWords2 (len : Nat) (ws : List Word) : List Word := (ws ++ List.replicate ((len + 3) / 4) 0).take ((len + 3) / 4)

/-! ### Signal maps (R394) -/

/-- Byte `k` of a payload. -/
def payloadByte (ws : List Word) (k : Nat) : Byte := (ws.getD (k / 4) 0).extractLsb' (8 * (k % 4)) 8

/-- The word at a byte offset of a payload. -/
def payloadWord (ws : List Word) (k : Nat) : Word :=
  bytesWord (payloadByte ws k) (payloadByte ws (k + 1)) (payloadByte ws (k + 2)) (payloadByte ws (k + 3))

/-- A word with its bytes reversed. -/
def swapBytes (w : Word) : Word := bytesWord (w.extractLsb' 24 8) (w.extractLsb' 16 8) (w.extractLsb' 8 8) (w.extractLsb' 0 8)

/-- A bit write of the input distributor: on an uncorrectable word it is not made, and UNCORR is set (R88). -/
def Lane.distBit (l : Lane) (a k : Nat) (b : Bool) : Lane :=
  if l.ecc2.contains a then l.wr R.LE_ECC_FLAGS_UNCORR 1
  else (if l.ecc1.contains a then l.corrected else l).setWord a (setBitOf (l.word a) k b)

/-- Map `i` written into a lane's S or W from a payload. -/
def Lane.applyMap (l : Lane) (i : Nat) (ws : List Word) : Lane :=
  let first := l.smFirst i
  let ofs := l.smOfs i
  if l.smSpace i = spS then
    (List.range (l.smCount i)).foldl (fun l j =>
      let b := (payloadByte ws (ofs + j / 8)).getLsbD (j % 8)
      l.distBit (spaceBase spS 0 + 4 * ((first + j) / 32)) ((first + j) % 32) b) l
  else
    (List.range (l.smCount i)).foldl (fun l j =>
      let w := payloadWord ws (ofs + 4 * j)
      l.setWord (spaceBase spW 0 + 4 * (first + j)) (if l.smSwap i then swapBytes w else w)) l

/-- The maps of entry `n` written through the distributor. -/
def State.writeMaps (s : State) (n : Nat) (ws : List Word) : State :=
  s.onLanes (fun l => (l.appliedMaps.filter fun i => l.smPd i == n).foldl (fun l i => l.applyMap i ws) l)

/-! ### Reception (R391 to R393, R295, R396) -/

/-- Discards a copy under R391. -/
def State.rxDiscard (s : State) : State := s.bump R.NW_RX_DISC_CNT

/-- Whether both topography counters of a received header pass (R386). -/
def State.topoOk (s : State) (etb optrn : Word) : Bool :=
  let ok (c : Word) (m : Nat) : Bool := c == 0 || m == 0 || c.toNat == m
  ok etb (s.rd R.NW_TOPO_CNT 0) && ok optrn (s.rd R.NW_TOPO_CNT 1)

/-- A discard for the topography counters (R386). -/
def State.topoDiscard (s : State) (t : Nat) : State :=
  ((s.bump R.NW_TOPO_DISC_CNT).wr R.NW_FLAGS_TOPO_DISC 1).raise 230 t

/-- Bit of a plane in a status word. -/
def planeBit (pl : Nat) : Word := if pl = 0 then 0x20#32 else 0x40#32

/-- The entry's event, if it selects one. -/
def State.pdEvent (s : State) (n : Nat) (sel : Bool) (t : Nat) : State :=
  if sel then s.raise (240 + s.tab.pdEvSlot n) t else s

/-- An accepted PD copy (R392). -/
def State.pdAccept (s : State) (n pl : Nat) (c : PdCopy) (t : Nat) : State :=
  let x := s.nwPd n
  let keep := x.status &&& 0x2#32
  let ctr := BitVec.ofNat 32 (c.counter.toNat % 65536 * 65536)
  let x1 := { x with last := some c.counter.toNat, accAt := some t, tmoDone := false, count := x.count + 1 }
  let s1 :=
    if c.dsLen = 0 then (s.setNwPd n x1).pdStatus n (ctr ||| planeBit pl ||| 4#32 ||| keep) t
    else
      let s2 := (s.setNwPd n { x1 with data := c.data, len := c.dsLen }).pdStatus n (ctr ||| planeBit pl ||| 1#32) t
      if s.tab.pdSdt n then s2 else s2.writeMaps n c.data
  s1.pdEvent n (s.tab.pdEvRx n) t

/-- An SDT channel whose copies are compared delivers: that is the acceptance its PD entry counts its timeout from and raises EV_RX
for, since R392 does not apply to the entry (R393). -/
def State.pdCompared (s : State) (n t : Nat) : State :=
  let x := s.nwPd n
  (s.setNwPd n { x with accAt := some t, tmoDone := false, count := x.count + 1 }).pdEvent n (s.tab.pdEvRx n) t

/-- Delivers safe data on a channel (R295, R396). The last accepted counter is the newest one, whatever order windows end in. -/
def State.sdtDeliver (s : State) (ch c : Nat) (planes : Word) (data : List Word) (t : Nat) : State :=
  let x := s.nwSdt ch
  let l := s.tab
  let e := match x.ref with
    | some (cr, tr) => cr + (t - tr) / 1000 / l.sdtPeriod ch
    | none => c
  let ref := match x.ref with
    | some r => if 0 < sdiff c e 32 then some (c, t) else some r
    | none => some (c, t)
  let safe := (data ++ List.replicate ((l.sdtLen ch + 3) / 4) 0).take ((l.sdtLen ch + 3) / 4)
  let last := match x.last with
    | some a => if 0 < sdiff c a 32 then c else a
    | none => c
  let x1 := { x with last := some last, ref := ref, accAt := some t, tmoDone := false, data := safe, len := l.sdtLen ch,
                     count := x.count + 1, closed := x.closed.filter fun k => decide (0 ≤ sdiff k last 32) }
  let s1 := if l.sdtCmp ch then s.pdCompared (l.sdtPd ch) t else s
  ((s1.setNwSdt ch x1).sdtStatus ch (BitVec.ofNat 32 (c % 65536 * 65536) ||| planes ||| 1#32) t).writeMaps (l.sdtPd ch) data

/-- A safe copy fails a check (R396). -/
def State.sdtFail (s : State) (ch reason t : Nat) : State :=
  let w := ((s.nwSdt ch).status &&& ~~~0xF00#32) ||| 0x80#32 ||| BitVec.ofNat 32 (reason * 256)
  ((s.bump R.NW_SDT_REJ_CNT).wr R.NW_FLAGS_SDT_FAIL 1).sdtStatus ch w t

/-- A safe copy enters comparison (R295). -/
def State.sdtCompare (s : State) (ch pl : Nat) (c : PdCopy) (t : Nat) : State :=
  let x := s.nwSdt ch
  let k := c.ssc.toNat
  let win := s.tab.sdtCmpWin ch * 1000000
  match x.wins.find? fun w => w.c == k with
  | none =>
    if x.closed.contains k ∨ x.last = some k then s.bump R.NW_DUP_CNT
    else s.setNwSdt ch { x with wins := x.wins ++ [{ c := k, t1 := t, plane := pl, data := c.data }] }
  | some w =>
    if w.plane = pl ∨ w.t1 + win ≤ t then s.bump R.NW_DUP_CNT
    else
      let s1 := s.setNwSdt ch { x with wins := x.wins.erase w, closed := k :: x.closed }
      if w.data = c.data then s1.sdtDeliver ch k 0x60#32 c.data t
      else s1.sdtStatus ch ((x.status &&& ~~~0xF01#32) ||| 0x580#32) t

/-- SDT_COMPARE_WINDOW_END: a window without a partner copy (R295). -/
def State.sdtWindowEnd (s : State) (ch t : Nat) : State :=
  let x := s.nwSdt ch
  let win := s.tab.sdtCmpWin ch * 1000000
  match x.wins.find? fun w => decide (w.t1 + win ≤ t) with
  | none => s
  | some w =>
    let s1 := s.setNwSdt ch { x with wins := x.wins.erase w, closed := w.c :: x.closed }
    if s.tab.sdtSingleOk ch then s1.sdtDeliver ch w.c (planeBit w.plane) w.data t else s1

/-- The checks of R396 on a copy of a receiving channel. -/
def State.sdtCheck (s : State) (ch pl : Nat) (c : PdCopy) (t : Nat) : State :=
  let x := s.nwSdt ch
  let l := s.tab
  let k := c.ssc.toNat
  let age := match x.last with
    | some a => sdiff k a 32
    | none => 1
  if !c.sdtOk then s.sdtFail ch 1 t
  else if c.udv ≠ l.sdtUdv ch then s.sdtFail ch 3 t
  else if age < 0 then s.sdtFail ch 2 t
  else if age = 0 ∧ l.sdtCmp ch = false then s.bump R.NW_DUP_CNT
  else
    let late := match x.ref with
      | some (cr, tr) => decide ((l.sdtLmi ch : Int) < sdiff (cr + (t - tr) / 1000 / l.sdtPeriod ch : Nat) k 32)
      | none => false
    if late then s.sdtFail ch 4 t
    else if l.sdtCmp ch then s.sdtCompare ch pl c t
    else s.sdtDeliver ch k (planeBit pl) c.data t

/-- The status word of PD entry `n` shows a further plane of its latest counter; nothing is delivered (R392, R393). -/
def State.pdMark (s : State) (n : Nat) (w : Word) : State :=
  (s.setNwPd n { s.nwPd n with status := w }).wr R.NW_PD_STAT_STATUS w.toNat n

/-- A matched copy at a SUBSCRIBE entry (R392): a channel that compares takes it to the checks of R396 at once. The second result says
whether the entry accepted it. -/
def State.pdEntryCopy (s : State) (n pl : Nat) (c : PdCopy) (t : Nat) : State × Bool :=
  let x := s.nwPd n
  let l := s.tab
  let ch := if l.pdSdt n then l.channelOf n else none
  let acc := x.last.isNone || x.status.getLsbD 1 || (match x.last with
    | some a => decide (0 < sdiff c.counter.toNat a 32)
    | none => true)
  match ch.filter l.sdtCmp with
  | some k => (s.sdtCheck k pl c t, true)
  | none =>
    if !acc then
      let s1 := s.bump R.NW_DUP_CNT
      (if x.last = some c.counter.toNat then s1.pdMark n (x.status ||| planeBit pl) else s1, false)
    else
      let s1 := s.pdAccept n pl c t
      match ch with
      | some k => (s1.sdtCheck k pl c t, true)
      | none => (s1, true)

/-- The instant from which a timeout counts: the latest acceptance, or tick 0 (R393). -/
def State.tmoBase (s : State) (acc : Option Nat) : Option Nat := match acc with
  | some a => some a
  | none => s.nw.tick0

/-- PD_TIMEOUT of entry `n` (R393). A payload that ZERO_ON_TMO clears has received length 0, as before the first reception
(DESIGN CHOICE, log entry 78: R142 states no length then). -/
def State.pdTimeout (s : State) (n t : Nat) : State :=
  let x := s.nwPd n
  let l := s.tab
  match s.tmoBase x.accAt with
  | none => s
  | some a =>
    if !(l.pdUsed n && l.pdDir n == 2) || x.tmoDone || decide (t < a + l.pdTimeout n * 1000000) then s
    else
      let x1 := { x with tmoDone := true, data := if l.pdZero n then [] else x.data, len := if l.pdZero n then 0 else x.len }
      let s1 := (s.setNwPd n x1).pdStatus n ((x.status ||| 2#32) &&& ~~~1#32) t
      let s2 := if l.pdZero n then s1.writeMaps n [] else s1
      s2.pdEvent n (l.pdEvTmo n) t

/-- SDT_TIMEOUT of a channel: VALID is cleared and the safe data read 0; with ZERO_ON_TMO its signal maps are cleared (R393,
R396). -/
def State.sdtTimeout (s : State) (ch t : Nat) : State :=
  let x := s.nwSdt ch
  let l := s.tab
  match s.tmoBase x.accAt with
  | none => s
  | some a =>
    if !(l.sdtUsed ch && l.pdDir (l.sdtPd ch) == 2) || x.tmoDone || decide (t < a + l.sdtTmo ch * 1000000) then s
    else
      let x1 := { x with tmoDone := true, data := [], last := none, ref := none }
      let s0 := (s.setNwSdt ch x1).sdtStatus ch ((x.status ||| 2#32) &&& ~~~1#32) t
      let s1 := if l.pdZero (l.sdtPd ch) then s0.writeMaps (l.sdtPd ch) [] else s0
      s1.pdEvent (l.sdtPd ch) (l.pdEvTmo (l.sdtPd ch)) t

/-- Whether a copy names SUBSCRIBE entry `n` (R391 check 5). -/
def State.pdNames (s : State) (n pl : Nat) (c : PdCopy) : Bool :=
  let l := s.tab
  l.pdUsed n && l.pdDir n == 2 && l.pd n 1 == c.comId && (l.pdPlanes n).testBit pl &&
    (if l.pdDestIp n = 0 then c.dst == s.nwIp pl else l.pdDestIp n == c.dst) && (!l.pdSrcFilt n || l.pdSrcIp n == c.src)

/-- Whether a copy is one for SUBSCRIBE entry `n`; those of LEASE_PD_RX go to the redundancy unit only (R433). -/
def State.pdMatches (s : State) (n pl : Nat) (c : PdCopy) : Bool := s.pdNames n pl c && !s.tab.leasePd n

/-- Whether a copy fails checks 1 to 3 of R391. -/
def pdMalformed (c : PdCopy) : Bool :=
  decide (c.udpLen < 40 ∨ c.hdrOk = false ∨ c.version ≠ 1 ∨ c.isPd = false ∨ c.dsLen + 40 ≠ c.udpLen ∨ 1432 < c.dsLen)

/-- Whether a copy names the entry LEASE_PD_RX of a member of a lease group (R433). -/
def State.leaseNames (s : State) (pl : Nat) (c : PdCopy) : Bool :=
  s.tab.leasePd s.tab.leaseRx && s.pdNames s.tab.leaseRx pl c

/-- The timeout of entry `n`, or of its channel, where one stands due at `t`: it comes before a copy stamped `t` (R10, R393). -/
def State.pdTimedOut (s : State) (n t : Nat) : State :=
  let s1 := s.pdTimeout n t
  match (if s.tab.pdSdt n then s.tab.channelOf n else none) with
  | some k => s1.sdtTimeout k t
  | none => s1

/-- PD_COPY_RECEIVED on plane `pl` (R391), stamped with the first whole µs after it (R393): the state, and the entries that accepted
the copy. -/
def State.pdCopy (s : State) (pl : Nat) (c : PdCopy) (t : Nat) : State × List Nat :=
  if s.pw.frozen then (s, [])
  else if pdMalformed c then (s.rxDiscard, [])
  else if !s.topoOk c.etb c.optrn then (s.topoDiscard t, [])
  else
    let ns := (List.range 2048).filter fun n => s.pdMatches n pl c
    if ns.isEmpty then (if s.leaseNames pl c then s else s.rxDiscard, [])
    else
      ns.foldl (fun (p : State × List Nat) n =>
        if c.dsLen ≠ 0 ∧ c.dsLen ≠ s.tab.pdLen n then (p.1.rxDiscard, p.2)
        else
          let r := (p.1.pdTimedOut n (usAfter t)).pdEntryCopy n pl c (usAfter t)
          (r.1, if r.2 then p.2 ++ [n] else p.2)) (s, [])

/-! ### Message data (R397, R398) -/

/-- Frames of a message of `len` bytes: fragments beyond 1356 bytes. -/
def mdFrames (len : Nat) : Nat := if len ≤ 1356 then 1 else (len + 1355) / 1356

/-- An MD error is counted (R398). -/
def State.mdErr (s : State) : State := (s.bump R.NW_MD_ERR_CNT).wr R.NW_FLAGS_MD_ERR 1

/-- TXMD of session `k` as released at `t`: `len` bytes of message in `ws`. -/
def State.nwTxmd (s : State) (k len : Nat) (ws : List Word) (t : Nat) : State :=
  let x := { s.nwMd k with replyTmo := false, late := false, dropped := false }
  let s0 := s.setNwMd k x
  if !s0.mdReady k then (s0.setNwMd k { x with dropped := true }).mdStatus k t
  else
    let l := s.tab
    let r := l.mdRole k
    let pl := s.mdPlaneNow k
    let n := s.nw.mdCount + 1
    let sid := Config.serial * 2 ^ 64 + n
    let dest := if r = mdReplier then ((x.popped.getD (0, 0)).1) else l.mdPeer k
    let x1 := if r = mdCaller then { x with outstanding := some (sid, t) }
      else if r = mdReplier then { x with popped := none } else x
    let type := if r = mdCaller then .mr else if r = mdReplier then .mp else .mn
    let x2 := { x1 with sentTo := dest, sent := some {
      type := type, comId := l.mdComId k, sid := if r = mdReplier then ((x.popped.getD (0, 0)).2) else sid, src := s.nwIp pl,
      etb := BitVec.ofNat 32 (s.rd R.NW_TOPO_CNT 0), optrn := BitVec.ofNat 32 (s.rd R.NW_TOPO_CNT 1), len := len, data := ws } }
    let s1 : State := { s0 with nw := { s0.nw with mdCount := n % 2 ^ 64 } }
    let rt := (s1.setNwMd k x2).routeOwn pl dest t
    let s2 := match rt.2 with
      | none => rt.1.wr R.NW_FLAGS_ARP_FAIL 1
      | some qs => qs.foldl (fun s q =>
          s.enqueueOwn q (fieldOf (l.md k 0) 7 5) (len + 166 * mdFrames len)
            (s.header { md := true, obj := k, tp := t, deadline := l.mdDeadline k }) t) (rt.1.learn pl (Config.nwMac pl) (4 + pl) t)
    s2.mdStatus k t

/-- RXMD's pop as released: the oldest message, if any (R142, R398). A second pop of a request leaves the earlier one
unanswered. -/
def State.nwMdPop (s : State) (k t : Nat) : State × Option MdQueued :=
  let x := s.nwMd k
  match x.queue with
  | [] => (s, none)
  | m :: r =>
    let x1 := { x with queue := r, popped := if s.tab.mdRole k = mdReplier then some (m.src, m.sid) else x.popped }
    ((s.setNwMd k x1).mdStatus k t, some m)

/-- A message is queued at a session, or discarded and counted. -/
def State.mdQueue (s : State) (k : Nat) (m : MdMsg) (t : Nat) : State :=
  let x := s.nwMd k
  if s.tab.mdDepth k ≤ x.queue.length ∨ s.tab.mdMax k < m.len then s.mdErr
  else
    let q : MdQueued := { src := m.src, sid := m.sid, len := m.len, data := m.data }
    let s1 := (s.setNwMd k { x with queue := x.queue ++ [q] }).mdStatus k t
    if s.tab.mdEvRx k then s1.raise (240 + s.tab.mdEvSlot k) t else s1

/-- A whole message at session `k`. -/
def State.mdSession (s : State) (k pl : Nat) (m : MdMsg) (t : Nat) : State :=
  let l := s.tab
  let x := s.nwMd k
  let r := l.mdRole k
  let out := match x.outstanding with
    | some (sid, _) => sid == m.sid
    | none => false
  let from_ := l.mdPeer k == 0 || l.mdPeer k == m.src
  if !(l.mdUsed k && l.mdComId k == m.comId && s.mdPlaneNow k == pl) then s
  else
    match m.type with
    | .mp => if r = mdCaller ∧ out = true then ((s.setNwMd k { x with outstanding := none }).mdQueue k m t).mdStatus k t else s
    | .me => if r = mdCaller ∧ out = true then
        ((s.setNwMd k { x with outstanding := none, replyTmo := true }).mdErr).mdStatus k t else s
    | .mr => if r = mdReplier ∧ from_ = true then s.mdQueue k m t else s
    | .mn => if r = mdListener ∧ from_ = true then s.mdQueue k m t else s

/-- MD_MESSAGE_RECEIVED on plane `pl`: a first part opens a reassembly, of at most 8; a whole message goes to its
sessions (R398). -/
def State.mdReceive (s : State) (pl : Nat) (m : MdMsg) (t : Nat) : State :=
  if s.pw.frozen then s
  else if !m.whole then
    match m.dg with
    | none => s
    | some d => if s.nw.frags.length < 8 ∧ (NMap.look s.nw.frags d).isNone then
        { s with nw := { s.nw with frags := NMap.put s.nw.frags d t } } else s
  else
    let known := match m.dg with
      | none => true
      | some d => (NMap.look s.nw.frags d).isSome
    if !known then s
    else
      let s1 : State := match m.dg with
        | some d => { s with nw := { s.nw with frags := NMap.del s.nw.frags d } }
        | none => s
      if !s1.topoOk m.etb m.optrn then s1.topoDiscard t
      else
        -- an 'Mp' that answers no outstanding request of a caller it could be for comes after its request has ended
        let callers := (List.range 256).filter fun k => s1.tab.mdUsed k && s1.tab.mdRole k == mdCaller &&
          s1.tab.mdComId k == m.comId && s1.mdPlaneNow k == pl
        let answers := callers.any fun k => (s1.nwMd k).outstanding.any fun o => o.1 == m.sid
        let s2 := if m.type == .mp && !callers.isEmpty && !answers then s1.mdErr else s1
        (List.range 256).foldl (fun s k => s.mdSession k pl m t) s2

/-- MD_REPLY_TIMEOUT of session `k` (R398). -/
def State.mdReplyTimeout (s : State) (k t : Nat) : State :=
  let x := s.nwMd k
  match x.outstanding with
  | some (_, a) =>
    if a + s.tab.mdReplyTmo k * 1000000 ≤ t then (s.setNwMd k { x with outstanding := none, replyTmo := true }).mdStatus k t
    else s
  | none => s

/-- MD_REASSEMBLY_TIMEOUT of datagram `d` after 100 ms. -/
def State.mdReassemblyTimeout (s : State) (d t : Nat) : State :=
  match NMap.look s.nw.frags d with
  | some a => if a + 100000000 ≤ t then { s with nw := { s.nw with frags := NMap.del s.nw.frags d } } else s
  | none => s

/-! ### PTP (R382 to R384) -/

def pcInit : Nat := 0
def pcListening : Nat := 1
def pcUncal : Nat := 2
def pcSlave : Nat := 3
def pcFaulty : Nat := 4

def State.ptpState (s : State) : Nat := s.rd R.NW_PTP_STAT_STATE
def State.ptpPlane (s : State) : Nat := s.rd R.NW_PTP_STAT_PLANE

/-- A change of the PTP port state raises EV228. -/
def State.ptpEnter (s : State) (st t : Nat) : State :=
  if s.ptpState = st then s else (s.wr R.NW_PTP_STAT_STATE st).raise 228 t

/-- The port follows the lock of TT (R383). -/
def State.ptpFollow (s : State) (t : Nat) : State :=
  if s.ptpState = pcUncal ∧ s.ttLocked = true then s.ptpEnter pcSlave t
  else if s.ptpState = pcSlave ∧ s.ttLocked = false then s.ptpEnter pcUncal t
  else s

/-- The order of the best master clock algorithm: the first field that differs decides. -/
def lexLess : List Nat → List Nat → Bool
  | [], _ => false
  | _, [] => false
  | a :: r, b :: q => decide (a < b) || (a == b && lexLess r q)

def annKey (a : Announce) : List Nat :=
  [a.prio1, a.cls, a.accuracy, a.variance, a.prio2, a.gm.toNat, a.steps, a.sender]

/-- The best of a list of masters. -/
def bestMaster (ms : List Announce) : Option Announce :=
  ms.foldl (fun b a => match b with
    | none => some a
    | some c => if lexLess (annKey a) (annKey c) then some a else some c) none

/-- An Announce is qualified by its intervals, its domain and the transport the endpoint accepts (R378, R382). -/
def State.qualified (s : State) (a : Announce) : Bool :=
  decide (-7 ≤ a.logSync ∧ a.logSync ≤ 1 ∧ -3 ≤ a.logAnn ∧ a.logAnn ≤ 3) && a.domain == s.rd R.NW_PTP_CFG_DOMAIN &&
    a.transport == s.rd R.NW_PTP_CFG_TRANSPORT

/-- Three announce intervals in ns. -/
def annTimeout (a : Announce) : Nat := 3 * 2 ^ (a.logAnn + 3).toNat * 125000000

/-- Selects the best master of the plane in use; a change discards the kept values (R383, R384). -/
def State.ptpSelect (s : State) (t : Nat) : State :=
  let p := s.nw.ptp
  let sel := bestMaster ((p.masters.filter fun m => m.1 == s.ptpPlane).map fun m => m.2.1)
  let same := match sel, p.sel with
    | some a, some b => a.sender == b.sender
    | none, none => true
    | _, _ => false
  let s1 :=
    if same then s.setPtp { p with sel := sel }
    else (s.setPtp { p with sel := sel, kept := [], syncWait := none, fwd := none, t3 := none }).wr R.NW_PTP_MPD 0
  match sel with
  | none => if s1.ptpState = pcUncal ∨ s1.ptpState = pcSlave then s1.ptpEnter pcListening t else s1
  | some a =>
    let g := swapHi a.gm
    let s2 := (s1.wr R.NW_PTP_GM_LO (g % 2 ^ 32)).wr R.NW_PTP_GM_HI (g / 2 ^ 32)
    if s2.ptpState = pcListening then (s2.ptpEnter pcUncal t).ptpFollow t else s2
where
  /-- clockIdentity with byte 0 lowest: its first byte is the most significant of the 64 bits. -/
  swapHi (g : BitVec 64) : Nat :=
    (swapBytes (g.extractLsb' 32 32)).toNat + (swapBytes (g.extractLsb' 0 32)).toNat * 2 ^ 32

/-- ANNOUNCE_RECEIVED on a plane. -/
def State.announce (s : State) (pl : Nat) (a : Announce) (t : Nat) : State :=
  if !s.qualified a then s
  else
    let p := s.nw.ptp
    let ms := (p.masters.filter fun m => !(m.1 == pl && m.2.1.sender == a.sender)) ++ [(pl, a, t)]
    (s.setPtp { p with masters := ms }).ptpSelect t

/-- ANNOUNCE_TIMEOUT: silent masters are forgotten; without one on the plane in use for three announce intervals the port changes
to the other plane if that has one (R383). -/
def State.announceTimeout (s : State) (t : Nat) : State :=
  let p := s.nw.ptp
  let ms := p.masters.filter fun m => decide (t < m.2.2 + annTimeout m.2.1)
  let s1 := s.setPtp { p with masters := ms }
  let here := ms.any fun m => m.1 == s.ptpPlane
  let there := ms.any fun m => m.1 != s.ptpPlane && decide (p.useAt + annTimeout m.2.1 ≤ t)
  if !here && there then
    let p1 := { s1.nw.ptp with kept := [], syncWait := none, fwd := none, t3 := none, useAt := t }
    (((((s1.setPtp p1).wr R.NW_PTP_MPD 0).wr R.NW_PTP_STAT_PLANE (1 - s.ptpPlane)).wr R.NW_FLAGS_PTP_PLANE_CHG 1).raise 229 t).ptpSelect t
  else s1.ptpSelect t

/-- Whether a message comes from the selected master on the plane in use, in the clock's domain and over the transport the endpoint
accepts (R378, R382). -/
def State.fromMaster (s : State) (pl : Nat) (f : PtpFrom) : Bool :=
  pl == s.ptpPlane && f.domain == s.rd R.NW_PTP_CFG_DOMAIN && f.transport == s.rd R.NW_PTP_CFG_TRANSPORT &&
    (match s.nw.ptp.sel with
    | some a => a.sender == f.sender
    | none => false) && (s.ptpState == pcUncal || s.ptpState == pcSlave)

/-- The mean path delay d of the kept values (R384). -/
def ptpMean (ps : List Int) : Int := if ps.isEmpty then 0 else ps.sum / ps.length

/-- A complete Sync: t2 - t1 - cs; once d exists the offset is delivered (R384). -/
def State.syncDone (s : State) (fwd : Int) : State :=
  let p := s.nw.ptp
  s.setPtp { p with fwd := some fwd, syncWait := none,
                    meas := if p.kept.isEmpty then p.meas else p.meas ++ [fwd - ptpMean p.kept] }

/-- SYNC_RECEIVED. -/
def State.syncReceived (s : State) (pl : Nat) (sender : PtpFrom) (two : Bool) (t1 cs t2 : Int) : State :=
  if !s.fromMaster pl sender then s
  else
    let s1 := s.wr R.NW_PTP_STAT_TWO_STEP (if two then 1 else 0)
    if two then s1.setPtp { s1.nw.ptp with syncWait := some (t2, cs) } else s1.syncDone (t2 - t1 - cs)

/-- FOLLOW_UP_RECEIVED. -/
def State.followUp (s : State) (pl : Nat) (sender : PtpFrom) (t1 cs : Int) : State :=
  if !s.fromMaster pl sender then s
  else match s.nw.ptp.syncWait with
    | some (t2, c0) => s.syncDone (t2 - t1 - (c0 + cs))
    | none => s

/-- The interval in ns before the next Delay_Req: drawn from 0.5 to 1.5 times 2^LOG_DREQ s (R384). -/
def State.dreqInterval (s : State) : Nat :=
  let p := 62500000 * 2 ^ (toSigned 4 (s.rd R.NW_PTP_CFG_LOG_DREQ) + 4).toNat
  p / 2 + Config.dreqDraw s.nw.ptp.reqNo % (p + 1)

/-- Bytes of a Delay_Req on the wire, with a tag, over UDP or over IEEE 802.3 (R382). -/
def dreqBytes (transport : Nat) : Nat := if transport = 0 then 18 + 20 + 8 + 44 + 4 else 68

/-- DELAY_REQ_SEND with its departure stamp: once the interval since the one before has passed, a Delay_Req goes into queue 7 on the
plane in use (R380, R384). -/
def State.delayReq (s : State) (t3 : Int) (t : Nat) : State :=
  let p := s.nw.ptp
  let due := match p.reqAt with
    | some a => decide (a + s.dreqInterval ≤ t)
    | none => true
  if (s.ptpState == pcUncal || s.ptpState == pcSlave) && due then
    let pl := s.ptpPlane
    ((s.setPtp { p with t3 := some t3, reqAt := some t, reqNo := p.reqNo + 1 }).sendCtl (s.ownPorts pl) 7
      (dreqBytes (s.rd R.NW_PTP_CFG_TRANSPORT)) .delayReq t).learn pl (Config.nwMac pl) (4 + pl) t
  else s

/-- DELAY_RESP_RECEIVED: p, kept when it is not negative, among the last 8 (R384). -/
def State.delayResp (s : State) (pl : Nat) (sender : PtpFrom) (t4 cd : Int) : State :=
  if !s.fromMaster pl sender then s
  else
    let p := s.nw.ptp
    match p.t3, p.fwd with
    | some t3, some f =>
      let d := (f + (t4 - t3 - cd)) / 2
      let kept := if 0 ≤ d then (d :: p.kept).take 8 else p.kept
      (s.setPtp { p with t3 := none, kept := kept }).wr R.NW_PTP_MPD (min (2 ^ 32 - 1) (ptpMean kept).toNat)
    | _, _ => s

/-- PTP_OFFSET_APPLY: the oldest measurement delivered is applied by the Line Gauge; the port follows the lock (R201,
R383). -/
def State.ptpApply (s : State) (t : Nat) : State :=
  match s.nw.ptp.meas with
  | [] => s
  | o :: r => ((s.setPtp { s.nw.ptp with meas := r }).ttMeasure o t).ptpFollow t

/-- NET_LINK_CHANGE of port `p` (R383, R399). -/
def State.linkChange (s : State) (p : Nat) (up gig : Bool) (t : Nat) : State :=
  let s1 := (s.wr R.NW_PORT_STAT_LINK (if up then 1 else 0) p).wr R.NW_PORT_STAT_SPEED
    (if !up then 0 else if gig && decide (p < 4) then 3 else 2) p
  let was := s.linkUp p
  let s2 : State := { s1 with nw := { s1.nw with
    links := if up then NMap.put s1.nw.links p (if gig && decide (p < 4) then 3 else 2) else NMap.del s1.nw.links p } }
  if 4 ≤ p ∨ was = up then s2
  else
    let s2 := s2.raise (224 + p) t
    let any := s2.linkUp 0 || s2.linkUp 1 || s2.linkUp 2 || s2.linkUp 3
    let s3 :=
      if s2.ptpState = pcInit then s2
      else if !any then s2.ptpEnter pcFaulty t
      else if s2.ptpState = pcFaulty then (s2.ptpEnter pcListening t).ptpSelect t
      else s2
    (List.range 256).foldl (fun s k => if s.tab.mdRole k = mdNotifier ∧ s.tab.mdUsed k = true then s.mdStatus k t else s) s3

/-! ### Load (R379, R387) -/

/-- The conditions of R58 on an address with its prefix, and of R379 on the VIDs. -/
def hostAddrOk (ip pfx : Nat) : Bool :=
  let host := 2 ^ (32 - pfx)
  ip != 0 && ip / 2 ^ 24 != 127 && ip / 2 ^ 29 != 7 && ip % host != 0 && ip % host != host - 1

/-- Whether a pending NW set may take effect (R379). -/
def State.nwSetOk (s : State) (w : Nat → Word) : Bool :=
  let vid (pl v : Nat) : Bool := v == 0 || (match s.vlanMembers pl v with
    | some m => m.testBit 2
    | none => false)
  hostAddrOk (fget w R.NW_IP_ADDR 0) (fget w R.NW_NET_CFG_PREFIX_A 0) &&
  hostAddrOk (fget w R.NW_IP_ADDR 1) (fget w R.NW_NET_CFG_PREFIX_B 0) &&
  vid 0 (fget w R.NW_VID_VID_A 0) && vid 1 (fget w R.NW_VID_VID_B 0)

/-- The load after a reset, which the switches, the buffers of the publishers and the message sessions outlast: header registers clamped, entries that break a rule counted, maps that are not applied
flagged, the PTP port listening (R379, R383, R387, R394). -/
def State.nwLoad (s : State) (t : Nat) : State :=
  let one (s : State) (f : Fld) (i : Nat) (w : Word) : State :=
    let v := f.ext w
    let c := f.clamp v
    if c = v then s.wr f v i else (s.wr f c i).clampCnt .nw
  let w k := s.tw (0x03378000 + 4 * k)
  let s0 : State := { s with nw := { s.nw with
    pd := s.nw.pd.map (fun p => (p.1, { p.2 with counter := none, pubAt := none, status := 0, last := none, accAt := none, tmoDone := false })),
    sdt := s.nw.sdt.map (fun p => (p.1, { data := p.2.data, len := p.2.len, count := p.2.count })),
    vlan := s.vlanWords, ptp := { useAt := t, reqNo := s.nw.ptp.reqNo } } }
  let s1 := one (one (one (one (one (one (one (one (one (one s0 R.NW_IP_ADDR 0 (w 0)) R.NW_IP_ADDR 1 (w 1)) R.NW_NET_CFG_PREFIX_A 0
    (w 2)) R.NW_NET_CFG_PREFIX_B 0 (w 2)) R.NW_VID_VID_A 0 (w 3)) R.NW_VID_VID_B 0 (w 3)) R.NW_PTP_CFG_LOG_DREQ 0 (w 4))
    R.NW_PTP_CFG_TRANSPORT 0 (w 4)) R.NW_PTP_CFG_PREF_PLANE 0 (w 4)) R.NW_PTP_CFG_DOMAIN 0 (w 4)
  let l := s1.tab
  let bad := ((List.range 2048).filter fun n => l.pdDir n != 0 && !l.pdUsed n).length +
    ((List.range 256).filter fun k => l.mdRole k != 0 && !l.mdUsed k).length +
    ((List.range 256).filter fun c => l.sdtPresent c && !l.sdtUsed c).length +
    ((List.range 1024).filter fun i => l.smPresent i && !l.smLegal i).length
  let s2 := if bad = 0 then s1 else (s1.clampCnt .nw bad).wr R.NW_FLAGS_TABLE_ERR 1
  let maps := l.appliedMaps
  let s3 := if (List.range 1024).any fun i => l.smLegal i && !maps.contains i then s2.wr R.NW_FLAGS_MAP_ERR 1 else s2
  let any := s3.linkUp 0 || s3.linkUp 1 || s3.linkUp 2 || s3.linkUp 3
  ((s3.wr R.NW_PTP_STAT_PLANE (s3.rd R.NW_PTP_CFG_PREF_PLANE)).wr R.NW_PTP_STAT_STATE pcInit).ptpEnter
    (if any then pcListening else pcFaulty) t

/-- A program start without a reset of NW keeps nothing of the TRDP exchange before it (R390, R392, R396). -/
def State.nwProgramStart (s : State) : State :=
  { s with nw := { s.nw with pd := s.nw.pd.map (fun p => (p.1, { p.2 with applied := false, last := none, accAt := none, tmoDone := false })),
                             sdt := s.nw.sdt.map (fun p => (p.1, { p.2 with last := none, ref := none, accAt := none, tmoDone := false,
                                                                            wins := [], closed := [] })),
                             tick0 := none } }

end Sys2Proof.Machine
end

