-- ==== Sys2Proof/Machine/Can.lean ====
section
/-! DEFINITION. The CAN FD controllers: starts, rate detection, buffers, FIFO, transmission, errors and PDOs
(spec/15_can.md). -/

namespace Sys2Proof.Machine

/-! ### Access -/

def State.can (s : State) (c : Nat) : CanCtl := NMap.get s.cn.ctl {} c
def State.setCan (s : State) (c : Nat) (x : CanCtl) : State := { s with cn := { s.cn with ctl := NMap.put s.cn.ctl c x } }
def State.cbuf (s : State) (c b : Nat) : CanBuf := NMap.get s.cn.buf {} (64 * c + b)
def State.setCbuf (s : State) (c b : Nat) (x : CanBuf) : State :=
  { s with cn := { s.cn with buf := NMap.put s.cn.buf (64 * c + b) x } }

/-- STATE codes of CN_STAT. -/
def ceOff : Nat := 0
def ceDetect : Nat := 1
def ceActive : Nat := 2
def cePassive : Nat := 3
def ceBusOff : Nat := 4
def ceRecovering : Nat := 5

def State.canSt (s : State) (c : Nat) : Nat := s.rd R.CN_STAT_STATE c
def State.canEvent (s : State) (c k t : Nat) : State := s.raise (128 + 8 * c + k) t

/-- Whether nothing may be sent by controller `c` (R412, R442). -/
def State.canGated (s : State) (c : Nat) : Bool :=
  s.mode != mdRun || s.isSafe || s.pwDown || (s.canLeased c && !s.acting)

/-! ### Starts and rate detection (R403, R404) -/

/-- Puts a word of the tables into CN_BT of controller `c`, without its reserved bits (R7). -/
def State.setBt (s : State) (c : Nat) (w : Word) : State := s.wrWord (R.CN_BT_BRPM1.addr c) (w &&& 0x7F7FFF1F#32)

/-- Candidate `k` of controller `c`'s table. -/
def State.candidate (s : State) (c k : Nat) : Word := if k < 8 then s.tab.canWord c (6 + k) else 0

/-- Tries candidate `k`; after the last non-zero one the first. -/
def State.tryCandidate (s : State) (c k t : Nat) : State :=
  let j := if s.candidate c k = 0 then 0 else k
  let s1 := s.setCan c { s.can c with cand := j, candStart := t }
  if s.candidate c j = 0 then s1 else s1.setBt c (s.candidate c j)

/-- A start of controller `c` (R403): FIFO emptied, error counters 0, detection or integration; pending frames are kept. -/
def State.canStart (s : State) (c t : Nat) : State :=
  let x := { s.can c with fifo := [], boUntil := 0, integrating := true, syncs := 0, lastSync := t }
  let s1 := (((s.setCan c x).wr R.CN_STAT_FIFO_FILL 0 c).wr R.CN_STAT_TEC 0 c).wr R.CN_STAT_REC 0 c
  let s2 := s1.wr R.CN_STAT_RATE_FOUND 0 c
  if s.rd R.CN_CTRL_EN c = 0 then (s2.wr R.CN_STAT_STATE ceOff c).wr R.CN_STAT_LISTEN_ONLY 0 c
  else if s.rd R.CN_CTRL_AUTO c = 1 then
    let s3 := (s2.wr R.CN_STAT_STATE ceDetect c).wr R.CN_STAT_LISTEN_ONLY 1 c
    if s.candidate c 0 = 0 then
      (s3.setBt c (s.tab.canWord c 1)).wr R.CN_FLAGS_TABLE_ERR 1 c
    else s3.tryCandidate c 0 t
  else (s2.wr R.CN_STAT_STATE ceActive c).wr R.CN_STAT_LISTEN_ONLY (s.rd R.CN_CTRL_LISTEN c) c

/-- RATE_CANDIDATE_TIMEOUT: the candidate is left after 100 ms (R404). -/
def State.candTimeout (s : State) (c t : Nat) : State :=
  if s.canSt c = ceDetect ∧ s.candidate c 0 ≠ 0 ∧ (s.can c).candStart + 100000000 ≤ t then
    s.tryCandidate c ((s.can c).cand + 1) t
  else s

/-- RATE_ADOPT: the candidate's rate is adopted and the controller reintegrates (R404). -/
def State.rateAdopt (s : State) (c t : Nat) : State :=
  if s.candidate c 0 = 0 then s
  else
    let s1 := s.setCan c { s.can c with integrating := true }
    let s2 := ((s1.wr R.CN_STAT_RATE_FOUND 1 c).wr R.CN_FLAGS_RATE_FOUND 1 c).canEvent c 2 t
    (s2.wr R.CN_STAT_STATE ceActive c).wr R.CN_STAT_LISTEN_ONLY (s.rd R.CN_CTRL_LISTEN c) c

/-- CAN_INTEGRATION: 11 recessive bits have been seen (R403). -/
def State.canIntegrated (s : State) (c : Nat) : State := s.setCan c { s.can c with integrating := false }

/-! ### Errors (R401, R409, R411) -/

/-- A change between error-active and error-passive, or into bus-off, from the error counters. -/
def State.canErrState (s : State) (c tec t : Nat) : State :=
  let st := s.canSt c
  if 256 ≤ tec ∧ st ≠ ceBusOff then
    let s1 := s.setCan c { s.can c with boUntil := t + s.rd R.CN_CTRL_BO_DELAY c * 100000000 }
    (((s1.wr R.CN_STAT_STATE ceBusOff c).bump R.CN_CNT_BUS_OFF c).wr R.CN_FLAGS_BUS_OFF_SEEN 1 c).canEvent c 0 t
  else if st = ceActive ∧ (128 ≤ tec ∨ 128 ≤ s.rd R.CN_STAT_REC c) then
    ((s.wr R.CN_STAT_STATE cePassive c).wr R.CN_FLAGS_ERR_PASSIVE_SEEN 1 c).canEvent c 1 t
  else if st = cePassive ∧ tec < 128 ∧ s.rd R.CN_STAT_REC c < 128 then (s.wr R.CN_STAT_STATE ceActive c).canEvent c 1 t
  else s

/-- CAN_BUS_ERROR while receiving: REC rises by 1, or by 8; during detection the candidate is left (R404). -/
def State.canBusError (s : State) (c : Nat) (eight : Bool) (t : Nat) : State :=
  let st := s.canSt c
  if st = ceDetect then
    if s.candidate c 0 = 0 then s else s.tryCandidate c ((s.can c).cand + 1) t
  else if st = ceActive ∨ st = cePassive then
    if s.rd R.CN_STAT_LISTEN_ONLY c = 1 then s
    else
      let s1 := s.wr R.CN_STAT_REC (min 255 (s.rd R.CN_STAT_REC c + if eight then 8 else 1)) c
      s1.canErrState c (s1.rd R.CN_STAT_TEC c) t
  else s

/-- BUS_OFF_DELAY_END: the recovery sequence begins (R411). -/
def State.busOffDelayEnd (s : State) (c t : Nat) : State :=
  if s.canSt c = ceBusOff ∧ (s.can c).boUntil ≤ t then s.wr R.CN_STAT_STATE ceRecovering c else s

/-- BUS_OFF_RETURN: the controller is error-active again (R411). -/
def State.busOffReturn (s : State) (c t : Nat) : State :=
  if s.canSt c = ceRecovering then
    (((s.wr R.CN_STAT_STATE ceActive c).wr R.CN_STAT_TEC 0 c).wr R.CN_STAT_REC 0 c).canEvent c 0 t
  else s

/-! ### Host window (R408) -/

/-- A frame enters the window, or waits as pending copy while it is locked. -/
def State.hbufPut (s : State) (c b : Nat) (w : List Word) (rx : Bool) : State :=
  let x := s.cbuf c b
  if x.lockedAt.isNone then s.setCbuf c b { x with win := w }
  else
    let s1 := s.setCbuf c b { x with copy := some w }
    if rx && x.copy.isSome then s1.wr R.CN_BUF_STAT_OVERWR 1 c b else s1

/-- HBUF_LOCK_READ: a host read of word 0 locks, or renews the lock. -/
def State.hbufLock (s : State) (c b t : Nat) : State :=
  (s.setCbuf c b { s.cbuf c b with lockedAt := some t }).wr R.CN_BUF_STAT_LOCKED 1 c b

/-- The release of a lock. -/
def State.hbufRelease (s : State) (c b : Nat) : State :=
  let x := s.cbuf c b
  if x.lockedAt.isNone then s
  else
    ((s.setCbuf c b { x with lockedAt := none, win := x.copy.getD x.win, copy := none }).wr R.CN_BUF_STAT_LOCKED 0 c b).wr
      R.CN_BUF_STAT_OVERWR 0 c b

/-- HBUF_LOCK_TIMEOUT: 10 ms after locking. -/
def State.hbufTimeout (s : State) (c b t : Nat) : State :=
  match (s.cbuf c b).lockedAt with
  | some a => if a + 10000000 ≤ t then (s.hbufRelease c b).wr R.CN_FLAGS_LOCK_TMO 1 c else s
  | none => s

/-! ### Transmission (R409, R410, R145) -/

/-- Bus priority of a descriptor, smaller first: identifier, then RTR and IDE as on the bus. -/
def canRank (d : List Word) : Nat :=
  let w0 := d.getD 0 0
  let rtr := if (d.getD 1 0).getLsbD 8 then 1 else 0
  if w0.getLsbD 29 then fieldOf w0 28 18 * 2 ^ 21 + 2 ^ 20 + 2 ^ 19 + fieldOf w0 17 0 * 2 + rtr
  else fieldOf w0 10 0 * 2 ^ 21 + rtr * 2 ^ 20

def State.inProgress (s : State) (c b : Nat) : Bool := s.rd R.CN_BUF_STAT_IN_PROGRESS c b == 1

/-- PENDING of a TX buffer follows its frame. -/
def State.txPending (s : State) (c b : Nat) : State :=
  let p := match (s.cbuf c b).tx with
    | some f => f.held.isNone
    | none => false
  s.wr R.CN_BUF_STAT_PENDING (if p then 1 else 0) c b

/-- Whether a queued frame is a timed one still held (R410). -/
def TxFrame.isHeld (f : Option TxFrame) : Bool := match f with
  | some g => g.held.isSome
  | none => false

/-- Whether a frame has been in progress. -/
def TxFrame.hasBegun (f : Option TxFrame) : Bool := match f with
  | some g => g.begun
  | none => false

/-- Queues a frame in TX buffer `b`: it replaces one whose transmission has not started; one that has been in progress
completes first, also when it has lost arbitration or met an error since (R145, R409). A frame that replaces a held one clears
MISSED (R410). -/
def State.canQueue (s : State) (c b : Nat) (f : TxFrame) : State :=
  if s.canGated c then s
  else
    let x := s.cbuf c b
    let waits := TxFrame.hasBegun x.tx
    let s1 := if waits then s.setCbuf c b { x with next := some f } else s.setCbuf c b { x with tx := some f }
    let s2 := if TxFrame.isHeld (if waits then x.next else x.tx) then s1.wr R.CN_BUF_STAT_MISSED 0 c b else s1
    (s2.hbufPut c b f.desc false).txPending c b

/-- CTX and CTXT as released: base and target of a timed frame in µs (R145, R410). -/
def State.canSend (s : State) (c b : Nat) (d : List Word) (target : Option (Bool × Nat)) : State :=
  s.canQueue c b { desc := d, held := target, target := target }

/-- The time in µs on a base, where it can be compared. -/
def State.baseUs (s : State) (tt : Bool) (t : Nat) : Option Nat :=
  if tt then (if s.ttLocked then some (s.lg.ttAt t / 1000) else none) else some (t / 1000)

/-- CTXT_DUE: the target is reached (R410). -/
def State.ctxtDue (s : State) (c b t : Nat) : State :=
  let x := s.cbuf c b
  match x.tx with
  | some f => match f.held with
    | some (tt, tgt) => match s.baseUs tt t with
      | some now => if reached now tgt 32 then (s.setCbuf c b { x with tx := some { f with held := none } }).txPending c b else s
      | none => s
    | none => s
  | none => s

/-- Whether a timed frame has passed its late limit (R410). -/
def State.ctxLate (s : State) (c : Nat) (f : Option TxFrame) (t : Nat) : Bool :=
  match f with
  | some g => match g.target with
    | some (tt, tgt) => match s.baseUs tt t with
      | some now => decide (0 < s.rd R.CN_CTRL_LATE_LIM c) && reached now (tgt + s.rd R.CN_CTRL_LATE_LIM c : Nat) 32
      | none => false
    | none => false
  | none => false

/-- CTXT_MISSED: a timed frame that has not gone in progress by its late limit is removed (R410). -/
def State.ctxtMissed (s : State) (c b t : Nat) : State :=
  let x := s.cbuf c b
  let gone := !TxFrame.hasBegun x.tx && s.ctxLate c x.tx t
  let goneNext := s.ctxLate c x.next t
  if gone || goneNext then
    let y := { x with tx := if gone then (if goneNext then none else x.next) else x.tx,
                      next := if gone || goneNext then none else x.next }
    ((((s.setCbuf c b y).wr R.CN_BUF_STAT_MISSED 1 c b).wr R.CN_FLAGS_TX_MISSED 1 c).canEvent c 4 t).txPending c b
  else s

/-- The SYNC frame's identifier rank (R416). -/
def State.syncRank (s : State) (c : Nat) : Nat := s.rd R.CN_SYNC_SYNC_ID c * 2 ^ 21

/-- The frame that enters arbitration: the highest bus priority, then the SYNC frame, then the lower buffer (R409,
R416). None stands for no frame, `some none` for the SYNC frame. -/
def State.canNext (s : State) (c : Nat) : Option (Option Nat) :=
  let cands := (List.range 64).filter fun b => match (s.cbuf c b).tx with
    | some f => f.held.isNone
    | none => false
  let rank b := canRank (match (s.cbuf c b).tx with
    | some f => f.desc
    | none => [])
  let best := cands.foldl (fun a b => match a with
    | none => some b
    | some k => if rank b < rank k then some b else some k) (none : Option Nat)
  if (s.can c).syncTx then
    match best with
    | some k => if rank k < s.syncRank c then some (some k) else some none
    | none => some none
  else best.map some

/-- Whether a controller may transmit. -/
def State.canMaySend (s : State) (c : Nat) : Bool :=
  (s.canSt c == ceActive || s.canSt c == cePassive) && !(s.can c).integrating && s.rd R.CN_STAT_LISTEN_ONLY c == 0

/-- Whether a frame of controller `c` is in progress. -/
def State.canBusy (s : State) (c : Nat) : Bool := (s.can c).syncProg || (List.range 64).any (s.inProgress c)

/-- CAN_TX_START: the pending frame of highest priority is in progress from its SOF (R409). -/
def State.canTxStart (s : State) (c : Nat) (b : Option Nat) : State :=
  if s.canMaySend c && !s.canBusy c && s.canNext c == some b then
    match b with
    | some k =>
      let x := s.cbuf c k
      (s.setCbuf c k { x with tx := x.tx.map fun f => { f with begun := true } }).wr R.CN_BUF_STAT_IN_PROGRESS 1 c k
    | none => s.setCan c { s.can c with syncProg := true, syncBegun := true }
  else s

/-! ### PDOs (R413 to R416) -/

/-- Bytes of a DLC (R144). -/
def dlcBytes (d : List Word) : Nat :=
  let dlc := fieldOf (d.getD 1 0) 3 0
  if dlc ≤ 8 then dlc else if (d.getD 0 0).getLsbD 30 then [12, 16, 20, 24, 32, 48, 64].getD (dlc - 9) 64 else 8

/-- The data bytes a frame carries: a remote frame none (R144). -/
def carried (d : List Word) : Nat := if (d.getD 1 0).getLsbD 8 then 0 else dlcBytes d

/-- The descriptor of a received frame: 18 words, unused data bytes and fields 0 (R144). -/
def rxDesc (d : List Word) : List Word :=
  let n := carried d
  (d.getD 0 0) :: (d.getD 1 0 &&& 0x30F#32) :: (List.range 16).map fun k =>
    if 4 * k + 4 ≤ n then d.getD (k + 2) 0 else BitVec.ofNat 32 ((d.getD (k + 2) 0).toNat % 2 ^ (8 * (n - 4 * k)))

/-- The 64 data bits of a frame's first eight bytes. -/
def frameBits (d : List Word) : Nat := (d.getD 2 0).toNat + (d.getD 3 0).toNat * 2 ^ 32

/-- Data word `k` of an RX PDO (R413, R414). -/
def pdoWord (ms : List MapEnt) (bits k : Nat) : Word :=
  (ms.filter fun m => m.word == k).foldl (fun w m =>
    let v := bits / 2 ^ m.fbit % 2 ^ m.len
    let z := if m.sign && 2 ^ (m.len - 1) ≤ v then fromSigned (32 - m.wbit) (toSigned m.len v) else v
    w ||| BitVec.ofNat 32 (z * 2 ^ m.wbit)) 0

/-- The frame of a TX PDO from its Q words (R415). -/
def pdoFrame (l : Lane) (c b : Nat) (q : List Word) : List Word :=
  let ms := l.canMaps c b
  let bits := ms.foldl (fun a m => a + (q.getD m.word 0).toNat / 2 ^ m.wbit % 2 ^ m.len * 2 ^ m.fbit) 0
  let w0 := BitVec.ofNat 32 (l.canId c b) ||| (if l.canIde c b then 0x20000000#32 else 0)
  [w0, BitVec.ofNat 32 (nNeed ms), BitVec.ofNat 32 bits, BitVec.ofNat 32 (bits / 2 ^ 32)] ++ List.replicate 14 0

/-- Whether buffer `b` is a TX PDO of the given mode. -/
def State.txPdo (s : State) (c b mode : Nat) : Bool :=
  let l := s.tab
  l.canUsed c b && l.canDir c b == 2 && l.canPdo c b && l.canTmode c b == mode

/-- The Q words of a TX PDO as applied before `t`: a commit stamped `t` belongs to the next frame (R10, R415). -/
def CanBuf.qBy (x : CanBuf) (t : Nat) : List Word := if x.qAt = some t then x.qBefore else x.q

/-- Queues a TX PDO's frame with the Q words `q` at `t`; outside SYNC mode not before the inhibit interval has passed (R415). -/
def State.pdoSend (s : State) (c b : Nat) (q : List Word) (t : Nat) : State :=
  let l := s.tab
  let x := s.cbuf c b
  let hold := l.canTmode c b != 1 && (match x.lastQueue with
    | some a => decide (t < a + l.canInhibit c b * 100000)
    | none => false)
  if s.canGated c then s
  else if hold then s.setCbuf c b { x with deferred := true }
  else (s.setCbuf c b { x with lastQueue := some t, deferred := false }).canQueue c b { desc := pdoFrame l c b q }

/-- Queues a TX PDO's frame at `t` with the data as applied then. -/
def State.pdoQueue (s : State) (c b t : Nat) : State := s.pdoSend c b ((s.cbuf c b).qBy t) t

/-- PDO_INHIBIT_END: a held queuing takes place (R415). -/
def State.pdoInhibitEnd (s : State) (c b t : Nat) : State := if (s.cbuf c b).deferred then s.pdoQueue c b t else s

/-- A commit stamped `t` reaches a TX PDO: its Q words, and a queuing on a change of a mapped bit, with the words that changed it;
a held queuing that is due comes first (R10, R415; DEDUCED, log entry 51). -/
def State.pdoCommit (s : State) (c b : Nat) (ws : List (Nat × Word)) (t : Nat) : State :=
  let l := s.tab
  let s0 := s.pdoInhibitEnd c b t
  let x := s0.cbuf c b
  let q0 := (List.range 8).map fun k => x.q.getD k 0
  let q := (List.range 8).map fun k => (NMap.look ws k).getD (q0.getD k 0)
  let s1 := s0.setCbuf c b { x with q := q, qAt := some t, qBefore := x.qBy t }
  if s.txPdo c b 0 && pdoFrame l c b q != pdoFrame l c b q0 then s1.pdoSend c b q t else s1

/-- PDO_EVENT_TIMER: TMR ms after the previous queuing in CHANGE, every TMR ms in TIMER (R415). -/
def State.pdoTimer (s : State) (c b t : Nat) : State :=
  let k := s.tab.canTmr c b
  let due := match (s.cbuf c b).lastQueue with
    | some a => decide (a + k * 1000000 ≤ t)
    | none => s.txPdo c b 2
  if (s.txPdo c b 0 || s.txPdo c b 2) && decide (0 < k) && due then s.pdoQueue c b t else s

/-- A SYNC frame received or produced: every SYNC_N-th queues the SYNC PDOs (R415). -/
def State.syncSeen (s : State) (c t : Nat) : State :=
  let n := (s.can c).syncs + 1
  (List.range 64).foldl (fun s b =>
    if s.txPdo c b 1 && n % (s.tab.canSyncN c b) == 0 then s.pdoQueue c b t else s) (s.setCan c { s.can c with syncs := n })

/-- SYNC_PRODUCE: the frame is pending; one that has been in progress completes first (R409, R416; DEDUCED, log entry 51: one that
has not is replaced). -/
def State.syncProduce (s : State) (c t : Nat) : State :=
  let p := s.rd R.CN_SYNC_SYNC_PERIOD c
  if 0 < p ∧ (s.can c).lastSync + p * 1000000 ≤ t ∧ s.canGated c = false ∧ s.canSt c ≠ ceOff then
    let x := s.can c
    (s.setCan c { x with lastSync := t, syncTx := true, syncNext := x.syncBegun }).syncSeen c t
  else s

/-- The status word of an RX PDO. -/
def pdoStatusWord (low count : Nat) : Word := BitVec.ofNat 32 (low + min 0xFFFF count * 65536)

/-- PDO_TIMEOUT of an RX PDO (R414). -/
def State.pdoTimeout (s : State) (c b t : Nat) : State :=
  let l := s.tab
  let x := s.cbuf c b
  let k := l.canTmr c b
  match s.tmoBase x.lastRx with
  | none => s
  | some a =>
    if l.canUsed c b && l.canDir c b == 1 && l.canPdo c b && decide (0 < k) && !x.pdoStatus.getLsbD 1 &&
        decide (a + k * 1000000 ≤ t) then
      let w := (x.pdoStatus ||| 2#32) &&& ~~~1#32
      let s1 := ((s.setCbuf c b { x with pdoStatus := w }).wr R.CN_BUF_STAT_TIMEOUT 1 c b).canEvent c 5 t
      match NMap.look s1.maps (0x1000 + 64 * c + b) with
      | some a => s1.deliverWords a [w] t
      | none => s1
    else s

/-- A frame valid at `at_` given to RX buffer `b`; its reception stamp is the first whole µs after that (R406, R414). -/
def State.canGive (s : State) (c b : Nat) (d : List Word) (at_ : Nat) : State :=
  let t := usAfter at_
  let l := s.tab
  let x := s.cbuf c b
  let n := x.pdoCount + 1
  let pdo := l.canPdo c b
  let ms := l.canMaps c b
  let short := pdo && decide (carried d < nNeed ms)
  let w := pdoStatusWord (if short then 4 else 1) n
  let s1 := s.setCbuf c b { x with rx := d, rxStamp := t / 1000, pdoCount := n, lastRx := some t,
                                   pdoStatus := if pdo then w else x.pdoStatus }
  let s2 := ((s1.bump R.CN_BUF_STAT_COUNT c b).wr R.CN_BUF_STAT_PENDING 1 c b).hbufPut c b d true
  let s3 := (s2.wr R.CN_BUF_STAT_SHORT (if short then 1 else 0) c b).wr R.CN_BUF_STAT_TIMEOUT 0 c b
  let s4 := s3.putComm (keyCan c b) { status := 0, stampUs := t / 1000, len := carried d, data := d, count := n } t
  let s5 :=
    if pdo then
      match NMap.look s4.maps (0x1000 + 64 * c + b) with
      | some a => s4.deliverWords a (w :: (if short then [] else (List.range 8).map (pdoWord ms (frameBits d)))) t
      | none => s4
    else s4
  if l.canEvEn c b then s5.canEvent c 6 t else s5

/-! ### Reception (R406, R407) -/

/-- Whether a frame's identifier matches an ID and MASK of a format. -/
def idMatch (ide : Bool) (id mask : Nat) (w0 : Word) : Bool :=
  w0.getLsbD 29 == ide && ((fieldOf w0 28 0) ^^^ id) &&& mask == 0

/-- CAN_FRAME_RECEIVED; `dataOk`: the data phase is without error too. -/
def State.canReceive (s : State) (c : Nat) (d0 : List Word) (dataOk : Bool) (t : Nat) : State :=
  let d := rxDesc d0
  let st := s.canSt c
  if st = ceDetect then s.rateAdopt c t
  else if !dataOk || !(st == ceActive || st == cePassive) || (s.can c).integrating then s
  else
    let l := s.tab
    let w0 := d.getD 0 0
    let s0 := s.wr R.CN_STAT_REC (let r := s.rd R.CN_STAT_REC c; if 127 < r then 119 + Config.canRecAfter r % 9 else r - 1) c
    let s1 := s0.canErrState c (s0.rd R.CN_STAT_TEC c) t
    let s2 :=
      match (List.range 64).find? fun b => l.canUsed c b && l.canDir c b == 1 && idMatch (l.canIde c b) (l.canId c b) (l.canMask c b) w0 with
      | some b => s1.canGive c b d t
      | none =>
        if s.rd R.CN_CTRL_FIFO_EN c = 1 ∧
            idMatch ((l.canWord c 4).getLsbD 29) (fieldOf (l.canWord c 4) 28 0) (fieldOf (l.canWord c 5) 28 0) w0 = true then
          let x := s1.can c
          if x.fifo.length < 32 then
            let s3 := (s1.setCan c { x with fifo := x.fifo ++ [d] }).wr R.CN_STAT_FIFO_FILL (x.fifo.length + 1) c
            if x.fifo.isEmpty then s3.canEvent c 3 t else s3
          else ((s1.bump R.CN_CNT_RX_DISC c).wr R.CN_FLAGS_FIFO_OVF 1 c).canEvent c 3 t
        else (s1.bump R.CN_CNT_RX_DISC c).wr R.CN_FLAGS_RX_DISC 1 c
    if w0.toNat % 2 ^ 31 = s.rd R.CN_SYNC_SYNC_ID c ∧ fieldOf (d.getD 1 0) 3 0 = 0 ∧ (d.getD 1 0).getLsbD 8 = false then s2.syncSeen c t else s2

/-- CRXF's pop as released (R407): the frame and the frames left. -/
def State.canPop (s : State) (c : Nat) : State × Option (List Word) × Nat :=
  match (s.can c).fifo with
  | [] => (s, none, 0)
  | d :: r => ((s.setCan c { s.can c with fifo := r }).wr R.CN_STAT_FIFO_FILL r.length c, some d, r.length)

/-- The next frame of a buffer moves up. -/
def State.canMoveUp (s : State) (c b : Nat) : State :=
  let x := s.cbuf c b
  ((s.setCbuf c b { x with tx := x.next, next := none }).wr R.CN_BUF_STAT_IN_PROGRESS 0 c b).txPending c b

/-- CAN_TX_COMPLETE: the frame leaves its buffer (R409). -/
def State.canTxComplete (s : State) (c : Nat) (b : Option Nat) (t : Nat) : State :=
  let s0 := s.wr R.CN_STAT_TEC (s.rd R.CN_STAT_TEC c - 1) c
  match b with
  | none =>
    if (s.can c).syncProg then
      let x := s0.can c
      (s0.setCan c { x with syncTx := x.syncNext, syncNext := false, syncBegun := false, syncProg := false }).canErrState c
        (s0.rd R.CN_STAT_TEC c) t
    else s
  | some k =>
    if !s.inProgress c k then s
    else ((s0.bump R.CN_BUF_STAT_COUNT c k).canMoveUp c k).canErrState c (s0.rd R.CN_STAT_TEC c) t

/-- The frame in progress is no longer: it stays pending for its next opportunity, or is removed where nothing may be sent
(R409, R412). -/
def State.canTxStop (s : State) (c : Nat) (b : Option Nat) : State :=
  match b with
  | some k =>
    let s1 := s.wr R.CN_BUF_STAT_IN_PROGRESS 0 c k
    if s.canGated c then (s1.setCbuf c k { s1.cbuf c k with tx := none, next := none }).txPending c k else s1
  | none =>
    let x := { s.can c with syncProg := false }
    s.setCan c (if s.canGated c then { x with syncTx := false, syncBegun := false, syncNext := false } else x)

/-- CAN_TX_ERROR: lost arbitration (`arb`; also an error by which ISO 11898-1 leaves TEC), or an error that adds 8 to TEC; the
frame is retried (R409, R411). -/
def State.canTxError (s : State) (c : Nat) (b : Option Nat) (arb : Bool) (t : Nat) : State :=
  let s1 := s.canTxStop c b
  if !(match b with
      | some k => s.inProgress c k
      | none => (s.can c).syncProg) then s
  else if arb then s1
  else
    let tec := s.rd R.CN_STAT_TEC c + 8
    (s1.wr R.CN_STAT_TEC (min 255 tec) c).canErrState c tec t

/-- Every pending frame of controller `c` is removed (R412, R442). -/
def State.canFlush (s : State) (c : Nat) : State :=
  let y := s.can c
  let s1 := s.setCan c { y with syncTx := y.syncProg, syncBegun := y.syncProg, syncNext := false }
  (List.range 64).foldl (fun s b =>
    let x := s.cbuf c b
    if s.inProgress c b then s.setCbuf c b { x with next := none, deferred := false }
    else if x.tx.isSome || x.deferred then (s.setCbuf c b { x with tx := none, next := none, deferred := false }).txPending c b
    else s) s1

/-! ### Load and sets (R402, R403, R405) -/

/-- Whether the bit timing of a controller is legal (R402). -/
def canTimingOk (w : Nat → Word) (c : Nat) : Bool :=
  let q := (fget w R.CN_BT_BRPM1 c + 1) * (3 + fget w R.CN_BT_TSEG1M1 c + fget w R.CN_BT_TSEG2M1 c)
  let d := (fget w R.CN_DBT_BRPM1 c + 1) * (3 + fget w R.CN_DBT_TSEG1M1 c + fget w R.CN_DBT_TSEG2M1 c)
  decide (80 ≤ q ∧ q ≤ 8000 ∧ d ≤ q ∧ 16 ≤ d) && decide (fget w R.CN_BT_SJWM1 c ≤ fget w R.CN_BT_TSEG2M1 c) &&
    decide (fget w R.CN_DBT_SJWM1 c ≤ fget w R.CN_DBT_TSEG2M1 c)

/-- Whether a pending CN set may take effect. -/
def canSetOk (w : Nat → Word) : Bool := [0, 1, 2, 3].all (canTimingOk w)

/-- After a CN set took effect: a controller whose EN, BT or DBT changed starts anew (R403). -/
def State.canSetApplied (s : State) (old : Nat → Word) (t : Nat) : State :=
  [0, 1, 2, 3].foldl (fun s c =>
    let a := R.CN_CTRL_EN.addr c
    if (old a).getLsbD 0 != (s.rf.word a).getLsbD 0 || old (a + 4) != s.rf.word (a + 4) || old (a + 8) != s.rf.word (a + 8) then
      s.canStart c t
    else s.wr R.CN_STAT_LISTEN_ONLY (if s.canSt c = ceDetect then 1 else if s.canSt c = ceOff then 0 else s.rd R.CN_CTRL_LISTEN c) c) s

/-- Masks of the four controller words. -/
def canMasks : List Word := [0xFFFF0F0F#32, 0x7F7FFF1F#32, 0x0F0F1F1F#32, 0xFFFF07FF#32]

/-- The unit after a reset: no frame is left; a WARM reset keeps the counts since COLD (R412, R414). -/
def CanState.restarted (x : CanState) (cold : Bool) : CanState :=
  let n (b : CanBuf) := if cold then 0 else b.pdoCount
  { buf := x.buf.map fun p => (p.1, ({ pdoCount := n p.2, pdoStatus := pdoStatusWord 0 (n p.2) } : CanBuf)) }

/-- The load after a reset and the start of every controller (R403, R405). `cold`: the counts since COLD begin anew. -/
def State.canLoad (s : State) (cold : Bool) (t : Nat) : State :=
  [0, 1, 2, 3].foldl (fun s c =>
    let s1 := (List.range 4).foldl (fun s k => s.wrWord (R.CN_CTRL_EN.addr c + 4 * k) (s.tab.canWord c k &&& canMasks.getD k 0)) s
    let d := s1.rd R.CN_CTRL_BO_DELAY c
    let s2 := if 10 < d then (s1.wr R.CN_CTRL_BO_DELAY 10 c).clampCnt .cn else s1
    let bad := ((List.range 64).filter fun b => s2.tab.canDir c b != 0 && !s2.tab.canUsed c b).length
    let s3 := if bad = 0 then s2 else (s2.clampCnt .cn bad).wr R.CN_FLAGS_TABLE_ERR 1 c
    s3.canStart c t) ({ s with cn := s.cn.restarted cold } : State)

end Sys2Proof.Machine
end

