-- ==== Sys2Proof/Machine/Redundancy.lean ====
section
/-! DEFINITION. The redundancy unit: lease messages, the mastership lease, what acting gates, the comparison of published
telegrams, commands and the status sample (spec/17_module_redundancy.md). -/

namespace Sys2Proof.Machine

/-! ### Roles, identity and timing -/

/-- ROLE codes of RD_STATE. -/
def rrSolitary : Nat := 0
def rrListening : Nat := 1
def rrFollower : Nat := 2
def rrClaiming : Nat := 3
def rrHolder : Nat := 4

/-- TYPE codes of a lease message (R434). -/
def ltRenew : Nat := 1
def ltAck : Nat := 2
def ltClaim : Nat := 3
def ltRelease : Nat := 4
def ltStatus : Nat := 5
def ltHandover : Nat := 6

def State.setRd (s : State) (r : RdState) : State := { s with rd_ := r }
def State.role (s : State) : Nat := s.rd R.RD_STATE_ROLE
def State.rdEn (s : State) : Bool := s.rd R.RD_CFG_EN == 1
def State.ownSlot (s : State) : Nat := s.rd R.RD_CFG_SLOT_ID
/-- The steep S and the guard G in ns (R436). -/
def State.steep (s : State) : Nat := 1000000 * s.rd R.RD_TIMING_STEEP
def State.rdGuard (s : State) : Nat := 2 * 10000 * s.rd R.RD_TIMING_DRIFT + 5000000
def State.cmpFault (s : State) : Bool := s.rd R.RD_STATE_CMP_FAULT == 1
def State.ownRank (s : State) : Nat := s.rd R.VT_STATE_RANK

/-- BARRED (R445, R446). -/
def State.barred (s : State) : Bool := s.rd_.bar || s.rd_.yieldBar

/-- The DUP_ID condition at `t`: a message that showed it within the last steep/2 (R432). -/
def State.dupId (s : State) (t : Nat) : Bool :=
  match s.rd_.dupAt with
  | some d => decide (t < d + s.steep / 2)
  | none => false

/-- Whether the module may claim (R438): DUP_ID is clear, the flag and the condition behind it (R432). -/
def State.mayClaim (s : State) (t : Nat) : Bool :=
  s.mode == mdRun && !s.pwDown && (s.vstate == vsTriplex || s.isDuplex) && !s.barred &&
    s.rd R.RD_FLAGS_DUP_ID == 0 && !(s.rdEn && s.dupId t)

/-! ### Status sample (R447) -/

/-- The members alive at this module. -/
def State.aliveSlots (s : State) : List Nat :=
  ((List.range 3).filter fun m => s.rd R.RD_MEMBER_ALIVE m == 1).map fun m => s.rd R.RD_MEMBER_SLOT_ID m

/-- Words 0 and 1 of the status sample. -/
def State.rdWords (s : State) : Word × Word :=
  (BitVec.ofNat 32 (s.role + (if s.acting then 8 else 0) + s.ownRank * 16 + (if s.cmpFault then 128 else 0) +
      s.rd R.RD_STATE_HOLDER * 256 + s.aliveSlots.length * 65536),
   BitVec.ofNat 32 (s.rd R.RD_EPOCH_EPOCH))

/-- Delivers the sample at `t` to the I words its map names. -/
def State.rdDeliver (s : State) (t : Nat) : State :=
  let w := s.rdWords
  let s0 := s.setRd { s.rd_ with sampleAt := t }
  let s1 := if w = s.rd_.status then s0 else s0.setRd { s0.rd_ with status := w, changeAt := t / 1000 }
  match NMap.look s1.maps 0x2000 with
  | none => s1
  | some i => s1.deliverWords i [w.1, w.2, BitVec.ofNat 32 s1.rd_.changeAt] t

/-- RD_STATUS_SAMPLE: the sample every 10 ms where nothing changes (R447). -/
def State.rdPeriodic (s : State) (t : Nat) : State := if s.rd_.sampleAt + 10000000 ≤ t then s.rdDeliver t else s

/-- Delivers the sample when its content has changed. -/
def State.rdSample (s : State) (t : Nat) : State := if s.rdWords = s.rd_.status then s else s.rdDeliver t

/-! ### Sending (R434, R435) -/

/-- Bytes 0 to 27 of a lease message (R434). -/
def leaseBody (m : LeaseMsg) : List Byte :=
  leBytes m.type 1 ++ leBytes m.slot 1 ++ leBytes m.rank 1 ++ leBytes m.flags 1 ++ wordBytes m.group ++ wordBytes m.epoch ++
    wordBytes m.seq ++ wordBytes m.ref ++ leBytes m.steep 4 ++ wordBytes m.serial

/-- The 32 bytes of a lease message: the dataset of LEASE_PD_TX and the payload of a link frame (R433, R434). -/
def leaseBytes (m : LeaseMsg) : List Byte := leaseBody m ++ wordBytes m.crc

/-- Whether the CRC of a lease message is that of its bytes 0 to 27 (R434). -/
def leaseCrcOk (m : LeaseMsg) : Bool := m.crc == crc32 (leaseBody m)

/-- The message in 8 words of a dataset. -/
def leaseOf (ws : List Word) : LeaseMsg :=
  let w (k : Nat) : Word := ws.getD k 0
  { type := fieldOf (w 0) 7 0, slot := fieldOf (w 0) 15 8, rank := fieldOf (w 0) 23 16, flags := fieldOf (w 0) 31 24, group := w 1,
    epoch := w 2, seq := w 3, ref := w 4, steep := (w 5).toNat, serial := w 6, crc := w 7 }

/-- A list of bytes as words. -/
def byteWords (bs : List Byte) : List Word :=
  (List.range ((bs.length + 3) / 4)).map fun k =>
    bytesWord (bs.getD (4 * k) 0) (bs.getD (4 * k + 1) 0) (bs.getD (4 * k + 2) 0) (bs.getD (4 * k + 3) 0)

/-- The inter-module links a message travels on: those of PATHS, but the one of the own slot code (R433, R522). -/
def State.leaseLinks (s : State) : List Nat :=
  if (s.rd R.RD_CFG_PATHS).testBit 2 then [0, 1, 2, 3].filter fun k => k != s.slotCode % 4 else []

/-- Composes a lease message and sends it on every path of PATHS (R433 to R435). -/
def State.rdSend (s : State) (type ref t : Nat) : State :=
  let n := (s.rd_.seq + 1) % 2 ^ 32
  let m : LeaseMsg := {
    type := type, slot := s.ownSlot, rank := s.ownRank,
    flags := (if s.acting then 1 else 0) + (if s.cmpFault then 2 else 0) + (if s.barred then 4 else 0),
    group := BitVec.ofNat 32 (s.rd R.RD_GROUP_ID), epoch := BitVec.ofNat 32 (s.rd R.RD_EPOCH_EPOCH),
    seq := BitVec.ofNat 32 n, ref := BitVec.ofNat 32 ref, steep := s.rd R.RD_TIMING_STEEP,
    serial := BitVec.ofNat 32 Config.serial }
  let sent : LeaseMsg := { m with crc := crc32 (leaseBody m) }
  let paths := s.rd R.RD_CFG_PATHS
  let o : LeaseOut := { msg := sent, planes := [0, 1].filter paths.testBit, links := s.leaseLinks }
  (s.setRd { s.rd_ with seq := n, out := (o :: s.rd_.out).take 4 }).leasePublish (paths % 4) (byteWords (leaseBytes sent)) t

/-- The holder sends a RENEW at `t`; with no other member alive it acknowledges it itself (R436). -/
def State.rdRenew (s : State) (t : Nat) : State :=
  let s1 := s.rdSend ltRenew 0 t
  let al := s1.aliveSlots
  let r := s1.rd_
  if al.isEmpty then s1.setRd { r with ackAt := t, periodAt := some t }
  else
    let keep := r.renews.filter fun x => decide (t < x.at_ + s.steep / 4)
    s1.setRd { r with renews := keep ++ [{ n := r.seq, at_ := t, alive := al }], periodAt := some t }

/-! ### Acting (R442) -/

/-- ROLE changes; EV384 (R447). -/
def State.setRole (s : State) (role t : Nat) : State :=
  if s.role = role then s else (s.wr R.RD_STATE_ROLE role).raise 384 t

/-- The running pulses and timed levels of the leased groups end (R442). -/
def State.endLeasedTimed (s : State) : State :=
  (List.range 128).foldl (fun s c =>
    if s.fieldLeased (c / 16) then
      let x := s.ch c
      s.setCh c { x with timed := none, pulseEnd := none, dopEnd := none }
    else s) s

/-- The module stops acting. -/
def State.stopActing (s : State) (t : Nat) : State :=
  if !s.acting then s
  else
    let s1 := (s.wr R.RD_STATE_ACTING 0).raise 384 t
    let s2 := s1.dropLeased.endLeasedTimed.allOut
    (List.range 4).foldl (fun s c => if s.canLeased c then s.canFlush c else s) s2

/-- The module starts acting: the stored state of the leased groups is applied. -/
def State.startActing (s : State) (t : Nat) : State :=
  if s.acting then s else ((s.wr R.RD_STATE_ACTING 1).raise 384 t).allOut

/-- The module becomes a follower at `t`. -/
def State.rdFollower (s : State) (t : Nat) : State :=
  (s.setRole rrFollower t).setRd { s.rd_ with base := t, renews := [] }

/-- The holder stops acting, sends a message and becomes a follower (R436, R438, R446). -/
def State.rdGiveUp (s : State) (type ref t : Nat) : State :=
  ((((s.stopActing t).rdFollower t).wr R.RD_STATE_HOLDER 255).rdSend type ref t).rdSample t

/-- CLAIM is sent and the wait of S/4 begins (R437). -/
def State.rdClaim (s : State) (t : Nat) : State :=
  let s1 := (s.setRole rrClaiming t).rdSend ltClaim 0 t
  (s1.setRd { s1.rd_ with claimAt := t }).rdSample t

/-- The module takes the lease (R437). -/
def State.rdTake (s : State) (t : Nat) : State :=
  let e := (s.rd R.RD_EPOCH_EPOCH + 1) % 2 ^ 32
  let s1 := (((s.wr R.RD_EPOCH_EPOCH e).bump R.RD_TAKE_CNT).setRole rrHolder t).wr R.RD_STATE_HOLDER s.ownSlot
  let s2 := s1.setRd { s1.rd_ with ackAt := t, renews := [] }
  ((s2.startActing t).rdRenew t).rdSample t

/-! ### Comparison and yield (R444, R445) -/

def State.pairW (s : State) (k : Nat) : Word := s.tw (0x03391020 + 8 * k)
def State.pairPub (s : State) (k : Nat) : Nat := fieldOf (s.pairW k) 10 0
def State.pairSub (s : State) (k : Nat) : Nat := fieldOf (s.pairW k) 26 16
def State.pairPartner (s : State) (k : Nat) : Nat := fieldOf (s.tw (0x03391024 + 8 * k)) 7 0
def State.pairEn (s : State) (k : Nat) : Bool := (s.pairW k).getLsbD 31

/-- Whether an enabled pair keeps the rules of R444. -/
def State.pairOk (s : State) (k : Nat) : Bool :=
  let l := s.tab
  let p := s.pairPub k
  let q := s.pairSub k
  l.pdUsed p && l.pdDir p == 1 && !l.pdLease p && l.pdUsed q && l.pdDir q == 2 && l.pdSrcFilt q && l.pd p 1 == l.pd q 1

/-- The pairs in use. -/
def State.pairs (s : State) : List Nat := (List.range 64).filter fun k => s.pairEn k && s.pairOk k

def State.rdPair (s : State) (k : Nat) : RdPair := NMap.get s.rd_.pairs {} k
def State.setPair (s : State) (k : Nat) (x : RdPair) : State := s.setRd { s.rd_ with pairs := NMap.put s.rd_.pairs k x }

/-- The RANK in the latest message from a slot. -/
def State.partnerRank (s : State) (slot : Nat) : Option Nat :=
  ((List.range 3).find? fun m => s.rd R.RD_MEMBER_SLOT_ID m == slot).map fun m => s.rd R.RD_MEMBER_RANK m

/-- Compares the own RANK with the partners of the faulted pairs while a fault stands (R445). -/
def State.rdRanks (s : State) (t : Nat) : State :=
  if !s.cmpFault then s
  else
    let ks := (List.range 64).filter fun k => (s.rdPair k).faulted
    let rs := ks.filterMap fun k => s.partnerRank (s.pairPartner k)
    let s1 := s.wr R.RD_STATE_CMP_EQUAL (if rs.any (· == s.ownRank) then 1 else 0)
    if rs.any fun r => decide (r < s.ownRank) then
      let s2 := if s1.role = rrHolder then s1.rdGiveUp ltRelease 0 t else s1
      let s3 := if s2.rd_.yieldBar then s2 else s2.wr R.RD_FLAGS_YIELDED 1
      (s3.setRd { s3.rd_ with yieldBar := true }).wr R.RD_STATE_BARRED 1
    else s1

/-- The comparison fault changes (R444, R445, R447). -/
def State.cmpFaultChange (s : State) (on : Bool) (t : Nat) : State :=
  if s.cmpFault = on then s
  else
    let s1 := (s.wr R.RD_STATE_CMP_FAULT (if on then 1 else 0)).raise 385 t
    if on then s1.rdRanks t
    else
      let s2 := s1.setRd { s1.rd_ with yieldBar := false, pairs := s1.rd_.pairs.map fun p => (p.1, { p.2 with faulted := false, matched := 0 }) }
      ((s2.wr R.RD_STATE_CMP_EQUAL 0).wr R.RD_STATE_BARRED (if s2.rd_.bar then 1 else 0))

/-- LAST codes of RD_CMP_STAT. -/
def rcMatch : Nat := 1
def rcMismatch : Nat := 2
def rcNotCompared : Nat := 3

/-- An own publication `u` of pair `k` is judged (R444). LAST_SEQ is the counter last compared. -/
def State.pairJudge (s : State) (k : Nat) (u : RdPub) (code t : Nat) : State :=
  let p : RdPair := { s.rdPair k with opn := (s.rdPair k).opn.erase u }
  let s1 := (s.setPair k p).wr R.RD_CMP_STAT_LAST code k
  let lim := s.rd R.RD_CFG_CMP_RUN
  if code = rcNotCompared then s1.bump R.RD_NOCMP_CNT
  else
    let s0 := s1.wr R.RD_CMP_STAT_LAST_SEQ (u.counter % 65536) k
    if code = rcMatch then
      let s2 := (s0.wr R.RD_CMP_STAT_RUN 0 k).setPair k { p with matched := p.matched + 1 }
      if s2.cmpFault && (List.range 64).all fun j => !(s2.rdPair j).faulted || decide (lim ≤ (s2.rdPair j).matched) then
        s2.cmpFaultChange false t
      else s2
    else
      let s2 := ((s0.bump R.RD_CMP_STAT_RUN k).bump R.RD_MISMATCH_CNT)
      let f := p.faulted || decide (lim ≤ s2.rd R.RD_CMP_STAT_RUN k)
      let s3 := s2.setPair k { p with matched := 0, faulted := f }
      if f then (if s3.cmpFault then (if p.faulted then s3 else s3.rdRanks t) else s3.cmpFaultChange true t) else s3

/-- Entry `n` has published: the comparison of its pairs opens (R444). -/
def State.pairsOpen (s : State) (n : Nat) : State :=
  let x := s.nwPd n
  let u : RdPub := { counter := x.counter.getD 0, at_ := x.pubAt.getD 0, ok := x.pubTt && !x.pubInvalid, data := x.pubData }
  (s.pairs.filter fun k => s.pairPub k == n).foldl (fun s k => s.setPair k { s.rdPair k with opn := (s.rdPair k).opn ++ [u] }) s

/-- PD_PUBLICATION with the comparison pairs of the entry (R389, R444). -/
def State.publishAt (s : State) (n : Nat) (codesOk : Bool) (t : Nat) : State :=
  let l := s.tab
  let s1 := s.publish n codesOk t
  if s.pwDown || !(l.pdUsed n && l.pdDir n == 1) || l.leasePd n || (s.pdDue n t).isNone then s1 else s1.pairsOpen n

/-- The publication of pair `k` that a copy with counter `c` stamped `t` is compared with: within [t_p, t_p + CYCLE). -/
def State.pairFor (s : State) (k c t : Nat) : Option RdPub :=
  (s.rdPair k).opn.find? fun u => u.counter == c && decide (u.at_ ≤ t ∧ t < u.at_ + 1000 * s.tab.pdCycle (s.pairPub k))

/-- The subscribe entries in `subs` have accepted a copy: the pairs that name them are compared (R444). -/
def State.pairCopies (s : State) (subs : List Nat) (c : PdCopy) (t : Nat) : State :=
  s.pairs.foldl (fun s k =>
    if !subs.contains (s.pairSub k) then s
    else
      match s.pairFor k c.counter.toNat t with
      | none => s
      | some u =>
        let code := if !u.ok || c.dsLen == 0 then rcNotCompared
          else if c.dsLen == s.tab.pdLen (s.pairPub k) && c.data == u.data then rcMatch else rcMismatch
        (s.pairJudge k u code t).rdSample t) s

/-- COMPARISON_WINDOW_END of pair `k`: [t_p, t_p + CYCLE) has passed without a copy (R444). -/
def State.pairWindowEnd (s : State) (k t : Nat) : State :=
  match (s.rdPair k).opn.find? fun u => decide (u.at_ + 1000 * s.tab.pdCycle (s.pairPub k) ≤ t) with
  | some u => if s.pairs.contains k then (s.pairJudge k u rcNotCompared t).rdSample t else s
  | none => s

/-! ### Receiving (R432 to R437) -/

/-- The member entry of a slot: its own, or the next free one. -/
def State.memberAt (s : State) (slot : Nat) : Option Nat :=
  (s.rd_.members.findIdx? fun m => m.slot == slot).or
    (if s.rd_.members.length < 3 then some s.rd_.members.length else none)

/-- What a received message shows of its sender: RD_MEMBER and ALIVE (R435). -/
def State.memberHeard (s : State) (i : Nat) (m : LeaseMsg) (t : Nat) : State :=
  let old := (s.rd_.members[i]?).getD { slot := m.slot }
  let new : RdMember := { old with at_ := t, seen := ((m.type, m.seq.toNat) :: old.seen).take 16 }
  let ms := if i < s.rd_.members.length then s.rd_.members.set i new else s.rd_.members ++ [new]
  let was := s.rd R.RD_MEMBER_ALIVE i
  let s1 := ((((s.setRd { s.rd_ with members := ms }).wr R.RD_MEMBER_SLOT_ID m.slot i).wr R.RD_MEMBER_RANK m.rank i).wr
    R.RD_MEMBER_FLAGS m.flags i).wr R.RD_MEMBER_LAST_US (t / 1000 % 2 ^ 32) i
  if was = 0 then (s1.wr R.RD_MEMBER_ALIVE 1 i).raise 386 t else s1

/-- A RENEW arrives: it is acknowledged; a claimant withdraws; a holder yields to a lower slot (R435, R437, R440). -/
def State.gotRenew (s : State) (m : LeaseMsg) (t : Nat) : State :=
  let s1 := s.rdSend ltAck m.seq.toNat t
  if s1.role = rrHolder then
    if m.slot < s1.ownSlot then
      (((s1.stopActing t).rdFollower t).wr R.RD_FLAGS_DUAL_HOLDER 1).wr R.RD_STATE_HOLDER m.slot
    else s1
  else (s1.rdFollower t).wr R.RD_STATE_HOLDER m.slot

/-- An ACK arrives (R436). -/
def State.gotAck (s : State) (m : LeaseMsg) (t : Nat) : State :=
  if s.role ≠ rrHolder then s
  else
    let rs := s.rd_.renews.map fun (x : RdRenew) =>
      if x.n = m.ref.toNat ∧ t < x.at_ + s.steep / 4 then { x with acked := m.slot :: x.acked } else x
    let done (x : RdRenew) : Bool := x.alive.all fun a => x.acked.contains a
    let h := (rs.filter done).foldl (fun a (x : RdRenew) => max a x.at_) s.rd_.ackAt
    s.setRd { s.rd_ with renews := rs.filter fun x => !done x, ackAt := h }

/-- The highest EPOCH known: the newer of two by R9 in 32 bits (DEDUCED, log entry 72: a take adds 1 mod 2^32). -/
def newerEpoch (a b : Nat) : Nat := if 0 < sdiff b a 32 then b else a

/-- A message that has passed the checks takes effect. A HANDOVER acts only in the alive follower it names that may claim; the other
members ignore it (R446). -/
def State.gotMessage (s : State) (m : LeaseMsg) (t : Nat) : State :=
  let s1 := s.wr R.RD_EPOCH_EPOCH (newerEpoch (s.rd R.RD_EPOCH_EPOCH) m.epoch.toNat)
  let idle := s1.role == rrListening || s1.role == rrFollower
  let gone := if s1.rd R.RD_STATE_HOLDER = m.slot then s1.wr R.RD_STATE_HOLDER 255 else s1
  if m.type = ltRenew then s1.gotRenew m t
  else if m.type = ltAck then s1.gotAck m t
  else if m.type = ltClaim then
    if s1.role = rrClaiming ∧ m.slot < s1.ownSlot then s1.rdFollower t else s1
  else if m.type = ltRelease then
    if idle && s1.mayClaim t then gone.rdClaim t else gone
  else if m.type = ltHandover then
    if idle && fieldOf m.ref 7 0 == s1.ownSlot && s1.mayClaim t then gone.rdTake t else s1
  else s1

/-- LEASE_MESSAGE_RECEIVED (R432 to R434). -/
def State.leaseReceive (s : State) (m : LeaseMsg) (t : Nat) : State :=
  if !s.rdEn then s
  else if !leaseCrcOk m || m.group.toNat != s.rd R.RD_GROUP_ID then s.bump R.RD_RX_DISC_CNT
  else if m.steep ≠ s.rd R.RD_TIMING_STEEP then (s.bump R.RD_RX_DISC_CNT).wr R.RD_FLAGS_CFG_MISMATCH 1
  else if m.slot = s.ownSlot then
    if m.serial = BitVec.ofNat 32 Config.serial then s
    else (s.setRd { s.rd_ with dupAt := some t }).wr R.RD_FLAGS_DUP_ID 1
  else
    match s.memberAt m.slot with
    | none => s
    | some i =>
      let seen := ((s.rd_.members[i]?).map fun x => x.seen).getD []
      if seen.contains (m.type, m.seq.toNat) then s
      else
        let oldRank := s.rd R.RD_MEMBER_RANK i
        let s1 := s.memberHeard i m t
        let s2 := if oldRank = m.rank then s1 else s1.rdRanks t
        (s2.gotMessage m t).rdSample t

/-! ### Timed happenings -/

/-- LEASE_MESSAGE_SEND: the message every steep/4: a RENEW of the holder, otherwise a STATUS (R435). -/
def State.leaseSend (s : State) (t : Nat) : State :=
  let due := match s.rd_.periodAt with
    | some p => decide (p + s.steep / 4 ≤ t)
    | none => true
  if !s.rdEn || !due then s
  else if s.role = rrHolder then s.rdRenew t
  else
    let s1 := s.rdSend ltStatus 0 t
    s1.setRd { s1.rd_ with periodAt := some t }

/-- ACTING_EXPIRY: the holder stops acting at h_a + S − G (R436). -/
def State.actingExpiry (s : State) (t : Nat) : State :=
  if s.role = rrHolder ∧ s.rd_.ackAt + s.steep ≤ t + s.rdGuard then
    (s.rdGiveUp ltRelease 0 t).wr R.RD_FLAGS_LOST 1
  else s

/-- CLAIM_TIMEOUT: no RENEW for S + G (R437). -/
def State.claimTimeout (s : State) (t : Nat) : State :=
  if s.rdEn && (s.role == rrListening || s.role == rrFollower) && decide (s.rd_.base + s.steep + s.rdGuard ≤ t) && s.mayClaim t then
    s.rdClaim t
  else s

/-- LEASE_TAKE: the end of the wait of S/4 (R437). -/
def State.leaseTake (s : State) (t : Nat) : State :=
  if s.role = rrClaiming ∧ s.rd_.claimAt + s.steep / 4 ≤ t ∧ s.mayClaim t = true then s.rdTake t else s

/-- MEMBER_ALIVE_EXPIRY of entry `i`: silent for steep/2 (R435). -/
def State.aliveExpiry (s : State) (i t : Nat) : State :=
  match s.rd_.members[i]? with
  | none => s
  | some m =>
    if s.rd R.RD_MEMBER_ALIVE i = 1 ∧ m.at_ + s.steep / 2 ≤ t then
      (((s.wr R.RD_MEMBER_ALIVE 0 i).raise 386 t)).rdSample t
    else s

/-! ### Commands (R446) -/

/-- A command that does not apply in the present role counts in RD_CLAMP_CNT. -/
def State.rdNotNow (s : State) : State := s.bump (R.BLK_CLAMP_CNT_COUNT.at .rd)

def State.rdRelease (s : State) (t : Nat) : State :=
  if s.role = rrHolder then s.rdGiveUp ltRelease 0 t else s.rdNotNow

def State.rdHandover (s : State) (successor t : Nat) : State :=
  if s.role = rrHolder then s.rdGiveUp ltHandover successor t else s.rdNotNow

def State.rdBar (s : State) : State := (s.setRd { s.rd_ with bar := true }).wr R.RD_STATE_BARRED 1

def State.rdUnbar (s : State) : State :=
  if s.cmpFault && s.barred then s else (s.setRd { s.rd_ with bar := false }).wr R.RD_STATE_BARRED 0

/-- A write of RD_CMD (R446, R447): codes 5 to 7 clamp to 4. -/
def State.rdCommand (s : State) (w : Word) (t : Nat) : State :=
  let op := fieldOf w 2 0
  if op = 0 then s
  else if op = 1 then s.rdRelease t
  else if op = 2 then s.rdHandover (fieldOf w 15 8) t
  else if op = 3 then s.rdBar
  else if op = 4 then s.rdUnbar
  else s.rdNotNow.rdUnbar

/-! ### What follows a change elsewhere (R438, R442, R445) -/

/-- The redundancy unit follows the program mode, the lane state and the own RANK at `t`. -/
def State.rdFollow (s : State) (t : Nat) : State :=
  let s1 :=
    if !s.rdEn then
      if s.mayClaim t then s.startActing t else s.stopActing t
    else if s.role = rrHolder ∧ (s.stopped || s.isSafe) then s.rdGiveUp ltRelease 0 t
    else if s.role = rrClaiming ∧ !s.mayClaim t then s.rdFollower t
    else s
  let s2 := if s1.rd_.rank = s1.ownRank then s1 else (s1.setRd { s1.rd_ with rank := s1.ownRank }).rdRanks t
  s2.rdSample t

/-! ### Load and staged set (R441) -/

/-- Whether a pending RD set may take effect: G at most S/2. -/
def rdSetOk (w : Nat → Word) : Bool :=
  let f (x : Fld) : Nat := x.ext (w (x.addr 0))
  decide (2 * (2 * 10000 * f R.RD_TIMING_DRIFT + 5000000) ≤ 1000000 * f R.RD_TIMING_STEEP)

/-- The lanes learn whether the module is a member of a lease group (R433). -/
def State.showLease (s : State) : State := s.onLanes fun l => { l with leaseEn := s.rdEn }

/-- The module listens under R437 from `t`; without EN it belongs to no group (R442). -/
def State.rdListen (s : State) (t : Nat) : State :=
  (s.setRole (if s.rdEn then rrListening else rrSolitary) t).setRd { s.rd_ with base := t, renews := [], periodAt := none }

/-- What a GO does before the set takes effect: a holder whose identity or timing it changes gives the lease up. -/
def State.rdBeforeSet (s : State) (w : Nat → Word) (t : Nat) : State :=
  let f (x : Fld) : Nat := x.ext (w (x.addr 0))
  let same := [R.RD_CFG_SLOT_ID, R.RD_CFG_PATHS, R.RD_TIMING_STEEP, R.RD_TIMING_DRIFT, R.RD_GROUP_ID].all fun x => f x == s.rd x
  if s.role = rrHolder ∧ same = false then (s.rdGiveUp ltRelease 0 t).setRole rrListening t else s

/-- After the set took effect: a change of EN joins or leaves the group. -/
def State.rdSetApplied (s : State) (oldEn : Nat) (t : Nat) : State :=
  if s.rd R.RD_CFG_EN = oldEn then s
  else if s.rdEn then ((s.stopActing t).rdListen t).showLease
  else ((s.setRole rrSolitary t).wr R.RD_STATE_HOLDER 255).showLease

/-- Loads the RD table and starts the unit (R437): a timing whose guard exceeds S/2 loads its defaults. -/
def State.rdLoad (s : State) (t : Nat) : State :=
  let b := 0x03391000
  let put (s : State) (a : Nat) (w mask : Word) (fs : List Fld) : State :=
    let v := fs.foldl (fun (p : Word × Nat) f =>
      let x := f.ext p.1
      let y := f.clamp x
      (f.ins p.1 y, p.2 + (if x = y then 0 else 1))) (w &&& mask, 0)
    (s.wrWord a v.1).bump (R.BLK_CLAMP_CNT_COUNT.at .rd) 0 0 v.2
  let s1 := put s R.RD_CFG_EN.base (s.tw b) 0x000F1DFF#32 [R.RD_CFG_CMP_RUN, R.RD_CFG_PATHS, R.RD_CFG_SLOT_ID]
  let s2 := put s1 R.RD_TIMING_STEEP.base (s.tw (b + 4)) 0x0FFF1FFF#32 [R.RD_TIMING_STEEP]
  let s3 := if rdSetOk s2.rf.word then s2
    else ((s2.wr R.RD_TIMING_STEEP 100).wr R.RD_TIMING_DRIFT 250).bump (R.BLK_CLAMP_CNT_COUNT.at .rd)
  let s4 := s3.wrWord R.RD_GROUP_ID.base (s.tw (b + 8))
  let bad := (List.range 64).any fun k => s4.pairEn k && !s4.pairOk k
  let s5 := if bad then s4.wr R.RD_FLAGS_TABLE_ERR 1 else s4
  let fresh : RdState := { rank := s5.ownRank, base := t, seq := s5.rd_.seq }
  ((s5.setRd fresh).rdListen t).showLease

end Sys2Proof.Machine
end

