-- ==== Sys2Proof/Machine/Ecdsa.lean ====
section
/-! DEFINITION. ECDSA verification over the curve P-256 with SHA-256 (FIPS 186), which R492 and R499 name. -/

namespace Sys2Proof.Machine

/-- The prime, the order, b and the base point of P-256. -/
def p256P : Nat := 0xFFFFFFFF00000001000000000000000000000000FFFFFFFFFFFFFFFFFFFFFFFF
def p256N : Nat := 0xFFFFFFFF00000000FFFFFFFFFFFFFFFFBCE6FAADA7179E84F3B9CAC2FC632551
def p256B : Nat := 0x5AC635D8AA3A93E7B3EBBD55769886BC651D06B0CC53B0F63BCE3C3E27D2604B
def p256G : Nat × Nat :=
  (0x6B17D1F2E12C4247F8BCE6E563A440F277037D812DEB33A0F4A13945D898C296,
   0x4FE342E2FE1A7F9B8EE7EB4A7C0F9E162BCE33576B315ECECBB6406837BF51F5)

/-- x^e mod m by square and multiply over `k` bits of e. -/
def powMod (m : Nat) : Nat → Nat → Nat → Nat
  | 0, _, _ => 1 % m
  | k + 1, x, e =>
    let r := powMod m k (x * x % m) (e / 2)
    if e % 2 = 1 then r * x % m else r

/-- The inverse modulo a prime. -/
def invMod (m x : Nat) : Nat := powMod m 256 (x % m) (m - 2)

/-- x − y modulo m, both below m. -/
def subMod (m x y : Nat) : Nat := (x + m - y) % m

/-- The sum of two points; none is the point at infinity. -/
def p256Add (a b : Option (Nat × Nat)) : Option (Nat × Nat) :=
  match a, b with
  | none, q => q
  | p, none => p
  | some (x1, y1), some (x2, y2) =>
    if x1 = x2 ∧ (y1 + y2) % p256P = 0 then none
    else
      let l := if x1 = x2 then (3 * x1 * x1 + p256P - 3) * invMod p256P (2 * y1) % p256P
        else subMod p256P y2 y1 * invMod p256P (subMod p256P x2 x1) % p256P
      let x := (l * l + 2 * p256P - x1 - x2) % p256P
      some (x, (l * subMod p256P x1 x + p256P - y1) % p256P)

/-- `e` times a point, over `k` bits of e. -/
def p256Mul : Nat → Nat → Option (Nat × Nat) → Option (Nat × Nat)
  | 0, _, _ => none
  | k + 1, e, p =>
    let r := p256Mul k (e / 2) (p256Add p p)
    if e % 2 = 1 then p256Add r p else r

/-- A big-endian number of bytes. -/
def beNat (bs : List Byte) : Nat := bs.foldl (fun a b => a * 256 + b.toNat) 0

/-- Whether signature `sig` (r then s) of message `m` verifies under public key `pub` (X then Y). -/
def ecdsaOk (pub m sig : List Byte) : Bool :=
  let x := beNat (pub.take 32)
  let y := beNat ((pub.drop 32).take 32)
  let r := beNat (sig.take 32)
  let s := beNat ((sig.drop 32).take 32)
  let onCurve := decide (x < p256P ∧ y < p256P) && y * y % p256P == (x * x * x + (p256P - 3) * x + p256B) % p256P
  let inRange := decide (1 ≤ r ∧ r < p256N ∧ 1 ≤ s ∧ s < p256N)
  let w := invMod p256N s
  let u1 := beNat (sha256 m) * w % p256N
  let u2 := r * w % p256N
  onCurve && inRange &&
    (match p256Add (p256Mul 256 u1 (some p256G)) (p256Mul 256 u2 (some (x, y))) with
     | some (a, _) => a % p256N == r
     | none => false)

end Sys2Proof.Machine
end

