-- ==== Sys2Proof/Machine/Update.lean ====
section
/-! DEFINITION. The boot and update unit: containers, trust anchors, the store and its sources, the relay, receipt and
application, the selection of images and boot completion (spec/20_boot_update.md). -/

namespace Sys2Proof.Machine

def State.setUp (s : State) (u : UpState) : State := { s with up := u }

/-! ### Kinds, slots and headers (R490 to R492) -/

/-- Image kinds. -/
def ikProgram : Nat := 0
def ikTables : Nat := 1
def ikSystem : Nat := 2

/-- The image length of a kind in bytes. -/
def imageLen (k : Nat) : Nat := if k = 0 then 12582912 else if k = 1 then 14680064 else 8388608

/-- Slot states of R491. -/
def slEmpty : Nat := 0
def slWriting : Nat := 1
def slCandidate : Nat := 2
def slActive : Nat := 3
def slPrevious : Nat := 4
def slBad : Nat := 5

/-- Store states of UP_STATE.STORE. -/
def ssEmpty : Nat := 0
def ssReceiving : Nat := 1
def ssReceived : Nat := 2
def ssApplying : Nat := 3
def ssApplied : Nat := 4
def ssRejected : Nat := 5
def ssApplyFail : Nat := 6

/-- STATE codes of UP_STATE. -/
def usBooting : Nat := 0
def usReady : Nat := 1
def usRecovery : Nat := 2

/-- LAST_FAIL codes (R502). -/
def lfHeader : Nat := 1
def lfKey : Nat := 2
def lfSignature : Nat := 3
def lfVersion : Nat := 4
def lfPair : Nat := 5
def lfHash : Nat := 6

def State.upSlot (s : State) (k n : Nat) : UpSlot := NMap.get s.up.slots {} (2 * k + n)
def State.setUpSlot (s : State) (k n : Nat) (x : UpSlot) : State := s.setUp { s.up with slots := NMap.put s.up.slots (2 * k + n) x }
def State.slotState (s : State) (k n : Nat) : Nat := s.rd R.UP_SLOT_STATE k n

/-- Bytes [a, a + n) of a header. -/
def hBytes (h : List Byte) (a n : Nat) : List Byte := (h.drop a).take n
/-- A little-endian field of a header. -/
def hNum (h : List Byte) (a n : Nat) : Nat := (hBytes h a n).reverse.foldl (fun x b => x * 256 + b.toNat) 0

def hKind (h : List Byte) : Nat := hNum h 5 1
def hDelta (h : List Byte) : Bool := hNum h 6 1 % 2 == 1
def hVersion (h : List Byte) : Nat := hNum h 8 2
def hMinVersion (h : List Byte) : Nat := hNum h 10 2
def hBodyLen (h : List Byte) : Nat := hNum h 12 4
def hTargetHash (h : List Byte) : List Byte := hBytes h 20 32
def hBaseHash (h : List Byte) : List Byte := hBytes h 52 32
def hBodyHash (h : List Byte) : List Byte := hBytes h 84 32
def hPairHash (h : List Byte) : List Byte := hBytes h 116 32
def hPubkey (h : List Byte) : List Byte := hBytes h 148 64
def hSig (h : List Byte) : List Byte := hBytes h 212 64

/-- CID: the first 4 bytes of SHA-256 over the header, as a little-endian word. -/
def hCid (h : List Byte) : Word := BitVec.ofNat 32 (hNum (sha256 (h.take 288)) 0 4)

/-- Check 1 of R502: MAGIC, FORMAT, KIND and TARGET_LEN. -/
def hdrOk (h : List Byte) : Bool :=
  hNum h 0 4 == 0x584E4255 && hNum h 4 1 == 1 && decide (hKind h ≤ 2) && hNum h 16 4 == imageLen (hKind h)

/-! ### Trust anchors (R494) -/

/-- The customer key slots that hold a hash, and the revoked ones. -/
def State.keyPresent (s : State) (j : Nat) : Bool := s.bit R.UP_KEY_STAT_PRESENT j
def State.keyRevoked (s : State) (j : Nat) : Bool := s.bit R.UP_KEY_STAT_REVOKED j

/-- The rollback floor of a kind. -/
def State.floor (s : State) (k : Nat) : Nat :=
  if k = 0 then s.rd R.UP_FLOOR_PROGRAM else if k = 1 then s.rd R.UP_FLOOR_TABLES else s.rd R.UP_FLOOR_SYSTEM
def State.setFloor (s : State) (k v : Nat) : State :=
  if k = 0 then s.wr R.UP_FLOOR_PROGRAM v else if k = 1 then s.wr R.UP_FLOOR_TABLES v else s.wr R.UP_FLOOR_SYSTEM v

/-- Whether the key of a header is trusted. -/
def State.trusts (s : State) (h : List Byte) : Bool :=
  let d := sha256 (hPubkey h)
  if hKind h = ikSystem then d == (List.range 32).map Config.sprinvosKey
  else (List.range 4).any fun j => s.keyPresent j && !s.keyRevoked j && NMap.get s.up.keys [] j == d

/-- A KEY record and EV397 (R508). -/
def State.keyRec (s : State) (op j t : Nat) : State := (s.raise 397 t).record .up 0x0803 [byte op, byte j] t

/-- KEY_ADD, in MAINT, writes UP_KEY_NEW into an empty slot. The Bool says whether it did. -/
def State.keyAdd (s : State) (j t : Nat) : State × Bool :=
  if s.keyPresent j || s.mode != mdMaint then (s, false)
  else
    let d := (List.range 8).flatMap fun k => wordBytes (NMap.get s.up.keyNew 0 k)
    ((((s.setUp { s.up with keys := NMap.put s.up.keys j d }).setBit R.UP_KEY_STAT_PRESENT j true).keyRec 1 j t), true)

/-- KEY_REVOKE, in MAINT, sets the REVOKED bit of a slot that is present. -/
def State.keyRevoke (s : State) (j t : Nat) : State × Bool :=
  if !s.keyPresent j || s.mode != mdMaint then (s, false) else (((s.setBit R.UP_KEY_STAT_REVOKED j true).keyRec 2 j t), true)

/-! ### The store (R495, R498) -/

def State.store (s : State) : Nat := s.rd R.UP_STATE_STORE
def State.prefixLen (s : State) : Nat := s.rd R.UP_STORE_LEN

/-- `n` bytes of a sparse store from offset `a`. -/
def cellBytes (m : List Host.Cell) (a n : Nat) : List Byte := (List.range n).map fun k => Cells.get m (a + k)

/-- The header in the store. -/
def State.storeHeader (s : State) : List Byte := cellBytes s.up.store.bytes 0 288

/-- 288 + BODY_LEN, once the header's first 16 bytes are present; a relay's TOTAL before that. -/
def State.storeTotal (s : State) : Option Nat :=
  if 16 ≤ s.prefixLen then some (288 + hBodyLen s.storeHeader) else s.up.store.total

/-- The store takes a state; RECEIVED, REJECTED, APPLIED and APPLY_FAIL raise EV394 and leave a CONTAINER record. -/
def State.setStore (s : State) (st t : Nat) : State :=
  let s1 := s.wr R.UP_STATE_STORE st
  if st = ssReceived ∨ st = ssRejected ∨ st = ssApplied ∨ st = ssApplyFail then
    (s1.raise 394 t).record .up 0x0802 (leBytes (s1.rd R.UP_STORE_CID) 4 ++ [byte (hKind s1.storeHeader), byte st]) t
  else s1

/-- A refused source (R495). -/
def State.storeBusy (s : State) : State := s.wr R.UP_FLAGS_STORE_BUSY 1

/-- Whether a new container may start (R495). -/
def State.storeFree (s : State) (t : Nat) : Bool :=
  let st := s.store
  st == ssEmpty || st == ssApplied || st == ssRejected || st == ssApplyFail ||
    (st == ssReceiving && decide (s.up.store.grownAt + 60000000000 ≤ t))

/-- A new container starts: the prefix is 0 and every relay destination is IDLE (R495, R497). -/
def State.storeNew (s : State) (source : Nat) (cid : Option Word) (total : Option Nat) (t : Nat) : State :=
  let s1 := s.setUp { s.up with store := { source := source, total := total, grownAt := t }, relay := [] }
  let s2 := (List.range 4).foldl (fun s d => (s.wr R.UP_RELAY_STAT_STATE 0 d).wr R.UP_RELAY_STAT_KIB 0 d) s1
  ((s2.wr R.UP_STORE_LEN 0).wr R.UP_STORE_CID (cid.getD 0).toNat).wr R.UP_STATE_STORE ssReceiving

/-! ### The relay (R497) -/

/-- STATE codes of UP_RELAY_STAT. -/
def rsIdle : Nat := 0
def rsSending : Nat := 1
def rsDone : Nat := 2
def rsFailed : Nat := 3

def State.relay (s : State) (d : Nat) : UpRelay := NMap.get s.up.relay {} d
def State.setRelay (s : State) (d : Nat) (r : UpRelay) : State := s.setUp { s.up with relay := NMap.put s.up.relay d r }

/-- Whether the relay may run: not in RECOVERY, SLEEP or HOLDUP. -/
def State.relayRuns (s : State) : Bool :=
  s.rd R.UP_STATE_STATE != usRecovery && s.pwState != psSleep && s.pwState != psHoldup && !s.pw.off

/-- Sends chunks in ascending order, at most 8 unanswered; `n` bounds how many are tried, `c` is a chunk by offset and
length. -/
def relaySend (pre : Nat) (c : Nat → Nat → UpChunk) : Nat → UpRelay → UpRelay
  | 0, r => r
  | n + 1, r =>
    if r.next < pre ∧ r.wait.length < 8 then
      let l := min 4080 (pre - r.next)
      relaySend pre c n { r with next := r.next + l, wait := r.wait ++ [c r.next l] }
    else r

/-- The plane the relay sends on: A, and B while every link of plane A is down (R497). -/
def State.relayPlane (s : State) : Nat := if [0, 1].any (fun p => (NMap.look s.nw.links p).isSome) then 0 else 1

/-- The payload of a chunk's 'Mr' message (R496). -/
def State.chunkBytes (s : State) (ofs len : Nat) : List Byte :=
  leBytes (s.rd R.UP_STORE_CID) 4 ++ leBytes (s.storeTotal.getD 0) 4 ++ leBytes ofs 4 ++ leBytes len 2 ++ [0, 0] ++
    cellBytes s.up.store.bytes ofs len

/-- A chunk sent at `t`. -/
def State.chunkAt (s : State) (t ofs len : Nat) : UpChunk :=
  { ofs := ofs, len := len, at_ := t, plane := s.relayPlane, payload := s.chunkBytes ofs len }

/-- The relay to destination `d` goes on at `t`. -/
def State.relayPump (s : State) (d t : Nat) : State :=
  let r := s.relay d
  let paused := match r.pause with
    | some e => decide (t < e)
    | none => false
  let st := s.rd R.UP_RELAY_STAT_STATE d
  if s.rd R.UP_ADDR_ADDR (d + 1) = 0 ∨ s.relayRuns = false ∨ paused = true ∨ s.storeTotal = none ∨ st = rsDone ∨ st = rsFailed then s
  else
    let r0 := if st = rsIdle then { r with grownAt := t } else r
    let r1 := relaySend s.prefixLen (s.chunkAt t) 8 { r0 with pause := none }
    if r1.next = 0 then s else (s.setRelay d r1).wr R.UP_RELAY_STAT_STATE rsSending d

def State.relayAll (s : State) (t : Nat) : State := (List.range 4).foldl (fun s d => s.relayPump d t) s

/-- RELAY_REPLY_RECEIVED from destination `d` for the chunk at `ofs`: CID, status (0 = OK, 1 = BUSY, 2 = GAP, 3 = REFUSED)
and the reported prefix in KiB. -/
def State.relayReply (s : State) (d ofs : Nat) (cid : Word) (status kib t : Nat) : State :=
  let r := s.relay d
  if s.rd R.UP_RELAY_STAT_STATE d ≠ rsSending ∨ s.relayRuns = false ∨ cid.toNat ≠ s.rd R.UP_STORE_CID ∨ (r.wait.any fun c => c.ofs == ofs) = false then s
  else
    let left := r.wait.filter fun c => c.ofs != ofs
    if status = 0 then
      let grew := decide (r.kib < kib)
      let r1 := { r with wait := left, kib := if grew then kib else r.kib, grownAt := if grew then t else r.grownAt }
      let s1 := (s.setRelay d r1).wr R.UP_RELAY_STAT_KIB (r1.kib % 2 ^ 24) d
      let done := left.isEmpty && s.storeTotal == some r.next
      if done then (s1.wr R.UP_RELAY_STAT_STATE rsDone d).raise 395 t else s1.relayPump d t
    else
      s.setRelay d { r with wait := [], next := min (1024 * r.kib) s.prefixLen, pause := some (t + 1000000000) }

/-- The relays stop while they may not run, to go on from the prefix each destination has reported (R497). -/
def State.relayHalt (s : State) : State :=
  s.setUp { s.up with relay := s.up.relay.map fun c => (c.1, { c.2 with wait := [], pause := none, next := min (1024 * c.2.kib) s.prefixLen }) }

/-- RELAY_CHUNK_RETRY: chunks unanswered for 200 ms are sent again; a pause of 1 s may end, and a relay that stopped goes on. One
that may not run stops. -/
def State.relayRetry (s : State) (d t : Nat) : State :=
  let r := s.relay d
  if s.rd R.UP_RELAY_STAT_STATE d ≠ rsSending then s.relayPump d t
  else if s.relayRuns = false then s.setRelay d { r with wait := [], next := min (1024 * r.kib) s.prefixLen }
  else
    let w := r.wait.map fun c => if c.at_ + 200000000 ≤ t then s.chunkAt t c.ofs c.len else c
    (s.setRelay d { r with wait := w }).relayPump d t

/-- RELAY_FAIL_TIMEOUT: 600 s without growth. -/
def State.relayFail (s : State) (d t : Nat) : State :=
  let r := s.relay d
  if s.rd R.UP_RELAY_STAT_STATE d = rsSending ∧ r.grownAt + 600000000000 ≤ t then
    ((((s.setRelay d { r with wait := [] }).wr R.UP_RELAY_STAT_STATE rsFailed d).wr R.UP_FLAGS_RELAY_FAIL 1).raise 395 t)
  else s

/-! ### Data into the store (R495, R496, R498) -/

/-- The bytes of the store with `bs` put at an offset. -/
def State.storeWith (s : State) (ofs : Nat) (bs : List Byte) : List Host.Cell :=
  (bs.foldl (fun (p : List Host.Cell × Nat) b => (Cells.set p.1 p.2 b, p.2 + 1)) (s.up.store.bytes, ofs)).1

/-- Stores bytes at an offset; the prefix grows, the header is checked once present, and a full container is RECEIVED. -/
def State.storePut (s : State) (ofs : Nat) (bs : List Byte) (t : Nat) : State :=
  let m := s.storeWith ofs bs
  let old := s.prefixLen
  let new := max old (ofs + bs.length)
  let st := s.up.store
  let s1 := (s.setUp { s.up with store := { st with bytes := m, grownAt := if old < new then t else st.grownAt } }).wr R.UP_STORE_LEN new
  let s2 := if 288 ≤ new then s1.wr R.UP_STORE_CID (hCid s1.storeHeader).toNat else s1
  let s3 :=
    if old < 288 ∧ 288 ≤ new ∧ (!hdrOk s2.storeHeader || decide (67108864 < 288 + hBodyLen s2.storeHeader)) then s2.setStore ssRejected t
    else if s2.store = ssReceiving ∧ 288 ≤ new ∧ 288 + hBodyLen s2.storeHeader ≤ new then s2.setStore ssReceived t
    else s2
  if old < new then s3.relayAll t else s3

/-- Whether bytes at offset 0 name a container other than the one in the store. Fewer than the 288 bytes a CID is formed from
count as a new one (DESIGN CHOICE, log entry 86). -/
def State.newCid (s : State) (bs : List Byte) : Bool :=
  s.store == ssEmpty || decide (bs.length < 288) || (hCid bs).toNat != s.rd R.UP_STORE_CID

/-- A host WRITE of words from index `k` of UP_HX_WIN (R495): none where the module answers MODE, or TARGET_RESET while the image
region is locked (R501); the state beside it carries STORE_BUSY. A container of the relay that has not grown for 60 s may be
replaced; the host's own is written on. -/
def State.hostPut (s : State) (k : Nat) (ws : List Word) (t : Nat) : State × Bool :=
  let ofs := s.rd R.UP_HX_OFS + 4 * k
  let bs := ws.flatMap wordBytes
  let st := s.store
  let mine := st == ssReceiving && s.up.store.source == 1
  let start := ofs == 0 && s.storeFree t && !mine && s.newCid bs
  if s.rd R.UP_STATE_LOCK = 1 then (s, false)
  else if !start && !mine then
    if st = ssReceiving ∨ st = ssApplying ∨ st = ssReceived ∨ ofs = 0 then (s.storeBusy, false) else (s, false)
  else
    let s1 := if start then s.storeNew 1 none none t else s
    let e := ofs + bs.length
    let beyond := decide (16 ≤ max s1.prefixLen e ∧ 288 + hBodyLen (cellBytes (s1.storeWith ofs bs) 0 288) < e)
    if s1.prefixLen < ofs || beyond then (s, false) else (s1.storePut ofs bs t, true)

/-- The answer to a relay chunk: status and prefix in KiB. -/
def State.relayAnswer (s : State) (cid : Word) (status : Nat) : State :=
  s.setUp { s.up with answers := ((cid, status, if status = 0 then s.prefixLen / 1024 else 0) :: s.up.answers).take 4 }

/-- RELAY_CHUNK_RECEIVED (R496). -/
def State.relayChunk (s : State) (src cid : Word) (total ofs len : Nat) (data : List Byte) (t : Nat) : State :=
  let up := s.rd R.UP_ADDR_ADDR 0
  let same := s.rd R.UP_STORE_CID = cid.toNat ∧ s.store ≠ ssEmpty
  let here := same ∧ s.up.store.source = 2
  if s.relayRuns = false then s
  else if up = 0 ∨ src.toNat ≠ up ∨ len = 0 ∨ 4080 < len ∨ total < ofs + len then s.relayAnswer cid 3
  else if s.rd R.UP_STATE_LOCK = 1 then s.relayAnswer cid 1
  else if here ∧ s.up.store.total ≠ some total then s.relayAnswer cid 3
  else if here ∧ s.store = ssReceiving then
    if s.prefixLen < ofs then s.relayAnswer cid 2 else (s.storePut ofs (data.take len) t).relayAnswer cid 0
  else if same ∧ s.store ≠ ssReceiving ∧ s.store ≠ ssApplying ∧ ofs + len ≤ s.prefixLen then s.relayAnswer cid 0
  else if s.storeFree t = false ∨ (same ∧ s.store ≠ ssReceiving) then s.storeBusy.relayAnswer cid 1
  else if ofs ≠ 0 then s.relayAnswer cid 2
  else ((s.storeNew 2 (some cid) (some total) t).storePut 0 (data.take len) t).relayAnswer cid 0

/-! ### Receipt and application (R499, R500, R505) -/

/-- The body in the store. -/
def State.storeBody (s : State) : List Byte := cellBytes s.up.store.bytes 288 (hBodyLen s.storeHeader)

/-- RECEIPT_CHECK (R499). -/
def State.receiptCheck (s : State) (t : Nat) : State :=
  let h := s.storeHeader
  if s.store ≠ ssReceived ∨ s.up.store.passed = true then s
  else if s.trusts h && ecdsaOk (hPubkey h) (h.take 212) (hSig h) && sha256 s.storeBody == hBodyHash h then
    s.setUp { s.up with store := { s.up.store with passed := true } }
  else ((s.setStore ssRejected t).bump R.UP_RX_REJ_CNT).wr R.UP_FLAGS_RX_REJ 1

/-- The booted slot of a kind, if any. -/
def State.bootedSlot (s : State) (k : Nat) : Option Nat := [0, 1].find? fun n => s.rd R.UP_SLOT_BOOTED k n == 1

/-- The slot an application writes: the one not booted; in RECOVERY the SYSTEM slot that failed with the lower check
number, slot 0 of equals (R500, R505). A slot that was not examined has failed no check. -/
def State.alternate (s : State) (k : Nat) : Nat :=
  if s.rd R.UP_STATE_STATE = usRecovery then
    let f0 := s.rd R.UP_SLOT_LAST_FAIL ikSystem 0
    let f1 := s.rd R.UP_SLOT_LAST_FAIL ikSystem 1
    if f1 ≠ 0 ∧ (f0 = 0 ∨ f1 < f0) then 1 else 0
  else match s.bootedSlot k with
    | some n => 1 - n
    | none => 0

/-- The directory state of a slot changes; VERSION reads 0 when EMPTY. -/
def State.setSlot (s : State) (k n st : Nat) : State :=
  (s.wr R.UP_SLOT_STATE st k n).wr R.UP_SLOT_VERSION (if st = slEmpty then 0 else hVersion (s.upSlot k n).header) k n

/-- An application pauses in SLEEP and is abandoned at HOLDUP (R500). -/
def State.appPaused (s : State) : Bool := s.pwState == psSleep || s.pwState == psHoldup

/-- CONTAINER_APPLY: the application of a passed container begins. -/
def State.containerApply (s : State) (t : Nat) : State :=
  let h := s.storeHeader
  let k := hKind h
  let rec_ := s.rd R.UP_STATE_STATE == usRecovery
  if s.store ≠ ssReceived ∨ s.up.store.passed = false ∨ s.rd R.UP_STATE_LOCK = 1 ∨ s.appPaused = true ∨
     (rec_ = true ∧ (k ≠ ikSystem ∨ hDelta h = true)) then s
  else
    let base := match s.bootedSlot k with
      | some n => hTargetHash (s.upSlot k n).header
      | none => []
    if hDelta h && hBaseHash h != base then (s.setStore ssApplyFail t).wr R.UP_FLAGS_BASE_MISMATCH 1
    else
      let n := s.alternate k
      let s1 := (s.setUpSlot k n { header := h }).setSlot k n slWriting
      (s1.setUp { s1.up with store := { s1.up.store with target := some (k, n) } }).setStore ssApplying t

/-- A little-endian word of a list of bytes at an offset. -/
def wordAt (m : Nat → Byte) (a : Nat) : Nat := (bytesWord (m a) (m (a + 1)) (m (a + 2)) (m (a + 3))).toNat

/-- Writes `n` bytes of a source into an image from `pos`. -/
def putBytes (f : Nat → Byte) (pos : Nat) : Nat → List Host.Cell → List Host.Cell
  | 0, m => m
  | n + 1, m => putBytes f pos n (Cells.set m (pos + n) (f n))

/-- The operations of a delta body (R493): the image, or none where application fails. -/
def deltaRun (body : Nat → Byte) (len target : Nat) (base : List Host.Cell) (baseLen : Nat) :
    Nat → Nat → Nat → List Host.Cell → Option (List Host.Cell)
  | 0, _, _, _ => none
  | f + 1, ofs, pos, m =>
    if len < ofs + 4 then none
    else
      let w := wordAt body ofs
      let op := w / 2 ^ 28
      let n := w % 2 ^ 28
      if op = 0 then (if n = 0 ∧ ofs + 4 = len ∧ pos = target then some m else none)
      else if 3 < op ∨ target < pos + n then none
      else if op = 2 then
        let d := 4 * ((n + 3) / 4)
        if len < ofs + 4 + d then none
        else deltaRun body len target base baseLen f (ofs + 4 + d) (pos + n) (putBytes (fun k => body (ofs + 4 + k)) pos n m)
      else if len < ofs + 8 then none
      else
        let x := wordAt body (ofs + 4)
        if op = 1 then
          if baseLen < x + n then none
          else deltaRun body len target base baseLen f (ofs + 8) (pos + n) (putBytes (fun k => Cells.get base (x + k)) pos n m)
        else deltaRun body len target base baseLen f (ofs + 8) (pos + n) (putBytes (fun _ => byte x) pos n m)

/-- The image an application produces. -/
def State.applied (s : State) (k : Nat) : Option (List Host.Cell) :=
  let h := s.storeHeader
  let body (a : Nat) : Byte := Cells.get s.up.store.bytes (288 + a)
  if hDelta h then
    let base := match s.bootedSlot k with
      | some n => (s.upSlot k n).image
      | none => []
    deltaRun body (hBodyLen h) (imageLen k) base (imageLen k) (hBodyLen h / 4 + 1) 0 0 []
  else if hBodyLen h = imageLen k then some (putBytes body 0 (imageLen k) [])
  else none

/-- APPLY_COMPLETE: the slot is CANDIDATE, or EMPTY after a failure (R500). -/
def State.applyComplete (s : State) (t : Nat) : State :=
  if s.store ≠ ssApplying ∨ s.rd R.UP_STATE_LOCK = 1 ∨ s.appPaused = true then s
  else
    match s.up.store.target with
    | none => s
    | some (k, n) =>
      let s0 := s.setUp { s.up with store := { s.up.store with target := none } }
      match s.applied k with
      | some m => ((s0.setUpSlot k n { header := s.storeHeader, image := m }).setSlot k n slCandidate).setStore ssApplied t
      | none => ((s0.setSlot k n slEmpty).setStore ssApplyFail t).wr R.UP_FLAGS_APPLY_FAIL 1

/-- UP_CMD.DISCARD: a running application is abandoned with its slot EMPTY, and the store is emptied; not while the image region
is write-locked (R500, R501). -/
def State.upDiscard (s : State) : State :=
  if s.rd R.UP_STATE_LOCK = 1 then s else
  let s1 := match s.up.store.target with
    | some (k, n) => s.setSlot k n slEmpty
    | none => s
  ((((s1.setUp { s1.up with store := {} }).wr R.UP_STORE_LEN 0).wr R.UP_STORE_CID 0).wr R.UP_STATE_STORE ssEmpty)

/-! ### The boot (R501 to R504, R507) -/

/-- Checks 1 to 5 of R502 on a slot; the first that fails, or 0. `pair`: TARGET_HASH of the selected PROGRAM. -/
def State.slotCheck (s : State) (k n : Nat) (pair : List Byte) : Nat :=
  let h := (s.upSlot k n).header
  if !(hdrOk h && hKind h == k) then lfHeader
  else if !s.trusts h then lfKey
  else if !ecdsaOk (hPubkey h) (h.take 212) (hSig h) then lfSignature
  else if hVersion h < s.floor k then lfVersion
  else if k = ikTables ∧ hPairHash h ≠ pair then lfPair
  else 0

/-- The slots of a kind in the order CANDIDATE, ACTIVE, PREVIOUS, without those that failed HASH. -/
def State.slotOrder (s : State) (k : Nat) : List Nat :=
  ([slCandidate, slActive, slPrevious].flatMap fun st => [0, 1].filter fun n => s.slotState k n == st).filter fun n =>
    !s.up.hashBad.contains (2 * k + n)

/-- Records a check result of a slot. -/
def State.lastFail (s : State) (k n f : Nat) : State := s.wr R.UP_SLOT_LAST_FAIL f k n

/-- The first TABLES slot that passes with PROGRAM slot `p`, with the results recorded. -/
def State.pickTables (s : State) (p : Nat) : State × Option Nat :=
  let pair := hTargetHash (s.upSlot ikProgram p).header
  (s.slotOrder ikTables).foldl (fun (r : State × Option Nat) n =>
    match r.2 with
    | some _ => r
    | none =>
      let f := s.slotCheck ikTables n pair
      (r.1.lastFail ikTables n f, if f = 0 then some n else none)) (s, none)

/-- The selection of a PROGRAM and TABLES pair (R502). The first selection at the start of the boot is kept: its PROGRAM is the
first that passed checks 1 to 4, whether or not TABLES pair with it (R504). -/
def State.selectImages (s : State) : State :=
  let r := (s.slotOrder ikProgram).foldl (fun (r : State × Option (Nat × Nat)) p =>
    match r.2 with
    | some _ => r
    | none =>
      let f := s.slotCheck ikProgram p []
      let s1 := r.1.lastFail ikProgram p f
      if f = 0 then
        let q := s1.pickTables p
        (q.1, q.2.map fun n => (p, n))
      else (s1, none)) (s, none)
  let firstP := (s.slotOrder ikProgram).find? fun p => s.slotCheck ikProgram p [] == 0
  r.1.setUp { r.1.up with sel := r.2, first := r.1.up.first.or (r.2.map fun q => (firstP.getD q.1, q.2)) }

/-- Whether the image of slot `n` of kind `k` hashes to its TARGET_HASH. -/
def State.imageWhole (s : State) (k n : Nat) : Bool :=
  sha256 (cellBytes (s.upSlot k n).image 0 (imageLen k)) == hTargetHash (s.upSlot k n).header

/-- The SYSTEM selection at a POR: `copyOk` says of each slot whether its copies are whole, and the SHA-256 of a whole copy is
compared with TARGET_HASH; at most two attempts. The selected image is what the blocks' configuration memories hold. -/
def State.selectSystem (s : State) (copyOk : BitVec 2) : State :=
  let r := (s.slotOrder ikSystem).foldl (fun (r : State × Option Nat) n =>
    match r.2 with
    | some _ => r
    | none =>
      let f := s.slotCheck ikSystem n []
      let f1 := if f = 0 ∧ (copyOk.getLsbD n && s.imageWhole ikSystem n) = false then lfHash else f
      (r.1.lastFail ikSystem n f1, if f1 = 0 then some n else none)) (s, none)
  let first := (s.slotOrder ikSystem).find? fun n => s.slotCheck ikSystem n [] == 0
  let s1 := r.1.setUp { r.1.up with sys := r.2, sysFirst := first }
  match r.2 with
  | some n => (s1.setUp { s1.up with sysDue := true, config := (s.upSlot ikSystem n).image }).wr R.UP_SLOT_BOOTED 1 ikSystem n
  | none => (s1.wr R.UP_STATE_STATE usRecovery).wr R.UP_STATE_LOCK 0

/-- A boot starts: the image region is locked; the results of the previous boot go, BOOT_ID among them, and NEXT_MAINT is taken as
the reset found it (R501, R506, R507). The SYSTEM slot is kept at a COLD or WARM reset; the relays stop until the UP table is
loaded (R497). -/
def State.upBootStart (s : State) (por warm : Bool) : State :=
  let ks := if por then [0, 1, 2] else [0, 1]
  let s1 := ks.foldl (fun s k => [0, 1].foldl (fun s n => (s.wr R.UP_SLOT_LAST_FAIL 0 k n).wr R.UP_SLOT_BOOTED 0 k n) s) s
  let u := { s1.relayHalt.up with
    sel := none, first := none, attempts := 0, hashBad := [], por := por, warm := warm, ackWait := false, ready := false,
    keyNew := [], maintAsk := s.up.maintAsk || s.rd R.UP_STATE_NEXT_MAINT == 1 }
  let s2 := s1.setUp (if por then { u with sys := none, sysFirst := none, sysDue := false, config := [] } else u)
  let s3 := ((s2.wr R.UP_STATE_LOCK 1).wr R.UP_STATE_STATE usBooting).wr R.UP_STATE_MAINT_CAUSE 0
  ((s3.wr R.UP_STATE_NEXT_MAINT 0).wr R.UP_BOOT_ID_ID 0 0).wr R.UP_BOOT_ID_ID 0 1

/-- The booted images become known: BOOTED and BOOT_ID (R507). -/
def State.upBooted (s : State) (p n : Nat) : State :=
  let d := sha256 (hTargetHash (s.upSlot ikProgram p).header ++ hTargetHash (s.upSlot ikTables n).header)
  ((((s.wr R.UP_SLOT_BOOTED 1 ikProgram p).wr R.UP_SLOT_BOOTED 1 ikTables n).wr R.UP_BOOT_ID_ID (hNum d 0 4) 0).wr
    R.UP_BOOT_ID_ID (hNum d 4 4) 1)

/-- MAINT_CAUSE codes (R506). -/
def mcNoImage : Nat := 1
def mcNextMaint : Nat := 2
def mcAck : Nat := 3

/-- Steps 1 to 3 of R504 for one kind. -/
def State.completeKind (s : State) (k : Nat) : State :=
  let s1 := match s.bootedSlot k with
    | none => s
    | some n =>
      let wasCand := s.slotState k n == slCandidate
      let s0 := if wasCand && s.slotState k (1 - n) == slActive then s.setSlot k (1 - n) slPrevious else s
      let v := hMinVersion (s.upSlot k n).header
      let sA := s0.setSlot k n slActive
      if sA.floor k < v then sA.setFloor k v else sA
  [0, 1].foldl (fun s n =>
    let f := s.rd R.UP_SLOT_LAST_FAIL k n
    if f = lfHeader ∨ f = lfKey ∨ f = lfSignature ∨ f = lfVersion ∨ f = lfHash then s.setSlot k n slBad else s) s1

/-- Boot completion (R504). -/
def State.upComplete (s : State) (t : Nat) : State :=
  if s.rd R.UP_STATE_STATE ≠ usBooting then s
  else
    let kinds := if s.up.sysDue then [0, 1, 2] else [0, 1]
    let s1 := kinds.foldl State.completeKind s
    let s2 := ((s1.setUp { s1.up with sysDue := false }).wr R.UP_STATE_LOCK 0).wr R.UP_STATE_STATE usReady
    let s3 := if s2.pwState = psBoot then s2.wr R.PW_STATE_STATE psRun else s2
    let cause := s3.rd R.UP_STATE_MAINT_CAUSE
    let slots := [0, 1, 2].flatMap fun k =>
      match s3.bootedSlot k with
      | some n => [byte n, byte (s3.rd R.UP_SLOT_LAST_FAIL k (1 - n))]
      | none => [Config.noSlotByte, byte (s3.rd R.UP_SLOT_LAST_FAIL k 1)]
    let id := leBytes (s3.rd R.UP_BOOT_ID_ID 0) 4 ++ leBytes (s3.rd R.UP_BOOT_ID_ID 1) 4
    let s4 := s3.record .up 0x0801 (id ++ slots ++ [byte cause]) t
    if s4.up.sel != s4.up.first || (s.up.sysDue && s4.up.sys != s4.up.sysFirst) || cause == mcNoImage then
      (((s4.wr R.UP_FLAGS_FALLBACK 1).bump R.UP_FALLBACK_CNT).raise 396 t)
    else s4

/-! ### Set and load (R509) -/

/-- Whether an address may stand in the UP table. -/
def upAddrOk (a : Nat) : Bool :=
  a == 0 || !(a / 2 ^ 24 == 0 || a / 2 ^ 24 == 127 || decide (7 ≤ a / 2 ^ 29))

/-- Whether a pending UP set may take effect. -/
def upSetOk (w : Nat → Word) : Bool := (List.range 5).all fun d => upAddrOk (w (R.UP_ADDR_ADDR.addr d)).toNat

/-- Loads the UP table; an address outside the legal set loads as 0. -/
def State.upLoad (s : State) : State :=
  (List.range 5).foldl (fun s d =>
    let a := (s.tw (0x03394000 + 4 * d)).toNat
    if upAddrOk a then s.wr R.UP_ADDR_ADDR a d else (s.wr R.UP_ADDR_ADDR 0 d).bump (R.BLK_CLAMP_CNT_COUNT.at .up)) s

end Sys2Proof.Machine
end

