-- ==== Sys2Proof/Machine/Power.lean ====
section
/-! DEFINITION. The power unit: supply, HOLDUP and the retained save, SLEEP and its wakes, the caddy, core voltage and
margins (spec/19_power_and_ageing.md). -/

namespace Sys2Proof.Machine

def State.setPw (s : State) (p : PwState) : State := { s with pw := p }

/-! ### Hold-up time and RIDE (R462, R484) -/

/-- t_hold in µs for a bank of C in µF and ESR in mΩ at a load in 10 mW. -/
def holdTime (c esr p : Nat) : Nat :=
  let v : Int := 200000 + 31 * (esr : Int)
  let e : Int := 360000000000 - v * v
  (45 * (c : Int) * e / (100000000 * (p : Int))).toNat

/-- RIDE in 0.1 ms for t_full in µs: min(10 ms, t_full − 9 ms), rounded down. -/
def rideOf (full : Nat) : Nat := min 100 ((full - 9000) / 100)

/-! ### Margins (R482, R483) -/

/-- The end-of-life limit of a margin kind, in the unit of `Config.marginRef`. -/
def marginEol (k : Nat) : Nat :=
  if k < 3 then 0 else if k = 3 then 20000 else if k < 12 then 1000 else if k < 20 then 200 else 40

/-- The factory reference of a kind: no step is taken at manufacture. -/
def marginRefOf (k : Nat) : Nat := if k < 3 then 20 else Config.marginRef k

/-- m of R482 in %. -/
def marginOf (k x : Nat) : Nat :=
  (clampInt 0 100 (Int.fdiv (100 * ((x : Int) - marginEol k)) ((marginRefOf k : Int) - marginEol k))).toNat

/-- Kind `k` takes value `x`, with its alarm (R483). -/
def State.setMargin (s : State) (k x t : Nat) : State :=
  let m := marginOf k x
  let shown := if k = 3 then x / 100 else x
  let s1 := ((s.wr R.PW_MARGIN_VALUE (satNat 16 shown) k).wr R.PW_MARGIN_MARGIN m k).wr R.PW_MARGIN_EXHAUSTED
    (if m = 0 then 1 else 0) k
  if m ≤ 20 ∧ s.rd R.PW_MARGIN_ALARM k = 0 then
    (((s1.wr R.PW_MARGIN_ALARM 1 k).wr R.PW_FLAGS_MARGIN_ALARM 1).raise 390 t).record .pw 0x0704 [byte k, byte m, 1] t
  else if 25 ≤ m ∧ s.rd R.PW_MARGIN_ALARM k = 1 then (s1.wr R.PW_MARGIN_ALARM 0 k).raise 390 t
  else s1

/-- T_HOLD_NOW at the present main-supply power (R484). -/
def State.holdNow (s : State) : State :=
  let p := s.rd R.PW_POWER
  s.wr R.PW_HOLDUP_T_HOLD_NOW (satNat 32 (if p = 0 then Config.holdNowAtZero
    else holdTime (s.rd R.PW_HOLDUP_C) (s.rd R.PW_HOLDUP_ESR) p))

/-- The recomputation from the latest C and ESR: t_full, T_HOLD_NOW, RIDE and the hold-up margin (R462, R484, R485). -/
def State.holdPlan (s : State) (t : Nat) : State :=
  let full := holdTime (s.rd R.PW_HOLDUP_C) (s.rd R.PW_HOLDUP_ESR) 6200
  let ride := rideOf full
  let s1 := ((s.wr R.PW_HOLDUP_T_HOLD_FULL (satNat 32 full)).holdNow).wr R.PW_STATE_RIDE ride
  (s1.flagIf (decide (ride < 100)) R.PW_FLAGS_S2_LOST).setMargin 3 full t

/-- HOLDUP_MEASUREMENT at power-up: the voltage step of the first 20 µs and the fall over the rest, in mV, under 2.0 A
for 4 ms (R484). The bank is then charged (R466). -/
def State.holdMeasure (s : State) (step fall t : Nat) : State :=
  if s.rd R.PW_STATE_HOLD_READY = 1 then s
  else
    let c := if fall = 0 then Config.bankAtZeroFall else 8000000 / fall
    let s1 := (s.wr R.PW_HOLDUP_ESR (satNat 32 (step / 2))).wr R.PW_HOLDUP_C (satNat 32 c)
    (s1.wr R.PW_STATE_HOLD_READY 1).holdPlan t

/-! ### The retained save (R464, R507) -/

/-- OP_SECONDS at `t`. -/
def State.opSeconds (s : State) (t : Nat) : Nat := satNat 32 (s.pw.opBase + (t - s.pw.upAt) / 1000000000)

/-- BOOT_ID as UP shows it (R507). -/
def State.bootId (s : State) : BitVec 64 :=
  BitVec.ofNat 64 (s.rd R.UP_BOOT_ID_ID 0 + s.rd R.UP_BOOT_ID_ID 1 * 2 ^ 32)

/-- What a save at `t` takes: the lead lane's retained area and the items of R464; for a restart also staging. -/
def State.saveData (s : State) (restart : Bool) (t : Nat) : SaveData :=
  let s1 := s.lgSave
  let dup := if s.isDuplex then (t - s.vt.duplexSince) / 60000000000 else 0
  { retained := Cells.slice s.front.mem retBase 0x100000, lg := s1.lg.saved.getD {}, grace := s.vt.graceBase + dup,
    degraded := s.scElapsed t, unwritten := s.stagedRecs.length, balance := s.pw.bal, heat := s.pw.heat,
    opSec := s.opSeconds t, cycles := s.pw.powerCycles, staging := if restart then s.stagedRecs else [] }

/-- The content of a save as the bytes its CRC is formed over: the listed bytes of the retained area with their addresses, the
Line Gauge's values, the counts and times, and the staged records. -/
def SaveData.bytes (d : SaveData) : List Byte :=
  d.retained.flatMap (fun c => leBytes c.1 4 ++ [c.2]) ++
    leBytes (fromSigned 64 d.lg.p) 8 ++ leBytes d.lg.d 8 ++ [byte (if d.lg.orient then 1 else 0)] ++
    leBytes d.lg.cal0.toNat 4 ++ leBytes d.lg.cal1.toNat 4 ++ leBytes d.lg.calTol 4 ++
    [d.grace, d.degraded, d.unwritten, d.balance, d.heat, d.opSec, d.cycles].flatMap (fun n => leBytes n 8) ++
    d.staging.flatMap fun r => r.bytes 0

/-- The CRC of a save, formed as in R237 (R464). -/
def SaveData.crc (d : SaveData) : BitVec 64 := signature (crc64 crcInit d.bytes)

/-- The region with the highest save count (R464). -/
def State.latestSave (s : State) : Option (Nat × SaveRegion) :=
  s.pw.saves.foldl (fun b c => match b with
    | none => some c
    | some x => if x.2.count < c.2.count then some c else b) none

/-- A save begins in the region that does not hold the latest one: its start word is written with the next count. -/
def State.saveStart (s : State) (restart : Bool) (t : Nat) : State :=
  let (k, n) := match s.latestSave with
    | some (k, r) => (1 - k, r.count + 1)
    | none => (0, 1)
  let r : SaveRegion := { count := n, bootId := s.bootId, data := s.saveData restart t }
  s.setPw { s.pw with saves := NMap.put s.pw.saves k r, saving := some k }

/-- The CRC and the end word of the save are written. -/
def State.saveEnd (s : State) : State :=
  match s.pw.saving with
  | none => s
  | some k =>
    match NMap.look s.pw.saves k with
    | none => s
    | some r => s.setPw { s.pw with saves := NMap.put s.pw.saves k { r with crc := r.data.crc, ended := true }, saving := none }

/-- The latest save when it is valid: its end word is there, its CRC matches and it names the image identifier now booted (R464). -/
def State.validSave (s : State) : Option SaveData :=
  match s.latestSave with
  | some (_, r) => if r.ended && r.bootId == s.bootId && r.crc == r.data.crc then some r.data else none
  | none => none

/-- After a power-up the items of the save take effect, or start from zero, H from H_MAX (R464, R476). -/
def State.saveRestore (s : State) (t : Nat) : State :=
  let fail := s.latestSave.isSome && s.validSave.isNone
  let d : SaveData := s.validSave.getD { heat := s.pw.hMax * 1000000 }
  let p := { s.pw with bal := d.balance, heat := d.heat, opBase := d.opSec, upAt := t, powerCycles := satNat 32 (d.cycles + 1) }
  let grace := (s.validSave.map fun x => x.grace).getD s.vt.graceFlash
  let degr := (s.validSave.map fun x => x.degraded).getD s.sc.degrFlash
  let s1 := ({ s with pw := p, vt := { s.vt with graceFlash := grace, graceBase := grace },
                      sc := { s.sc with degrFlash := degr, degrBase := degr },
                      lg := { s.lg with saved := s.validSave.map fun x => x.lg } } : State)
  (((s1.wr R.SC_DEGR_ELAPSED degr).wr R.PW_BALANCE (satNat 32 (d.balance / 1000000))).wr R.PW_HEAT (satNat 32 (d.heat / 1000000))).wr R.PW_FLAGS_SAVE_FAIL
    (if fail then 1 else 0)

/-! ### The caddy (R473 to R478) -/

/-- Word `k` of the PW table. -/
def State.pwTab (s : State) (k : Nat) : Nat := (s.tw (0x03393000 + 4 * k)).toNat

/-- Whether the balance applies: STABLED, or a SLEEP entered from it (R473). -/
def State.stabled (s : State) : Bool :=
  s.pwState == psStabled || (s.pwState == psSleep && s.pw.before == psStabled)

/-- The energy and heat admit masks (R474, R477). -/
def State.energyMask (s : State) : Nat :=
  if s.stabled then (List.range 16).foldl (fun m e => if s.pwTab (8 + e) * 1000000 ≤ s.pw.bal then m + 2 ^ e else m) 0 else 0xFFFF
def State.heatMask (s : State) : Nat :=
  (List.range 16).foldl (fun m h => if s.pwTab (24 + h) * 1000000 ≤ s.pw.heat then m + 2 ^ h else m) 0

/-- The heat level H asks for from level `cur`: a lower one only at its threshold plus H_MAX / 16 (R477). -/
def heatLevelOf (h lvl1 lvl2 hMax cur : Nat) : Nat :=
  let up := if h < lvl2 then 2 else if h < lvl1 then 1 else 0
  if cur ≤ up then up
  else if lvl1 + hMax / 16 ≤ h then 0
  else if cur = 2 ∧ lvl2 + hMax / 16 ≤ h then 1
  else cur

/-- The words of the PW status sample (R478). -/
def State.pwWords (s : State) : List Word :=
  let f := s.rf.word R.PW_FLAGS_EXHAUSTED.base
  [BitVec.ofNat 32 (s.pwState + s.rd R.PW_STATE_HEAT_LEVEL * 8 + (if f.getLsbD 3 then 32 else 0) + (if f.getLsbD 4 then 64 else 0) +
     (if f.getLsbD 2 then 128 else 0)),
   BitVec.ofNat 32 (satNat 32 (s.pw.bal / 1000000)), BitVec.ofNat 32 (satNat 32 (s.pw.heat / 1000000)),
   s.rf.word R.PW_LAST_WAKE_SOURCE.base]

/-- Delivers the PW status sample at `t` to the I words its map names. -/
def State.pwDeliver (s : State) (t : Nat) : State :=
  let ws := s.pwWords
  let s1 := s.setPw { s.pw with shown := (ws.getD 0 0, ws.getD 3 0), shownAt := t }
  match NMap.look s1.maps 0x2001 with
  | none => s1
  | some i => s1.deliverWords i ws t

/-- Delivers the sample at a change of its words 0 or 3. -/
def State.pwChanged (s : State) (t : Nat) : State :=
  let ws := s.pwWords
  if !s.pw.frozen && s.pw.shown != (ws.getD 0 0, ws.getD 3 0) then s.pwDeliver t else s

/-- Delivers the sample at a change of its words 0 or 3, or after 10 ms. -/
def State.pwSample (s : State) (t : Nat) : State :=
  if !s.pw.frozen && decide (s.pw.shownAt + 10000000 ≤ t) then s.pwDeliver t else s.pwChanged t

/-- p_lim of R476 over one base tick, in nJ. -/
def State.heatIn (s : State) : Int :=
  let tb := toSigned 16 (s.rd R.PW_T_BOARD)
  let tm : Int := 10 * s.rd R.PW_CFG_T_MAX
  let tk : Int := 10 * s.rd R.PW_CFG_T_KNEE
  let num := clampInt 0 (tm - tk) (tm - tb)
  (s.rd R.PW_CFG_P_LIM : Int) * 125000 * num / (tm - tk)

/-- The caddy at a base tick: supply voltage in 10 mV, main-supply power and field-side losses in 10 mW (R473, R476,
R478). -/
def State.caddyTick (s : State) (volt power loss t : Nat) : State :=
  let diss := power + loss
  let s1 := ((s.wr R.PW_POWER (satNat 16 power)).wr R.PW_VOLTAGE (satNat 16 volt)).wr R.PW_P_DISS (satNat 16 diss)
  let b := if s.stabled then s.pw.bal - power * 1250 else s.pw.bal
  let h := (clampInt 0 (s.pw.hMax * 1000000) (s.pw.heat + s.heatIn - diss * 1250)).toNat
  let p := { s.pw with bal := b, heat := h, balZero := s.pw.balZero || (b == 0 && s.pw.bal != 0),
                       heatZero := s.pw.heatZero || (h == 0 && s.pw.heat != 0) }
  let s2 := ((s1.setPw p).wr R.PW_BALANCE (satNat 32 (b / 1000000))).wr R.PW_HEAT (satNat 32 (h / 1000000))
  let em := s2.energyMask
  let hm := s2.heatMask
  let s3 := (s2.wr R.PW_ENERGY_MASK em).wr R.PW_HEAT_MASK hm
  let cur := s.rd R.PW_STATE_HEAT_LEVEL
  let lvl := heatLevelOf (h / 1000000) s.pw.lvl1 s.pw.lvl2 s.pw.hMax cur
  let s4 := if lvl = cur then s3 else ((s3.wr R.PW_STATE_HEAT_LEVEL lvl).setHeatLevel lvl t).raise 393 t
  if s4.pw.frozen then s4
  else (s4.onLanes (fun l => { l with admitEnergy := em, admitHeat := hm })).pwSample t

/-! ### Commands (R461) -/

/-- PW_CMD_STAT after a command. -/
def State.pwLast (s : State) (op last : Nat) : State := (s.wr R.PW_CMD_STAT_OP op).wr R.PW_CMD_STAT_LAST last

/-- LAST codes. -/
def plDone : Nat := 1
def plRefused : Nat := 2
def plAbandoned : Nat := 3

/-- The balance takes a value in nJ. -/
def State.setBalance (s : State) (b : Nat) : State :=
  (s.setPw { s.pw with bal := b, balZero := false }).wr R.PW_BALANCE (satNat 32 (b / 1000000))

/-- A BUDGET record (R488). -/
def State.budgetRec (s : State) (code t : Nat) : State :=
  s.record .pw 0x0706 (byte code :: leBytes (satNat 32 (s.pw.bal / 1000000)) 4) t

def State.pwStable (s : State) (t : Nat) : State :=
  if s.pwState = psRun then
    ((((s.setBalance (s.rd R.PW_BUDGET_GRANT * 1000000)).wr R.PW_STATE_STATE psStabled).pwLast 1 plDone).budgetRec 1 t).pwSample t
  else s.pwLast 1 plRefused

def State.pwTopup (s : State) (t : Nat) : State :=
  if s.pwState = psStabled then
    ((s.setBalance (min (s.pw.bal + s.rd R.PW_BUDGET_GRANT * 1000000) ((2 ^ 32 - 1) * 1000000))).pwLast 2 plDone).budgetRec 2 t
  else s.pwLast 2 plRefused

def State.pwUnstable (s : State) (t : Nat) : State :=
  if s.pwState = psStabled then
    (((s.wr R.PW_STATE_STATE psRun).pwLast 3 plDone).budgetRec 3 t).pwSample t
  else s.pwLast 3 plRefused

/-- BALANCE_EXHAUSTED and HEAT_CREDIT_EXHAUSTED: what follows when B or H has reached 0 (R475, R476). The SLEEP request
is the caller's. -/
def State.heatExhausted (s : State) : State :=
  if s.pw.heatZero then (s.setPw { s.pw with heatZero := false }).wr R.PW_FLAGS_HEAT_LIMIT 1 else s

/-! ### SLEEP (R467) -/

/-- Every controller's pending frames are removed. -/
def State.canFlushAll (s : State) : State := (List.range 4).foldl State.canFlush s

/-- The lease is given up: a holder sends RELEASE; a module without a group stops acting (R463, R467). -/
def State.rdStop (s : State) (t : Nat) : State :=
  if s.role = rrHolder then s.rdGiveUp ltRelease 0 t else s.stopActing t

/-- A SLEEP request (R461, R467). -/
def State.pwSleep (s : State) (t : Nat) : State :=
  let st := s.pwState
  let ok := (st == psRun || st == psStabled) && (s.vstate == vsTriplex || s.isDuplex) && s.vt.copies.isEmpty &&
    (s.mode == mdRun || s.mode == mdStop)
  if !ok then s.pwLast 4 plRefused
  else
    let p := { s.pw with before := st, entryAt := t, quiet := false, abort := false, armed := true, latch := none }
    let s1 := (((s.setPw p).wr R.PW_STATE_STATE psEntering).pwLast 4 plDone).cmpAllIdle
    (((s1.rdStop t).canFlushAll).fbPark t).allOut.pwSample t

/-- BALANCE_EXHAUSTED (R475). -/
def State.balanceExhausted (s : State) (t : Nat) : State :=
  if s.pw.balZero then
    let s1 := ((((s.setPw { s.pw with balZero := false }).wr R.PW_FLAGS_EXHAUSTED 1).raise 391 t).budgetRec 4 t)
    if s1.rd R.PW_CFG_ON_EMPTY = 1 then s1.pwSleep t else s1
  else s

/-- Whether the lead lane is at a quiet point: its engines idle, no result in progress (R258). -/
def Lane.quiet (l : Lane) : Bool :=
  (List.range 4).all fun e => (l.engine e).st == .idle && (l.engine e).next == none

/-- SLEEP_QUIET_POINT: reached no later than 20 ms after the request. -/
def State.sleepQuiet (s : State) (t : Nat) : State :=
  if s.pwState = psEntering ∧ t ≤ s.pw.entryAt + 20000000 ∧ s.front.quiet = true then s.setPw { s.pw with quiet := true } else s

/-- SLEEP_ENTRY_ABANDON: no quiet point by 20 ms, or a lane excluded during the entry. -/
def State.sleepAbandon (s : State) (t : Nat) : State :=
  if s.pwState = psEntering ∧ (s.pw.abort = true ∨ (s.pw.quiet = false ∧ s.pw.entryAt + 20000000 ≤ t)) then
    let s1 := (((s.wr R.PW_STATE_STATE s.pw.before).wr R.PW_FLAGS_SLEEP_ABORT 1).wr R.PW_CMD_STAT_LAST plAbandoned).setPw
      { s.pw with armed := false, latch := none }
    ((s1.fbResume t).allOut).pwSample t
  else s

/-- A wake runs (R471): the lanes resume, the Line Gauge starts, the Forme controller locks up, EV389 and the source's
own event are raised with the wake's STAMP, and PW_LAST_WAKE shows what the latch recorded (R470). -/
def State.wake (s : State) (replayed : Bool) (t : Nat) : State :=
  let (w, us) := s.pw.latch.getD (0, 0)
  let p := { s.pw with frozen := false, armed := false, latch := none }
  let lo := us % 2 ^ 32
  let hi := us / 2 ^ 32
  let s0 := (((s.setPw p).wrWord R.PW_LAST_WAKE_SOURCE.base w).wr R.PW_LAST_WAKE_STAMP_LO lo).wr R.PW_LAST_WAKE_STAMP_HI hi
  let s1 := (s0.wr R.PW_STATE_STATE s.pw.before).wr R.PW_LAST_WAKE_REPLAYED (if replayed then 1 else 0)
  let st := us * 1000
  let s2 := (((s1.lgStart t).fbUnpark t).allOut).relayAll t
  let a := R.PW_LAST_WAKE_SOURCE.base
  let s3 := s2.record .pw 0x0702 (leBytes (s2.rf.word a).toNat 4 ++ leBytes lo 4 ++ leBytes hi 4) t
  let src := s3.rd R.PW_LAST_WAKE_SOURCE
  let arg := s3.rd R.PW_LAST_WAKE_ARG
  let s4 := s3.raise 389 st
  (if src = 8 then s4.raise (356 + arg) st else if src = 9 then s4.raise arg st else s4).pwDeliver t

/-- RETENTION_COMMIT: the module is in SLEEP; a wake latched during the entry is replayed (R467, R470, R31). A Forme cycle that runs
is the last one, and the relay of UP stops (R366, R497). -/
def State.retain (s : State) (t : Nat) : State :=
  if s.pwState = psEntering ∧ s.pw.quiet = true ∧ s.pw.abort = false then
    let wakeEn := (s.rf.word R.PW_SRC.base).toNat
    let s1 := ((((s.fbParked t).lgStop).relayHalt).record .pw 0x0701 (leBytes wakeEn 4) t).wr R.PW_STATE_STATE psSleep
    let s2 := s1.setPw { s1.pw with frozen := true, retainedAt := t, distAt := s1.lg.dist }
    if s2.pw.latch.isSome then s2.wake true t else s2
  else s

/-- Whether a frame of source `c` is the one that wakes the module: the latch is armed, waits, and the source is enabled. That frame
is itself discarded; the wake is WAKE_LATCH (R469). -/
def State.wakesOn (s : State) (c : Nat) : Bool := s.pw.armed && s.pw.latch.isNone && (s.rd R.PW_SRC).testBit (c - 1)

/-- Whether wake source `c` is enabled and occurs at `t` (R469). -/
def State.wakeOccurs (s : State) (src : BitVec 9) (can irq chan t c : Nat) : Bool :=
  src.getLsbD (c - 1) && (if c ≤ 8 then (s.rd R.PW_SRC).testBit (c - 1) else (s.rd R.PW_WAKE_GRP).testBit (chan / 16)) &&
  (if c = 1 then
    s.rd R.SYS_KEY_STAT_STUCK == 0 && (match s.key.pressedAt with
      | some p => decide (p + 100000000 ≤ t)
      | none => false)
   else if c = 2 then s.pwState == psSleep && decide (s.pw.retainedAt + 1000000000 * s.rd R.PW_SECONDS ≤ t)
   else if c = 3 then s.pwState == psSleep && decide (s.pw.distAt + 1000 * 65536 ≤ s.lg.dist)
   else if c = 7 then s.rd R.CN_CTRL_EN can == 1
   else if c = 8 then s.bit R.BR_CFG_IRQ_EN irq
   else if c = 9 then s.chMode chan == cmDi && s.rd R.CH_MODE_EVT chan != 0
   else true)

/-- WAKE_LATCH: the sources that occur in one µs; the lowest code enabled is recorded (R470). In SLEEP the module wakes. -/
def State.wakeLatch (s : State) (src : BitVec 9) (can irq chan t : Nat) : State :=
  let cs := (List.range 9).map (· + 1) |>.filter fun c => s.wakeOccurs src can irq chan t c
  match cs with
  | [] => s
  | c :: _ =>
    if !s.pw.armed || s.pw.latch.isSome then s
    else
      let arg := if c = 7 then can else if c = 8 then irq else if c = 9 then chan else 0
      let w := c + arg * 2 ^ 8 + (cs.foldl (fun m c => m + 2 ^ (c - 1)) 0) * 2 ^ 16
      let s1 := s.setPw { s.pw with latch := some (BitVec.ofNat 32 w, t / 1000) }
      if s1.pwState = psSleep then s1.wake false t else s1

/-! ### Supply (R459 to R466) -/

/-- HOLDUP is entered (R463): outputs off, the lease given up, SUPPLY_LOSS staged, the save begun; a running application is
abandoned (R500). -/
def State.holdup (s : State) (t : Nat) : State :=
  let s1 := (((s.lgStop.saveStart false t).bump R.PW_HOLDUP_CNT).wr R.PW_FLAGS_HOLDUP_SEEN 1)
  let s2 := (s1.rdStop t).wr R.PW_STATE_STATE psHoldup
  let s3 := ((s2.chEndTimed.allOut.fbPark t).relayHalt).erHoldupEntry t
  let s4 := if s3.rd R.UP_STATE_STORE = 3 then
      setUpStore (s3.wr R.UP_STATE_STORE 2) { s3.up.store with target := none } else s3
  s4.setPw { s4.pw with frozen := true, armed := false, latch := none, back := none }
where
  /-- An application is abandoned: its slot stays WRITING and the store RECEIVED (R500). -/
  setUpStore (s : State) (x : UpStore) : State := { s with up := { s.up with store := x } }

/-- SUPPLY_LOST: the ride-through window opens; with RIDE = 0 HOLDUP is entered at once (R462, R466). -/
def State.supplyLost (s : State) (t : Nat) : State :=
  if s.rd R.PW_STATE_SUPPLY_OK = 0 then s
  else
    let s1 := (s.wr R.PW_STATE_SUPPLY_OK 0).setPw { s.pw with lostAt := some t, back := none }
    if s1.pwState = psHoldup then s1
    else if s1.rd R.PW_STATE_RIDE = 0 then s1.holdup t else s1

/-- HOLDUP_ENTRY: the supply is not back at t_loss + RIDE (R462). -/
def State.holdupEntry (s : State) (t : Nat) : State :=
  match s.pw.lostAt with
  | some l => if s.pwState ≠ psHoldup ∧ l + 100000 * s.rd R.PW_STATE_RIDE ≤ t then s.holdup t else s
  | none => s

/-- The supply is back inside the window (R462). -/
def State.rideThrough (s : State) (l t : Nat) : State :=
  let s1 := ((s.wr R.PW_STATE_SUPPLY_OK 1).setPw { s.pw with lostAt := none }).wr R.PW_FLAGS_RIDE 1
  ((s1.bump R.PW_RIDE_CNT).raise 392 t).record .pw 0x0705 (leBytes (satNat 32 ((t - l) / 1000)) 4) t

/-- What the recorder leaves at a loss of power: the records still staged are lost, and their count is saved with the retained
data, where a save stands (R455, R464). -/
def State.recorderOff (s : State) (torn : Bool) : State :=
  let n := s.stagedRecs.length
  let s1 := s.erPowerOff torn
  match s1.latestSave with
  | some (k, r) =>
    if r.ended then
      let d := { r.data with unwritten := n }
      s1.setPw { s1.pw with saves := NMap.put s1.pw.saves k { r with crc := d.crc, data := d } }
    else s1.setEr { s1.er with unwritten := 0 }
  | none => s1.setEr { s1.er with unwritten := 0 }

/-- HOLDUP_BANK_END: the module is unpowered; `torn` says that a record was being programmed (R463, R465). -/
def State.bankEnd (s : State) (torn : Bool) : State :=
  if s.pwState = psHoldup ∧ s.rd R.PW_STATE_SUPPLY_OK = 0 then
    let s1 := s.recorderOff torn
    (s1.brFloat).setPw { s1.pw with off := true, saving := none }
  else s

/-! ### Core voltage (R480, R481) -/

def State.vcore (s : State) (x : Nat) : Vcore := NMap.get s.pw.vcore {} x
def State.setVcore (s : State) (x : Nat) (v : Vcore) : State := s.setPw { s.pw with vcore := NMap.put s.pw.vcore x v }

/-- SLACK_LO of the PW table. -/
def State.slackLo (s : State) : Nat := s.pwTab 7 % 1024

/-- SLACK_SAMPLE of lane `x`: the least slack in ps and the ring oscillator in kHz. -/
def State.slackSample (s : State) (x slack ring t : Nat) : State :=
  let s1 := (s.wr R.PW_VCORE_MIN_SLACK (satNat 10 slack) x).wr R.PW_VCORE_RING (satNat 32 ring) x
  let v := s.vcore x
  let low := if slack < s.slackLo then v.low + 1 else 0
  let rested := match v.stepAt with
    | some a => decide (a + 60000000000 ≤ t)
    | none => true
  if 10 ≤ low ∧ rested = true then
    if 20 ≤ s.rd R.PW_VCORE_STEPS x then (s1.setVcore x { v with low := low }).wr R.PW_FLAGS_TIMING_EXHAUSTED 1
    else s1.setVcore x { v with low := low, wanted := true }
  else s1.setVcore x { v with low := low }

/-- A failed PMBus transaction (R479). -/
def State.pmbusErr (s : State) : State := (s.bump R.PW_PMBUS_ERR_CNT).wr R.PW_FLAGS_PMBUS_ERR 1

/-- The re-plan a counted step starts (R485): its first part at once; the checks of the powered groups, and then the scans of the
flash blocks whose last scan found 10 or more corrected bits, are owed. -/
def State.replan (s : State) (t : Nat) : State :=
  let s1 := s.holdPlan t
  s1.setPw { s1.pw with planRefs := (List.range 8).filter fun g => s.rd R.CH_GRP_STAT_POWERED g == 1,
                        planScans := (s.pw.scans.filter fun p => decide (10 ≤ p.2)).map Prod.fst }

/-- The groups a re-plan still has to check: those that have lost their power since are none of it (R485, R486). -/
def State.owedRefs (s : State) : List Nat := s.pw.planRefs.filter fun g => s.rd R.CH_GRP_STAT_POWERED g == 1

/-- VCORE_STEP of a requested step of lane `x`: `naks` counts its failed transactions, the rail settled within 2 ms, STATUS_WORD
showed a fault bit (R479, R480). -/
def State.vcoreStep (s : State) (x : Nat) (naks : StepBus) (settled fault : Bool) (t : Nat) : State :=
  let v := s.vcore x
  if !v.wanted then s
  else
    let s1 := (List.range (min naks.vout 2 + naks.rest)).foldl (fun s _ => s.pmbusErr) (s.setVcore x { v with wanted := false })
    if 2 ≤ naks.vout ∨ settled = false ∨ fault = true then s1.wr R.PW_FLAGS_VCORE_FAIL 1
    else
      let n := s.rd R.PW_VCORE_STEPS x + 1
      let s2 := ((s1.wr R.PW_VCORE_STEPS n x).wr R.PW_VCORE_VOUT (s.rd R.PW_VCORE_VOUT x + 5) x).bump R.PW_STEP_CNT
      let s3 := s2.setVcore x { v with wanted := false, stepAt := some t }
      let s4 := s3.record .pw 0x0703 ([byte x, byte n] ++ leBytes (s.rd R.PW_VCORE_MIN_SLACK x) 2) t
      (s4.setMargin x (20 - n) t).replan t

/-! ### References, flash and switches (R482, R486, R487) -/

/-- The correction R486 makes for a difference in 0.001 %: steps of 0.002 % until it is below that. -/
def refStep (d : Int) : Int := if 0 ≤ d then d / 2 * 2 else -(-d / 2 * 2)

/-- REFERENCE_CHECK of group `g`: the difference of the working reference from the monitor reference in 0.001 %. -/
def State.referenceCheck (s : State) (g : Nat) (diff : Int) (t : Nat) : State :=
  if s.rd R.CH_GRP_STAT_POWERED g = 0 then s
  else
    let c := clampInt (-200) 200 (NMap.get s.pw.refs 0 g - refStep diff)
    (s.setPw { s.pw with refs := NMap.put s.pw.refs g c, planRefs := s.pw.planRefs.erase g }).setMargin (12 + g) c.natAbs t

/-- FLASH_SCAN of one block, which a re-plan that has made its checks owes no longer (R485): a block's highest count of corrected bits in a codeword; 20 or more refresh it. Image slots are not read
while the image region is locked (R487). -/
def State.flashScan (s : State) (block bits : Nat) (image : Bool) (t : Nat) : State :=
  if image && s.rd R.UP_STATE_LOCK == 1 then s
  else
    let sc := NMap.put s.pw.scans block bits
    let owed := if s.owedRefs.isEmpty then s.pw.planScans.erase block else s.pw.planScans
    let s1 := (s.setPw { s.pw with scans := sc, planScans := owed }).setMargin 20 (sc.foldl (fun a c => max a c.2) 0) t
    if 20 ≤ bits then s1.bump R.PW_REFRESH_CNT else s1

/-- The on-resistance limit of R318 in mΩ. -/
def rLim (c : Nat) : Nat := if c % 16 < 4 then 600 else 300

/-- The switch margins at a sample of group `g`: an output on for 1 ms that carries at least 0.1 A gives its ratio once
per turn-on; the margin takes the highest of the last 7 days (R482). -/
def State.switchMargins (s : State) (g : Nat) (ug : Int) (mvs mas : List Int) (t : Nat) : State :=
  (chansOf g).foldl (fun s c =>
    let p := s.pw
    if !(isHs (s.chMode c) && s.rd R.CH_STAT_ON c == 1) then s.setPw { p with onAt := NMap.del p.onAt c }
    else
      match NMap.look p.onAt c with
      | none => s.setPw { p with onAt := NMap.put p.onAt c (some t) }
      | some none => s
      | some (some a) =>
        let ma := mas.getD (c % 16) 0
        if t < a + 1000000 then s
        else
          let s1 := s.setPw { p with onAt := NMap.put p.onAt c none }
          if ma < 100 then s1
          else
            let r := ((ug - mvs.getD (c % 16) 0) * 1000 * 1000 / ma / rLim c).toNat
            let rs := (t, r) :: (NMap.get p.ron [] g).filter fun q => decide (t < q.1 + 604800000000000)
            (s1.setPw { s1.pw with ron := NMap.put s1.pw.ron g rs }).setMargin (4 + g) (rs.foldl (fun a q => max a q.2) 0) t) s

/-- TEMPERATURE_READ: the six board sensors in 0.1 °C (R476). -/
def State.temperatures (s : State) (ts : List Int) : State :=
  match ts with
  | [] => s
  | x :: r => s.wr R.PW_T_BOARD (fromSigned 16 (clampInt (-32768) 32767 (r.foldl max x)))

/-! ### Load (R489) -/

/-- Whether a pending PW set may take effect: T_KNEE below T_MAX. -/
def pwSetOk (w : Nat → Word) : Bool :=
  let f (x : Fld) : Nat := x.ext (w (x.addr 0))
  decide (f R.PW_CFG_T_KNEE < f R.PW_CFG_T_MAX)

/-- Loads the PW table. A set with T_KNEE at or above T_MAX loads the defaults of both. -/
def State.pwLoad (s : State) : State :=
  let b := 0x03393000
  let put (s : State) (a : Nat) (w mask : Word) (fs : List Fld) : State :=
    let v := fs.foldl (fun (p : Word × Nat) f =>
      let x := f.ext p.1
      let y := f.clamp x
      (f.ins p.1 y, p.2 + (if x = y then 0 else 1))) (w &&& mask, 0)
    (s.wrWord a v.1).bump (R.BLK_CLAMP_CNT_COUNT.at .pw) 0 0 v.2
  let s1 := put s R.PW_CFG_P_LIM.base (s.tw b) 0xFFFFFF01#32 [R.PW_CFG_P_LIM, R.PW_CFG_T_MAX, R.PW_CFG_T_KNEE]
  let s2 := if pwSetOk s1.rf.word then s1
    else ((s1.wr R.PW_CFG_T_MAX 105).wr R.PW_CFG_T_KNEE 90).bump (R.BLK_CLAMP_CNT_COUNT.at .pw)
  let s3 := put s2 R.PW_SRC.base (s.tw (b + 4)) 0x0000FFFF#32 []
  let s4 := put s3 R.PW_SECONDS.base (s.tw (b + 8)) 0x000FFFFF#32 [R.PW_SECONDS]
  let h := s.pwTab 3
  let bad := decide (h < s.pwTab 4 ∨ s.pwTab 4 < s.pwTab 5)
  let s5 := s4.setPw { s4.pw with hMax := h, lvl1 := if bad then h / 2 else s.pwTab 4, lvl2 := if bad then h / 4 else s.pwTab 5 }
  if bad then (s5.wr R.PW_FLAGS_TABLE_ERR 1).bump (R.BLK_CLAMP_CNT_COUNT.at .pw) else s5

end Sys2Proof.Machine
end

