-- ==== Sys2Proof/Machine/Lanes.lean ====
section
/-! DEFINITION. Lane states: exclusion, self-test, the rejoin copy, scrub repairs, grace and the safe state
(spec/09_lanes_and_voting.md). -/

namespace Sys2Proof.Machine

def State.setVt (s : State) (v : Voter) : State := { s with vt := v }

/-! ### Codes -/

/-- ROLE of VT_LANE_STAT_x. -/
def lrSelftest : Nat := 0
def lrVoting : Nat := 1
def lrExcluded : Nat := 2
def lrCopying : Nat := 3
def lrOut : Nat := 4

def State.laneRole (s : State) (x : Nat) : Nat := s.rd R.VT_LANE_STAT_ROLE x

/-- CAUSE of VT_LANE_STAT_x. -/
def lcWindow : Nat := 1
def lcCheckpoint : Nat := 2
def lcBeat : Nat := 3
def lcLate : Nat := 4
def lcScrub : Nat := 5
def lcSelftest : Nat := 6
def lcHeldOut : Nat := 7
def lcRejoinLimit : Nat := 8

/-- SAFE_CAUSE of VT_STATE. -/
def scThreeWay : Nat := 1
def scDuplexDis : Nat := 2
def scGrace : Nat := 3
def scSimplexLimit : Nat := 4
def scPairDis : Nat := 5
def scSrcMismatch : Nat := 6
def scHoldOvf : Nat := 7
def scNoLane : Nat := 8

/-- RANK of a lane state (R264). -/
def rankOf (st : Nat) : Nat := if st = vsTriplex then 0 else if 3 ≤ st ∧ st ≤ 5 then 1 else if st = vsSimplex then 2
  else if st = vsSelftest then 3 else 4

/-- Result of lane `x`'s latest self-test: 0 none yet, 1 passed, 2 failed. -/
def State.testOf (s : State) (x : Nat) : Nat := NMap.get s.vt.test 0 x

/-- Whether the lane state is SIMPLEX-DIAG. -/
def State.isSimplex (s : State) : Bool := s.vstate == vsSimplex
/-- Whether the lane state is TRIPLEX. -/
def State.isTriplex (s : State) : Bool := s.vstate == vsTriplex

/-! ### Grace (R263) -/

/-- The elapsed grace in minutes at `t`. -/
def State.graceNow (s : State) (t : Nat) : Nat :=
  s.vt.graceBase + (if s.isDuplex then (t - s.vt.duplexSince) / 60000000000 else 0)

/-- The grace time in minutes. -/
def State.graceLimit (s : State) : Nat := 60 * s.rd R.VT_CFG_GRACE

/-- The grace has expired at `t`; the 10 min of SIMPLEX-DIAG have passed (R251 rows 6 and 10). -/
def State.graceOver (s : State) (t : Nat) : Bool := s.isDuplex && decide (s.graceLimit ≤ s.graceNow t)
def State.simplexOver (s : State) (t : Nat) : Bool := s.isSimplex && decide (s.vt.simplexSince + 600000000000 ≤ t)

/-- GRACE_WARN: 80 % of the grace is reached. -/
def State.graceWarn (s : State) (t : Nat) : State :=
  if s.isDuplex && decide (4 * s.graceLimit ≤ 5 * s.graceNow t) && s.rd R.VT_FLAGS_GRACE_WARN == 0 then
    (s.wr R.VT_FLAGS_GRACE_WARN 1).record .vt 0x0303 (leBytes (s.graceNow t) 4) t
  else s

/-- GRACE_RECORD: the elapsed grace goes to flash every 10 min. -/
def State.graceRecord (s : State) (t : Nat) : State :=
  if s.isDuplex && decide (s.vt.graceFlash + 10 ≤ s.graceNow t) then s.setVt { s.vt with graceFlash := s.graceNow t } else s

/-! ### Changes of the lane state (R250, R251) -/

/-- The voting lanes as a mask, with LEAD, the lowest-lettered of them (R234). -/
def State.setVoting (s : State) (m : Nat) : State :=
  (s.wr R.VT_STATE_VOTING m).wr R.VT_STATE_LEAD (if m.testBit 0 then 0 else if m.testBit 1 then 1 else if m.testBit 2 then 2 else 0)

/-- Enters a lane state: STATE and RANK, the grace that runs in DUPLEX, the time SIMPLEX-DIAG began; the Chase follows. -/
def State.vtEnter (s : State) (st t : Nat) : State :=
  let g := if st = vsTriplex then 0 else s.graceNow t
  let dup := decide (3 ≤ st ∧ st ≤ 5)
  let v := { s.vt with graceBase := g, duplexSince := t, graceFlash := if dup then g else if st = vsTriplex then 0 else s.vt.graceFlash,
                       simplexSince := if st = vsSimplex then t else s.vt.simplexSince }
  (((s.setVt v).wr R.VT_STATE_STATE st).wr R.VT_STATE_RANK (rankOf st)).scLaneState t

/-- Whether a lane was excluded in the voter cycle of `t` (R249). -/
def State.exclInCycle (s : State) (t : Nat) : Bool :=
  s.vt.excl.any fun c => c.2.any fun u => u / 2 == t / 2

/-- Cancels every pending activation of a lane at `t` with a LAST_END code, discarding the records of FAULT tasks. -/
def Lane.cancelAll (l : Lane) (code t : Nat) : Lane :=
  let l1 := { l with tasks := l.tasks.map fun c => (c.1, { c.2 with faultq := [] }) }
  (List.range 64).foldl (fun l n => if l.isPending n then l.cancelTask n code t else l) l1

/-- Entry into SAFE with a cause (R265). Two findings of one voter cycle that name different lanes are a three-way
disagreement (R249). -/
def State.enterSafe (s : State) (cause t : Nat) : State :=
  if s.isSafe then s
  else
    let c := if cause = scDuplexDis && s.exclInCycle t then scThreeWay else cause
    let serving := s.votingLanes
    let s1 := (s.onLanes fun l => { l.cancelAll leCancel t with items := [] }).cmpAllIdle
    let s2 := s1.setVt { s1.vt with held := [], owed := [], late := [], copies := [], repairs := [], safeServing := serving }
    let s3 := ({ s2 with lg := { s2.lg with arms := [] } } : State).vtEnter vsSafe t
    let s4 := ((s3.setVoting 0).wr R.VT_STATE_SAFE_CAUSE c).wr R.VT_FLAGS_SAFE_SEEN 1
    ((s4.chEndTimed.canFlushAll).allOut).record .vt 0x0304 [byte c] t

/-! ### Exclusion (R247 to R249) -/

/-- The four words of VT_LAST_DIS; of a beat as log entry 90 says. -/
def State.lastDis (s : State) (i : Item) (agree t : Nat) : State :=
  let r := s.rf
  let r := r.wr R.VT_LAST_DIS_ITEM i.kind
  let r := r.wr R.VT_LAST_DIS_AGREE agree
  let r := r.wr R.VT_LAST_DIS_TASK (if i.kind = 3 then 0 else i.task)
  let r := r.wr R.VT_LAST_DIS_ENGINE i.engine
  let r := r.wr R.VT_LAST_DIS_WINDOW i.win
  let r := r.wr R.VT_LAST_DIS_POSITION i.pos
  { s with rf := r.wr R.VT_LAST_DIS_STAMP (t / 1000 % 2 ^ 32) }

/-- Exclusions of lane `x` within the last REJOIN_WIN hours. -/
def State.exclInWin (s : State) (x t : Nat) : Nat :=
  ((NMap.get s.vt.excl [] x).filter fun u => t < u + 3600000000000 * s.rd R.VT_CFG_REJOIN_WIN).length

/-- Lane `x` is excluded in TRIPLEX: it no longer votes, DUPLEX-x begins, the finding is recorded. -/
def State.exclude (s : State) (x cause t : Nat) : State :=
  if !(s.isTriplex && s.votes x) then s
  else
    let v := { s.vt with excl := NMap.put s.vt.excl x (t :: NMap.get s.vt.excl [] x), test := NMap.put s.vt.test x 0,
                         owed := s.vt.owed.filter (fun p => p.1 != x), late := s.vt.late.filter (fun p => p.1 != x) }
    let s1 := (s.setVt v).setLane x { s.lane x with items := [] }
    let s2 := (s1.wr R.VT_LANE_STAT_ROLE lrExcluded x).wr R.VT_LANE_STAT_CAUSE cause x
    let s3 := (s2.wr R.VT_LANE_STAT_EXCL_IN_WIN (satNat 8 (s2.exclInWin x t)) x).setVoting (7 - 2 ^ x)
    let s4 := ((s3.wr R.VT_FLAGS_LANE_FAULT 1).bump R.VT_EXCL_CNT).vtEnter (vsDuplex x) t
    let a := R.VT_LAST_DIS_ITEM.base
    let dis := [0, 4, 8, 12].flatMap fun k => wordBytes (s4.rf.word (a + k))
    let s5 := s4.record .vt 0x0301 ([byte x, byte cause] ++ dis) t
    if s5.pwState = psEntering then s5.setPw { s5.pw with abort := true } else s5

/-- LANE_RESET: the excluded lane is reset and starts its self-test, and an open request through its memory window completes
with TARGET_RESET (R57); its ROLE stays EXCLUDED while it awaits the result
(R247, R254, R267). -/
def State.laneReset (s : State) (x : Nat) : State :=
  if s.laneRole x = lrExcluded ∧ s.testOf x = 0 ∧ s.vt.testing.contains x = false then
    let s1 := s.turnOpen fun a => decide (0x01000000 + 0x04000000 * x ≤ a ∧ a < 0x05000000 + 0x04000000 * x)
    (s1.setLane x { rf := { eff := porLane } }).setVt { s.vt with testing := s.vt.testing ++ [x] }
  else s

/-- SCRUB_UNCORRECTABLE: the scrubber finds the uncorrectable word at byte address `a` of lane `x` (R88, R248). -/
def State.scrubFound (s : State) (x a t : Nat) : State :=
  let l := s.lane x
  if !l.ecc2.contains a then s
  else
    let s1 := s.setLane x (l.wr R.LE_ECC_FLAGS_UNCORR 1)
    if !s1.votes x then s1
    else if s1.isTriplex then s1.exclude x lcScrub t
    else if s1.isDuplex then
      if s1.exclInCycle t then s1.enterSafe scThreeWay t
      else
        match s1.votingLanes.find? (· != x) with
        | some y => s1.setVt { s1.vt with repairs := s1.vt.repairs ++ [{ lane := x, addr := a, value := (s1.lane y).word a }] }
        | none => s1
    else s1

/-- SCRUB_REPAIR_WRITE: the value is written into the lane with the error, unless a whole-word write has removed the
error since (R248). -/
def State.scrubRepair (s : State) (x a : Nat) : State :=
  match s.vt.repairs.find? (fun r => r.lane == x && r.addr == a) with
  | none => s
  | some r =>
    let s1 := s.setVt { s.vt with repairs := s.vt.repairs.erase r }
    let l := s1.lane x
    if !(l.ecc2.contains a && s1.votes x) then s1
    else ((s1.setLane x (l.setWord a r.value)).bump R.VT_REPAIR_CNT).wr R.VT_FLAGS_SCRUB_REPAIR 1

/-! ### Self-test and the start in SIMPLEX-DIAG (R252 to R255, R262) -/

/-- A lane is out (R255). -/
def State.laneOut (s : State) (x cause : Nat) : State :=
  (s.wr R.VT_LANE_STAT_ROLE lrOut x).wr R.VT_LANE_STAT_CAUSE cause x

/-- LANE_SELFTEST_END: a failing lane is out; a passing one that was excluded rejoins unless its exclusions within
REJOIN_WIN reach REJOIN_MAX (R255). With no lane left at the start the module is in SAFE (R251 row 3). -/
def State.selftestEnd (s : State) (x : Nat) (pass : Bool) (t : Nat) : State :=
  if !s.vt.testing.contains x then s
  else
    let s1 := s.setVt { s.vt with test := NMap.put s.vt.test x (if pass then 1 else 2),
                                  testing := s.vt.testing.filter (· != x) }
    if s1.vstate = vsSelftest then
      let s2 := if pass then s1 else s1.laneOut x lcSelftest
      if [0, 1, 2].all (fun y => s2.testOf y == 2) then s2.enterSafe scNoLane t else s2
    else if !pass then s1.laneOut x lcSelftest
    else if s1.rd R.VT_CFG_REJOIN_MAX ≤ s1.exclInWin x t then s1.laneOut x lcRejoinLimit
    else s1

/-- The end of SELFTEST: the starter, the lowest-lettered lane that passed and is not held out, begins SIMPLEX-DIAG; with
none the module is in SAFE (R251 rows 2 and 3, R252, R262). The records saved are back in staging before (R452). -/
def State.startLanes (s : State) (t : Nat) : State :=
  let hold := s.rd R.VT_CMD_HOLD_OUT
  let passed := [0, 1, 2].filter fun x => s.testOf x == 1
  let held := passed.filter fun x => hold.testBit x
  let s1 := held.foldl (fun s x => s.laneOut x lcHeldOut) s
  let s2 := s1.setVt { s1.vt with heldOut := held }
  match passed.find? (fun x => !hold.testBit x) with
  | none => s2.enterSafe scNoLane t
  | some x => (((s2.restoreStaging).wr R.VT_LANE_STAT_ROLE lrVoting x).setVoting (2 ^ x)).vtEnter vsSimplex t

/-! ### The rejoin copy (R256 to R261) -/

/-- The primary source of target `x`, and the other voting lane (R256). -/
def State.copySources (s : State) (x : Nat) : Option (Nat × Option Nat) :=
  match s.votingLanes with
  | [] => none
  | [p] => some (p, none)
  | vs =>
    let p := if x = 0 then 1 else if x = 1 then 0 else if s.votes 1 then 1 else 0
    if vs.contains p && p != x then some (p, vs.find? (fun y => y != p && y != x)) else none

/-- REJOIN_COPY_START: a lane whose fault is transient becomes the target of a copy. -/
def State.copyStart (s : State) (x t : Nat) : State :=
  let ok := (s.laneRole x == lrSelftest || s.laneRole x == lrExcluded) && s.testOf x == 1 && !s.votes x && (s.isSimplex || s.isDuplex) && s.pwState != psEntering &&
    !s.pw.frozen
  match s.copySources x with
  | some (p, q) =>
    if ok then
      (s.setVt { s.vt with copies := NMap.put s.vt.copies x { primary := p, second := q, start := t } }).wr
        R.VT_LANE_STAT_ROLE lrCopying x
    else s
  | none => s

/-- ROLE of a lane that has passed its self-test and waits for its copy: EXCLUDED after an exclusion, SELFTEST in the
start-up (DESIGN CHOICE, log entry 71: R255 to R261 name no code for it). -/
def State.waitRole (s : State) (x : Nat) : Nat := if s.rd R.VT_LANE_STAT_CAUSE x = 0 then lrSelftest else lrExcluded

/-- A copy ends without a switch: the lane may be copied anew. -/
def State.copyEnd (s : State) (x : Nat) : State :=
  ((s.setVt { s.vt with copies := NMap.del s.vt.copies x }).wr R.VT_LANE_STAT_ROLE (s.waitRole x) x).wr
    R.VT_LANE_STAT_JOIN_WAIT 0 x

/-- SWEEP_END: the target holds the primary's SRAM; the sweep has compared it with the second source (R257). -/
def State.sweepEnd (s : State) (x t : Nat) : State :=
  match NMap.look s.vt.copies x with
  | none => s
  | some c =>
    if c.swept then s
    else
      let m := (s.lane c.primary).mem
      let equal := match c.second with
        | none => true
        | some q => (s.lane q).mem == m
      if equal then
        let s1 := s.setVt { s.vt with copies := NMap.put s.vt.copies x { c with swept := true } }
        let s2 := s1.setLane x { s1.lane x with mem := m, ecc1 := [], ecc2 := [] }
        if x = 0 then s2.wr R.VT_LANE_STAT_JOIN_WAIT 1 x else s2
      else
        let s1 := (s.copyEnd x).wr R.VT_FLAGS_SRC_MISMATCH 1
        if s1.isDuplex then s1.enterSafe scSrcMismatch t else s1

/-- Whether a paired activation of a lane has started, or is given to its engines, and has not ended, or items of one wait
for the voter (R252, R258). -/
def State.pairedBusy (s : State) (x : Nat) : Bool :=
  let l := s.lane x
  (List.range 4).any (fun e => (l.engine e).pair.isSome || (l.engine e).nextPair.isSome) ||
    l.tasks.any (fun k => k.2.ctx.any fun c => c.pair.isSome) ||
    (s.isSimplex && l.items.any fun i => i.kind != 3 && decide (l.tkPriority i.task ≤ 7))

/-- Whether the copy of target `x` meets the conditions of its switch (R258). -/
def State.maySwitch (s : State) (x : Nat) : Bool :=
  match NMap.look s.vt.copies x with
  | none => false
  | some c =>
    c.swept && (if x = 0 then (s.lane c.primary).quiet && !(s.isSimplex && s.pairedBusy c.primary) else !s.pairedBusy c.primary)

/-- The target of a switch takes the whole lane-level state of its primary but the LE values of R92. -/
def Lane.transfer (src tgt : Lane) : Lane :=
  let own := [0x20048, 0x2004C]
  let eff := own.foldl (fun r a => Cells.set r a (Cells.get tgt.rf.eff a)) src.rf.eff
  { src with rf := { src.rf with eff := eff }, ecc1 := tgt.ecc1, ecc2 := tgt.ecc2 }

/-- One lane switches in and votes. -/
def State.switchOne (s : State) (x t : Nat) : State :=
  match NMap.look s.vt.copies x with
  | none => s
  | some c =>
    let s1 := s.setLane x ((s.lane c.primary).transfer (s.lane x))
    let s2 := s1.setVt { s1.vt with copies := NMap.del s1.vt.copies x }
    let s3 := ((s2.wr R.VT_LANE_STAT_ROLE lrVoting x).wr R.VT_LANE_STAT_JOIN_WAIT 0 x).setVoting (s2.rd R.VT_STATE_VOTING ||| 2 ^ x)
    ((s3.wr R.VT_FLAGS_REJOIN_DONE 1).bump R.VT_REJOIN_CNT).record .vt 0x0302 [byte x] t

/-- REJOIN_SWITCH: the target votes; two targets that can switch in the same cycle do so together (R251 rows 4, 5 and 9,
R258). A limit reached at the same stamp overrides the switch (R251). -/
def State.rejoinSwitch (s : State) (x t : Nat) : State :=
  if !s.maySwitch x then s
  else if s.graceOver t then s.enterSafe scGrace t
  else if s.simplexOver t then s.enterSafe scSimplexLimit t
  else
    let ys := [0, 1, 2].filter fun y => y == x || (s.isSimplex && s.maySwitch y)
    let s1 := ys.foldl (fun s y => s.switchOne y t) s
    let m := s1.rd R.VT_STATE_VOTING
    s1.vtEnter (if m = 7 then vsTriplex else if m = 6 then vsDuplex 0 else if m = 5 then vsDuplex 1 else vsDuplex 2) t

/-! ### Limits (R251 rows 6 and 10) -/

def State.graceExpiry (s : State) (t : Nat) : State := if s.graceOver t then s.enterSafe scGrace t else s

def State.simplexLimit (s : State) (t : Nat) : State := if s.simplexOver t then s.enterSafe scSimplexLimit t else s

/-- HOLD_OUT as a host writes it in STOP or MAINT: 7 clamps to 6 (R53, R262). -/
def State.holdOutWrite (s : State) (v : Word) : State :=
  if !s.stopped then s
  else
    let n := v.toNat % 8
    let s1 := if n = 7 then s.clampCnt .vt else s
    s1.wr R.VT_CMD_HOLD_OUT (min 6 n)

end Sys2Proof.Machine
end

