-- ==== Sys2Proof/Machine/Panel.lean ====
section
/-! DEFINITION. The front panel and the ready line (spec/21_connectors_electrical.md): the ACK key, the lamp test, and what
the indicators and the ready line show as functions of the state. -/

namespace Sys2Proof.Machine

def State.setKey (s : State) (k : KeyState) : State := { s with key := k }

/-! ### The ACK key (R538, R539) -/

/-- ACK_KEY_PRESS: the key is accepted as pressed. -/
def State.keyPress (s : State) (t : Nat) : State :=
  if s.rd R.SYS_KEY_STAT_PRESSED = 1 then s
  else (s.setKey { s.key with pressedAt := some t }).wr R.SYS_KEY_STAT_PRESSED 1

/-- Whether a press from `p` to `t` gives ACK_REL: at least 100 ms and less than 5 s (R281). -/
def ackPress (p t : Nat) : Bool := decide (p + 100000000 ≤ t ∧ t < p + 5000000000)

/-- ACK_KEY_RELEASE: the key is accepted as released; the release of a stuck key only ends the declaration. -/
def State.keyRelease (s : State) (t : Nat) : State :=
  if s.rd R.SYS_KEY_STAT_PRESSED = 0 then s
  else
    let p := s.key.pressedAt
    let s1 := (s.setKey { s.key with pressedAt := none, sincePower := false }).wr R.SYS_KEY_STAT_PRESSED 0
    if s1.rd R.SYS_KEY_STAT_STUCK = 1 then (s1.wr R.SYS_KEY_STAT_STUCK 0).record .sys 0x0901 [0] t
    else
      match p with
      | some u => if ackPress u t then s1.scAckRelease.allOut else s1
      | none => s1

/-- ACK_KEY_STUCK: pressed for 60 s without interruption. -/
def State.keyStuck (s : State) (t : Nat) : State :=
  match s.key.pressedAt with
  | some p =>
    if s.rd R.SYS_KEY_STAT_PRESSED = 1 ∧ s.rd R.SYS_KEY_STAT_STUCK = 0 ∧ p + 60000000000 ≤ t then
      (((s.wr R.SYS_KEY_STAT_STUCK 1).wr R.SYS_KEY_STAT_STUCK_SEEN 1).bump R.SYS_KEY_STAT_STUCK_CNT).record .sys 0x0901 [1] t
    else s
  | none => s

/-! ### The lamp test (R537) -/

def State.lampStart (s : State) (t : Nat) : State := s.setKey { s.key with lamp := true, lampAt := t }

/-- LAMP_TEST_END: 600 ms after the supply became present. -/
def State.lampEnd (s : State) (t : Nat) : State :=
  if s.key.lamp && decide (s.key.lampAt + 600000000 ≤ t) then s.setKey { s.key with lamp := false } else s

/-! ### Indicators and the ready line (R267, R526, R536, R537) -/

/-- What an indicator shows: its colour and how it flashes (times per 10 s, 0 = steady). -/
inductive Light where
  | dark
  | lampTest
  | amber (flash : Nat)
  | green (flash : Nat)
  | red (flash : Nat)
  deriving DecidableEq, Repr

/-- An indicator under its own rule, unless the lamp test or SLEEP governs it (R537). -/
def State.light (s : State) (sleep l : Light) : Light :=
  if s.pw.off then .dark else if s.key.lamp then .lampTest else if s.pwState = psSleep then sleep else l

/-- RUN. In SLEEP it flashes green for 50 ms every 2 s. -/
def State.ledRun (s : State) : Light :=
  s.light (.green 5)
    (if s.pwState = psBoot ∨ s.vstate = vsSelftest then .amber 0
     else if s.mode = mdRun then .green 0
     else if s.mode = mdStop then .green 10
     else if s.mode = mdMaint then .green 40
     else .dark)

/-- LANE A, B, C. -/
def State.ledLane (s : State) (x : Nat) : Light :=
  s.light .dark
    (if s.laneRole x = lrVoting then .green 0 else if s.laneRole x = lrExcluded then .amber 20
     else if s.laneRole x = lrCopying then .green 20 else if s.laneRole x = lrOut then .red 0 else .amber 0)

/-- SAFE. -/
def State.ledSafe (s : State) : Light :=
  s.light .dark (if s.isSafe then .red 0 else if s.scState = csHeld ∨ s.scState = csExpired then .red 20 else .dark)

/-- FORCE (R179). -/
def State.ledForce (s : State) : Light := s.light .dark (if s.rd R.SYS_MODE_STAT_FORCED = 1 then .amber 0 else .dark)

/-- LEASE. -/
def State.ledLease (s : State) : Light :=
  s.light .dark
    (if s.acting then .green 0 else if s.role = rrClaiming then .green 20 else if s.rd R.RD_STATE_BARRED = 1 then .amber 0 else .dark)

/-- FAULT. -/
def State.ledFault (s : State) : Light :=
  s.light .dark
    (if s.rd R.UP_STATE_STATE = usRecovery ∨ s.isDuplex = true ∨ s.scState = csDegraded ∨ s.scState = csHeld ∨
        s.scState = csExpired ∨ ((List.range 21).any fun k => s.rd R.PW_MARGIN_ALARM k == 1) = true ∨
        s.rd R.PW_FLAGS_S2_LOST = 1 then .red 0 else .dark)

/-- The indicator of field channel `c` (R330). -/
def State.ledChan (s : State) (c : Nat) : Light :=
  let m := s.chMode c
  s.light .dark
    (if !s.powered c then .red 10
     else if s.chFault c ≠ 0 then .red 0
     else if s.rd R.CH_STAT_UNDET c = 1 then .amber 0
     else if m = cmOff then .dark
     else if ((isDin m || isAi m) && s.rd R.CH_STAT_VALUE c == 1) || s.chSwitch c s.lt then .green 0
     else if (m == cmUp || m == cmQuad || m == cmFreq) && (s.ch c).edgeAt.any fun a => decide (s.lt < a + 100000000) then .green 0
     else .dark)

/-- Whether READY_P to READY_N conducts (R526). -/
def State.readyLine (s : State) : Bool :=
  !s.pw.off && (s.pwState == psRun || s.pwState == psStabled) && (s.isTriplex || s.isDuplex) && s.mode == mdRun && !s.startup

end Sys2Proof.Machine
end

