-- ==== Sys2Proof/Machine/Maps.lean ====
section
/-! DEFINITION. The maps of R305: which I and Q words the field groups, the Chase, the Forme entries, the CAN PDOs and the
status samples receive and send, in the order in which overlapping maps are resolved. -/

namespace Sys2Proof.Machine

/-- A map as a table claims it: its key in `State.maps`, the space it lies in, its first word and its size, and the
map-error flag of its block where the block has one. -/
structure MapClaim where
  key : Nat
  space : Nat
  first : Nat
  count : Nat
  err : Option Fld := none
  deriving DecidableEq, Repr

/-- Keys of `State.maps`. -/
def mkGroupI (g : Nat) : Nat := 2 * g
def mkGroupQ (g : Nat) : Nat := 2 * g + 1
def mkChase : Nat := 16
def mkForme (i : Nat) : Nat := 0x100 + i
def mkPdo (c b : Nat) : Nat := 0x1000 + 64 * c + b
def mkRd : Nat := 0x2000
def mkPw : Nat := 0x2001

/-- The claims of the CH field map: groups 0 to 7, I before Q, then the Chase status. -/
def State.fieldClaims (s : State) : List MapClaim :=
  let w (g : Nat) : Word := s.tw (0x03302C20 + 4 * g)
  let f : Option Fld := some R.CH_BLK_FLAGS_MAP_ERR
  let gs : List MapClaim := (List.range 8).flatMap fun g =>
    let i : MapClaim := { key := mkGroupI g, space := spI, first := fieldOf (w g) 15 0, count := 19, err := f }
    let q : MapClaim := { key := mkGroupQ g, space := spQ, first := fieldOf (w g) 31 16, count := 17, err := f }
    (if i.first = 0xFFFF then [] else [i]) ++ (if q.first = 0xFFFF then [] else [q])
  let c : MapClaim := { key := mkChase, space := spI, first := fieldOf (w 8) 15 0, count := 2, err := f }
  gs ++ (if c.first = 0xFFFF then [] else [c])

/-- The claims of the Forme frame table, entries 0 to 1 023 (R305, R370). -/
def State.formeClaims (s : State) : List MapClaim :=
  (List.range 1024).map fun i =>
    let tx := s.fbIsTx i
    { key := mkForme i, space := if tx then spQ else spI, first := s.fbBase i,
      count := s.fbBytes i / 4 + (if tx then 0 else 1), err := some R.FB_FLAGS_MAP_ERR }

/-- The claims of the CAN PDO buffers in use (R412, R414). -/
def State.pdoClaims (s : State) : List MapClaim :=
  let l := s.tab
  (List.range 4).flatMap fun c => ((List.range 64).filter fun b => l.canUsed c b && l.canPdo c b).map fun b =>
    let rx := l.canDir c b == 1
    { key := mkPdo c b, space := if rx then spI else spQ, first := l.canBase c b, count := if rx then 9 else 8 }

/-- The claims of the status samples (R447, R478). -/
def State.sampleClaims (s : State) : List MapClaim :=
  let a := fieldOf (s.tw 0x03391010) 15 0
  let b := fieldOf (s.tw 0x03393018) 15 0
  (if a = 0xFFFF then [] else [({ key := mkRd, space := spI, first := a, count := 3 } : MapClaim)]) ++
    (if b = 0xFFFF then [] else [({ key := mkPw, space := spI, first := b, count := 4 } : MapClaim)])

/-- Whether two claims share a word; one of no word shares none. -/
def MapClaim.overlaps (a b : MapClaim) : Bool :=
  a.space == b.space && decide (0 < a.count ∧ 0 < b.count ∧ a.first < b.first + b.count ∧ b.first < a.first + a.count)

/-- Takes the claims in order: one that runs beyond its space or overlaps one taken is not applied (R305). The second
list holds those not applied. -/
def takeClaims (cs : List MapClaim) : List MapClaim × List MapClaim :=
  cs.foldl (fun p c =>
    if c.first + c.count ≤ spaceWords c.space && p.1.all (fun d => !c.overlaps d) then (p.1 ++ [c], p.2) else (p.1, p.2 ++ [c]))
    ([], [])

/-- The map-error flag `f` shows a map of its block that is not applied. -/
def State.mapErr (s : State) (f : Fld) (rejected : List MapClaim) : State :=
  s.flagIf (rejected.any fun c => c.err == some f) f

/-- The claims of every map, those taken first (R305). -/
def State.mapsTaken (s : State) : List MapClaim × List MapClaim :=
  takeClaims (s.fieldClaims ++ s.formeClaims ++ s.pdoClaims ++ s.sampleClaims)

/-- The maps are resolved as the tables load; `fs` are the map-error flags of the blocks that load. -/
def State.resolveMaps (s : State) (fs : List Fld := [R.CH_BLK_FLAGS_MAP_ERR, R.FB_FLAGS_MAP_ERR]) : State :=
  let r := s.mapsTaken
  fs.foldl (fun s f => s.mapErr f r.2) { s with maps := r.1.foldl (fun m c => NMap.put m c.key c.first) [] }

end Sys2Proof.Machine
end

