-- ==== Sys2Proof/Machine/Timers.lean ====
section
/-! DEFINITION. The bodies of the timer and counter instructions (R128 to R134). -/

namespace Sys2Proof.Machine

/-- A timer block (R128). -/
structure TmBlock where
  et : Nat := 0
  q : Bool := false
  prevIn : Bool := false
  stamped : Bool := false
  kind : Nat := 0
  kindChg : Bool := false
  last : Nat := 0
  deriving DecidableEq, Repr

/-- Timer kinds of R128. -/
def tkTon : Nat := 1
def tkTof : Nat := 2
def tkTp : Nat := 3
def tkTonr : Nat := 4

/-- A block read from its four words. -/
def tmOf : List Word → TmBlock
  | [w0, w1, w2, w3] =>
    { et := w0.toNat, q := w1.getLsbD 0, prevIn := w1.getLsbD 1, stamped := w1.getLsbD 2, kind := fieldOf w1 6 4,
      kindChg := w1.getLsbD 7, last := w2.toNat + w3.toNat * 2 ^ 32 }
  | _ => {}

/-- The four words of a block; the bits of word 1 that no field has stay as `old` has them (R119). -/
def tmWords (b : TmBlock) (old : Word) : List Word :=
  [BitVec.ofNat 32 b.et,
   (old &&& 0xFFFFFF08#32) |||
     BitVec.ofNat 32 (b.q.toNat + 2 * b.prevIn.toNat + 4 * b.stamped.toNat + 16 * (b.kind % 8) + 128 * b.kindChg.toNat),
   BitVec.ofNat 32 b.last, BitVec.ofNat 32 (b.last / 2 ^ 32)]

/-- Evaluation of a timer of a kind with input, preset and time in µs (R130, R131). -/
def tmEval (kind : Nat) (inp : Bool) (pt now : Nat) (b : TmBlock) : TmBlock :=
  let b := if b.kind = kind then b
    else { b with kindChg := b.kindChg || b.kind != 0, et := 0, q := false, prevIn := false, stamped := false, kind := kind }
  let d := if !b.stamped || now < b.last then 0 else now - b.last
  let b := { b with last := now, stamped := true }
  let b :=
    if kind = tkTon then
      let et := if !inp || !b.prevIn then 0 else min (b.et + d) pt
      { b with et := et, q := inp && decide (pt ≤ et) }
    else if kind = tkTof then
      if inp then { b with et := 0, q := true }
      else if b.prevIn then { b with et := 0, q := decide (0 < pt) }
      else if b.q then { b with et := min (b.et + d) pt, q := decide (min (b.et + d) pt < pt) }
      else b
    else if kind = tkTp then
      if b.q then { b with et := min (b.et + d) pt, q := decide (min (b.et + d) pt < pt) }
      else if inp && !b.prevIn then { b with et := 0, q := decide (0 < pt) }
      else if !inp then { b with et := 0 }
      else b
    else
      let et := if inp && b.prevIn then min (b.et + d) pt else b.et
      let et := if pt < et then pt else et
      { b with et := et, q := decide (pt ≤ et) }
  { b with prevIn := inp }

/-- The address of the block operand of a timer or counter instruction, with its checks (R117, R118). -/
def blockOperand (c : OpClass) (o : MOp) (r : Regs) : Except Flt Nat := do
  opCheck c o
  let k := opIndex o r
  if spaceWords o.sp.toNat ≤ k then throw (flt cAddr)
  pure (blockAddr o.sp.toNat k)

/-- TON, TOF, TP, TONR (R129, R130): IN is BA, PT is ACC1, the time is the task-start stamp in µs. -/
def timerBody (kind : Nat) (o : MOp) : Body := fun l g => do
  let a ← blockOperand .timer o g.r
  let (ws, l1) ← l.readWords a 4
  let b := tmEval kind g.r.ba g.r.acc1.toNat (g.act.start / 1000) (tmOf ws)
  pure (l1.storeWords a (tmWords b (ws.getD 1 0)), g.done { g.r with ba := b.q } 1)

/-- CTU (R133) on words 0 and 1 of a CT block. -/
def ctuEval (ba : Bool) (acc1 w0 w1 : Word) : Word × Word :=
  let up := ba && !w1.getLsbD 1
  let w1 := if up && w0 == 0xFFFFFFFF#32 then setBitOf w1 3 true else w1
  let w0 := if up && w0 != 0xFFFFFFFF#32 then w0 + 1 else w0
  (w0, setBitOf (setBitOf w1 1 ba) 0 (acc1.ule w0))

/-- CTD (R133). -/
def ctdEval (ba : Bool) (acc1 w0 w1 : Word) : Word × Word :=
  let dn := ba && !w1.getLsbD 2
  let w1 := if dn && w0 == 0 then setBitOf w1 3 true else w1
  let w0 := if dn && w0 != 0 then w0 - 1 else w0
  (w0, setBitOf (setBitOf w1 2 ba) 0 (w0.ule acc1))

/-- CTU and CTD (R133): BA becomes Q. -/
def counterBody (f : Bool → Word → Word → Word → Word × Word) (o : MOp) : Body := fun l g => do
  let a ← blockOperand .counter o g.r
  let (w0, l1) ← l.readW a
  let (w1, l2) ← l1.readW (a + 4)
  let r := f g.r.ba g.r.acc1 w0 w1
  pure (l2.storeWords a [r.1, r.2], g.done { g.r with ba := r.2.getLsbD 0 } 1)

/-- RSTB (R134): writes only when BA is 1; its checks are made whatever BA holds. -/
def rstbBody (o : MOp) : Body := fun l g => do
  let a ← blockOperand .blockAcc o g.r
  if g.r.ba then
    let (w1, l1) ← l.readW (a + 4)
    if o.sp.toNat == spTM then pure (l1.storeWords a [0, setBitOf w1 0 false], g.adv 1)
    else pure (l1.storeWords a [g.r.acc1, setBitOf (setBitOf w1 0 false) 3 false], g.adv 1)
  else pure (l, g.adv 1)

/-- LDTC (R134): ET or CV into ACC1. -/
def ldtcBody (o : MOp) : Body := fun l g => do
  let a ← blockOperand .blockAcc o g.r
  let (w0, l1) ← l.readW a
  pure (l1, g.done { g.r with acc1 := w0 } 1)

end Sys2Proof.Machine
end

