-- ==== Sys2Proof/Machine/Services.lean ====
section
/-! DEFINITION. The bodies of the signal, stamp and service instructions (R135 to R151), the waiting requests (R139)
and their completion (R140). -/

namespace Sys2Proof.Machine

/-! ### Signals and stamps -/

/-- The status word of an object as the running activation's latch took it (R135, R142). -/
def Act.obj (a : Act) (key : Nat) : CommObj := NMap.get a.comm {} key

/-- SIGV (R135). An element mapped from a telegram of an entry with SDT = 1 takes the status and the stamp of the PD entry
(DESIGN CHOICE, log entry 76: R393 speaks of TSTAT only). -/
def sigvBody (o : MOp) : Body := fun l g => do
  opCheck .signal o
  let sp := o.sp.toNat
  let k := opIndex o g.r
  if smElems sp ≤ k then throw (flt cAddr)
  if inOwned (if sp == spS then l.ownedS else l.ownedW) k then
    pure (l, g.done { g.r with ba := true, acc1 := 0 } 2)
  else
    match l.mapOf sp k with
    | none => pure (l, g.done { g.r with ba := false, acc1 := 0xFFFFFFFF#32 } 2)
    | some i =>
      let c := g.act.obj (keyPd (l.smPd i))
      let age := if c.count = 0 then Config.sigvAge sp k
        else BitVec.ofNat 32 (min (g.act.start / 1000 - c.stampUs) 0xFFFFFFFF)
      pure (l, g.done { g.r with ba := c.status.getLsbD 0, acc1 := age } 2)

/-- STMP (R136): the 64-bit value and its validity. -/
def stmpBody (low : BitVec 20) (f : Act → Nat × Bool) : Body := fun l g =>
  if low ≠ 0 then .error (flt cIllegalOp)
  else
    let (v, b) := f g.act
    .ok (l, g.done { g.r with acc1 := BitVec.ofNat 32 v, acc2 := BitVec.ofNat 32 (v / 2 ^ 32), ba := b } 1)

/-- STMP CYC (R136): µs since the previous task-start stamp, saturating; 0 on the first activation. Each stamp is taken to whole
µs before the difference (DESIGN CHOICE, log entry 75). -/
def cycOf (a : Act) : Nat × Bool :=
  match a.prev with
  | none => (0, false)
  | some p => (min (a.start / 1000 - p / 1000) 0xFFFFFFFF, true)

/-! ### D blocks of the services (R141) -/

/-- The first D word of a service, checked that its `n` words lie in D (R141). -/
def dBlock (r : Regs) (xs n : Nat) : Except Flt Nat :=
  let k := (r.getX xs).toNat
  if n ≠ 0 ∧ dWords < k + n then .error (flt cAddr) else .ok k

/-- Words that hold `n` bytes. -/
def wordsOf (n : Nat) : Nat := (n + 3) / 4

/-- Clears the bytes of the last word beyond `n` bytes (R235). -/
def maskTail (n : Nat) (ws : List Word) : List Word :=
  if n % 4 = 0 then ws
  else ws.dropLast ++ [ws.getLastD 0 &&& BitVec.ofNat 32 (2 ^ (8 * (n % 4)) - 1)]

/-- Reads `n` bytes from D word `k` as words. -/
def readD (l : Lane) (k n : Nat) : Except Flt (List Word × Lane) := do
  let (ws, l1) ← l.readWords (dBase + 4 * k) (wordsOf n)
  pure (maskTail n ws, l1)

/-- Pads or cuts a list of words to `n` words. -/
def padWords (n : Nat) (ws : List Word) : List Word := (ws ++ List.replicate n 0).take n

/-- Operand fields of the telegram instructions (R142) and of CTX to CRXF (R145). -/
def xsOf (low : BitVec 20) : Nat := low.toNat / 2 ^ 17
def objOf (low : BitVec 20) : Nat := low.toNat % 2 ^ 11
def telRsv (low : BitVec 20) : Bool := low.toNat / 2 ^ 11 % 64 == 0

/-- An effect issued by an instruction that goes on (R138): the effect is emitted from the engine as the lane holds
it, then the instruction retires. -/
def emitBody (e kind : Nat) (t0 t1 : Word) (len : Nat) (data : List Word) (l : Lane) (g : Eng) : Lane × Eng :=
  let l1 := (l.setEngine e g).emit e kind t0 t1 len data
  (l1, l1.engine e)

/-! ### Telegrams (R142) -/

/-- TXPD. -/
def txpdBody (e : Nat) (low : BitVec 20) : Body := fun l g => do
  if !telRsv low then throw (flt cIllegalOp)
  let n := objOf low
  if !(l.pdUsed n && l.pdDir n == 1 && !l.pdSdt n) || l.leasePd n then throw (flt cService)
  let len := l.pdLen n
  let k ← dBlock g.r (xsOf low) (wordsOf len)
  let (ws, l1) ← readD l k len
  pure (emitBody e rkPd (BitVec.ofNat 32 n) 0 len ws l1 ((g.extra (2 + wordsOf len)).adv 1))

/-- TXSDT: the safe data of a publishing channel. -/
def txsdtBody (e : Nat) (low : BitVec 20) : Body := fun l g => do
  if !telRsv low then throw (flt cIllegalOp)
  let c := objOf low
  if !(l.sdtUsed c && l.pdDir (l.sdtPd c) == 1) then throw (flt cService)
  let len := l.sdtLen c
  let k ← dBlock g.r (xsOf low) (wordsOf len)
  let (ws, l1) ← readD l k len
  pure (emitBody e rkSdt (BitVec.ofNat 32 c) 0 len ws l1 ((g.extra (2 + wordsOf len)).adv 1))

/-- The words of an object copied to D from word `d` on, one per cycle from the lane memory into which the input distributor
wrote it; a word that is uncorrectable there faults with ECC and keeps the words of the earlier cycles (R87, R88). -/
def Lane.copyObj (l : Lane) (key d j : Nat) : List Word → Except Flt Lane
  | [] => .ok l
  | w :: ws =>
    let a := Config.commAddr key j
    if l.ecc2.contains a then .error (cEcc, some l)
    else Lane.copyObj ((if l.ecc1.contains a then l.corrected else l).store (dBase + 4 * d) w) key (d + 1) (j + 1) ws

/-- The copy of a received object into D with its length and status (RXPD, RXSDT). -/
def rxCopy (l : Lane) (g : Eng) (key k len : Nat) : Except Flt (Lane × Eng) := do
  let c := g.act.obj key
  let l1 ← l.copyObj key k 0 (padWords (wordsOf len) c.data)
  pure (l1, (g.extra (2 + wordsOf len)).done { g.r with acc1 := BitVec.ofNat 32 c.len, acc2 := c.status,
                                                        ba := c.status.getLsbD 0 } 1)

/-- RXPD. -/
def rxpdBody (low : BitVec 20) : Body := fun l g => do
  if !telRsv low then throw (flt cIllegalOp)
  let n := objOf low
  if !(l.pdUsed n && l.pdDir n == 2 && !l.pdSdt n) || l.leasePd n then throw (flt cService)
  let len := l.pdLen n
  let k ← dBlock g.r (xsOf low) (wordsOf len)
  rxCopy l g (keyPd n) k len

/-- RXSDT: BA is VALID, which only an accepted copy sets (R396). -/
def rxsdtBody (low : BitVec 20) : Body := fun l g => do
  if !telRsv low then throw (flt cIllegalOp)
  let c := objOf low
  if !(l.sdtUsed c && l.pdDir (l.sdtPd c) == 2) then throw (flt cService)
  let len := l.sdtLen c
  let k ← dBlock g.r (xsOf low) (wordsOf len)
  rxCopy l g (keySdt c) k len

/-- TXMD: ACC1 bytes of message, at most M. -/
def txmdBody (e : Nat) (low : BitVec 20) : Body := fun l g => do
  if !telRsv low then throw (flt cIllegalOp)
  let s := objOf low
  if !(l.mdUsed s && l.mdRole s != mdListener) then throw (flt cService)
  let n := g.r.acc1.toNat
  if l.mdMax s < n then throw (flt cService)
  let k ← dBlock g.r (xsOf low) (wordsOf (l.mdMax s))
  let (ws, l1) ← readD l k n
  pure (emitBody e rkMd (BitVec.ofNat 32 s) 0 (4 + n) (g.r.acc1 :: ws) l1 ((g.extra (2 + wordsOf (l.mdMax s))).adv 1))

/-- TSTAT: the status word of a PD entry, MD session or SDT channel; the PD object of an entry with SDT = 1 reads its
channel's word (R393). -/
def tstatBody (low : BitVec 20) : Body := fun l g => do
  let cls := low.toNat / 2 ^ 15 % 4
  let n := objOf low
  if low.toNat / 2 ^ 11 % 16 ≠ 0 ∨ cls = 3 ∨ xsOf low ≠ 0 then throw (flt cIllegalOp)
  let used := if cls = 0 then l.pdUsed n else if cls = 1 then l.mdUsed n else l.sdtUsed n
  if !used || (cls == 0 && l.leasePd n) then throw (flt cService)
  let key := if cls = 1 then keyMd n else if cls = 2 then keySdt n
    else match (if l.pdSdt n then l.channelOf n else none) with
      | some c => keySdt c
      | none => keyPd n
  let w := (g.act.obj key).status
  pure (l, g.done { g.r with acc1 := w, ba := w.getLsbD 0 } 1)

/-! ### CAN (R144, R145) -/

def ctrlOf (low : BitVec 20) : Nat := low.toNat / 2 ^ 15 % 4
def bufOf (low : BitVec 20) : Nat := low.toNat % 64
def tbOf (low : BitVec 20) : Bool := low.getLsbD 14

/-- The descriptor checks of R145 on a frame to transmit. -/
def descOk (w0 w1 : Word) : Bool :=
  let ide := w0.getLsbD 29
  let fdf := w0.getLsbD 30
  let brs := w0.getLsbD 31
  let rtr := w1.getLsbD 8
  (ide || fieldOf w0 28 11 == 0) && !(brs && !fdf) && !(rtr && fdf) && fieldOf w1 31 9 == 0 && fieldOf w1 7 4 == 0

/-- CTX (`timed` false) and CTXT. -/
def ctxBody (e : Nat) (timed : Bool) (low : BitVec 20) : Body := fun l g => do
  if low.toNat / 64 % 256 ≠ 0 ∨ (!timed && tbOf low) then throw (flt cIllegalOp)
  let c := ctrlOf low
  let b := bufOf low
  if !(l.canUsed c b && l.canDir c b == 2) then throw (flt cService)
  let k ← dBlock g.r (xsOf low) 18
  let (ws, l1) ← readD l k 72
  if !descOk (ws.getD 0 0) (ws.getD 1 0) then throw (cService, some l1)
  let t0 := BitVec.ofNat 32 (c + b * 2 ^ 8)
  if timed then
    pure (emitBody e rkCan t0 (BitVec.ofNat 32 (1 + 2 * (tbOf low).toNat)) 80 (ws ++ [g.r.acc1, g.r.acc2]) l1 (g.adv 1))
  else pure (emitBody e rkCan t0 0 72 ws l1 (g.adv 1))

/-- CRXB: the latest frame of a receive buffer. Before the first one the descriptor takes 18 words of 0 and ACC1 is 0 (DESIGN
CHOICE, log entry 77: R145 states only BA and ACC2 then). -/
def crxbBody (low : BitVec 20) : Body := fun l g => do
  if low.toNat / 64 % 512 ≠ 0 then throw (flt cIllegalOp)
  let c := ctrlOf low
  let b := bufOf low
  if !(l.canUsed c b && l.canDir c b == 1) then throw (flt cService)
  let k ← dBlock g.r (xsOf low) 18
  let o := g.act.obj (keyCan c b)
  let l1 ← l.copyObj (keyCan c b) k 0 (padWords 18 o.data)
  let r := { g.r with acc1 := BitVec.ofNat 32 o.stampUs, acc2 := BitVec.ofNat 32 (satNat 32 o.count), ba := decide (1 ≤ o.count) }
  pure (l1, g.done r 1)

/-! ### Recorder, peripheral registers, comparators, classes (R147 to R151) -/

/-- REC. -/
def recBody (e : Nat) (rest : BitVec 26) (ext : Word) : Body := fun l g => do
  let w := rest.toNat
  let xs := w / 2 ^ 17 % 8
  let type := w % 2 ^ 16
  let len := ext.toNat
  if w / 2 ^ 20 ≠ 0 ∨ w / 2 ^ 16 % 2 ≠ 0 ∨ 4032 < len then throw (flt cIllegalOp)
  if type < 0x8000 then throw (flt cService)
  let k ← dBlock g.r xs (wordsOf len)
  let (ws, l1) ← readD l k len
  pure (emitBody e rkRec (BitVec.ofNat 32 type) 0 len ws l1 ((g.extra (3 + wordsOf len)).adv 2))

/-- The blocks a program reaches with PWR and PRD (R148). -/
def periphBlocks : List Block := [.tsk, .evt, .lg, .ch, .fb, .nw, .cn, .br, .rd, .pw]

/-- Whether an address lies in one of them. -/
def periphAddr (a : Nat) : Bool := periphBlocks.any fun b => decide (blockBase b ≤ a ∧ a < blockEnd b)

/-- PWR. -/
def pwrBody (e : Nat) (low : BitVec 20) : Body := fun l g => do
  if low ≠ 0 then throw (flt cIllegalOp)
  let a := g.r.acc2.toNat
  if a % 4 ≠ 0 ∨ !periphAddr a then throw (flt cService)
  pure (emitBody e rkPwr g.r.acc2 0 4 [g.r.acc1] l (g.adv 1))

/-- The arm-record checks of R149 and R150; `hwt` says which channels are configured for hardware-timed output. -/
def armOk (hwt : Nat → Bool) (w0 w1 w2 w3 : Word) : Bool :=
  let qty := fieldOf w0 2 0
  let dir := fieldOf w0 5 4
  let action := fieldOf w0 10 8
  let back := w0.getLsbD 11
  let arg := fieldOf w0 20 12
  let pulse := fieldOf w2 31 16
  decide (qty ≤ 4) && (if qty == 2 then decide (dir ≤ 2) else dir == 0) && decide (action ≤ 3) &&
  fieldOf w0 31 21 == 0 && fieldOf w0 7 6 == 0 && !w0.getLsbD 3 && (!back || qty == 2 || qty == 3) &&
  (if action == 0 then decide (arg ≤ 63) else if action == 1 then decide (arg ≤ 511) else decide (arg ≤ 127) && hwt arg) &&
  (qty != 4 || fieldOf w1 31 16 == 0) && (qty == 2 || qty == 3 || fieldOf w2 15 0 == 0) &&
  (if action == 2 then decide (1 ≤ pulse) else if action == 3 then decide (pulse ≤ 1) else pulse == 0) &&
  (back || w3 == 0)

/-- ARM. -/
def armBody (hwt : Nat → Bool) (e : Nat) (low : BitVec 20) : Body := fun l g => do
  if low.toNat / 64 % 2 ^ 11 ≠ 0 then throw (flt cIllegalOp)
  let k ← dBlock g.r (xsOf low) 4
  let (ws, l1) ← readD l k 16
  if !armOk hwt (ws.getD 0 0) (ws.getD 1 0) (ws.getD 2 0) (ws.getD 3 0) then throw (cService, some l1)
  pure (emitBody e rkArm (BitVec.ofNat 32 (bufOf low)) 0 16 ws l1 (g.adv 1))

/-- DISARM. -/
def disarmBody (e : Nat) (low : BitVec 20) : Body := fun l g => do
  if low.toNat / 64 ≠ 0 then throw (flt cIllegalOp)
  pure (emitBody e rkDisarm (BitVec.ofNat 32 (bufOf low)) 0 0 [] l (g.adv 1))

/-- ECLS. -/
def eclsBody (e : Nat) (rest : BitVec 26) : Body := fun l g => do
  if rest.toNat / 256 ≠ 0 then throw (flt cIllegalOp)
  pure (emitBody e rkEcls (BitVec.ofNat 32 g.task) 0 4 [BitVec.ofNat 32 rest.toNat] l (g.adv 1))

/-! ### Waiting requests (R139, R140) -/

/-- RXMD's request. -/
def rxmdReq (low : BitVec 20) (l : Lane) (g : Eng) : Except Flt WaitReq := do
  if !telRsv low then throw (flt cIllegalOp)
  let s := objOf low
  if !(l.mdUsed s && l.mdRole s != mdNotifier) then throw (flt cService)
  let n := wordsOf (l.mdMax s)
  let k ← dBlock g.r (xsOf low) n
  pure { kind := rkMdPop, t0 := BitVec.ofNat 32 s, dFirst := k, dWords := n, cyc := 2 }

/-- CRXF's request. -/
def crxfReq (low : BitVec 20) (_ : Lane) (g : Eng) : Except Flt WaitReq := do
  if low.toNat % 2 ^ 15 ≠ 0 then throw (flt cIllegalOp)
  let k ← dBlock g.r (xsOf low) 18
  pure { kind := rkCanPop, t0 := BitVec.ofNat 32 (ctrlOf low), dFirst := k, dWords := 18, cyc := 20 }

/-- The encoding and window checks of BRD and BWR (R146); `size` gives each window's configured size. -/
def bridgeCheck (size : Nat → Nat) (low : BitVec 20) (ofs : Nat) : Except Flt Unit := do
  let wid := low.toNat / 8 % 4
  if low.toNat / 32 ≠ 0 ∨ wid = 3 then throw (flt cIllegalOp)
  let n := 2 ^ wid
  if ofs % n ≠ 0 ∨ size (low.toNat % 8) < ofs + n then throw (flt cService)

/-- BRD's request. -/
def brdReq (size : Nat → Nat) (low : BitVec 20) (_ : Lane) (g : Eng) : Except Flt WaitReq := do
  bridgeCheck size low g.r.acc2.toNat
  pure { kind := rkBrd, t0 := BitVec.ofNat 32 low.toNat, t1 := g.r.acc2, cyc := 2 }

/-- BWR's request. -/
def bwrReq (size : Nat → Nat) (low : BitVec 20) (_ : Lane) (g : Eng) : Except Flt WaitReq := do
  bridgeCheck size low g.r.acc2.toNat
  pure { kind := rkBwr, t0 := BitVec.ofNat 32 low.toNat, t1 := g.r.acc2, data := g.r.acc1, cyc := 2 }

/-- PRD's request. -/
def prdReq (low : BitVec 20) (_ : Lane) (g : Eng) : Except Flt WaitReq := do
  if low ≠ 0 then throw (flt cIllegalOp)
  let a := g.r.acc2.toNat
  if a % 4 ≠ 0 ∨ !periphAddr a then throw (flt cService)
  pure { kind := rkPrd, t0 := g.r.acc2, cyc := 1 }

/-- The data words a request folds: ACC1 for BWR, none for the others (R138). -/
def WaitReq.folded (q : WaitReq) : List Word := if q.kind = rkBwr then [q.data] else []

/-- A waiting instruction reaches its request: it is folded with its checkpoint and the engine waits (R139). -/
def Lane.request (l0 : Lane) (ph : Phase) (e t : Nat) (req : Lane → Eng → Except Flt WaitReq) : Lane :=
  let l := l0.takeInputs e
  let g := l.engine e
  if g.st != .run then l
  else
    let l2 :=
      match l.fetch g.r.pc.toNat 1 with
      | .error (c, k) => (k.getD l).faultEngine ph e t c
      | .ok l1 =>
        match req l1 g with
        | .error (c, k) => (k.getD l1).faultEngine ph e t c
        | .ok q =>
          (l1.setEngine e { g with st := .wait, wait := some q }).emit e q.kind q.t0 q.t1 (4 * q.folded.length) q.folded true
    Lane.mirrorPair l l2 e

/-- Completion of a waiting instruction with its result (R140): ACC2 is the code, BA is 1 exactly for OK; the delivered
words are distributor writes (R83), those of CRXF are copied as R87 states. Both engines of a pair then act on what a
decision or a cancel left for their boundary. -/
def Lane.finishWait (l : Lane) (ph : Phase) (e t : Nat) (res : ReqResult) : Lane :=
  let g := l.engine e
  match g.wait with
  | none => l
  | some q =>
    let ws := if res.code = 0 then res.data.take q.dWords else []
    let moved := if q.kind = rkCanPop then l.copyObj (keyCan 4 e) q.dFirst 0 ws else .ok (l.storeWords (dBase + 4 * q.dFirst) ws)
    let l2 :=
      match moved with
      | .error (c, k) => (k.getD l).faultEngine ph e t c
      | .ok l1 =>
        let r := { g.r with acc2 := BitVec.ofNat 32 res.code, ba := res.code == 0, acc1 := res.acc1.getD g.r.acc1 }
        l1.setEngine e (({ g with st := .run, wait := none }.done r 1).retire q.cyc)
    let l3 := (Lane.mirrorPair l l2 e).atBoundary ph e t
    match g.pair with
    | some f => l3.nextAt ph f t
    | none => l3

/-- The oldest result for engine `e` is delivered (R139). -/
def Lane.deliverResult (l : Lane) (ph : Phase) (e t : Nat) : Lane :=
  match l.results.find? (fun r => r.engine == e) with
  | none => l
  | some res => ({ l with results := l.results.erase res } : Lane).finishWait ph e t res

end Sys2Proof.Machine
end

