-- ==== Sys2Proof/Machine/Bridge.lean ====
section
/-! DEFINITION. The rack bus bridge: queue, arbitration, transactions, byte lanes, results and events
(spec/16_rack_bridge.md). -/

namespace Sys2Proof.Machine

/-! ### Results on their way to the lanes (R139, R140, R426) -/

/-- Whether engine `e` of lane `l` waits for a request. -/
def Lane.waits (l : Lane) (e : Nat) : Bool := (l.engine e).wait.isSome

/-- A result enters the distributor: every serving lane whose engine waits receives it; a result no lane waits for is
discarded and counted at block `b` (R57, R428). -/
def State.answer (s : State) (b : Block) (res : ReqResult) : State :=
  if s.servingLanes.any fun x => (s.lane x).waits res.engine then
    s.servingLanes.foldl (fun s x =>
      let l := s.lane x
      if l.waits res.engine then s.setLane x { l with results := l.results ++ [res] } else s) s
  else s.bump (R.BLK_LATE_REPLY_CNT_COUNT.at b)

/-- The block that answers a waiting request. -/
def WaitReq.target (w : WaitReq) : Block :=
  if w.kind = rkMdPop then .nw
  else if w.kind = rkCanPop then .cn
  else if w.kind = rkPrd then (blockOf w.t0.toNat).getD .sys
  else .br

/-- The blocks of the results that have not reached their engines yet: they arrive after a restart has reset the lanes (R428). -/
def State.lateResults (s : State) : List Block :=
  s.front.results.filterMap fun r => (s.front.engine r.engine).wait.map WaitReq.target

/-- Results that arrive after the lanes have been reset are discarded and counted (R57, R428). -/
def State.countLateResults (s : State) (bs : List Block) : State :=
  bs.foldl (fun s b => s.bump (R.BLK_LATE_REPLY_CNT_COUNT.at b)) s

/-! ### Codes -/

/-- Result codes of R140. -/
def rcOk : Nat := 0
def rcEmpty : Nat := 1
def rcTargetReset : Nat := 2
def rcFarError : Nat := 3
def rcTimeout : Nat := 4

/-- STATE codes of BR_STAT. -/
def bsNoClock : Nat := 0
def bsReset : Nat := 1
def bsIdle : Nat := 2
def bsArb : Nat := 3
def bsCycle : Nat := 4

def State.brState (s : State) : Nat := s.rd R.BR_STAT_STATE
def State.setBr (s : State) (b : BrState) : State := { s with br := b }

/-- QUEUE of BR_STAT: requests queued or open. -/
def State.brCount (s : State) : State :=
  s.wr R.BR_STAT_QUEUE (s.br.queue.length + (if s.br.opn.isSome then 1 else 0))

/-! ### Byte lanes (R422) -/

/-- Number of bytes of a width code (R421). -/
def brWidth (wid : Nat) : Nat := 2 ^ wid

/-- The SRB lane on which byte `i` of an `n`-byte value at address `a` travels. -/
def brLane (inv : Bool) (a n i : Nat) : Nat := if inv then (a + n - 1 - i) % 4 else (a + i) % 4

/-- The enabled lanes of an access. -/
def brEnables (a n : Nat) : BitVec 4 := BitVec.ofNat 4 ((2 ^ n - 1) * 2 ^ (a % 4))

/-- The value a read assembles from SRB_AD. -/
def brAssemble (inv : Bool) (a n : Nat) (ad : Word) : Word :=
  (List.range n).foldl (fun v i => v ||| (((ad >>> (8 * brLane inv a n i)) &&& 0xFF#32) <<< (8 * i))) 0

/-- The word a write drives: its bytes on the enabled lanes, 0 on the others (R420). -/
def brDrive (inv : Bool) (a n : Nat) (v : Word) : Word :=
  (List.range n).foldl (fun ad i => ad ||| (((v >>> (8 * i)) &&& 0xFF#32) <<< (8 * brLane inv a n i))) 0

/-! ### Windows (R421, R423) -/

def State.brBase (s : State) (w : Nat) : Nat := s.rd R.BR_WIN_BASE_BASE w
/-- The size of a window; a disabled one counts as size 0. -/
def State.brSize (s : State) (w : Nat) : Nat := if s.rd R.BR_WIN_CFG_EN w = 1 then s.rd R.BR_WIN_SIZE_SIZE w else 0
def State.brAddr (s : State) (q : BrReq) : Nat := (s.brBase q.win + q.ofs) % 2 ^ 32

/-- The copy of the windows is delivered to the lanes (R423). -/
def State.brDeliver (s : State) : State := s.setBr { s.br with sizes := (List.range 8).map s.brSize }

/-- The size of window `w` as the lanes hold it. -/
def State.brLaneSize (s : State) (w : Nat) : Nat := s.br.sizes.getD w 0

/-! ### Completion (R426) -/

/-- A result other than OK writes BR_LAST_ERR and its counter; TIMEOUT and FAR_ERROR set their flags and raise their
sources (R426, R431). -/
def State.brError (s : State) (q : BrReq) (code status t : Nat) : State :=
  let s1 := s.wrWord R.BR_LAST_ERR_WIN.base
    (BitVec.ofNat 32 (q.win + q.wid * 2 ^ 5 + (if q.write then 2 ^ 7 else 0) + code * 2 ^ 8 + status * 2 ^ 24))
  let s2 := s1.wr R.BR_LAST_ERR_ADDR (s.brAddr q)
  if code = rcTimeout then ((s2.bump R.BR_ERR_CNT_TMO_CNT).wr R.BR_FLAGS_TIMEOUT 1).raise 352 t
  else if code = rcFarError then ((s2.bump R.BR_ERR_CNT_FAR_CNT).wr R.BR_FLAGS_FAR_ERROR 1).raise 353 t
  else s2.bump R.BR_ERR_CNT_FAR_CNT

/-- What ACC1 takes from a result (R426); `v` is the data of a read or the far status. -/
def brAcc1 (q : BrReq) (code : Nat) (v : Word) : Option Word :=
  if code = rcFarError then some v
  else if q.write then none
  else if code = rcOk then some v
  else some 0

/-- Request `q` completes with a code (R426). -/
def State.brFinish (s : State) (q : BrReq) (code : Nat) (v : Word) (status t : Nat) : State :=
  let s1 := if code = rcOk then s.bump R.BR_XFER_CNT_COUNT else s.brError q code status t
  s1.answer .br { engine := q.engine, code := code, acc1 := brAcc1 q code v }

/-- The open request is closed: the bus is released and the bridge idles. -/
def State.brClose (s : State) : State :=
  let s1 := s.setBr { s.br with opn := none, clock0 := none, addr := 0, be := 0, ad := 0 }
  (if s1.brReady then s1.wr R.BR_STAT_STATE bsIdle else s1).brCount

/-- Completes the open request with a code. -/
def State.brEnd (s : State) (code : Nat) (v : Word) (status t : Nat) : State :=
  match s.br.opn with
  | none => s
  | some q => (s.brFinish q code v status t).brClose

/-- Completes the open and every queued request with TARGET_RESET (R418, R428). -/
def State.brAbort (s : State) (t : Nat) : State :=
  let s1 := s.brEnd rcTargetReset 0 0 t
  let s2 := s1.br.queue.foldl (fun s q => s.brFinish q rcTargetReset 0 0 t) s1
  (s2.setBr { s2.br with queue := [] }).brCount

/-! ### The happenings -/

/-- The voter issues a request (R424); while the bridge is not ready or its block resets it completes at once with TARGET_RESET
(R57, R418). -/
def State.brIssue (s : State) (q : BrReq) (t : Nat) : State :=
  if s.brReady && !s.resettingAt (blockBase .br) t then (s.setBr { s.br with queue := s.br.queue ++ [q] }).brCount
  else s.brFinish q rcTargetReset 0 0 t

/-- SRB_REQUEST_START: the next request is taken; one that lies outside its window by now, or whose window is disabled,
completes with TARGET_RESET without a cycle (R423). -/
def State.brStart (s : State) (t : Nat) : State :=
  match s.br.queue with
  | [] => s
  | q :: rest =>
    if s.br.opn.isSome ∨ s.brReady = false then s
    else
      let s1 := s.setBr { s.br with queue := rest }
      if s.brSize q.win < q.ofs + brWidth q.wid then
        ((s1.brFinish q rcTargetReset 0 0 t).wr R.BR_FLAGS_STALE 1).brCount
      else
        ((s1.setBr { s1.br with opn := some q, reqAt := t }).wr R.BR_STAT_STATE bsArb).brCount

/-- The slot R419 grants: the first requesting one in the order LAST + 1 to LAST + 4. -/
def brGrantee (last : Nat) (reqs : BitVec 4) : Option Nat :=
  ((List.range 4).map fun k => (last + 1 + k) % 4).find? fun n => reqs.getLsbD n

/-- SRB_GRANT: a rising edge at which the bus may be granted, with the request lines held low (own one aside). The
grant goes by R419; LAST becomes the slot granted, also while the bridge is not ready; the module drives its address phase when it
is its own. -/
def State.brGrant (s : State) (reqs : BitVec 4) (t : Nat) : State :=
  let own := s.slotCode % 4
  let asks := s.brState == bsArb
  let lines := (reqs &&& ~~~(1#4 <<< own)) ||| (if asks then 1#4 <<< own else 0)
  if s.brState = bsCycle then s
  else
    match brGrantee s.br.last lines with
    | none => s
    | some n =>
      let s1 := s.setBr { s.br with last := n }
      if n ≠ own then s1
      else
        match s.br.opn with
        | none => s1
        | some q =>
          let a := s.brAddr q
          let inv := s.rd R.BR_WIN_CFG_LANES q.win == 1
          let n := brWidth q.wid
          (s1.setBr { s1.br with clock0 := some t, addr := a, be := brEnables a n,
                                 ad := if q.write then brDrive inv a n q.data else 0 }).wr R.BR_STAT_STATE bsCycle

/-- SRB_ANSWER: the target asserts RDY (`err` false) or ERR with SRB_AD (R420, R426). -/
def State.brAnswer (s : State) (err : Bool) (ad : Word) (t : Nat) : State :=
  match s.br.opn, s.br.clock0 with
  | some q, some _ =>
    let st := fieldOf ad 7 0
    if !err then
      s.brEnd rcOk (brAssemble (s.rd R.BR_WIN_CFG_LANES q.win == 1) s.br.addr (brWidth q.wid) ad) 0 t
    else if st = 0xFE then s.brEnd rcTargetReset 0 st t
    else s.brEnd rcFarError (BitVec.ofNat 32 st) st t
  | _, _ => s

/-- SRB_ANSWER_TIMEOUT: no answer within TMO µs of clock 0 (R420). -/
def State.brAnswerTimeout (s : State) (t : Nat) : State :=
  match s.br.opn, s.br.clock0 with
  | some q, some c => if c + 1000 * s.rd R.BR_WIN_CFG_TMO q.win ≤ t then s.brEnd rcTimeout 0 0 t else s
  | _, _ => s

/-- SRB_ARB_TIMEOUT: no grant within ARB_TMO µs (R419). -/
def State.brArbTimeout (s : State) (t : Nat) : State :=
  if s.brState = bsArb ∧ s.br.reqAt + 1000 * s.rd R.BR_CFG_ARB_TMO ≤ t then
    (s.brEnd rcTimeout 0 0 t).wr R.BR_FLAGS_ARB_TMO 1
  else s

/-- What the bridge shows while it is not ready. -/
def State.brNotReady (s : State) (t : Nat) : State :=
  (s.brAbort t).wr R.BR_STAT_STATE (if s.br.clk then bsReset else bsNoClock)

/-- SRB_RESET: SRB_RST_N is asserted (R418, R429). -/
def State.brReset (s : State) (t : Nat) : State :=
  (((s.setBr { s.br with rst := true, last := 3 }).wr R.BR_FLAGS_SRB_RESET_SEEN 1).brNotReady t).raise 354 t

/-- SRB_CLOCK_LOST: SRB_CLK has not toggled for 1 µs (R418). -/
def State.brClockLost (s : State) (t : Nat) : State :=
  if s.br.clk then
    (((s.setBr { s.br with clk := false }).wr R.BR_FLAGS_CLK_LOST 1).brNotReady t).raise 355 t
  else s

/-- SRB_READY: the clock runs and SRB_RST_N has been high for 1 ms (R418, R431). -/
def State.brBecomesReady (s : State) (t : Nat) : State :=
  if s.brReady then s
  else
    let s1 := if s.br.rst then s.raise 354 t else s
    let s2 := if s.br.clk then s1 else s1.raise 355 t
    (s2.setBr { s2.br with clk := true, rst := false }).wr R.BR_STAT_STATE bsIdle

/-- SRB_IRQ: interrupt line `k` goes low (R431). -/
def State.brIrq (s : State) (k t : Nat) : State := if s.bit R.BR_CFG_IRQ_EN k then s.raise (356 + k) t else s

/-! ### Load, reset and staged set -/

/-- Whether a pending BR set may take effect: BASE + SIZE of an enabled window within 2^32 (R421). -/
def brSetOk (w : Nat → Word) : Bool :=
  (List.range 8).all fun k =>
    let f (x : Fld) : Nat := x.ext (w (x.addr k))
    f R.BR_WIN_CFG_EN == 0 || decide (f R.BR_WIN_BASE_BASE + f R.BR_WIN_SIZE_SIZE ≤ 2 ^ 32)

/-- Whether a pending BR set may be applied now (R423). -/
def State.brFree (s : State) : Bool := s.br.queue.isEmpty && s.br.opn.isNone

/-- Loads one register of the BR table: the fields clamped and each clamp counted (R53), reserved bits 0 (R7). -/
def State.brLoadWord (s : State) (a : Nat) (w mask : Word) (fs : List Fld) : State :=
  let v := fs.foldl (fun (p : Word × Nat) f =>
    let x := f.ext p.1
    let y := f.clamp x
    (f.ins p.1 y, p.2 + (if x = y then 0 else 1))) (w &&& mask, 0)
  (s.wrWord a v.1).bump (R.BLK_CLAMP_CNT_COUNT.at .br) 0 0 v.2

/-- Loads the BR table and delivers the windows; an enabled window that reaches beyond 2^32 loads disabled. -/
def State.brLoad (s : State) : State :=
  let b := 0x03390000
  let s0 := s.brLoadWord R.BR_CFG_ARB_TMO.base (s.tw b) 0xFFFF000F#32 [R.BR_CFG_ARB_TMO]
  let s1 := (List.range 8).foldl (fun (s : State) k =>
    let a := R.BR_WIN_BASE_BASE.addr k
    let w (j : Nat) : Word := s.tw (b + 4 * (4 + 4 * k + j))
    let s1 := s.brLoadWord a (w 0) 0xFFFFFFFF#32 [{ R.BR_WIN_BASE_BASE with s1 := 0 }]
    let s2 := s1.brLoadWord (a + 4) (w 1) 0xFFFFFFFF#32 [{ R.BR_WIN_SIZE_SIZE with s1 := 0 }]
    let s3 := s2.brLoadWord (a + 8) (w 2) 0xFFFF0003#32 [{ R.BR_WIN_CFG_TMO with s1 := 0 }]
    if s3.brSize k + s3.brBase k ≤ 2 ^ 32 then s3
    else (s3.wr R.BR_WIN_CFG_EN 0 k).bump (R.BLK_CLAMP_CNT_COUNT.at .br)) s0
  (s1.wr R.BR_STAT_SLOT (s1.slotCode % 4)).brDeliver

/-- A BLOCK reset of BR, or a POR, COLD or WARM reset: the bus is released and every request completes with
TARGET_RESET (R428). The clock and the reset line are the rack's: a bridge that was ready stays ready. -/
def State.brEndAll (s : State) (t : Nat) : State := s.brAbort t

/-- What the bridge shows after a reset of its registers (R418). -/
def State.brShow (s : State) : State :=
  s.wr R.BR_STAT_STATE (if s.brReady then bsIdle else if s.br.clk then bsReset else bsNoClock)

end Sys2Proof.Machine
end

