-- ==== Sys2Proof/Machine/Registers.lean ====
section
/-! DEFINITION. The management space (R52): which block and which fields an address belongs to, what a read returns, how
a write changes fields (R53), staged sets (R54, R55), counters (R56) and register resets (R8). -/

namespace Sys2Proof.Machine

/-! ### Addresses (R52) -/

/-- The fields of a block's own registers. -/
def ownFlds : Block → List Fld
  | .sys => sysFlds | .hp => hpFlds | .le => leFlds | .tsk => tskFlds | .evt => evtFlds | .lg => lgFlds | .vt => vtFlds
  | .sc => scFlds | .ch => chFlds | .fb => fbFlds | .nw => nwFlds | .cn => cnFlds | .br => brFlds | .rd => rdFlds
  | .er => erFlds | .pw => pwFlds | .up => upFlds

/-- The fields of a block with its common registers (R541). -/
def blockFlds (b : Block) : List Fld := ownFlds b ++ commonFlds.map (fun f => f.at b)

/-- The fields of the register at an address. -/
def fieldsAt (b : Block) (a : Nat) : List Fld := (blockFlds b).filter fun f => f.covers a

/-- Whether a block is lane-level as a whole. -/
def isLaneBlock (b : Block) : Bool := b == .le || b == .tsk || b == .evt

/-- Whether an address belongs to a lane-level register: LE, TSK, EVT, and the lane comparator bank of LG (R12, R52). -/
def laneAddr (a : Nat) : Bool := decide ((0x20000 ≤ a ∧ a < 0x60000) ∨ (0x60000 ≤ a ∧ a < 0x60508))

/-- The lane memory windows: the lane and the lane offset (R12). -/
def laneWindow (a : Nat) : Option (Nat × Nat) :=
  if 0x01000000 ≤ a ∧ a < 0x0D000000 then some ((a - 0x01000000) / 0x04000000, (a - 0x01000000) % 0x04000000) else none

/-! ### Staged sets (R54, R55) -/

/-- The registers that take effect only at APPLY_REF, never at a GO (R212). -/
def goAddr (a : Nat) : Bool := !([R.LG_REF_POS_LO.base, R.LG_REF_POS_HI.base, R.LG_REF_STAMP.base, R.LG_REF_E_REF.base].contains a)

/-- The RWS fields of `new` in `old`. -/
def mergeRws (fs : List Fld) (a : Nat) (old new : Word) : Word :=
  fs.foldl (fun w f => if f.acc == .rws && f.covers a then f.ins w (f.ext new) else w) old

/-- GO takes the present shadows of the block as its pending set, in place of one that has not taken effect. -/
def RegFile.go (r : RegFile) (b : Block) : RegFile :=
  { r with pend := NMap.put r.pend (blockBase b) (r.shadow.filter fun c => inBlock b c.1 && goAddr c.1) }

/-- DISCARD reloads the shadows from the values in effect and cancels the pending set. -/
def RegFile.discard (r : RegFile) (b : Block) : RegFile :=
  { r with shadow := r.shadow.filter (fun c => !inBlock b c.1), pend := NMap.del r.pend (blockBase b) }

/-- The words of a block's pending set at the addresses `p` take effect; a shadow that now equals its value in effect is
forgotten, and a set with no word left is no longer pending. -/
def RegFile.appliedAt (r : RegFile) (b : Block) (p : Nat → Bool) : RegFile :=
  match NMap.look r.pend (blockBase b) with
  | none => r
  | some ws =>
    let fs := (ownFlds b).filter fun f => f.acc == .rws
    let eff := (ws.filter fun c => p c.1).foldl (fun e c => Cells.set e c.1 (mergeRws fs c.1 (Cells.get e c.1) c.2)) r.eff
    let left := ws.filter fun c => !p c.1
    { eff := eff, pend := if left.isEmpty then NMap.del r.pend (blockBase b) else NMap.put r.pend (blockBase b) left,
      shadow := r.shadow.filter fun c => !inBlock b c.1 || mergeRws fs c.1 (Cells.get eff c.1) c.2 != Cells.get eff c.1 }

/-- The pending set of a block takes effect. -/
def RegFile.applied (r : RegFile) (b : Block) : RegFile := r.appliedAt b fun _ => true

/-- Whether a pending set waits at a block. -/
def RegFile.waits (r : RegFile) (b : Block) : Bool := (NMap.look r.pend (blockBase b)).isSome

/-- A rejected set: every value stays, the shadows are reloaded, BLK_COMMIT_REJ is set and counted (R55). -/
def RegFile.reject (r : RegFile) (b : Block) : RegFile :=
  ((r.discard b).wr (R.BLK_COMMIT_STAT_BLK_COMMIT_REJ.at b) 1).bump (R.BLK_CLAMP_CNT_COUNT.at b)

/-- COMMIT_STAT as it reads. -/
def RegFile.commitStat (r : RegFile) (b : Block) : Word :=
  let fs := (ownFlds b).filter fun f => f.acc == .rws
  let dirty := r.shadow.any fun c => inBlock b c.1 && mergeRws fs c.1 (r.word c.1) c.2 != r.word c.1
  (r.word (blockBase b + 0xFF04) &&& 1#32) ||| (if dirty then 4#32 else 0) ||| (if r.waits b then 2#32 else 0)

/-- A word written to the register with fields `fs` at address `a`, each field by its access code with its value clamped
into its legal set; also the number of clamps (R53, R54). -/
def RegFile.put (r : RegFile) (fs : List Fld) (clamp : Fld → Nat → Nat) (a : Nat) (v : Word) : RegFile × Nat :=
  fs.foldl (fun (p : RegFile × Nat) f =>
    let x := f.ext v
    match f.acc with
    | .rws =>
      let y := clamp f x
      ({ p.1 with shadow := NMap.put p.1.shadow a (f.ins (p.1.shadowWord a) y) }, p.2 + (if y = x then 0 else 1))
    | .rw =>
      let y := clamp f x
      ({ p.1 with eff := Cells.set p.1.eff a (f.ins (p.1.word a) y) }, p.2 + (if y = x then 0 else 1))
    | .w1c =>
      let o := f.ext (p.1.word a)
      ({ p.1 with eff := Cells.set p.1.eff a (f.ins (p.1.word a) (o - (o &&& x))) }, p.2)
    | _ => p) (r, 0)

/-- Every counter of a block returns to 0 (R56). -/
def RegFile.cntClear (r : RegFile) (b : Block) : RegFile :=
  let fs := (blockFlds b).filter fun f => f.cnt
  { r with eff := r.eff.filterMap fun c =>
      if inBlock b c.1 then
        let w : Word := fs.foldl (fun w f => if f.covers c.1 then f.ins w 0 else w) c.2
        if w = 0 then none else some (c.1, w)
      else some c }

/-! ### Register resets (R8) -/

/-- The kinds of reset a register table has a column for. A BLOCK reset takes the COLD column (R541). -/
inductive ResetKind where
  | por | cold | warm
  deriving DecidableEq, Repr

def Fld.column (f : Fld) : ResetKind → Rst
  | .por => f.por
  | .cold => f.cold
  | .warm => f.warm

/-- Whether a reset leaves a field to what it holds, or to what its chapter loads into it. -/
def Rst.holds : Rst → Bool
  | .val _ => false
  | .table => false
  | .kept => true
  | .other => true

/-- The values of a block's registers after a reset, before the block's table is loaded; the shadows are reloaded and a
pending set is cancelled. -/
def RegFile.reset (r : RegFile) (b : Block) (k : ResetKind) : RegFile :=
  let fs := blockFlds b
  let held := fs.filter fun f => (f.column k).holds
  let e1 := r.eff.filterMap fun c =>
    if inBlock b c.1 then
      let w : Word := held.foldl (fun w f => if f.covers c.1 then f.ins w (f.ext c.2) else w) 0
      if w = 0 then none else some (c.1, w)
    else some c
  let e2 := fs.foldl (fun e f =>
    match f.column k with
    | .val n => if n = 0 then e else (List.range f.n1).foldl (fun e i => (List.range f.n2).foldl (fun e j => Cells.wr e f n i j) e) e
    | _ => e) e1
  ({ r with eff := e2 } : RegFile).discard b

/-! ### Reads -/

/-- What a lane-level register reads in a lane: the engine views, COMMIT_STAT, and the stored registers (R92, R179). -/
def Lane.view (l : Lane) (a t : Nat) : Word :=
  if 0x20000 ≤ a ∧ a < 0x20010 then
    let g := l.engine ((a - 0x20000) / 4)
    let st := if t < g.trapUntil then 2 else match g.st with
      | .idle => 0
      | .run => 1
      | .wait => 3
    if a % 4 = 0 ∧ st ≠ 0 then BitVec.ofNat 32 (g.task % 64 + st * 2 ^ 6 + g.r.depth % 256 * 2 ^ 8) else 0
  else if 0x20010 ≤ a ∧ a < 0x20030 then
    let n := (l.engine ((a - 0x20010) / 8)).icnt.toNat
    BitVec.ofNat 32 (if a % 8 = 0 then n else n / 2 ^ 32)
  else if a = 0x2FF04 then l.rf.commitStat .le
  else if a = 0x4FF04 then l.rf.commitStat .tsk
  else if a = 0x5FF04 then l.rf.commitStat .evt
  else l.rf.word a

/-- A word of a lane memory window: the mirrors of the reserve region (R74); the CLR_KEY words read 0 (R457). -/
def Lane.window (l : Lane) (o t : Nat) : Word :=
  if o < 0x03C00000 then (if 0x03392000 ≤ o ∧ o < 0x03392020 then 0 else l.word o)
  else
    let k := o - 0x03C00000
    if k < 0x50000 then
      let a := 0x20000 + k
      if laneAddr a then l.view a t else 0
    else 0

/-- What an address of the module-level blocks reads at `t`. `p` is the reading port: a recorder window is its own
port's only (R456). -/
def State.viewModule (s : State) (p : Option Nat) (a t : Nat) : Word :=
  match blockOf a with
  | none => 0
  | some b =>
    if a = blockBase b + 0xFF04 then s.rf.commitStat b
    else if a = blockBase b + 0xFF14 then
      (if s.resettingAt a t then 2 else if b = .br ∧ s.brReady = false then 0 else 1)
    else if b = .fb ∧ a = R.FB_STATE_STATE.base then (s.fbReady t).rf.word a
    else if a = R.SC_DEGR_ELAPSED.base then R.SC_DEGR_ELAPSED.ins (s.rf.word a) (s.scElapsed t)
    else if a = R.VT_GRACE_ELAPSED.base then BitVec.ofNat 32 (min 10080 (s.graceNow t))
    else if a = R.VT_SIMPLEX_TIME_SECONDS.base then
      BitVec.ofNat 32 (if s.isSimplex then satNat 10 ((t - s.vt.simplexSince) / 1000000000) else 0)
    else if R.VT_LANE_STAT_ROLE.base ≤ a ∧ a < R.VT_LANE_STAT_ROLE.base + 12 then
      let x := (a - R.VT_LANE_STAT_ROLE.base) / 4
      R.VT_LANE_STAT_EXCL_IN_WIN.ins (s.rf.word a) (satNat 8 (s.exclInWin x t))
    else if b = .ch ∧ a < 0xA8000 ∧ a % 0x100 = 0x10 then
      let c := (a - 0xA0000) / 0x100
      R.CH_STAT_ON.ins (s.rf.word a) (if s.chSwitch c t then 1 else 0)
    else if b = .ch ∧ a < 0xA8000 ∧ a = R.CH_ASTAT_EFF_PERIOD.addr ((a - 0xA0000) / 0x100) then s.astatWord ((a - 0xA0000) / 0x100) t
    else if b = .cn ∧ 0x140400 ≤ a ∧ (a - 0x140000) % 0x4000 < 0x2400 ∧ 0x400 ≤ (a - 0x140000) % 0x4000 then
      let o := (a - 0x140000) % 0x4000 - 0x400
      ((s.cbuf ((a - 0x140000) / 0x4000) (o / 0x80)).win).getD (o % 0x80 / 4) 0
    else if b = .er ∧ 0x170100 ≤ a ∧ a < 0x170180 then
      if p = some ((a - 0x170100) / 0x40) then s.rf.word a else 0
    else if b = .er ∧ 0x171000 ≤ a ∧ a < 0x173000 then
      let q := (a - 0x171000) / 0x1000
      if p = some q then s.erBuf q ((a - 0x171000) % 0x1000 / 4) else 0
    else s.rf.word a

/-- What an address reads (R12, R40). -/
def State.view (s : State) (p : Option Nat) (a t : Nat) : Word :=
  match laneWindow a with
  | some (x, o) => (s.lane x).window o t
  | none => if laneAddr a then (if a % 0x10000 = 0xFF14 ∧ s.resettingAt a t = true then 2 else s.front.view a t) else s.viewModule p a t

/-- A host read of word 0 of a CAN buffer window locks it, and one of word 17 releases it (R408). -/
def State.readEffect (s : State) (a t : Nat) : State :=
  if 0x140400 ≤ a ∧ a < 0x150000 then
    let c := (a - 0x140000) / 0x4000
    let o := (a - 0x140000) % 0x4000
    if 0x400 ≤ o ∧ o < 0x2400 then
      let k := (o - 0x400) % 0x80 / 4
      let b := (o - 0x400) / 0x80
      if k = 0 then s.hbufLock c b t else if k = 17 then s.hbufRelease c b else s
    else s
  else s

/-! ### Legality of the pending sets -/

/-- Two IPv4 networks overlap under the shorter prefix (R58). -/
def netsOverlap (a pa b pb : Nat) : Bool :=
  let h := 2 ^ (32 - min pa pb)
  a / h == b / h

/-- R58. -/
def hpSetOk (w : Nat → Word) : Bool :=
  let f (x : Fld) : Nat := x.ext (w x.base)
  let a := f R.HP_A_ADDR_ADDR
  let b := f R.HP_B_ADDR_ADDR
  let pa := f R.HP_NET_CFG_PREFIX_A
  let pb := f R.HP_NET_CFG_PREFIX_B
  hostAddrOk a pa && hostAddrOk b pb && !netsOverlap a pa b pb

/-- The words of force entry `i`. -/
def forceWords (r : RegFile) (i : Nat) : List Word := [0, 4, 8].map fun k => r.word (R.TSK_FORCE_EN.addr i + k)

/-- Whether force entry `i` is enabled. -/
def forceOn (r : RegFile) (i : Nat) : Bool := (r.word (R.TSK_FORCE_EN.addr i)).getLsbD 31

/-- Two enabled force entries name the same word of the same space (R178). -/
def forceOk (r : RegFile) : Bool :=
  let on := ((List.range 64).filter fun i => forceOn r i).map fun i => r.word (R.TSK_FORCE_EN.addr i) &&& 0x4000FFFF#32
  on.eraseDups.length == on.length

/-! ### Clamps (R53) -/

/-- The legal value nearest to `v` for a field, where it depends on another shadow of the channel (R301, R333, R340, R341). -/
def State.clampAt (s : State) (a : Nat) (f : Fld) (v : Nat) : Nat :=
  let m := R.CH_MODE_MODE.ext (s.rf.shadowWord (0xA0000 + (a - 0xA0000) / 0x100 * 0x100))
  if f == R.CH_MODE_MODE then modeClamp v
  else if f == R.CH_ACFG0_RANGE then rangeClamp m v
  else if f == R.CH_ACFG0_RATE then min 5 v
  else if f == R.CH_ACFG0_AVG then min 4 v
  else if f == R.CH_ACFG0_TYPE then typeClamp m v
  else f.clamp v

end Sys2Proof.Machine
end

