-- ==== Sys2Proof/Machine/Writes.lean ====
section
/-! DEFINITION. What writes to registers do: the actions of command registers, commits of staged sets (R54, R55), BLOCK
resets (R541), the modes of SYS (R175, R176), and the checks a host's write passes (R42, R51). -/

namespace Sys2Proof.Machine

/-- Who writes: a program through PWR, or a session on a host port. -/
inductive Writer where
  | program
  | host (port session : Nat)
  deriving DecidableEq, Repr

/-! ### Tasks and events by write (R155, R158, R159, R181, R193) -/

/-- A 1 written to bit `n` of TSK_RELEASE at `t`. -/
def State.tskRelease (s : State) (n t : Nat) : State :=
  let ph := s.phase
  s.onLanes fun l => (l.releaseBy ph n t).1

/-- A 1 written to bit `n` of TSK_CANCEL at `t`. -/
def State.tskCancel (s : State) (n t : Nat) : State := s.onLanes fun l => l.cancelAtStamp n t

/-- A 1 written to the bit of source `n` in EVT_DONE. -/
def State.evtDone (s : State) (n : Nat) : State := s.onLanes fun l => l.evDone n

/-- Carries out `f` for every bit set in a word. -/
def State.eachBit (s : State) (v : Word) (f : State → Nat → State) : State :=
  (List.range 32).foldl (fun s k => if v.getLsbD k then f s k else s) s

/-! ### Program modes (R175, R176) -/

/-- Leaving RUN for STOP or MAINT: every pending task is cancelled with STOP, fault queues are discarded, comparators are
idle, pulses and timed levels end, CAN frames are removed. -/
def State.leaveRun (s : State) : State :=
  (((s.onLanes fun l => l.cancelAll leStop s.lt).cmpAllIdle).chEndTimed).canFlushAll

/-- What leaving MAINT ends: raw drives of analogue outputs and the mirror (R348, R400). -/
def State.leaveMaint (s : State) : State := s.trimLeave.wr R.NW_MIRROR_EN 0

/-- Enters STOP or MAINT. -/
def State.enterMode (s : State) (m : Nat) : State :=
  if s.mode = m ∨ s.isSafe = true then s
  else
    let s1 := if s.mode = mdRun then s.leaveRun else s
    let s2 := if s.mode = mdMaint then s1.leaveMaint else s1
    (s2.wr R.SYS_MODE_STAT_MODE m).allOut

/-- Whether a restart may be requested now: not while one runs, but in SAFE and in RECOVERY whatever MODE reads (R176,
R266, R505), and never in HOLDUP, which stops every lane until the power is gone or the module boots (R463, R465). -/
def State.restartOk (s : State) : Bool :=
  s.pwState != psHoldup && (s.mode != mdRestarting || s.isSafe || s.rd R.UP_STATE_STATE == usRecovery)

/-- A STOP or MAINT request (R176). -/
def State.modeReq (s : State) (m : Nat) : State :=
  if s.mode = mdRestarting then s.clampCnt .sys else s.enterMode m

/-- A value written to SYS_MODE_REQ. A restart waits for the reply. -/
def State.modeWrite (s : State) (v : Word) : State :=
  let n := v.toNat % 8
  let s1 := if 5 ≤ n then s.clampCnt .sys else s
  if n = 0 then s1
  else if n ≤ 2 then
    if s1.restartOk then { s1 with hp := { s1.hp with restart := some (n == 1) } } else s1.clampCnt .sys
  else s1.modeReq (if n = 3 then mdMaint else mdStop)

/-! ### Table loads that are one block's own (R231, R263) -/

/-- Loads fields of a register from a table word, each clamped and each clamp counted. -/
def State.loadFields (s : State) (b : Block) (fs : List Fld) (w : Word) : State :=
  fs.foldl (fun s f =>
    let v := f.ext w
    let c := f.clamp v
    if c = v then s.wr f v else (s.wr f c).clampCnt b) s

/-- The fields of LG marked "table" take the LG table (R231). -/
def State.lgLoad (s : State) (k : ResetKind) : State :=
  lgTable.foldl (fun s p =>
    s.loadFields .lg (lgFlds.filter fun f => f.column k == .table && f.base == p.1 && f.n1 == 1) (s.tw (0x03302100 + p.2))) s

/-- VT_CFG takes the VT table. -/
def State.vtLoad (s : State) : State :=
  s.loadFields .vt [R.VT_CFG_REJOIN_WIN, R.VT_CFG_REJOIN_MAX, R.VT_CFG_GRACE] (s.tw 0x03302200)

/-! ### BLOCK resets (R541) -/

/-- The registers of a module-level block after a reset. -/
def State.resetRegs (s : State) (b : Block) (k : ResetKind) : State := { s with rf := s.rf.reset b k }

/-- The registers of a lane-level block in a lane after a reset. -/
def Lane.resetRegs (l : Lane) (b : Block) (k : ResetKind) : Lane :=
  let r := l.rf.reset b k
  { l with rf := { r with eff := r.eff.filter fun c => laneAddr c.1 } }

/-- SYS_MODE_STAT.FORCED follows the force entries (R179). -/
def State.showForced (s : State) : State :=
  s.wr R.SYS_MODE_STAT_FORCED (if (List.range 64).any fun i => forceOn s.front.rf i then 1 else 0)

/-- STATE of every task that is not pending follows its TSK_ENABLE bit (R179). -/
def Lane.restStates (l : Lane) : Lane :=
  (List.range 64).foldl (fun l n => if l.isPending n || l.tskState n == l.restState n then l else
    l.wr R.TSK_STAT_STATE (l.restState n) n) l

/-- Every task whose TSK_ENABLE bit is 0 loses its releases not yet started. -/
def Lane.dropDisabled (l : Lane) : Lane := (List.range 64).foldl Lane.removeReleases l

/-- A BLOCK reset of TSK in a lane: STATE and LAST_END stay. -/
def Lane.tskBlockReset (l : Lane) : Lane :=
  let l1 := l.resetRegs .tsk .cold
  ((List.range 64).foldl (fun m n =>
    (m.wr R.TSK_STAT_STATE (l.rd R.TSK_STAT_STATE n) n).wr R.TSK_STAT_LAST_END (l.rd R.TSK_STAT_LAST_END n) n) l1)

/-- A BLOCK reset of EVT in a lane. -/
def Lane.evtBlockReset (l : Lane) : Lane := ((l.resetRegs .evt .cold).evClear).loadEvents

/-- Closes a session and releases its quoins; the reply of a request still in service will be discarded and counted
(R49). -/
def State.closeSession (s : State) (port n : Nat) : State :=
  let s0 := { s with hp := { s.hp with sessions := s.hp.sessions.filter fun x => !(x.port == port && x.number == n) } }
  let s1 := if s.hp.sessions.any (fun x => x.port == port && x.number == n && x.serving.isSome) then
    s0.bump (R.BLK_LATE_REPLY_CNT_COUNT.at .hp) else s0
  (List.range 31).foldl (fun s q =>
    if s.rd R.HP_QUOIN_HELD q = 1 ∧ s.rd R.HP_QUOIN_PORT q = port ∧ s.rd R.HP_QUOIN_SESSION q = n then
      s.wrWord (R.HP_QUOIN_HELD.addr q) 0
    else s) s1

/-- Closes every session that meets a condition. -/
def State.closeSessions (s : State) (p : Session → Bool) : State :=
  (s.hp.sessions.filter p).foldl (fun s x => s.closeSession x.port x.number) s

/-- The requests in service whose sessions a reset closes. -/
def State.lateReplies (s : State) : Nat := (s.hp.sessions.filter fun x => x.serving.isSome).length

/-- The replies of requests that outlive a reset of the HP block are discarded and counted (R49, R57). -/
def State.countLate (s : State) (n : Nat) : State :=
  if n = 0 then s else s.bump (R.BLK_LATE_REPLY_CNT_COUNT.at .hp) 0 0 n

/-- A reset of the HP block: every session closes and every quoin is free (R49). -/
def State.hpReset (s : State) (k : ResetKind) : State :=
  let s1 : State := { s with hp := { s.hp with sessions := [], verifyUntil := none, addrCommit := false, addrBy := none,
                                               resetAfterReply := false, tieHeld := none, tieRest := false } }
  (((List.range 32).foldl (fun s q => s.wrWord (R.HP_QUOIN_HELD.addr q) 0) s1).resetRegs .hp k).countLate s.lateReplies

/-- A fetch that runs when ER is reset shows TARGET_RESET after it (R456); a recovery or HOLDUP goes on (R455). -/
def State.erBlockReset (s : State) : State :=
  let busy := [0, 1].filter fun p => s.rd R.ER_RD_STAT_STAT p == fsBusy
  let s1 := (s.clearClose).resetRegs .er .cold
  let s2 := s1.wr R.ER_STATE_STATE (s.rd R.ER_STATE_STATE)
  busy.foldl (fun s p => s.wr R.ER_RD_STAT_STAT fsTargetReset p) (s2.setEr { s2.er with response := [], bufs := [] })

/-- Copies words from one module's registers into another's. -/
def State.keepWords (s0 s : State) (as : List Nat) : State := as.foldl (fun r a => r.wrWord a (s0.rf.word a)) s

/-- The registers of UP that show its state, the image lock and the running relays: a BLOCK reset leaves them (R541). -/
def upKept : List Nat := R.UP_STATE_STATE.base :: (List.range 4).map fun k => R.UP_RELAY_STAT_STATE.addr k

/-- What a block does in its BLOCK reset at `t`. -/
def State.blockResetOf (s : State) (b : Block) (t : Nat) : State :=
  match b with
  | .sys =>
    let w := s.rf.word R.SYS_MODE_STAT_MODE.base
    (s.resetRegs .sys .cold).wrWord R.SYS_MODE_STAT_MODE.base w
  | .hp => s.hpReset .cold
  | .le => s.onLanes fun l => l.resetRegs .le .cold
  | .tsk => (s.onLanes Lane.tskBlockReset).showForced
  | .evt => s.onLanes Lane.evtBlockReset
  | .lg => ((((s.lgClear t).onLanes fun l => l.resetRegs .lg .cold).resetRegs .lg .cold).lgLoad .cold).ptpFollow t
  | .vt =>
    let kept := [R.VT_STATE_STATE.base, R.VT_LANE_STAT_ROLE.base, R.VT_LANE_STAT_ROLE.base + 4, R.VT_LANE_STAT_ROLE.base + 8,
      R.VT_CMD_HOLD_OUT.base, R.VT_HOLD_NOW.base]
    (State.keepWords s (s.resetRegs .vt .cold) kept).vtLoad
  | .sc =>
    let s1 := (s.scEnter csTest t).resetRegs .sc .cold
    let s2 := (List.range 32).foldl (fun r i =>
      (r.wr R.SC_TERM_STAT_FAULT (s.scFaultOf i) i).wr R.SC_TERM_STAT_SLOT_SEEN (s.rd R.SC_TERM_STAT_SLOT_SEEN i) i) s1
    (s2.scLoad t).allOut
  | .ch =>
    ((List.range 128).foldl (fun s c => s.chTransition c t) (((s.resetRegs .ch .cold).chLoad).chReset false t)).resolveMaps
      [R.CH_BLK_FLAGS_MAP_ERR]
  | .fb =>
    let s1 := s.fbOff t
    let last := s1.rd R.FB_SCHED_STAT_LAST
    let s2 := s1.resetRegs .fb .cold
    ((if s.rd R.FB_SCHED_STAT_PENDING = 1 then s2.fbLast last else s2).fbLoad t).resolveMaps [R.FB_FLAGS_MAP_ERR]
  | .nw => ((s.ptpEnter pcInit t).resetRegs .nw .cold).nwLoad t
  | .cn => (s.resetRegs .cn .cold).canLoad true t
  | .br => (((s.brEndAll t).resetRegs .br .cold).brLoad).brShow
  | .rd => ((s.rdStop t).resetRegs .rd .cold).rdLoad t
  | .er => s.erBlockReset
  | .pw => (s.resetRegs .pw .cold).pwLoad
  | .up =>
    let s1 := (State.keepWords s (s.resetRegs .up .cold) upKept).wr R.UP_STATE_MAINT_CAUSE 0
    (s1.setUp { s1.up with keyNew := [] }).upLoad

/-- A BLOCK reset of a block at `t`. -/
def State.blockReset (s : State) (b : Block) (t : Nat) : State := (s.resetting b t).blockResetOf b t

/-! ### Commits (R54, R55) -/

/-- Whether the reply to the frame that wrote HP_COMMIT.GO has still to leave (R37). -/
def State.goInService (s : State) : Bool :=
  match s.hp.addrBy with
  | some (p, n) => (s.session p n).any fun x => x.serving.isSome
  | none => false

/-- A pending set of HP takes effect once the reply to its GO has left: the sessions of each port whose address or prefix
changed close (R37, R58). -/
def State.hpApply (sU : State) (t : Nat) : State :=
  let s := sU.repliesDue t
  let s0 := { s with hp := { s.hp with addrCommit := false, addrBy := none } }
  if s.goInService then s
  else if !s.rf.waits .hp then s0
  else
    let r := s.rf.applied .hp
    if !hpSetOk r.word then { s0 with rf := s.rf.reject .hp }
    else
      let s1 := { s0 with rf := r }
      let ch (p : Nat) : Bool :=
        if p = 0 then s.rd R.HP_A_ADDR_ADDR != s1.rd R.HP_A_ADDR_ADDR || s.rd R.HP_NET_CFG_PREFIX_A != s1.rd R.HP_NET_CFG_PREFIX_A
        else s.rd R.HP_B_ADDR_ADDR != s1.rd R.HP_B_ADDR_ADDR || s.rd R.HP_NET_CFG_PREFIX_B != s1.rd R.HP_NET_CFG_PREFIX_B
      s1.closeSessions fun x => ch x.port

/-- The record of a force change: index and words of each changed entry, when one that is enabled changed (R178). -/
def forceRecord (old new : RegFile) : List Byte :=
  let diff := (List.range 64).filter fun i => forceWords old i != forceWords new i
  if diff.any (fun i => forceOn old i || forceOn new i) then
    diff.flatMap fun i => leBytes i 4 ++ (forceWords new i).flatMap wordBytes
  else []

/-- A pending set of TSK takes effect at a dispatch point (R178). -/
def State.tskApply (s : State) (t : Nat) : State :=
  let r := s.front.rf.applied .tsk
  if !forceOk r then s.onLanes fun l => { l with rf := l.rf.reject .tsk }
  else
    let d := forceRecord s.front.rf r
    let s1 := (s.onLanes fun l => (({ l with rf := l.rf.applied .tsk } : Lane).dropDisabled).restStates).showForced
    if d.isEmpty then s1 else s1.record .tsk 0x0201 d t

/-- A pending set of EVT takes effect: a source whose EN is cleared loses PEND and ACC (R182). -/
def Lane.evtApply (l : Lane) : Lane :=
  let l1 : Lane := { l with rf := l.rf.applied .evt }
  (List.range 512).foldl (fun m n =>
    if l.rd R.EVT_SRC_CFG_EN n = 1 ∧ l1.rd R.EVT_SRC_CFG_EN n = 0 then m.evDisable n else m) l1

/-- Whether the pending set of a module-level block is legal, given the words it leaves (R55). -/
def State.setOk (s : State) (b : Block) (w : Nat → Word) : Bool :=
  match b with
  | .lg => !lgSetIllegal w
  | .ch => s.chSetOk w
  | .nw => s.nwSetOk w
  | .cn => canSetOk w
  | .br => brSetOk w
  | .rd => rdSetOk w
  | .pw => pwSetOk w
  | .up => upSetOk w
  | _ => true

/-- What a set of a block changes beside its registers, from the state `s0` before it. -/
def State.setApplied (s s0 : State) (b : Block) (t : Nat) : State :=
  match b with
  | .lg => s.wsApplied s0 t
  | .ch => s.chSetApplied s0.chMode t
  | .fb => s.fbBranches t
  | .cn => s.canSetApplied s0.rf.word t
  | .br => s.brDeliver
  | .rd => s.rdSetApplied (s0.rd R.RD_CFG_EN) t
  | _ => s

/-- Whether the boundary of a pending set is reached (R403, R423). -/
def State.boundary (s : State) (b : Block) : Bool :=
  match b with
  | .br => s.brFree
  | .cn => (List.range 4).any fun c => !s.canBusy c
  | _ => true

/-- Whether the word of a pending set at address `a` of block `b` takes effect now: each CAN controller takes the set at its own
bus-idle point (R403). -/
def State.takesNow (s : State) (b : Block) (a : Nat) : Bool :=
  match b with
  | .cn => !s.canBusy ((a - blockBase .cn) / 0x4000)
  | _ => true

/-- PENDING_SET_APPLY: the boundary of block `b`'s pending set arrives. -/
def State.setApply (s : State) (b : Block) (t : Nat) : State :=
  match b with
  | .hp => s.hpApply t
  | .tsk => if s.front.rf.waits .tsk then s.tskApply t else s
  | .evt => if s.front.rf.waits .evt then s.onLanes Lane.evtApply else s
  | b =>
    if !s.rf.waits b || !s.boundary b then s
    else
      let r := s.rf.applied b
      if !s.setOk b r.word then { s with rf := s.rf.reject b }
      else
        let s1 := if b = .rd then s.rdBeforeSet r.word t else s
        ({ s1 with rf := s1.rf.appliedAt b (s1.takesNow b) } : State).setApplied s1 b t

/-- Blocks that have staged fields. -/
def staged (b : Block) : Bool := (ownFlds b).any fun f => f.acc == .rws

/-- COMMIT.GO, of HP with the port and session that wrote it. LG, RD, PW and UP name no later boundary: their set takes effect with it. -/
def State.commitGo (s : State) (who : Option (Nat × Nat)) (b : Block) (t : Nat) : State :=
  if !staged b then s
  else if isLaneBlock b then s.onLanes fun l => { l with rf := l.rf.go b }
  else
    let s1 : State := { s with rf := s.rf.go b }
    if b = .hp then { s1 with hp := { s1.hp with addrCommit := true, addrBy := who } }
    else if b = .lg ∨ b = .rd ∨ b = .pw ∨ b = .up then s1.setApply b t
    else s1

/-- COMMIT.DISCARD. -/
def State.commitDiscard (s : State) (b : Block) : State :=
  if isLaneBlock b then s.onLanes fun l => { l with rf := l.rf.discard b }
  else
    let s1 : State := { s with rf := s.rf.discard b }
    if b = .hp then { s1 with hp := { s1.hp with addrCommit := false, addrBy := none } } else s1

/-- CTRL.CNT_CLEAR. -/
def State.cntClear (s : State) (b : Block) : State :=
  let s1 := if isLaneBlock b || b == .lg then s.onLanes fun l => { l with rf := l.rf.cntClear b } else s
  if isLaneBlock b then s1 else { s1 with rf := s1.rf.cntClear b }

/-- CTRL.SOFT_RESET: a BLOCK reset; that of HP waits for the reply. -/
def State.softReset (s : State) (b : Block) (t : Nat) : State :=
  if b = .hp then { s with hp := { s.hp with resetAfterReply := true } } else s.blockReset b t

/-- The COMMIT and CTRL registers of a block. -/
def State.commonWrite (s : State) (w : Writer) (b : Block) (ofs : Nat) (v : Word) (t : Nat) : State :=
  let who := match w with
    | .host p n => some (p, n)
    | .program => none
  if ofs = 0xFF00 then
    if v.getLsbD 1 then s.commitDiscard b else if v.getLsbD 0 then s.commitGo who b t else s
  else if ofs = 0xFF10 then
    let s1 := if v.getLsbD 0 then s.cntClear b else s
    if v.getLsbD 1 then s1.softReset b t else s1
  else s

/-! ### Command registers -/

/-- PW_CMD: 5 to 7 clamp to 4 (R461). -/
def State.pwWrite (s : State) (v : Word) (t : Nat) : State :=
  let n := v.toNat % 8
  let s1 := if 5 ≤ n then s.clampCnt .pw else s
  if n = 0 then s1 else if n = 1 then s1.pwStable t else if n = 2 then s1.pwTopup t else if n = 3 then s1.pwUnstable t
  else s1.pwSleep t

/-- UP_NEXT_MAINT (R506). -/
def State.nextMaint (s : State) : State := s.wr R.UP_STATE_NEXT_MAINT 1

/-- UP_CMD. -/
def State.upWrite (s : State) (v : Word) (t : Nat) : State :=
  let j := fieldOf v 5 4
  let s1 := if v.getLsbD 0 then s.upDiscard else s
  let s2 := if v.getLsbD 1 then s1.nextMaint else s1
  let s3 := if v.getLsbD 2 then (s2.keyAdd j t).1 else s2
  if v.getLsbD 3 then (s3.keyRevoke j t).1 else s3

/-- LG_CMD: APPLY_REF at the next gauge tick, DQ_RESTORE (R212). -/
def State.lgWrite (s : State) (v : Word) (t : Nat) : State :=
  let s1 : State := if v.getLsbD 0 then { s with lg := { s.lg with applyReq := true } } else s
  if v.getLsbD 1 then s1.dqRestore t else s1

/-- RETEST runs row 1 of R287 in STOP and MAINT. -/
def State.scRetest (s : State) (t : Nat) : State := if s.stopped then (s.scLoad t).allOut else s

/-- CLR_FAULTS in STOP and MAINT (R276). -/
def State.scClear (s : State) : State := if s.stopped then s.scClearFaults else s

/-- What a write of word `v` to address `a` of block `b` does beside changing fields. -/
def State.act (s : State) (w : Writer) (b : Block) (a : Nat) (v : Word) (t : Nat) : State :=
  let o := a - blockBase b
  match b with
  | .sys => if a = R.SYS_MODE_REQ_REQ.base then s.modeWrite v else s
  | .tsk =>
    if o = 0x308 ∨ o = 0x30C then s.eachBit v fun s k => s.tskRelease (32 * ((o - 0x308) / 4) + k) t
    else if o = 0x310 ∨ o = 0x314 then s.eachBit v fun s k => s.tskCancel (32 * ((o - 0x310) / 4) + k) t
    else s
  | .evt =>
    if 0x1200 ≤ o ∧ o < 0x1240 then s.eachBit v fun s k => s.raise (32 * ((o - 0x1200) / 4) + k) t
    else if 0x1240 ≤ o ∧ o < 0x1280 then s.eachBit v fun s k => s.evtDone (32 * ((o - 0x1240) / 4) + k)
    else s
  | .lg => if a = R.LG_REF_APPLY_REF.base then s.lgWrite v t else s
  | .sc =>
    if a = R.SC_CMD_RETEST.base then
      let s1 := if v.getLsbD 1 then s.scClear.allOut else s
      if v.getLsbD 0 then s1.scRetest t else s1
    else s
  | .ch =>
    if o < 0x8000 ∧ o % 0x100 = 0x44 then
      let c := o / 0x100
      let s1 := s.trimSetDrive c (v.getLsbD 0) (v.getLsbD 1)
      let s2 := if v.getLsbD 3 then s1.trimRestore c else s1
      if v.getLsbD 2 then s2.trimApply c else s2
    else s
  | .fb =>
    if a = R.FB_SCHED_REQ_REQ.base then (if v.getLsbD 31 then s.fbRequest (v.toNat % 8) else s)
    else if 0x104 ≤ o ∧ o < 0x184 ∧ o % 0x10 = 4 then (if v.getLsbD 0 then s.fbRelease ((o - 0x104) / 0x10) t else s)
    else s
  | .rd => if a = R.RD_CMD_OP.base then s.rdCommand v t else s
  | .er =>
    match w with
    | .host p n =>
      if o = 0x108 + 0x40 * p then (if v.getLsbD 31 then s.erFetch p else s)
      else if 0x220 ≤ o ∧ o < 0x230 then s.setEr { s.er with response := NMap.put s.er.response ((o - 0x220) / 4) v }
      else if o = 0x230 then
        let s1 := if v.getLsbD 1 then s.clearGo p n t else s
        if v.getLsbD 0 then s1.clearReq t else s1
      else s
    | .program => s
  | .pw => if a = R.PW_CMD_OP.base then s.pwWrite v t else s
  | .up =>
    if a = R.UP_CMD_DISCARD.base then s.upWrite v t
    else if 0xA0 ≤ o ∧ o < 0xC0 then s.setUp { s.up with keyNew := NMap.put s.up.keyNew ((o - 0xA0) / 4) v }
    else if 0x1000 ≤ o ∧ o < 0x1400 then (s.hostPut ((o - 0x1000) / 4) [v] t).1
    else s
  | _ => s

/-- The trim registers of the CH block (R348). -/
def trimReg (a : Nat) : Bool := decide (0xA0000 ≤ a ∧ a < 0xA8000 ∧ 0x44 ≤ a % 0x100 ∧ a % 0x100 < 0x58)

/-- Whether a window register belongs to the other host port (R456). -/
def otherPort (w : Writer) (a : Nat) : Bool :=
  match w with
  | .host p _ => decide (0x170100 ≤ a ∧ a < 0x170180) && (a - 0x170100) / 0x40 != p
  | .program => false

/-- UPTO clamps to ER_NEXT_SEQ − 1 after a write that reached one of its words (R53, R458). -/
def State.scopeClamp (s : State) (as : List Nat) : State :=
  let m := s.nextSeq - 1
  if (as.any fun a => a == 0x170200 || a == 0x170204) && decide (m < s.uptoSeq) then
    ((s.wr R.ER_CLR_SCOPE_UPTO_LO (m % 2 ^ 32)).wr R.ER_CLR_SCOPE_UPTO_HI (m / 2 ^ 32)).clampCnt .er
  else s

/-- A write of word `v` to a register at `t`; each field clamps as it is written. -/
def State.regWrite (s : State) (w : Writer) (a : Nat) (v : Word) (t : Nat) : State :=
  match blockOf a with
  | none => s
  | some b =>
    if a % 4 ≠ 0 ∨ otherPort w a = true then s
    else if w == .program && trimReg a then s.clampCnt .ch
    else
      let fs := fieldsAt b a
      let put (r : RegFile) : RegFile :=
        let p := r.put fs (fun f x => s.clampAt a f x) a v
        if p.2 = 0 then p.1 else p.1.bump (R.BLK_CLAMP_CNT_COUNT.at b) 0 0 p.2
      let s1 : State :=
        if a = R.VT_CMD_HOLD_OUT.base then s.holdOutWrite v
        else if b == .ch && trimReg a && a % 0x100 == 0x44 then
          -- DRIVE and POINT are the action's; REJ is W1C
          { s with rf := (s.rf.put (fs.filter fun f => f.acc == .w1c) (fun _ x => x) a v).1 }
        else if laneAddr a then s.onLanes fun l => { l with rf := put l.rf }
        else { s with rf := put s.rf }
      let s2 := (s1.commonWrite w b (a - blockBase b) v t).act w b a v t
      if w == .program then s2.scopeClamp [a] else s2

/-! ### The checks of a host's write (R41, R42, R51) -/

/-- The quoin that guards an address (R51). -/
def quoinOf (a : Nat) : Option Nat :=
  if inBlock .up a then some 0
  else if 0x170200 ≤ a ∧ a < 0x170234 then some 1
  else if 0x40400 ≤ a ∧ a < 0x40800 then some 2
  else if trimReg a then some 3
  else match laneWindow a with
    | some (_, o) => if 0x03200000 ≤ o ∧ o < 0x03300000 then some 4 else none
    | none =>
      if a = R.PW_CMD_OP.base ∨ a = R.PW_BUDGET_GRANT.base then some 5
      else if a = R.SYS_MODE_REQ_REQ.base then some 6
      else if a = R.RD_CFG_EN.base ∨ a = R.RD_TIMING_STEEP.base ∨ a = R.RD_GROUP_ID.base then some 7
      else none

/-- Whether a write of `v` at `a` is refused in the present mode (R42 check 3). -/
def State.modeRefuses (s : State) (a : Nat) (v : Word) : Bool :=
  match laneWindow a with
  | some (_, o) => !(s.stopped && decide (0x03200000 ≤ o ∧ o < 0x03300000))
  | none =>
    if a = R.VT_CMD_HOLD_OUT.base ∨ a = R.SC_CMD_RETEST.base then !s.stopped
    else if trimReg a || decide (0x170200 ≤ a ∧ a < 0x170234) || a == R.NW_MIRROR_EN.base then s.mode != mdMaint
    else if a = R.UP_CMD_DISCARD.base then (v.getLsbD 2 || v.getLsbD 3) && s.mode != mdMaint
    else false

/-- Whether a write of `v` at `a` needs a role the session does not have (R42 check 4). -/
def roleRefuses (role a : Nat) (v : Word) : Bool := a == R.UP_CMD_DISCARD.base && (v.getLsbD 2 || v.getLsbD 3) && role != 3

/-- Whether the owning chapter refuses the value written (R42 check 5, R494). -/
def State.valueRefuses (s : State) (a : Nat) (v : Word) : Bool :=
  let j := fieldOf v 5 4
  a == R.UP_CMD_DISCARD.base && ((v.getLsbD 2 && s.keyPresent j) || (v.getLsbD 3 && !s.keyPresent j && !v.getLsbD 2))

/-- Whether an address belongs to the management space (R41, R52). -/
def mapped (a : Nat) : Bool := a % 4 == 0 && ((blockOf a).isSome || (laneWindow a).isSome)

/-- Whether a request to an address is answered TARGET_RESET at `t`: a lane-level one while no lane serves or the lanes are
stopped, a window of a lane that runs its LANE reset or its self-test, any block while it resets (R12, R57, R468), and in RECOVERY
every block but SYS, HP and UP (DEDUCED, log entry 87: the others do not run, R505). -/
def State.inReset (s : State) (a t : Nat) : Bool :=
  match laneWindow a with
  | some (x, _) => s.recovering || s.pw.frozen || s.vt.testing.contains x || s.servingLanes.isEmpty
  | none => (laneAddr a && (s.pw.frozen || s.servingLanes.isEmpty)) || s.resettingAt a t ||
      (s.recovering && !(inBlock .sys a || inBlock .hp a || inBlock .up a))

/-- A host write of a word: through a lane window into the retained area of that lane (R12, R73), else to a register. -/
def State.hostStore (s : State) (w : Writer) (a : Nat) (v : Word) (t : Nat) : State :=
  match laneWindow a with
  | some (x, o) => s.setLane x ((s.lane x).setWord o v)
  | none => s.regWrite w a v t

end Sys2Proof.Machine
end

