-- ==== Sys2Proof/Machine/Voter.lean ====
section
/-! DEFINITION. The voter: comparison of the items the lanes present, release of agreed windows to their targets, requests
with side effects, the hold store, beats (R16 to R21, R235 to R246). -/

namespace Sys2Proof.Machine

/-! ### Items -/

/-- Two items stand at the same point of a task's stream: the same window and position, and both records or closes, both
checkpoints, or both beats. -/
def Item.same (a b : Item) : Bool :=
  a.task == b.task && a.win == b.win && a.pos == b.pos && (a.kind == b.kind || (decide (a.kind ≤ 1) && decide (b.kind ≤ 1)))

/-- Two items agree: records and beats word for word, closes by word and signature, checkpoints by signature (R242). -/
def Item.agrees (a b : Item) : Bool :=
  a.kind == b.kind && (if a.kind = 2 then a.sig == b.sig else if a.kind = 1 then a.words == b.words && a.sig == b.sig
    else a.words == b.words)

/-- CAUSE of an exclusion for an item that differs (R241). -/
def Item.cause (i : Item) : Nat := if i.kind = 2 then lcCheckpoint else if i.kind = 3 then lcBeat else lcWindow

/-- KIND of a record's head, its targets, its data bytes and words (R235). -/
def Item.recKind (i : Item) : Nat := fieldOf (i.words.getD 0 0) 7 0
def Item.len (i : Item) : Nat := fieldOf (i.words.getD 0 0) 31 16
def Item.t0 (i : Item) : Nat := (i.words.getD 1 0).toNat
def Item.t1 (i : Item) : Nat := (i.words.getD 2 0).toNat
def Item.data (i : Item) : List Word := i.words.drop 3

/-- Bytes an item takes in the hold store: those of records and closes (R244). -/
def Item.bytes (i : Item) : Nat := if i.kind ≤ 1 then 4 * i.words.length else 0

/-! ### Release (R16, R20, R243) -/

/-- The Q words the commits of a window carry, in program order. -/
def commitWords (is : List Item) : List (Nat × Word) :=
  (is.filter fun i => i.recKind == rkCommit).flatMap fun i =>
    i.data.mapIdx fun k w => (fieldOf (i.words.getD 1 0) 15 0 + k, w)

/-- The words of a commit that fall into a map of `n` words from word `first`, by offset; a later one stands. -/
def commitSetOf (ws : List (Nat × Word)) (first n : Nat) : List (Nat × Word) :=
  ws.foldl (fun m c => if first ≤ c.1 ∧ c.1 < first + n then NMap.put m (c.1 - first) c.2 else m) []

/-- The lane commands of the terminals of group `g`, as last released (R285, R296). -/
def State.laneCmd (s : State) (g : Nat) (w0 : Word) : State :=
  (List.range 4).foldl (fun s k =>
    let i := 4 * g + k
    let old := s.rd R.SC_CHASE_CMD_CMD 1
    if s.scRoleOf i == srOut then s.wr R.SC_CHASE_CMD_CMD (if w0.getLsbD k then old ||| 2 ^ i else old &&& (2 ^ 32 - 1 - 2 ^ i)) 1
    else s) s

/-- The commits of a window go to their targets, one set each (R308, R371, R415). -/
def State.releaseCommits (s : State) (ws : List (Nat × Word)) (t : Nat) : State :=
  let s1 := (List.range 8).foldl (fun (s : State) g =>
    match NMap.look s.maps (mkGroupQ g) with
    | some q =>
      let c := commitSetOf ws q 17
      if c.isEmpty then s
      else
        let x := s.group g
        let s1 := s.setGroup g { x with commits := x.commits ++ [{ released := t, words := c }] }
        match NMap.look c 0 with
        | some w => s1.laneCmd g w
        | none => s1
    | none => s) s
  let s2 := (s1.maps.filter fun c => decide (0x100 ≤ c.1 ∧ c.1 < 0x500)).foldl (fun (s : State) m =>
    let i := m.1 - 0x100
    let c := commitSetOf ws m.2 (s.fbBytes i / 4)
    if s.fbIsTx i && !c.isEmpty then s.fbCommit i c t else s) s1
  (s2.maps.filter fun c => decide (0x1000 ≤ c.1 ∧ c.1 < 0x1100)).foldl (fun (s : State) m =>
    let c := (m.1 - 0x1000) / 64
    let b := (m.1 - 0x1000) % 64
    let set := commitSetOf ws m.2 8
    if s.tab.canDir c b == 2 && !set.isEmpty then s.pdoCommit c b set t else s) s2

/-- One effect of a released window, other than a commit, goes to its target (R236). -/
def State.releaseEffect (s : State) (i : Item) (t : Nat) : State :=
  let k := i.recKind
  let d := i.data
  if k = rkPd then s.nwTxpd i.t0 d t
  else if k = rkSdt then s.nwTxpd (s.tab.sdtPd i.t0) d t
  else if k = rkMd then s.nwTxmd i.t0 (d.getD 0 0).toNat (d.drop 1) t
  else if k = rkCan then
    let tgt : Option (Bool × Nat) := if i.t1 % 2 = 1 then some (decide (i.t1 / 2 % 2 = 1), (d.getD 19 0 ++ d.getD 18 0).toNat / 1000 % 2 ^ 32) else none
    s.canSend (i.t0 % 4) (i.t0 / 256 % 64) (d.take 18) tgt
  else if k = rkRec then s.stage (s.mkRec i.t0 wrProgram (i.task + 64 * i.engine) ((d.flatMap wordBytes).take i.len) t)
  else if k = rkArm then { s with lg := { s.lg with arms := s.lg.arms ++ [(t, i.t0, some d)] } }
  else if k = rkDisarm then { s with lg := { s.lg with arms := s.lg.arms ++ [(t, i.t0, none)] } }
  else if k = rkPwr then (if s.inReset i.t0 t then s else s.regWrite .program i.t0 (d.getD 0 0) t)
  else if k = rkEcls then
    let w := d.getD 0 0
    s.onLanes fun l => l.setTask i.t0 { l.task i.t0 with energy := fieldOf w 7 4, heat := fieldOf w 3 0 }
  else s

/-- A window is released: its held records go to their targets in program order; the output commit is last in it (R170). DESIGN
CHOICE (log entry 91): a target takes its item, and the hold store frees its bytes, at the handover. -/
def State.releaseWindow (s : State) (c : Item) (t : Nat) : State :=
  let mine := s.vt.held.filter fun i => i.task == c.task && i.win == c.win
  let s1 := s.setVt { s.vt with held := s.vt.held.filter fun i => !(i.task == c.task && i.win == c.win) }
  let s2 := mine.foldl (fun s i => s.releaseEffect i t) (s1.bump R.VT_WIN_CNT)
  let ws := commitWords mine
  if ws.isEmpty then s2 else s2.releaseCommits ws t

/-- A request with side effects is issued to its target, which answers TARGET_RESET while it resets (R17, R57, R140, R246); a pop then
gives nothing (DEDUCED, log entry 100). -/
def State.issue (s : State) (i : Item) (t : Nat) : State :=
  let k := i.recKind
  let e := i.engine
  if k = rkMdPop ∧ s.resettingAt (blockBase .nw) t = true then
    s.answer .nw { engine := e, code := rcTargetReset, acc1 := some 0 }
  else if k = rkCanPop ∧ s.resettingAt (blockBase .cn) t = true then
    s.answer .cn { engine := e, code := rcTargetReset, acc1 := some 0 }
  else if k = rkMdPop then
    match s.nwMdPop i.t0 t with
    | (s1, none) => s1.answer .nw { engine := e, code := rcEmpty, acc1 := some 0 }
    | (s1, some m) => s1.answer .nw { engine := e, code := rcOk, acc1 := some (BitVec.ofNat 32 m.len), data := m.data }
  else if k = rkCanPop then
    match s.canPop (i.t0 % 4) with
    | (s1, none, _) => s1.answer .cn { engine := e, code := rcEmpty, acc1 := some 0 }
    | (s1, some d, n) => s1.answer .cn { engine := e, code := rcOk, acc1 := some (BitVec.ofNat 32 n), data := padWords 18 d }
  else if k = rkBrd ∨ k = rkBwr then
    s.brIssue { write := k == rkBwr, win := i.t0 % 8, wid := i.t0 / 8 % 4, ofs := i.t1, data := i.data.getD 0 0, engine := e } t
  else if k = rkPrd then
    let b := (blockOf i.t0).getD .sys
    if s.inReset i.t0 t then s.answer b { engine := e, code := rcTargetReset, acc1 := some 0 }
    else s.answer b { engine := e, code := rcOk, acc1 := some (s.view none i.t0 t) }
  else s

/-- An agreed checkpoint: the window's effects up to the request are released in program order, then the request is issued
(R139, R243, R246). The window stays open. -/
def State.checkpoint (s : State) (i r : Item) (t : Nat) : State :=
  let win (h : Item) : Bool := h.task == i.task && h.win == i.win
  let before := s.vt.held.filter fun h => win h && decide (h.pos < r.pos)
  let s1 := s.setVt { s.vt with held := s.vt.held.filter fun h => !(win h && decide (h.pos ≤ r.pos)) }
  (before.foldl (fun s h => s.releaseEffect h t) s1).issue { r with engine := i.engine } t

/-- An agreed item is taken: a record is held, a checkpoint issues its request, a close releases its window. -/
def State.take (s : State) (i : Item) (t : Nat) : State :=
  if i.kind = 0 then s.setVt { s.vt with held := s.vt.held ++ [i] }
  else if i.kind = 1 then s.releaseWindow i t
  else if i.kind = 2 then
    match s.vt.held.find? (fun r => r.task == i.task && r.win == i.win && r.pos == i.pos) with
    | some r => s.checkpoint i r t
    | none => s
  else s

/-! ### Comparison (R242) -/

/-- Removes the first item of a list that stands at the point of `i`. -/
def dropSame (i : Item) : List Item → List Item
  | [] => []
  | j :: r => if i.same j then r else j :: dropSame i r

/-- What lane `y` presents at the point of `i`. -/
def State.shown (s : State) (y : Nat) (i : Item) : Option Item := (s.lane y).items.find? fun j => i.same j

/-- Whether lane `y` is late for `i`. -/
def State.isLate (s : State) (y : Nat) (i : Item) : Bool := s.vt.late.any fun p => p.1 == y && i.same p.2

/-- The point of `i` is done with in every voting lane. -/
def State.doneWith (s : State) (i : Item) : State :=
  let s1 := s.votingLanes.foldl (fun s y => s.setLane y { s.lane y with items := dropSame i (s.lane y).items }) s
  s1.setVt { s1.vt with late := s1.vt.late.filter fun p => !i.same p.2 }

/-- A mask of lanes. -/
def laneMask (ys : List Nat) : Nat := (ys.map fun y => 2 ^ y).sum

/-- The comparison at the point of `i` in TRIPLEX. -/
def State.judgeTriplex (s : State) (i : Item) (t : Nat) : State :=
  let vs := s.votingLanes
  let has := vs.filterMap fun y => if s.isLate y i then none else (s.shown y i).map fun j => (y, j)
  let absent := vs.filter fun y => !s.isLate y i && (s.shown y i).isNone
  match has.find? (fun p => 2 ≤ (has.filter fun q => p.2.agrees q.2).length) with
  | none => if absent.isEmpty then (s.lastDis i 0 t).enterSafe scThreeWay t else s
  | some p =>
    let oks := (has.filter fun q => p.2.agrees q.2).map (·.1)
    let m := laneMask oks
    let s1 := s.doneWith i
    let s2 := absent.foldl (fun s y => s.setVt { s.vt with owed := s.vt.owed ++ [(y, p.2)] }) s1
    let s3 :=
      match vs.find? (fun y => !oks.contains y && !absent.contains y) with
      | some y => (s2.lastDis i m t).exclude y (if s.isLate y i then lcLate else i.cause) t
      | none => s2
    s3.take p.2 t

/-- The comparison at the point of `i` in DUPLEX. -/
def State.judgeDuplex (s : State) (i : Item) (t : Nat) : State :=
  let vs := s.votingLanes
  if vs.any fun y => s.isLate y i then (s.lastDis i 0 t).enterSafe scDuplexDis t
  else
    match vs.map (fun y => s.shown y i) with
    | [some a, some b] => if a.agrees b then (s.doneWith i).take a t else (s.lastDis i 0 t).enterSafe scDuplexDis t
    | _ => s

/-- Whether an item belongs to a paired activation in SIMPLEX-DIAG (R252). -/
def State.pairedItem (s : State) (x : Nat) (i : Item) : Bool := decide ((s.lane x).tkPriority i.task ≤ 7)

/-- The single lane's item in SIMPLEX-DIAG. -/
def State.judgeSimplex (s : State) (x : Nat) (i : Item) (t : Nat) : State :=
  let its := (s.lane x).items
  let drop (s : State) (r : List Item) : State := s.setLane x { s.lane x with items := r }
  if i.kind = 3 then drop s (its.erase i)
  else if !s.pairedItem x i then (drop s (its.erase i)).take i t
  else
    match its.find? (fun j => i.same j && j.engine != i.engine) with
    | none => s
    | some j =>
      if i.agrees j then (drop s ((its.erase i).erase j)).take (if i.engine ≤ j.engine then i else j) t
      else (s.lastDis i 0 t).enterSafe scPairDis t

/-- The comparison at the point of `i`. -/
def State.judge (s : State) (x : Nat) (i : Item) (t : Nat) : State :=
  if s.isTriplex then s.judgeTriplex i t else if s.isDuplex then s.judgeDuplex i t
  else if s.isSimplex then s.judgeSimplex x i t else s

/-- The item that lane `x` still owes at the point of `i`. -/
def State.owes (s : State) (x : Nat) (i : Item) : Option (Nat × Item) := s.vt.owed.find? fun p => p.1 == x && i.same p.2

/-- A lane that differs from, or is late for, what two lanes agreed on. -/
def State.oddLane (s : State) (x : Nat) (i : Item) (cause t : Nat) : State :=
  let m := laneMask (s.votingLanes.filter (· != x))
  if s.isTriplex then (s.lastDis i m t).exclude x cause t
  else if s.isDuplex then (s.lastDis i 0 t).enterSafe scDuplexDis t
  else s

/-- VOTER_ITEM: the voter takes the oldest item lane `x` presents. -/
def State.voterItem (s : State) (x t : Nat) : State :=
  match (s.lane x).items with
  | [] => s
  | i :: r =>
    let next := s.setLane x { s.lane x with items := r }
    if !s.votes x then next
    else
      match s.owes x i with
      | some p =>
        let s1 := next.setVt { next.vt with owed := next.vt.owed.erase p }
        if i.agrees p.2 then s1 else s1.oddLane x i i.cause t
      | none => s.judge x i t

/-- An item another voting lane presents and lane `z` does not. -/
def State.missing (s : State) (z : Nat) : Option Item :=
  (s.votingLanes.filter (· != z)).findSome? fun y =>
    (s.lane y).items.find? fun i => (s.shown z i).isNone && (s.owes y i).isNone && !s.isLate z i

/-- An item of a paired activation whose other engine has presented none. -/
def State.unpairedItem (s : State) (z : Nat) : Option Item :=
  let its := (s.lane z).items
  its.find? fun i => i.kind != 3 && s.pairedItem z i && !(its.any fun j => i.same j && j.engine != i.engine)

/-- ITEM_LATE: lane `z`, or in SIMPLEX-DIAG the other engine of a pair, has not presented an item in time (R240). -/
def State.itemLate (s : State) (z t : Nat) : State :=
  if !s.votes z then s
  else if s.isSimplex then
    match s.unpairedItem z with
    | some i => ((s.bump R.VT_LATE_CNT).lastDis i 0 t).enterSafe scPairDis t
    | none => s
  else
    match s.vt.owed.find? (fun p => p.1 == z) with
    | some p => ((s.setVt { s.vt with owed := s.vt.owed.erase p }).bump R.VT_LATE_CNT).oddLane z p.2 lcLate t
    | none =>
      match s.missing z with
      | some i => ((s.setVt { s.vt with late := s.vt.late ++ [(z, i)] }).bump R.VT_LATE_CNT).judge z i t
      | none => s

/-! ### The hold store (R244) -/

/-- One copy of each item of a list: the first that stands at its point. -/
def onePerPoint (is : List Item) : List Item :=
  is.foldl (fun acc i => if acc.any (fun j => i.same j) then acc else acc ++ [i]) []

/-- What the voting lanes present and the voter has not yet decided, one copy of each item (R244). -/
def State.presented (s : State) : List Item :=
  onePerPoint (s.votingLanes.flatMap fun x => (s.lane x).items.filter fun i => (s.owes x i).isNone)

/-- Bytes in the hold store: what is held, and what the lanes present, one copy of each. -/
def State.holdBytes (s : State) : Nat := (s.vt.held.map Item.bytes).sum + (s.presented.map Item.bytes).sum

/-- VT_HOLD_NOW and VT_HOLD_PEAK; an occupancy above 8 MiB sends the module to SAFE. -/
def State.holdCheck (s : State) (t : Nat) : State :=
  let n := s.holdBytes
  if 8388608 < n ∧ s.isSafe = false then ((s.wr R.VT_FLAGS_HOLD_OVF 1).enterSafe scHoldOvf t).wr R.VT_HOLD_NOW 0
  else
    let s1 := if s.rd R.VT_HOLD_NOW = n then s else s.wr R.VT_HOLD_NOW n
    if s1.rd R.VT_HOLD_PEAK < n then s1.wr R.VT_HOLD_PEAK n else s1

/-! ### Beats (R241) -/

/-- The beat a lane presents at base tick `k`. DESIGN CHOICE (log entry 90): a beat's window number is its tick mod 2^32, and its
engine is 0; VT_LAST_DIS shows them for a disagreement in a beat. -/
def Lane.beat (l : Lane) (k : Nat) : Lane :=
  let ws := (List.range 4).map fun e => BitVec.ofNat 32 (l.engine e).icnt.toNat
  { l with items := l.items ++ [{ kind := 3, engine := 0, task := 0, win := k % 2 ^ 32, pos := 0,
                                  words := ws ++ [BitVec.ofNat 32 l.decisions] }] }

/-- Every voting lane presents its beat. -/
def State.beats (s : State) (k : Nat) : State :=
  s.votingLanes.foldl (fun s x => s.setLane x ((s.lane x).beat k)) s

end Sys2Proof.Machine
end

