-- ==== Sys2Proof/Machine/Boot.lean ====
section
/-! DEFINITION. Resets, the boot, and the program start (R171 to R176, R251, R459, R501 to R507). -/

namespace Sys2Proof.Machine

/-! ### Blocks under a reset -/

/-- The module-level blocks. -/
def moduleBlocks : List Block := allBlocks.filter fun b => !isLaneBlock b

/-- The registers of every module-level block after a reset. -/
def State.resetAll (s : State) (k : ResetKind) : State := moduleBlocks.foldl (fun s b => s.resetRegs b k) s

/-- A reset of every block begins at `t` (R57). -/
def State.allResetting (s : State) (t : Nat) : State := allBlocks.foldl (fun s b => s.resetting b t) s

/-- What a WARM reset has kept and a COLD one does not, at a WARM start that is carried out as COLD (R173). -/
def RegFile.warmToCold (r : RegFile) (b : Block) : RegFile :=
  (blockFlds b).foldl (fun r f =>
    if f.warm.holds && !f.cold.holds then
      (List.range f.n1).foldl (fun r i => (List.range f.n2).foldl (fun r j => r.wr f (match f.cold with
        | .val n => n
        | _ => 0) i j) r) r
    else r) r

/-- The same in the registers of a lane, its LE, TSK and EVT blocks and its bank of LG. -/
def Lane.warmToCold (l : Lane) : Lane :=
  let r := [Block.le, .tsk, .evt, .lg].foldl (fun r b => r.warmToCold b) l.rf
  { l with rf := { r with eff := r.eff.filter fun c => laneAddr c.1 } }

/-- A requested WARM whose retained save is not valid is carried out as COLD, in every lane (R173). -/
def State.forceCold (s : State) : State :=
  { s with rf := moduleBlocks.foldl (fun r b => r.warmToCold b) s.rf, la := s.la.warmToCold, lb := s.lb.warmToCold,
           lc := s.lc.warmToCold }

/-- A lane after a reset that restarts the module: the self-test overwrites its SRAM (R507). -/
def Lane.restarted (l : Lane) (k : ResetKind) : Lane :=
  { rf := ([Block.le, .tsk, .evt, .lg].foldl (fun (l : Lane) b => l.resetRegs b k) l).rf }

/-- A channel keeps its heat, its trims and what its supply shows (R298, R347). -/
def FdChan.restarted (x : FdChan) : FdChan := { heat := x.heat, trimFlash := x.trimFlash, backfed := x.backfed }

/-! ### Power-on reset -/

/-- A POR: every register at its POR value, nothing but what flash, the one-time-programmable cells and the always-on
section hold is kept (R8, R215). -/
def State.por (s : State) (t : Nat) : State :=
  let lane : Lane := { rf := { eff := porLane } }
  let vt : Voter := { graceFlash := s.vt.graceFlash, graceBase := s.vt.graceFlash }
  let kept := !s.lg.aoLost
  let er : ErState := { log := s.er.log, blocks := s.er.blocks, cur := s.er.cur, free := s.er.free, nextBseq := s.er.nextBseq,
                        eraseBelow := s.er.eraseBelow, unwritten := s.er.unwritten }
  let pw : PwState := { s.pw with frozen := false, off := false, upAt := t, opBase := 0, lostAt := none, saving := none,
                                  quiet := false, abort := false, armed := false, latch := none, back := none, balZero := false,
                                  heatZero := false, onAt := [],
                                  vcore := s.pw.vcore.map fun v => (v.1, { v.2 with low := 0, wanted := false }) }
  let regs := moduleBlocks.foldl (fun (s : State) b => s.resetRegs b (if b = .lg ∧ kept = true then .cold else .por)) s.lgStop
  let s1 : State := { regs.allResetting t with
    la := lane, lb := lane, lc := lane, vt := vt, hp := { creds := s.hp.creds },
    sc := { degrFlash := s.sc.degrFlash, degrBase := s.sc.degrFlash },
    chan := s.chan.map fun c => (c.1, c.2.restarted), grp := [], maps := [], fb := {}, nw := { links := s.nw.links, mdCount := s.nw.mdCount }, cn := {}, br := {}, rd_ := {},
    er := er, pw := pw }
  (((s1.wr R.SC_DEGR_ELAPSED s.sc.degrFlash).lgClear t).upBootStart true false).lampStart t

/-- The steps of R503 at the start of a boot after a POR: the slot code and the ACK key are sampled, SYSTEM is selected
and checked (`sysOk`: whether the copies of each slot's image hash right). -/
def State.powerStart (s : State) (slot : Nat) (key : Bool) (sysOk : BitVec 2) (t : Nat) : State :=
  let s1 : State := { s with slotCode := slot }
  let s2 := ((s1.wr R.HP_B_ADDR_ADDR (0x0A420010 + slot)).wr R.BR_STAT_SLOT slot).wr R.PW_STATE_SUPPLY_OK 1
  let s3 := if key then (s2.setKey { s2.key with pressedAt := some t, sincePower := true }).wr R.SYS_KEY_STAT_PRESSED 1
    else s2.setKey { s2.key with pressedAt := none, sincePower := false }
  s3.selectSystem sysOk

/-- The boot after a POR waits for its SYSTEM. -/
def State.awaitsSystem (s : State) : Bool :=
  s.pwState == psBoot && s.rd R.UP_STATE_STATE == usBooting && s.up.sys.isNone && s.up.por

/-- The supply is back while the save runs: the module boots when it has ended (R465). -/
def State.supplyBack (s : State) (slot : Nat) (key : Bool) (sysOk : BitVec 2) : State :=
  (s.wr R.PW_STATE_SUPPLY_OK 1).setPw { s.pw with back := some (slot, key, sysOk) }

/-- SUPPLY_PRESENT: an unpowered module, or one in HOLDUP whose save has ended, boots; one in HOLDUP whose save runs boots when it
has ended; inside the ride-through window the supply is back, and at its end or later HOLDUP has been entered (R459, R462, R465,
R503). -/
def State.supplyPresent (s : State) (slot : Nat) (key : Bool) (sysOk : BitVec 2) (t : Nat) : State :=
  if s.pw.off then (s.por t).powerStart slot key sysOk t
  else if s.pwState = psHoldup then
    if s.pw.saving.isNone then ((s.recorderOff false).por t).powerStart slot key sysOk t else s.supplyBack slot key sysOk
  else
    match s.pw.lostAt with
    | some l =>
      let e := l + 100000 * s.rd R.PW_STATE_RIDE
      if t < e then s.rideThrough l t else (s.holdup e).supplyBack slot key sysOk
    | none => if s.awaitsSystem then s.powerStart slot key sysOk t else s

/-- RETAINED_SAVE_END: the save carries its end mark; in HOLDUP with the supply present again the module passes to BOOT (R464,
R465). -/
def State.retainedEnd (s : State) (t : Nat) : State :=
  let s1 := s.saveEnd
  match s1.pw.back with
  | some (slot, key, ok) =>
    if s1.pwState = psHoldup ∧ s1.pw.saving.isNone then ((s1.recorderOff false).por t).powerStart slot key ok t else s1
  | none => s1

/-! ### COLD and WARM resets (R176, R507) -/

/-- A restart a host requests: the save, then the reset into SELFTEST. In RECOVERY it performs a POR (R505). -/
def State.restart (s : State) (warm : Bool) (t : Nat) : State :=
  if s.rd R.UP_STATE_STATE = usRecovery then (s.por t).setStaged s.stagedRecs
  else
    let k : ResetKind := if warm then .warm else .cold
    let g := s.graceNow t
    let s0 := (((s.lgStop.saveStart true t).saveEnd).brEndAll t).rdStop t
    let sE := (s0.erResetFetch).clearClose
    let s1 := (sE.setEr { sE.er with response := [], bufs := [] }).scEnter csTest t
    let r := (s1.resetAll k).wr R.ER_STATE_STATE erRecovering
    let s2 := if s1.rd R.FB_SCHED_STAT_PENDING = 1 then r.fbLast 7 else r
    let vt : Voter := { graceFlash := s.vt.graceFlash, graceBase := g, excl := s.vt.excl }
    let s3 : State := { s2.allResetting t with
      er := { s2.er with staging := s1.stagedRecs },
      la := s2.la.restarted k, lb := s2.lb.restarted k, lc := s2.lc.restarted k, vt := vt,
      hp := { creds := s2.hp.creds, sent := s2.hp.sent, answers := s2.hp.answers },
      sc := { s2.sc with timers := [], latches := 0, ackRel := false, misses := 0 },
      chan := s2.chan.map fun c => (c.1, c.2.restarted), grp := [], maps := [], fb := {}, cn := s2.cn.restarted !warm, nw := { links := s2.nw.links, fdb := s2.nw.fdb, queues := s2.nw.queues, vlan := s2.nw.vlan, mdCount := s2.nw.mdCount },
      pw := { s2.pw with frozen := false, quiet := false, abort := false } }
    (((s3.lgClear t).upBootStart false warm).countLate s.lateReplies).countLateResults s0.lateResults

/-- MODE_REQ_RUN_WARM and MODE_REQ_RUN_COLD: while a restart runs the request is ignored and counted. -/
def State.restartReq (s : State) (warm : Bool) (t : Nat) : State := if s.restartOk then s.restart warm t else s.clampCnt .sys

/-! ### Loading images and tables (R152, R172, R501) -/

/-- Bytes put into a memory at an offset. -/
def placeCells (m : List Host.Cell) (cs : List Host.Cell) (lo hi dst : Nat) : List Host.Cell :=
  cs.foldl (fun m c => if lo ≤ c.1 ∧ c.1 < hi then Cells.set m (c.1 - lo + dst) c.2 else m) m

/-- The SRAM of a lane after the copies of PROGRAM slot `p` and TABLES slot `n`: code, configuration tables, initial D. -/
def State.imageMem (s : State) (p n : Nat) : List Host.Cell :=
  let tab := (s.upSlot ikTables n).image
  let m1 := placeCells [] (s.upSlot ikProgram p).image 0 12582912 0
  let m2 := placeCells m1 tab 6291456 14680064 dBase
  placeCells m2 tab 0 6291456 0x03300000

/-- The ranges of a list the tables hold, as far as they lie within `limit` and within a total of `total` elements. -/
def rangeList (rs : List (Nat × Nat)) (limit total : Nat) : List (Nat × Nat) :=
  (rs.foldl (fun (p : List (Nat × Nat) × Nat) r =>
    if r.1 + r.2 ≤ limit ∧ p.2 + r.2 ≤ total ∧ p.1.length < 32 then (p.1 ++ [r], p.2 + r.2) else p) ([], 0)).1

/-- The task table, the event table, the owned elements, the retain list and the classes of the tasks in a lane; tables of zeros
name no range (R506). -/
def Lane.loadTables (l : Lane) (image : Bool) (id : BitVec 64) : Lane :=
  let rs (k : Nat) : List (Nat × Nat) := if image then Config.tableRanges id k else []
  let l1 : Lane := { l with ownedS := rs 0, ownedW := rs 1, retain := rangeList (rs 2) dWords 262144 }
  let l2 := (l1.loadTaskTable).loadEvents
  l2.used.foldl (fun l n => l.setTask n { l.task n with energy := l.tkEnergy n, heat := l.tkHeat n }) l2

/-- The retained slots follow D in a COLD start; in a WARM start D follows the retained slots of the save (R172). -/
def Lane.setRetained (l : Lane) (saved : Option (List Host.Cell)) : Lane :=
  let l1 : Lane := match saved with
    | some cs => { l with mem := placeCells l.mem cs retBase (retBase + 0x100000) retBase }
    | none => l
  l1.retain.foldl (fun l r => (List.range r.2).foldl (fun l j =>
    match retainSlot l.retain 0 (r.1 + j) with
    | some k =>
      let a := dBase + 4 * (r.1 + j)
      let b := retBase + 4 * k
      if saved.isSome then l.setWord a (l.word b) else l.setWord b (l.word a)
    | none => l) l) l1

/-- The credentials the tables hold (R44); in tables of zeros every key is 0 (R506). -/
def tableCreds (image : Bool) (id : BitVec 64) : List Cred :=
  (List.range 8).map fun k =>
    if image then { key := Config.credKey id k, role := Config.credRole id k }
    else { key := List.replicate 32 0, role := Config.zeroRole }

/-- Every block loads its tables (step 5 of R503). -/
def State.loadBlocks (s : State) (image : Bool) (t : Nat) : State :=
  let por := s.up.por
  let id := s.bootId
  let warm := s.up.warm && s.validSave.isSome
  let s0 := if !por && s.up.warm && s.validSave.isNone then s.forceCold else s
  let s1 := s0.onLanes fun l => l.loadTables image id
  let s2 := s1.pwLoad
  let s3 : State := if por then s2.saveRestore t
    else { s2 with lg := { s2.lg with saved := (s2.validSave.map fun d => d.lg).or s2.lg.saved } }
  let s4 := ((s3.lgLoad (if por && s.lg.aoLost then .por else if warm then .warm else .cold)).lgStart t).vtLoad
  let s5 := (s4.chLoad).chReset por t
  let s6 := if image then s5.scLoad t else s5.scEnter csTest t
  let s7 := ((s6.fbLoad t).nwLoad t).canLoad (!warm) t
  let s8 := ((((s7.brLoad).brShow).rdLoad t).erLoadKey).upLoad
  ({ s8 with hp := { s8.hp with creds := tableCreds image id } } : State).resolveMaps.relayAll t

/-! ### The program start (R173, R174) -/

/-- LAST_START codes. -/
def lsCold : Nat := 1
def lsWarm : Nat := 2
def lsForced : Nat := 3

/-- Memory is set for the start kind of R173. -/
def State.setMemory (s : State) (t : Nat) : State :=
  let warmAsked := s.up.por || s.up.warm
  let saved := if warmAsked then s.validSave.map (·.retained) else none
  let kind := if saved.isSome then lsWarm else if warmAsked then lsForced else lsCold
  ((s.onLanes fun l => (l.setRetained saved).restStates).wr R.SYS_MODE_STAT_LAST_START kind).nwProgramStart.now t

/-- Every STARTUP task is released with the same stamp. -/
def Lane.releaseStartup (l : Lane) (ph : Phase) (t : Nat) : Lane :=
  l.used.foldl (fun l n =>
    if l.tkKind n == kStartup && l.enabled n then
      (if l.unpairable ph n then { l with unpaired := true } else (l.admitRelease n t).1)
    else l) l

/-- The program start of R174. -/
def State.programStart (s : State) (t : Nat) : State :=
  let s1 := (({ s with up := { s.up with ackWait := false, ready := true, startEnd := none } } : State).setMemory t).wr
    R.SYS_MODE_STAT_STARTUP 1
  let ph := s1.phase
  s1.onLanes fun l => l.releaseStartup ph t

/-- The module enters MAINT in place of the program start, and boot completes (R504, R506). -/
def State.bootMaint (s : State) (cause t : Nat) : State :=
  let s1 := ({ s with up := { s.up with ackWait := false } } : State).setMemory t
  (((s1.wr R.UP_STATE_MAINT_CAUSE cause).wr R.SYS_MODE_STAT_STARTUP 0).wr R.SYS_MODE_STAT_MODE mdMaint).upComplete t

/-- Whether the ACK key has been held since step 1 of a boot after a POR. -/
def State.ackHeld (s : State) : Bool := s.up.por && s.key.sincePower && s.rd R.SYS_KEY_STAT_PRESSED == 1

/-- The mode decision of R506. -/
def State.modeDecision (s : State) (image : Bool) (t : Nat) : State :=
  let next := s.up.maintAsk
  let s1 := s.setUp { s.up with maintAsk := false }
  if !image then s1.bootMaint mcNoImage t
  else if next then s1.bootMaint mcNextMaint t
  else if s1.ackHeld then
    if s1.pw.upAt + 5000000000 ≤ t then s1.bootMaint mcAck t else { s1 with up := { s1.up with ackWait := true } }
  else s1.programStart t

/-- Steps 5 and 6 of R503: the starter begins, or the module is in SAFE; every block loads its tables, and outside SAFE the mode is
decided. -/
def State.bootGo (s : State) (image : Bool) (t : Nat) : State :=
  let s1 := ((s.startLanes t).wr R.VT_CMD_HOLD_OUT 0).loadBlocks image t
  if s1.isSafe then s1 else s1.modeDecision image t

/-- LANE_SELFTEST_END: when no lane passes SELFTEST ends in SAFE, and every block loads its tables, of which no checked copy exists
(R251 row 3, R501, R503). -/
def State.selftestDone (s : State) (x : Nat) (pass : Bool) (t : Nat) : State :=
  let s1 := s.selftestEnd x pass t
  if s.vstate = vsSelftest ∧ s1.isSafe = true then s1.loadBlocks false t else s1

/-- A copy attempt of PROGRAM slot `p` and TABLES slot `n` completes (R502). `pGood` and `tGood` say whether the image itself hashes to
its TARGET_HASH, `progOk` and `tabOk` of each lane whether its copies are whole. A lane whose copy of an image differs while another
lane's matches fails its self-test. An image whose copy matches in no lane fails with HASH and the selection is made again; two
attempts at most. -/
def State.imagesCopied (s : State) (p n : Nat) (pGood tGood : Bool) (progOk tabOk : BitVec 3) (t : Nat) : State :=
  let lanes := [0, 1, 2].filter fun x => s.testOf x == 1
  let pm := lanes.filter fun x => pGood && progOk.getLsbD x
  let tm := lanes.filter fun x => tGood && tabOk.getLsbD x
  let odd := lanes.filter fun x => (!pm.isEmpty && !pm.contains x) || (!tm.isEmpty && !tm.contains x)
  let s0 := odd.foldl (fun s x => (s.setVt { s.vt with test := NMap.put s.vt.test x 2 }).laneOut x lcSelftest) s
  if pm.isEmpty || tm.isEmpty then
    let s1 := if pm.isEmpty then s0.lastFail ikProgram p lfHash else s0
    let s2 := if tm.isEmpty then s1.lastFail ikTables n lfHash else s1
    let bad := (if pm.isEmpty then [2 * ikProgram + p] else []) ++ (if tm.isEmpty then [2 * ikTables + n] else [])
    let s3 := s2.setUp { s2.up with hashBad := s2.up.hashBad ++ bad, attempts := s2.up.attempts + 1, sel := none }
    if 2 ≤ s3.up.attempts then s3.bootGo false t
    else
      let s4 := s3.selectImages
      if s4.up.sel.isNone then s4.bootGo false t else s4
  else
    let s1 := s0.upBooted p n
    let m := s1.imageMem p n
    ((lanes.filter fun x => !odd.contains x).foldl (fun s x => s.setLane x { s.lane x with mem := m }) s1).bootGo true t

/-- IMAGE_COPY_CHECK: a copy attempt of the selected pair completes; `progOk` and `tabOk` say of each lane whether its copies are
whole; with no pair selected the boot goes on without images (R502). -/
def State.imageCheck (s : State) (progOk tabOk : BitVec 3) (t : Nat) : State :=
  if !(s.rd R.UP_STATE_STATE == usBooting && s.vstate == vsSelftest && s.up.sys.isSome && !s.up.ready && !s.up.ackWait &&
      [0, 1, 2].all fun x => s.testOf x != 0) then s
  else
    let s0 := s.selectImages
    match s0.up.sel with
    | none => s0.bootGo false t
    | some (p, n) => s0.imagesCopied p n (s0.imageWhole ikProgram p) (s0.imageWhole ikTables n) progOk tabOk t

/-- ACK_KEY_RELEASE: beside what the release of the key does, a program start that waited for it proceeds (R506). -/
def State.ackRelease (s : State) (t : Nat) : State :=
  let s1 := s.keyRelease t
  if s1.up.ackWait && s1.rd R.SYS_KEY_STAT_PRESSED == 0 then s1.programStart t else s1

/-- ACK_HOLD_MAINT: the key is still held 5 s after the supply became present. -/
def State.ackHold (s : State) (t : Nat) : State :=
  if s.up.ackWait && s.ackHeld && decide (s.pw.upAt + 5000000000 ≤ t) then s.bootMaint mcAck t else s

/-- Whether `t` is the first 125 µs boundary of LT strictly after instant `u` (R174). -/
def nextBoundary (u t : Nat) : Bool := t % 125000 == 0 && decide (u < t ∧ t ≤ u + 125000)

/-- TICK_ZERO: the first boundary after the last STARTUP activation has ended; releases of every other kind begin, the mode
is RUN, boot completes (R174, R504). -/
def State.tickZero (s : State) (t : Nat) : State :=
  let due := match s.up.startEnd with
    | some u => nextBoundary u t
    | none => false
  if s.mode = mdRestarting ∧ s.startup = true ∧ s.up.ready = true ∧ s.servingLanes.isEmpty = false ∧ s.isSafe = false ∧
      due = true then
    let s1 := (s.wr R.SYS_MODE_STAT_STARTUP 0).wr R.SYS_MODE_STAT_MODE mdRun
    ({ s1 with nw := { s1.nw with tick0 := some t } } : State).upComplete t
  else s

end Sys2Proof.Machine
end

