-- ==== Sys2Proof/Machine/Host.lean ====
section
/-! DEFINITION. The host ports: frames, sessions, authentication, reads and writes of the management space, quoins
(R33 to R51, spec/02_host_access.md). -/

namespace Sys2Proof.Machine

/-- A frame is discarded without reply. -/
def State.discardFrame (s : State) (p : Nat) : State :=
  (if p = 0 then s.bump R.HP_DISCARD_CNT_PORT_A else s.bump R.HP_DISCARD_CNT_PORT_B).wr R.HP_FLAGS_DISCARD_SEEN 1

/-! ### Sessions (R44 to R49) -/

/-- OPEN: the lowest free session number, a fresh nonce (R44, R45). -/
def State.hpOpen (s : State) (f : Frame) : State :=
  let p := (framePort f)
  let free := (List.range 9).find? fun n => n != 0 && !(s.hp.sessions.any fun x => x.number == n)
  match free with
  | some n =>
    if 4 ≤ (s.hp.sessions.filter fun x => x.port == p).length then s.send p (replyTo f 0 none { status := stBusy })
    else
      let (nonce, s1) := s.drawNonce
      let x : Session := { number := n, port := p, slot := f.arg.toNat, modNonce := nonce, last := f.t,
                           hostNonce := ((f.payload.take 4).flatMap wordBytes ++ List.replicate 16 0).take 16 }
      (s1.setHp { s1.hp with sessions := s1.hp.sessions ++ [x] }).send p
        (replyTo f n none { status := stChallenge, payload := wordsFromBytes nonce })
  | none => s.send p (replyTo f 0 none { status := stBusy })

/-- The credential slot `k` (R44). -/
def State.cred (s : State) (k : Nat) : Option Cred := s.hp.creds[k]?

/-- The proof of a handshake. -/
def proofOf (key : List Byte) (x : Session) : List Byte := hmac key (x.hostNonce ++ x.modNonce ++ leBytes x.number 2)

/-- Whether a proof verifies for a handshake. -/
def State.proves (s : State) (x : Session) (f : Frame) : Bool :=
  match s.cred x.slot with
  | some c => proofOf c.key x == f.payload.flatMap wordBytes
  | none => false

/-- Q31 is held by the verification for exactly 20 µs (R46). -/
def State.verifyStart (s : State) (x : Session) (t : Nat) : State :=
  let s1 := s.setHp { s.hp with verifyUntil := some (t + 20000) }
  ((s1.wr R.HP_QUOIN_HELD 1 31).wr R.HP_QUOIN_PORT x.port 31).wr R.HP_QUOIN_SESSION x.number 31

/-- PROOF_VERIFY_END. -/
def State.verifyEnd (s : State) (t : Nat) : State :=
  match s.hp.verifyUntil with
  | some u => if u ≤ t then (s.setHp { s.hp with verifyUntil := none }).wrWord (R.HP_QUOIN_HELD.addr 31) 0 else s
  | none => s

/-- Owner of a quoin as ARG names it (R41). -/
def State.quoinOwner (s : State) (q : Nat) : Nat := 256 * s.rd R.HP_QUOIN_PORT q + s.rd R.HP_QUOIN_SESSION q

/-- Whether Q31 is held at `t`. -/
def State.verifying (s : State) (t : Nat) : Bool :=
  match s.hp.verifyUntil with
  | some u => decide (t < u)
  | none => false

/-- AUTH: the handshake of the port and slot whose proof verifies becomes a session; otherwise the latest one of them ends
(R44, R46, R47). -/
def State.hpAuth (s : State) (f : Frame) : State :=
  let p := (framePort f)
  let k := f.arg.toNat
  let hs := s.hp.sessions.filter fun x => x.port == p && !x.isOpen && x.slot == k
  if s.verifying f.t then s.send p (replyTo f 0 none { status := stBusy, arg := s.quoinOwner 31 })
  else
    match hs.find? (fun x => s.proves x f) with
    | some x =>
      let c := (s.cred k).getD {}
      let y := { x with isOpen := true, key := hmac c.key (x.modNonce ++ x.hostNonce), role := c.role, lastSeq := 0, reply := none,
                        last := f.t }
      ((s.putSession y).verifyStart x f.t).send p (replyTo f x.number none { status := stOk })
    | none =>
      match hs.getLast? with
      | none => s.send p (replyTo f 0 none { status := stNoSession })
      | some x =>
        let s1 := (s.closeSession p x.number).verifyStart x f.t
        let s2 := if p = 0 then (s1.bump R.HP_AUTH_FAIL_CNT_PORT_A).wr R.HP_FLAGS_AUTH_FAIL_A 1
          else (s1.bump R.HP_AUTH_FAIL_CNT_PORT_B).wr R.HP_FLAGS_AUTH_FAIL_B 1
        (s2.record .hp 0x0101 [byte p, byte k] f.t).send p (replyTo f x.number none { status := stAuthFail })

/-- HANDSHAKE_LAPSE: no AUTH within 1 s. -/
def State.handshakeLapse (s : State) (p n t : Nat) : State :=
  match s.session p n with
  | some x => if !x.isOpen && decide (x.last + 1000000000 ≤ t) then s.closeSession p n else s
  | none => s

/-- SESSION_TIMEOUT: no valid frame for SESS_TIMEOUT seconds. -/
def State.sessionTimeout (s : State) (p n t : Nat) : State :=
  match s.session p n with
  | some x =>
    if x.isOpen && decide (x.last + 1000000000 * s.rd R.HP_NET_CFG_SESS_TIMEOUT ≤ t) then s.closeSession p n else s
  | none => s

/-! ### Reads and writes (R40 to R43) -/

/-- The addresses of `n` words. -/
def wordsFrom (a n : Nat) : List Nat := (List.range n).map fun k => a + 4 * k

/-- READ of `n` words at `a` by port `p`. -/
def State.hostRead (s : State) (p a n t : Nat) : State × Answer :=
  let as := wordsFrom a n
  if !as.all mapped then (s, { status := stBadAddr })
  else if as.any (fun x => s.inReset x t) then (s, { status := stTargetReset })
  else
    let ws := as.map fun x => s.view (some p) x t
    (as.foldl (fun s x => s.readEffect x t) s, { status := stOk, payload := ws })

/-- Whether a session holds the quoin that guards an address. -/
def State.holdsQuoin (s : State) (x : Session) (a : Nat) : Bool :=
  match quoinOf a with
  | none => true
  | some q => s.rd R.HP_QUOIN_HELD q == 1 && s.rd R.HP_QUOIN_PORT q == x.port && s.rd R.HP_QUOIN_SESSION q == x.number

/-- Whether an address belongs to UP_HX_WIN. -/
def hxAddr (a : Nat) : Bool := decide (0x191000 ≤ a ∧ a < 0x191400)

/-- A WRITE's data for the container store: the index of its first word there, and the words. -/
def hxPart (ws : List (Nat × Word)) : Option (Nat × List Word) :=
  match ws.filter (fun c => hxAddr c.1) with
  | [] => none
  | c :: r => some ((c.1 - 0x191000) / 4, (c :: r).map (·.2))

/-- WRITE of words by a session: the checks of R42, then the words in ascending order; a target that is in its reset, or the
store while it is locked, stops it with TARGET_RESET. -/
def State.hostWrite (s : State) (x : Session) (a : Nat) (ws : List Word) (t : Nat) : State × Answer :=
  let cs := (wordsFrom a ws.length).zip ws
  let put := (hxPart cs).map fun h => s.hostPut h.1 h.2 t
  let locked := s.rd R.UP_STATE_LOCK == 1
  let stop (i : Nat) : Bool := match cs[i]? with
    | some c => s.inReset c.1 t || (locked && hxAddr c.1)
    | none => false
  let hxBad := !locked && (match put with
    | some r => !r.2
    | none => false)
  if !cs.all (fun c => mapped c.1) then (s, { status := stBadAddr })
  else if !cs.all (fun c => s.holdsQuoin x c.1) then (s, { status := stQuoin })
  else if cs.any fun c => s.modeRefuses c.1 c.2 then (s, { status := stMode })
  else if cs.any fun c => roleRefuses x.role c.1 c.2 then (s, { status := stRole })
  else if cs.any fun c => s.valueRefuses c.1 c.2 then (s, { status := stBadAddr })
  else if hxBad then ((put.map (·.1)).getD s, { status := stMode })
  else
    let n := ((List.range cs.length).find? stop).getD cs.length
    let todo := cs.take n
    let s1 := (todo.filter fun c => !hxAddr c.1).foldl (fun (s : State) c => s.hostStore (.host x.port x.number) c.1 c.2 t) s
    let s2 := match hxPart todo with
      | some h => (s1.hostPut h.1 h.2 t).1
      | none => s1
    (s2.scopeClamp (todo.map (·.1)), if n < cs.length then { status := stTargetReset, arg := n } else { status := stOk })

/-- The word WRITE_MASKED starts from, field by field (R40). -/
def State.oldWord (s : State) (p a t : Nat) : Word :=
  let v := s.view (some p) a t
  match laneWindow a with
  | some _ => v
  | none =>
    match blockOf a with
    | none => v
    | some b =>
      let r := if laneAddr a then s.front.rf else s.rf
      (fieldsAt b a).foldl (fun w f => match f.acc with
        | .rws => f.ins w (f.ext (r.shadowWord a))
        | .w1c => f.ins w 0
        | .wo => f.ins w 0
        | _ => w) v

/-- WRITE_MASKED. -/
def State.hostMasked (s : State) (x : Session) (a : Nat) (mask data : Word) (t : Nat) : State × Answer :=
  let old := s.oldWord x.port a t
  s.hostWrite x a [(old &&& ~~~mask) ||| (data &&& mask)] t

/-! ### Quoins (R50) -/

def State.quoinHeld (s : State) (q : Nat) : Bool := s.rd R.HP_QUOIN_HELD q == 1
def State.quoinMine (s : State) (x : Session) (q : Nat) : Bool := s.quoinHeld q && s.quoinOwner q == 256 * x.port + x.number
def State.quoinFree (s : State) (q : Nat) : State := s.wrWord (R.HP_QUOIN_HELD.addr q) 0

/-- QLOCK. -/
def State.qlock (s : State) (x : Session) (q : Nat) : State × Answer :=
  if 31 ≤ q then (s, { status := stBadAddr })
  else if s.quoinMine x q then (s, { status := stOk })
  else if s.quoinHeld q then (s, { status := stBusy, arg := s.quoinOwner q })
  else (((s.wr R.HP_QUOIN_HELD 1 q).wr R.HP_QUOIN_PORT x.port q).wr R.HP_QUOIN_SESSION x.number q, { status := stOk })

/-- QRELEASE. -/
def State.qrelease (s : State) (x : Session) (q : Nat) : State × Answer :=
  if 31 ≤ q then (s, { status := stBadAddr })
  else if s.quoinMine x q then (s.quoinFree q, { status := stOk })
  else (s, { status := stQuoin })

/-- Port and session in one byte of a record: bit 4 the port, bits [3:0] the session. -/
def portSession (owner : Nat) : Byte := byte (owner / 256 * 16 + owner % 16)

/-- QBREAK. -/
def State.qbreak (s : State) (x : Session) (q t : Nat) : State × Answer :=
  if 31 ≤ q then (s, { status := stBadAddr })
  else
    let d := [byte q, portSession (256 * x.port + x.number), portSession (s.quoinOwner q)]
    if s.quoinHeld q then
      (((s.quoinFree q).wr R.HP_FLAGS_QBREAK_SEEN 1).record .hp 0x0102 d t, { status := stOk })
    else (s, { status := stOk })

/-! ### Requests in a session (R39, R48) -/

/-- The command of a request, after the SEQ rule and the role. -/
def State.perform (s : State) (x : Session) (f : Frame) : State × Answer :=
  let c := (frameCmd f)
  let a := f.address.toNat
  let q := f.arg.toNat
  if c = 0x10 then s.hostRead x.port a f.count.toNat f.t
  else if c = 0x11 then s.hostWrite x a f.payload f.t
  else if c = 0x12 then s.hostMasked x a f.arg (f.payload.getD 0 0) f.t
  else if c = 0x20 then s.qlock x q
  else if c = 0x21 then s.qrelease x q
  else if c = 0x22 then s.qbreak x q f.t
  else (s, { status := stOk })

/-- What waits for the reply of a request: a reset of HP, a restart. -/
def State.afterReply (s : State) (t : Nat) : State :=
  let s1 := if s.hp.resetAfterReply then (s.hpReset .cold).resetting .hp t else s
  match s1.hp.restart with
  | some w =>
    let s2 : State := { s1 with hp := { s1.hp with restart := none } }
    if s2.pwState = psHoldup then s2 else s2.restart w t
  | none => s1

/-- The SEQ rule admits the request: it is carried out and is in service until its reply leaves. CLOSE, and a request with a
reset or a restart behind its reply, end their service at once. -/
def State.served (s : State) (x : Session) (f : Frame) : State :=
  let r : State × Answer := match cmdRole (frameCmd f) with
    | none => (s, { status := stBadCmd })
    | some k => if x.role < k then (s, { status := stRole }) else s.perform x f
  let rep := replyTo f x.number (some x.key) r.2
  let now := frameCmd f == 0x03 || r.1.hp.resetAfterReply || r.1.hp.restart.isSome
  let words := if frameCmd f = 0x10 then f.count.toNat else if frameCmd f = 0x11 then f.payload.length
    else if frameCmd f = 0x12 then 1 else 0
  let v : Serving := { seq := f.seq.toNat, frame := f, words := words, reply := rep, until_ := f.t + (if now then 0 else Config.serviceTime x.port f.t) }
  let s1 := (r.1.putSession { x with serving := some v }).repliesDue f.t
  let s2 := if (frameCmd f) = 0x03 then s1.closeSession x.port x.number else s1
  s2.afterReply f.t

/-- A request of session `x` whose replies due have left: the SEQ rule. While a request is in service a copy of it and the request
that follows it are answered BUSY (R48). -/
def State.serveSeq (s : State) (x : Session) (f : Frame) : State :=
  let q := f.seq.toNat
  let p := x.port
  let y := { x with last := f.t }
  let s0 := s.putSession y
  let busy := match x.serving with
    | some v => q == v.seq || q == (v.seq + 1) % 65536
    | none => false
  if busy then s0.send p (replyTo f x.number (some x.key) { status := stBusy })
  else if q = x.lastSeq ∧ x.reply.isSome = true then
    match x.reply with
    | some r => s0.send p r
    | none => s0
  else if q = (x.lastSeq + 1) % 65536 ∧ x.serving = none then s0.served y f
  else s0.send p (replyTo f x.number (some x.key) { status := stSeq })

/-- A request that passed R39 in an open session. -/
def State.serve (s : State) (x : Session) (f : Frame) : State :=
  let s1 := s.repliesDue f.t
  match s1.session x.port x.number with
  | some y => s1.serveSeq y f
  | none => s1

/-- Whether a datagram is a request (R34): it passes the checks of R39 and is not answered NO_SESSION. -/
def State.isRequest (s : State) (f : Frame) : Bool :=
  frameOk f && (frameCmd f == 0x01 ||
    (if frameCmd f = 0x02 then
       s.verifying f.t || s.hp.sessions.any fun x => x.port == framePort f && !x.isOpen && x.slot == f.arg.toNat
     else match s.session (framePort f) f.session.toNat with
       | some x => x.isOpen && requestMac x.key f == f.mac
       | none => false))

/-- Whether R39 discards a datagram that passed its form: a request of an open session whose MAC does not verify. -/
def State.badMac (s : State) (f : Frame) : Bool :=
  frameCmd f != 0x01 && frameCmd f != 0x02 && (match s.session (framePort f) f.session.toNat with
    | some x => x.isOpen && requestMac x.key f != f.mac
    | none => false)

/-- A whole datagram on a host port (R39). The frame that wakes the module is itself discarded (R469); the wake is WAKE_LATCH. -/
def State.hostGo (s : State) (f : Frame) : State :=
  let p := (framePort f)
  if !frameOk f then s.discardFrame p
  else if s.wakesOn (4 + p) && !s.badMac f then s
  else if (frameCmd f) = 0x01 then s.hpOpen f
  else if (frameCmd f) = 0x02 then s.hpAuth f
  else
    match s.session p f.session.toNat with
    | none => s.send p (replyTo f f.session.toNat none { status := stNoSession })
    | some x =>
      if !x.isOpen then s.send p (replyTo f f.session.toNat none { status := stNoSession })
      else if requestMac x.key f != f.mac then s.discardFrame p
      else s.serve x f

/-- A datagram on a host port. Of two requests that complete reception in the same cycle the one of the port HP_TIE.NEXT
names is served first, whichever arrives here first, and HP_TIE.NEXT then names the other port (R34). -/
def State.hostFrame (s : State) (f : Frame) : State :=
  let p := framePort f
  if !frameTaken f then s
  else if !(f.tie && s.isRequest f) then s.hostGo f
  else
    match s.hp.tieHeld with
    | some g => ((((s.setHp { s.hp with tieHeld := none }).wr R.HP_TIE_NEXT (1 - p)).hostGo f)).hostGo g
    | none =>
      if s.hp.tieRest then (s.setHp { s.hp with tieRest := false }).hostGo f
      else if s.rd R.HP_TIE_NEXT = p then ((s.setHp { s.hp with tieRest := true }).wr R.HP_TIE_NEXT (1 - p)).hostGo f
      else s.setHp { s.hp with tieHeld := some f }

/-- A frame that carries a command: the frame's own code is the command's, or one that no command has (R39). -/
def State.hostCommand (s : State) (code : Nat) (f : Frame) : State :=
  if frameCmd f = code ∨ (cmdRole (frameCmd f) = none ∧ frameCmd f ≠ 0x01 ∧ frameCmd f ≠ 0x02) then s.hostFrame f else s

/-! ### ARP and echo (R36) -/

/-- An ARP or echo request to the port's own address, untagged and whole, is answered to its sender, on its port. -/
def State.hostAnswer (s : State) (arp : Bool) (p : Nat) (q : PortAsk) (tagged : Bool) : State :=
  let own := if p = 0 then s.rd R.HP_A_ADDR_ADDR else s.rd R.HP_B_ADDR_ADDR
  let a : PortAnswer := { arp := arp, dst := q.source, mac := q.mac, echo := if arp then [] else q.echo }
  if !tagged && !q.fragment && q.target.toNat == own then s.setHp { s.hp with answers := NMap.put s.hp.answers p a }
  else s

end Sys2Proof.Machine
end

