-- ==== Sys2Proof/Machine/Run.lean ====
section
/-! DEFINITION. What stands around every command: a module without power takes none, stopped lanes change in none, and what
follows any change (a STOP a fault asked for, UNPAIRED, the redundancy unit's following, the hold store) is carried out. -/

namespace Sys2Proof.Machine

/-- A STOP that ON_FAULT asked for is a request of R176 (R167); a discarded unpaired release shows (R253). -/
def State.lift (s : State) : State :=
  let ls := s.servingLanes.map s.lane
  let stop := ls.any fun l => l.stopReq
  let un := ls.any fun l => l.unpaired
  if !(stop || un) then s
  else
    let s1 := s.servingLanes.foldl (fun s x => s.setLane x { s.lane x with stopReq := false, unpaired := false }) s
    let s2 := if un then s1.wr R.VT_FLAGS_UNPAIRED 1 else s1
    if stop then s2.modeReq mdStop else s2

/-- While the start-up runs, the instant at which no STARTUP activation is pending any more is kept (R174). -/
def State.noteStart (s : State) (t : Nat) : State :=
  if s.startup && s.up.ready && s.up.startEnd.isNone && !s.servingLanes.isEmpty &&
      s.front.used.all (fun n => !(s.front.tkKind n == kStartup && s.front.isPending n)) then
    { s with up := { s.up with startEnd := some t } }
  else s

/-- What follows every command at `t`. -/
def State.settle (s : State) (t : Nat) : State := ((((((s.lift).noteStart t).repliesDue t).rdFollow t).holdCheck t).fbReady t).pwChanged t

/-- The lanes stay as they were while they are stopped: HOLDUP, or retained in SLEEP (R463, R467). An entry into SAFE cancels their
pending activations there too (R265). Their staging is the recorder's, which goes on (R455). -/
def State.keepLanes (s0 s : State) : State :=
  if s0.pw.frozen && s.pw.frozen && (s0.isSafe || !s.isSafe) then
    { s with la := { s0.la with staging := s.la.staging }, lb := { s0.lb with staging := s.lb.staging },
             lc := { s0.lc with staging := s.lc.staging } }
  else s

/-- A command acts on everything but the queue of the commands that wait. -/
def State.keepQueue (s0 s : State) : State := { s with pending := s0.pending }

/-- A command of the host access unit, the boot and update unit, the panel or the supply, with its happening at `t`: these run in
RECOVERY too (R505). -/
def State.runHost (s : State) (t : Nat) (f : State → State) : State :=
  if s.pw.off then s else State.keepQueue s ((State.keepLanes s (f (s.now t))).settle t)

/-- A command of another block with its happening at `t`; in RECOVERY it has no effect (R505). -/
def State.run (s : State) (t : Nat) (f : State → State) : State :=
  if s.recovering then s else s.runHost t f

/-- A happening of a part that does not run in SLEEP (R468). -/
def State.runAwake (s : State) (t : Nat) (f : State → State) : State :=
  s.run t fun s => if s.pwState = psSleep then s else f s

/-- A happening of lanes and voter, which stand still in SLEEP and in HOLDUP (R463, R467). -/
def State.runLive (s : State) (t : Nat) (f : State → State) : State :=
  s.run t fun s => if s.pw.frozen then s else f s

/-- A happening at channel `c`: in SLEEP only the DI channels of the groups of WAKE_GRP sample, and every other channel is as in OFF
(R468). -/
def State.runChan (s : State) (c t : Nat) (f : State → State) : State :=
  s.run t fun s => if s.samples c then f s else s

/-- A happening the always-on section of the Line Gauge takes part in, whether or not the module has power (R198). -/
def State.runAlways (s : State) (t : Nat) (f : State → State) : State :=
  if s.pw.off || s.recovering then State.keepQueue s (f (s.now t)) else s.run t f

/-- An operation of the lanes in lockstep, at the local time of the latest happening. -/
def State.engineDo (s : State) (g : Lane → Lane) : State :=
  if s.pw.off || s.pw.frozen || s.recovering then s else State.keepQueue s ((s.onLanes g).settle s.lt)

/-- Whether engine `e` of a lane decodes instruction `c`: the words at PC spell it (R76, R90). Beyond the code store there is no
word to decode, and the fetch faults. -/
def Lane.stands (l : Lane) (e : EngId) (c : Instr) : Bool :=
  let pc := (l.engine e).r.pc.toNat
  decide (codeWords ≤ pc) || decodeCode e (l.word (4 * pc)) (l.word (4 * (pc + 1))) == some c

/-- The lanes whose engine `e` has come to instruction `c` carry it out. -/
def State.codeOp (s : State) (c : Instr) (e : EngId) (g : Lane → Lane) : State :=
  s.engineDo fun l => if l.stands e c then g l else l

/-- A Format M instruction on engine `e` with a base count (R77, R82). -/
def State.memOp (s : State) (c : Instr) (e : EngId) (o : MOp) (cyc : Nat) (b : Body) : State :=
  s.codeOp c e fun l => l.instr s.phase e s.lt (opLen o) (cyc + (opLen o - 1)) b

/-- An instruction of one code word on engine `e`. -/
def State.regOp (s : State) (c : Instr) (e : EngId) (cyc : Nat) (b : Body) : State :=
  s.codeOp c e fun l => l.instr s.phase e s.lt 1 cyc b

/-- A waiting instruction on engine `e` reaches its request (R139). -/
def State.waitOp (s : State) (c : Instr) (e : EngId) (req : Lane → Eng → Except Flt WaitReq) : State :=
  s.codeOp c e fun l => l.request s.phase e s.lt req

/-! ### Engine words without an instruction (R79) -/

/-- The fetch of an unassigned word, or beyond the code store. -/
def Lane.unassigned (l : Lane) (ph : Phase) (e : EngId) (t : Nat) (w : Word) : Lane :=
  let pc := (l.engine e).r.pc.toNat
  if codeWords ≤ pc ∨ (l.word (4 * pc) = w ∧ (decodeCode e w 0).isNone) then l.instr ph e t 1 1 illegalBody else l

/-! ### Conversions (R126) and stamps (R136) -/

def convSx8 (r : Regs) : Regs := convResult ((r.acc1.setWidth 8).signExtend 32) false r
def convSx16 (r : Regs) : Regs := convResult ((r.acc1.setWidth 16).signExtend 32) false r
def convZx8 (r : Regs) : Regs := convResult (r.acc1 &&& 0xFF#32) false r
def convZx16 (r : Regs) : Regs := convResult (r.acc1 &&& 0xFFFF#32) false r
def convSat16 (r : Regs) : Regs := satResult (-32768) 32767 r.acc1.toInt r
def convSatu16 (r : Regs) : Regs := satResult 0 65535 r.acc1.toInt r
def convSx48 (r : Regs) : Regs := { r with acc2 := (r.acc2.setWidth 16).signExtend 32 }
def convBsw32 (r : Regs) : Regs := convResult (byteSwap r.acc1) false r
def convBsw16 (r : Regs) : Regs :=
  convResult (bytesWord (r.acc1.extractLsb' 8 8) (r.acc1.extractLsb' 0 8) 0 0) false r
def convSat64 (r : Regs) : Regs := satResult (-2147483648) 2147483647 (r.acc2 ++ r.acc1).toInt r

def stampLt (a : Act) : Nat × Bool := (a.start, true)
def stampTt (a : Act) : Nat × Bool := (a.gauge.tt, a.gauge.ttLocked)
def stampP (a : Act) : Nat × Bool := (fromSigned 64 a.gauge.p, a.gauge.pRef)
def stampD (a : Act) : Nat × Bool := (a.gauge.d, a.gauge.dFull)
def stampPh (a : Act) : Nat × Bool := (a.gauge.phi % 65536, a.gauge.phPresent)
def stampSpd (a : Act) : Nat × Bool := (fromSigned 64 a.gauge.speed, a.gauge.pRef || a.gauge.dFull)

/-! ### Memory errors and the scrubber (R88) -/

/-- An error arises in the word at address `a`. -/
def Lane.memError (l : Lane) (a : Nat) (uncorr : Bool) : Lane :=
  let b := a / 4 * 4
  if 0x03C00000 ≤ b then l
  else if uncorr then { l with ecc1 := l.ecc1.filter (· != b), ecc2 := if l.ecc2.contains b then l.ecc2 else l.ecc2 ++ [b] }
  else if l.ecc1.contains b || l.ecc2.contains b then l else { l with ecc1 := l.ecc1 ++ [b] }

/-- The scrubber corrects a single-bit error. -/
def Lane.scrubOne (l : Lane) (a : Nat) : Lane :=
  if l.ecc1.contains a then ({ l with ecc1 := l.ecc1.filter (· != a) } : Lane).corrected else l

/-! ### Base ticks and decisions (R155, R160, R163, R241) -/

/-- The cyclic tasks due at tick `k` are released. -/
def Lane.cyclicTick (l : Lane) (ph : Phase) (k t : Nat) : Lane :=
  l.used.foldl (fun l n =>
    if l.tkKind n == kCyclic && ((k : Int) - l.tkOffset n) % (l.tkPeriod n : Int) == 0 then (l.releaseOwn ph n t).1 else l) l

/-- BASE_TICK at `t`. Before tick 0 both masks stay all ones. In the entry into SLEEP nothing is released (R467); the beats go
on (R241). -/
def State.baseTick (s : State) (volt power loss t : Nat) : State :=
  let s1 := s.caddyTick volt power loss t
  if s1.pw.frozen then s1
  else match s1.nw.tick0 with
  | none => s1.onLanes fun l => { l with admitEnergy := 0xFFFF, admitHeat := 0xFFFF }
  | some t0 =>
    let k := (t - t0) / 125000
    let s2 := s1.onLanes fun l => (l.wr R.TSK_TICK_TICK (k % 2 ^ 32) 0).wr R.TSK_TICK_TICK (k / 2 ^ 32) 1
    let ph := s2.phase
    (if s2.pwState = psEntering then s2 else s2.onLanes fun l => l.cyclicTick ph k t).beats k

/-- DISPATCH_DECISION at a dispatch point stamped `t`: pending TSK and EVT sets take effect first (R178, R182). The lead lane
decides, every serving lane carries the decision out, 4 cycles later (R18, R160). In the entry into SLEEP no activation starts
and none resumes (R467). -/
def State.dispatchAt (s : State) (t : Nat) : State :=
  let s1 := (s.setApply .tsk t).setApply .evt t
  if s1.pwState = psEntering then s1
  else
    let cs := s1.front.choices s1.phase t
    s1.onLanes fun l => l.decide_ cs (t + 8)

/-- EVENT_DELIVERY at `t`: the lead lane selects, every serving lane applies its delivery (R18, R185). -/
def State.eventAt (s : State) (t : Nat) : State :=
  match s.front.selectEvent s.phase t with
  | some n => s.onLanes fun l => l.deliverEvent s.phase n t
  | none => s

/-- The activation on engine `e` has retired its BUDGET (R166, R167). -/
def Lane.budgetCancel (l0 : Lane) (ph : Phase) (e t : Nat) : Lane :=
  let l := l0.takeInputs e
  let g := l.engine e
  let n := g.task
  if g.st == .run && decide (0 < l.tkBudget n ∧ l.tkBudget n ≤ g.act.retired) then
    Lane.mirrorPair l ((l.stopActivation e t crCancel leBudget).afterFault ph n t 0 true) e
  else l

/-! ### Forme cycles and field samples beside SLEEP -/

/-- CYCLE_START: a pending FB set takes effect; in SLEEP and HOLDUP the controller parks (R355, R366). -/
def State.cycleStart (s : State) (t : Nat) : State := (s.setApply .fb t).fbCycleStart t

/-- FIELD_SAMPLE: in SLEEP only the groups of WAKE_GRP are supplied and sampled (R471). -/
def State.fieldAt (s : State) (g : Nat) (ug ig : Int) (rail : Nat) (mvs mas : List Int) (cool : BitVec 16) (t : Nat) : State :=
  if s.pwState = psSleep && !(s.rd R.PW_WAKE_GRP).testBit g then s
  else (s.fieldSample g ug ig rail mvs mas cool t).switchMargins g ug mvs mas t

/-! ### Always-on section, PD copies -/

/-- AO_SUPPLY_LOST: the always-on section loses its supply and what it counts (R216). -/
def State.aoLost (s : State) : State := { s with lg := { s.lg with aoLost := true } }

/-- A copy that names the entry LEASE_PD_RX goes to the redundancy unit: a lease message of 32 bytes (R433, R434). -/
def State.leaseCopy (s : State) (pl : Nat) (c : PdCopy) (t : Nat) : State :=
  if s.pw.frozen || pdMalformed c || !s.topoOk c.etb c.optrn || !s.leaseNames pl c then s
  else if c.dsLen ≠ 32 then s.rxDiscard
  else s.leaseReceive (leaseOf c.data) t

/-- PD_COPY_RECEIVED with the comparison pairs its entries belong to and the lease message it may carry (R391, R433, R444). -/
def State.pdCopyAt (s : State) (pl : Nat) (c : PdCopy) (t : Nat) : State :=
  let r := s.pdCopy pl c t
  (r.1.pairCopies r.2 c (usAfter t)).leaseCopy pl c t

/-! ### Host reads by port -/

/-- The port of a fetch. -/
def State.fetchAt (s : State) (p : Port) : State := s.erFetch (portNo p)

end Sys2Proof.Machine
end

