-- ==== Sys2Proof/Machine/ExecBridge.lean ====
section
/-! DEFINITION. The commands of the rack bus bridge (spec/16_rack_bridge.md). -/

namespace Sys2Proof.Machine

/-- The bridge takes the next queued request and requests the bus (R424). -/
def execSrbRequestStart (t : Nat) (s : State) : Host.Outcome State Fault Refusal :=
  .next (s.runAwake t fun s => s.brStart t)

/-- The bus is granted and the address phase driven (R419). -/
def execSrbGrant (reqs : BitVec 4) (t : Nat) (s : State) : Host.Outcome State Fault Refusal :=
  .next (s.runAwake t fun s => s.brGrant reqs t)

/-- The target answers with ready or error and the result is delivered (R420). -/
def execSrbAnswer (err : Bool) (ad : Word) (t : Nat) (s : State) : Host.Outcome State Fault Refusal :=
  .next (s.runAwake t fun s => s.brAnswer err ad t)

/-- No answer within TMO ends the transaction with TIMEOUT (R420). -/
def execSrbAnswerTimeout (t : Nat) (s : State) : Host.Outcome State Fault Refusal :=
  .next (s.runAwake t fun s => s.brAnswerTimeout t)

/-- No grant within ARB_TMO completes the request with TIMEOUT (R419). -/
def execSrbArbTimeout (t : Nat) (s : State) : Host.Outcome State Fault Refusal :=
  .next (s.runAwake t fun s => s.brArbTimeout t)

/-- SRB_RST_N asserted ends a transaction and makes the bridge not ready (R429). -/
def execSrbReset (t : Nat) (s : State) : Host.Outcome State Fault Refusal :=
  .next (s.run t fun s => s.brReset t)

/-- The bridge becomes ready 1 ms after reset release with a running clock (R418). -/
def execSrbReady (t : Nat) (s : State) : Host.Outcome State Fault Refusal :=
  .next (s.run t fun s => s.brBecomesReady t)

/-- A missing SRB clock makes the bridge not ready (R418). -/
def execSrbClockLost (t : Nat) (s : State) : Host.Outcome State Fault Refusal :=
  .next (s.run t fun s => s.brClockLost t)

/-- An enabled rack interrupt line going low raises its source (R431). -/
def execSrbIrq (k : Fin 4) (t : Nat) (s : State) : Host.Outcome State Fault Refusal :=
  .next (s.run t fun s => s.brIrq k t)

end Sys2Proof.Machine
end

