-- ==== Sys2Proof/Machine/ExecCan.lean ====
section
/-! DEFINITION. The commands of the CAN controllers (spec/15_can.md). -/

namespace Sys2Proof.Machine

/-- A received CAN frame goes to a buffer, PDO or the FIFO, or is discarded (R406). The frame that wakes the module is discarded
(R469), and in SLEEP, where a controller only listens for one, no other reaches a buffer (R468). -/
def execCanFrameReceived (c : Fin 4) (w : List Word) (dataOk : Bool) (t : Nat) (s : State) : Host.Outcome State Fault Refusal :=
  .next (s.runAwake t fun s => if dataOk && s.wakesOn 7 && s.rd R.CN_CTRL_EN c == 1 then s else s.canReceive c w dataOk t)

/-- Rate detection moves to the next candidate (R404). -/
def execRateCandidateTimeout (c : Fin 4) (t : Nat) (s : State) : Host.Outcome State Fault Refusal :=
  .next (s.runAwake t fun s => s.candTimeout c t)

/-- A host read of buffer word 0 locks the window (R408). -/
def execHbufLockRead (c : Fin 4) (b : Fin 64) (t : Nat) (s : State) : Host.Outcome State Fault Refusal :=
  .next (s.run t fun s => s.hbufLock c b t)

/-- A host read of word 17 releases the lock (R408). -/
def execHbufReleaseRead (c : Fin 4) (b : Fin 64) (t : Nat) (s : State) : Host.Outcome State Fault Refusal :=
  .next (s.run t fun s => s.hbufRelease c b)

/-- A buffer lock lapses after 10 ms (R408). -/
def execHbufLockTimeout (c : Fin 4) (b : Fin 64) (t : Nat) (s : State) : Host.Outcome State Fault Refusal :=
  .next (s.run t fun s => s.hbufTimeout c b t)

/-- A frame is transmitted successfully and leaves its buffer (R409). -/
def execCanTxComplete (c : Fin 4) (b : Option (Fin 64)) (t : Nat) (s : State) : Host.Outcome State Fault Refusal :=
  .next (s.runAwake t fun s => s.canTxComplete c (b.map Fin.val) t)

/-- A frame loses arbitration or meets an error and is retried (R409). -/
def execCanTxError (c : Fin 4) (b : Option (Fin 64)) (arb : Bool) (t : Nat) (s : State) : Host.Outcome State Fault Refusal :=
  .next (s.runAwake t fun s => s.canTxError c (b.map Fin.val) arb t)

/-- The bus-off delay ends and recovery begins (R411). -/
def execBusOffDelayEnd (c : Fin 4) (t : Nat) (s : State) : Host.Outcome State Fault Refusal :=
  .next (s.runAwake t fun s => s.busOffDelayEnd c t)

/-- Recovery completes and the controller is error-active (R411). -/
def execBusOffReturn (c : Fin 4) (t : Nat) (s : State) : Host.Outcome State Fault Refusal :=
  .next (s.runAwake t fun s => s.busOffReturn c t)

/-- A timed frame's target is reached and it becomes pending (R410). -/
def execCtxtDue (c : Fin 4) (b : Fin 64) (t : Nat) (s : State) : Host.Outcome State Fault Refusal :=
  .next (s.runAwake t fun s => s.ctxtDue c b t)

/-- A timed frame not in progress by its late limit is removed (R410). -/
def execCtxtMissed (c : Fin 4) (b : Fin 64) (t : Nat) (s : State) : Host.Outcome State Fault Refusal :=
  .next (s.runAwake t fun s => s.ctxtMissed c b t)

/-- An RX PDO without a frame for TMR is timed out (R414). -/
def execPdoTimeout (c : Fin 4) (b : Fin 64) (t : Nat) (s : State) : Host.Outcome State Fault Refusal :=
  .next (s.runAwake t fun s => s.pdoTimeout c b t)

/-- A TX PDO event timer queues its frame (R415). -/
def execPdoEventTimer (c : Fin 4) (b : Fin 64) (t : Nat) (s : State) : Host.Outcome State Fault Refusal :=
  .next (s.runAwake t fun s => s.pdoTimer c b t)

/-- A queuing held by the inhibit interval takes place (R415). -/
def execPdoInhibitEnd (c : Fin 4) (b : Fin 64) (t : Nat) (s : State) : Host.Outcome State Fault Refusal :=
  .next (s.runAwake t fun s => s.pdoInhibitEnd c b t)

/-- A controller produces a SYNC frame every SYNC_PERIOD (R416). -/
def execSyncProduce (c : Fin 4) (t : Nat) (s : State) : Host.Outcome State Fault Refusal :=
  .next (s.runAwake t fun s => s.syncProduce c t)

/-- A controller detects an error on the bus while receiving, changing its error counters and, during rate detection, leaving its candidate (R404). -/
def execCanBusError (c : Fin 4) (eight : Bool) (t : Nat) (s : State) : Host.Outcome State Fault Refusal :=
  .next (s.runAwake t fun s => s.canBusError c eight t)

/-- A starting or reintegrating controller has seen 11 recessive bits and begins to take part in the bus (R403). -/
def execCanIntegration (c : Fin 4) (t : Nat) (s : State) : Host.Outcome State Fault Refusal :=
  .next (s.runAwake t fun s => s.canIntegrated c)

/-- A pending frame sends its SOF and is in progress from that bit (R409). -/
def execCanTxStart (c : Fin 4) (b : Option (Fin 64)) (t : Nat) (s : State) : Host.Outcome State Fault Refusal :=
  .next (s.runAwake t fun s => s.canTxStart c (b.map Fin.val))

end Sys2Proof.Machine
end

