-- ==== Sys2Proof/Machine/ExecChase.lean ====
section
/-! DEFINITION. The commands of the Safety Chase (spec/10_safety_chase.md). -/

namespace Sys2Proof.Machine

/-- The Chase samples every SAFE_IN against its thresholds and filter (R271). -/
def execChaseInputSample (i : Fin 32) (mv ug : Int) (t : Nat) (s : State) : Host.Outcome State Fault Refusal :=
  .next (s.runAwake t fun s => s.scSample i mv ug t)

/-- The Chase evaluates its equations, timers and latches and drives chase switches (R283). -/
def execChaseCycle (c : ChaseTick) (s : State) : Host.Outcome State Fault Refusal :=
  .next (s.runAwake c.t fun s => s.scCycle c.agree c.t)

/-- A group's test cycle begins and slot sources pulse off in turn (R274). -/
def execTestCycleStart (g : Fin 8) (t : Nat) (s : State) : Host.Outcome State Fault Refusal :=
  .next (s.runAwake t fun s => s.scTestCycle g t)

/-- Test-pulsed inputs are sampled before a pulse end for missed or foreign pulses (R276). -/
def execTestPulseSample (g : Fin 8) (slot : Fin 8) (highs : BitVec 4) (t : Nat) (s : State) : Host.Outcome State Fault Refusal :=
  .next (s.runAwake t fun s => s.scPulse g slot highs t)

/-- A SAFE_IN high for STUCK seconds is declared stuck (R273). -/
def execChaseInputStuck (i : Fin 32) (t : Nat) (s : State) : Host.Outcome State Fault Refusal :=
  .next (s.runAwake t fun s => s.scInputStuck i t)

/-- A SAFE_OUT switch is opened for DARK_W (R278). -/
def execDarkPulseStart (i : Fin 32) (t : Nat) (s : State) : Host.Outcome State Fault Refusal :=
  .next (s.runAwake t fun s => (s.scDarkStart i).chRefresh (scChannel i))

/-- At a dark pulse end the pin is checked and a stuck switch declared (R278). -/
def execDarkPulseEnd (i : Fin 32) (mv ug : Int) (t : Nat) (s : State) : Host.Outcome State Fault Refusal :=
  .next (s.runAwake t fun s => (s.scDarkEnd i mv ug t).chRefresh (scChannel i))

/-- A SAFE_OUT high for 1 ms with both switches open is declared EXT_POTENTIAL (R279). -/
def execExtPotential (i : Fin 32) (t : Nat) (s : State) : Host.Outcome State Fault Refusal :=
  .next (s.runAwake t fun s => s.scExtPotential i t)

/-- Chase and lane commands differing for 50 cycles set DISC (R285). -/
def execChaseDiscrepancy (i : Fin 32) (t : Nat) (s : State) : Host.Outcome State Fault Refusal :=
  .next (s.runAwake t fun s => s.scDisc i t)

/-- Restarts the Chase in TEST with table load and self-test (R287). -/
def execRetest (t : Nat) (s : State) : Host.Outcome State Fault Refusal :=
  .next (s.run t fun s => s.scRetest t)

/-- The Chase self-test ends, entering NORMAL, DEGRADED, HELD or EXPIRED (R287). -/
def execChaseSelftestEnd (pass : Bool) (t : Nat) (s : State) : Host.Outcome State Fault Refusal :=
  .next (s.runAwake t fun s => s.scTestEnd pass t)

/-- The loaded table CRC is rechecked and CORRUPT declared on mismatch (R284). -/
def execChaseCrcCheck (ok : Bool) (t : Nat) (s : State) : Host.Outcome State Fault Refusal :=
  .next (s.runAwake t fun s => if ok then s else s.scFault scCorrupt t)

/-- Three missing heartbeats cause a Chase fault (R287). -/
def execHeartbeatMiss (missing : Bool) (t : Nat) (s : State) : Host.Outcome State Fault Refusal :=
  .next (s.runAwake t fun s => s.scHeartbeat missing t)

/-- An injected reference read wrongly causes a Chase fault (R287). -/
def execChaseComparatorCheck (ok : Bool) (t : Nat) (s : State) : Host.Outcome State Fault Refusal :=
  .next (s.runAwake t fun s => if ok then s else s.scFault scComparator t)

/-- Degraded time reaching DEGR_MIN moves the Chase to EXPIRED (R287). -/
def execDegradedLimit (t : Nat) (s : State) : Host.Outcome State Fault Refusal :=
  .next (s.run t fun s => s.scLimitReached t)

/-- Degraded time reaching 80 % sets DEGR_WARN (R288). -/
def execDegradedWarn (t : Nat) (s : State) : Host.Outcome State Fault Refusal :=
  .next (s.run t fun s => s.scWarn t)

/-- Degraded time is written to flash every minute (R288). -/
def execDegradedTimeRecord (t : Nat) (s : State) : Host.Outcome State Fault Refusal :=
  .next (s.run t fun s => s.scRecordTime t)

/-- Clears latched terminal faults that meet their clearing conditions (R276). -/
def execClrFaults (t : Nat) (s : State) : Host.Outcome State Fault Refusal :=
  .next (s.run t fun s => s.scClear.allOut)

end Sys2Proof.Machine
end

