-- ==== Sys2Proof/Machine/ExecField.lean ====
section
/-! DEFINITION. The commands of the field channels (spec/11_field_digital.md, spec/12_field_analogue.md). -/

namespace Sys2Proof.Machine

/-- A group supply held 10 ms above 9.5 V makes the group powered (R298). -/
def execGroupPowered (g : Fin 8) (t : Nat) (s : State) : Host.Outcome State Fault Refusal :=
  .next (s.run t fun s => s.grpPowered g t)

/-- A group becomes unpowered on undervoltage, disable or reversal (R298). -/
def execGroupUnpowered (g : Fin 8) (t : Nat) (s : State) : Host.Outcome State Fault Refusal :=
  .next (s.run t fun s => s.grpUnpowered g t)

/-- A group above 42 V for 1 ms opens its outputs (R298). -/
def execGroupOvervolt (g : Fin 8) (t : Nat) (s : State) : Host.Outcome State Fault Refusal :=
  .next (s.run t fun s => s.grpOvervolt g)

/-- Outputs return after 1 ms below 41 V (R298). -/
def execGroupOvervoltEnd (g : Fin 8) (t : Nat) (s : State) : Host.Outcome State Fault Refusal :=
  .next (s.run t fun s => s.grpOvervoltEnd g)

/-- A group overloaded for 20 ms trips all its outputs (R300). -/
def execGroupTrip (g : Fin 8) (t : Nat) (s : State) : Host.Outcome State Fault Refusal :=
  .next (s.runAwake t fun s => s.grpTrip g t)

/-- Each whole µs a group samples its channels and filters input levels (R311). -/
def execFieldSample (g : Fin 8) (ug ig : Int) (rail : Nat) (mvs mas : List Int) (cool : BitVec 16) (t : Nat) (s : State) : Host.Outcome State Fault Refusal :=
  .next (s.run t fun s => s.fieldAt g ug ig rail mvs mas cool t)

/-- A group delivers its input frame on change or after 100 µs (R306). -/
def execInputFrameDelivery (g : Fin 8) (t : Nat) (s : State) : Host.Outcome State Fault Refusal :=
  .next (s.runAwake t fun s => s.inputDelivery g t)

/-- A group applies released commit sets at a whole µs (R308). -/
def execCommitApply (g : Fin 8) (t : Nat) (s : State) : Host.Outcome State Fault Refusal :=
  .next (s.runAwake t fun s => s.commitApply g t)

/-- A channel's 1 ms mode transition ends and it starts its new mode (R304). -/
def execModeTransitionEnd (c : Fin 128) (t : Nat) (s : State) : Host.Outcome State Fault Refusal :=
  .next (s.run t fun s => s.transitionEnd c t)

/-- Three filter periods without acceptance clear UNDET (R312). -/
def execUndetTimeout (c : Fin 128) (t : Nat) (s : State) : Host.Outcome State Fault Refusal :=
  .next (s.runChan c t fun s => s.undetTimeout c t)

/-- An input high for STUCK seconds is declared stuck (R313). -/
def execChannelStuck (c : Fin 128) (t : Nat) (s : State) : Host.Outcome State Fault Refusal :=
  .next (s.runChan c t fun s => s.channelStuck c t)

/-- No level accepted in 16 filter periods of changing input sets OVERRUN (R314). -/
def execInputOverrun (c : Fin 128) (t : Nat) (s : State) : Host.Outcome State Fault Refusal :=
  .next (s.runChan c t fun s => s.inputOverrun c t)

/-- A counting channel counts an accepted edge (R315). -/
def execCountEdge (c : Fin 128) (lv short both : Bool) (t : Nat) (s : State) : Host.Outcome State Fault Refusal :=
  .next (s.runChan c t fun s => s.countEdge c lv short both t)

/-- A frequency gate ends and the value is updated (R317). -/
def execFreqGateEnd (c : Fin 128) (n d : Nat) (t : Nat) (s : State) : Host.Outcome State Fault Refusal :=
  .next (s.runChan c t fun s => s.freqGateEnd c n d)

/-- An overloaded or hot output trips off (R319). -/
def execOutputTrip (c : Fin 128) (hot : Bool) (t : Nat) (s : State) : Host.Outcome State Fault Refusal :=
  .next (s.runAwake t fun s => s.outTrip c hot t)

/-- An unbalanced paralleled set trips after 100 ms (R321). -/
def execParMismatch (c : Fin 128) (t : Nat) (s : State) : Host.Outcome State Fault Refusal :=
  .next (s.runAwake t fun s => s.parMismatch c t)

/-- A PWM period starts with the latest period and duty (R322). -/
def execPwmPeriodStart (c : Fin 128) (t : Nat) (s : State) : Host.Outcome State Fault Refusal :=
  .next (s.runAwake t fun s => s.pwmStart c t)

/-- A single-pulse output's pulse ends (R323). -/
def execDoPulseEnd (c : Fin 128) (t : Nat) (s : State) : Host.Outcome State Fault Refusal :=
  .next (s.runAwake t fun s => s.doPulseEnd c t)

/-- A tripped test-pulse source restarts 1 s after its cause ends (R326). -/
def execTpSourceRestart (c : Fin 128) (t : Nat) (s : State) : Host.Outcome State Fault Refusal :=
  .next (s.runAwake t fun s => s.tpRestart c)

/-- An input below the open-wire limit for 100 ms is declared OPEN_WIRE (R327). -/
def execOpenWire (c : Fin 128) (t : Nat) (s : State) : Host.Outcome State Fault Refusal :=
  .next (s.runChan c t fun s => s.openWire c t)

/-- An output with too little current for 100 ms is declared OPEN_LOAD (R327). -/
def execOpenLoad (c : Fin 128) (t : Nat) (s : State) : Host.Outcome State Fault Refusal :=
  .next (s.runAwake t fun s => s.openLoad c t)

/-- An off output pin high for 1 ms is declared SHORT_TO_SUPPLY (R327). -/
def execShortToSupply (c : Fin 128) (t : Nat) (s : State) : Host.Outcome State Fault Refusal :=
  .next (s.runAwake t fun s => s.shortToSupply c t)

/-- A pin driven above U_G opens its switch (R328). -/
def execBackfeed (c : Fin 128) (t : Nat) (s : State) : Host.Outcome State Fault Refusal :=
  .next (s.runAwake t fun s => s.backfeed c t)

/-- A backfed pin below U_G for 1 ms lets the channel restart (R328). -/
def execBackfeedClear (c : Fin 128) (t : Nat) (s : State) : Host.Outcome State Fault Refusal :=
  .next (s.runAwake t fun s => s.backfeedClear c)

/-- A fault code clears 100 ms after its condition ends (R328). -/
def execFaultCodeClear (c : Fin 128) (t : Nat) (s : State) : Host.Outcome State Fault Refusal :=
  .next (s.run t fun s => s.faultClear c)

/-- An analogue conversion ends and the averaged result updates (R333). -/
def execConversionEnd (c : Fin 128) (v v2 cj : Int) (t : Nat) (s : State) : Host.Outcome State Fault Refusal :=
  .next (s.runAwake t fun s => s.conversionEnd c v v2 cj t)

/-- A current input above 30 mA disconnects its shunt (R339). -/
def execShuntDisconnect (c : Fin 128) (t : Nat) (s : State) : Host.Outcome State Fault Refusal :=
  .next (s.runAwake t fun s => s.shuntOff c t)

/-- The shunt is tried again every 1 s (R339). -/
def execShuntReconnect (c : Fin 128) (ok : Bool) (t : Nat) (s : State) : Host.Outcome State Fault Refusal :=
  .next (s.runAwake t fun s => s.shuntTry c ok)

/-- A thermocouple test conversion checks for an open wire every 1 s (R343). -/
def execTcOpenTest (c : Fin 128) (uv : Int) (t : Nat) (s : State) : Host.Outcome State Fault Refusal :=
  .next (s.runAwake t fun s => s.tcTest c uv t)

/-- An analogue voltage output at its limit for 20 ms declares OVERLOAD (R345). -/
def execAoOverload (c : Fin 128) (t : Nat) (s : State) : Host.Outcome State Fault Refusal :=
  .next (s.runAwake t fun s => s.aoOverload c t)

/-- Computes and applies a user trim or rejects it (R347). -/
def execTrimApply (c : Fin 128) (t : Nat) (s : State) : Host.Outcome State Fault Refusal :=
  .next (s.run t fun s => s.trimApply c)

/-- Sets the user trim to zero (R347). -/
def execTrimRestore (c : Fin 128) (t : Nat) (s : State) : Host.Outcome State Fault Refusal :=
  .next (s.run t fun s => s.trimRestore c)

/-- Drives an analogue output raw at S1 or S2 for trimming (R348). -/
def execTrimDrive (c : Fin 128) (drive point : Bool) (t : Nat) (s : State) : Host.Outcome State Fault Refusal :=
  .next (s.run t fun s => s.trimSetDrive c drive point)

/-- The trim flash write completes and SAVED reads 1 (R347). -/
def execTrimSaved (c : Fin 128) (t : Nat) (s : State) : Host.Outcome State Fault Refusal :=
  .next (s.run t fun s => s.trimSaved c)

/-- The feed rail below 14 V disables analogue outputs and inputs (R350). -/
def execFeedLowEntry (g : Fin 8) (t : Nat) (s : State) : Host.Outcome State Fault Refusal :=
  .next (s.run t fun s => s.feedLowEntry g t)

/-- The rail above 17 V for 10 ms ends FEED_LOW (R350). -/
def execFeedLowExit (g : Fin 8) (t : Nat) (s : State) : Host.Outcome State Fault Refusal :=
  .next (s.run t fun s => s.feedLowExit g t)

end Sys2Proof.Machine
end

