-- ==== Sys2Proof/Machine/ExecForme.lean ====
section
/-! DEFINITION. The commands of the Forme bus (spec/13_forme_bus.md). -/

namespace Sys2Proof.Machine

/-- A Forme cycle starts (R355). -/
def execCycleStart (t : Nat) (s : State) : Host.Outcome State Fault Refusal :=
  .next (s.runAwake t fun s => (s.fbReady t).cycleStart t)

/-- The star checks a branch frame and forwards, blocks or cuts it (R363). -/
def execStarFrameCheck (b : Fin 8) (f : FbFrame) (t : Nat) (s : State) : Host.Outcome State Fault Refusal :=
  .next (s.runAwake t fun s => s.starFrame b f)

/-- A received frame is accepted and delivered with its status word (R372). -/
def execFormeFrameAccept (b : Fin 8) (f : FbFrame) (t : Nat) (s : State) : Host.Outcome State Fault Refusal :=
  .next (s.runAwake t fun s => s.fbAccept b f t)

/-- A static slot ends without an accepted frame and a status sample is delivered (R372). -/
def execSlotEnd (n : Nat) (t : Nat) (s : State) : Host.Outcome State Fault Refusal :=
  .next (s.runAwake t fun s => s.fbSlotEnd n t)

/-- At network idle violation levels and quarantines are updated (R365). -/
def execNetworkIdle (t : Nat) (s : State) : Host.Outcome State Fault Refusal :=
  .next (s.runAwake t fun s => s.fbIdle t)

/-- A transmit frame takes its payload at its preparation point (R371). -/
def execFramePreparation (i : Nat) (t : Nat) (s : State) : Host.Outcome State Fault Refusal :=
  .next (s.runAwake t fun s => s.fbPrepare i t)

/-- After 8 LOCKUP cycles the controller enters PRESS (R366). -/
def execLockupEnd (t : Nat) (s : State) : Host.Outcome State Fault Refusal :=
  .next (s.runAwake t fun s => s.fbLockupEnd t)

/-- Requests a schedule switch, accepted or refused (R368). -/
def execFbSchedReq (target : Fin 8) (t : Nat) (s : State) : Host.Outcome State Fault Refusal :=
  .next (s.run t fun s => s.fbRequest target)

/-- At cycle c_s − 1 acknowledgements decide or abort the switch (R369). -/
def execSwitchCheck (t : Nat) (s : State) : Host.Outcome State Fault Refusal :=
  .next (s.runAwake t fun s => s.fbSwitchCheck t)

/-- At cycle c_s every participant changes to the target schedule (R369). -/
def execScheduleSwitch (t : Nat) (s : State) : Host.Outcome State Fault Refusal :=
  .next (s.runAwake t fun s => s.fbSwitch t)

/-- Makes a branch ACTIVE with V and QUAR_N 0 (R365). -/
def execBranchRelease (b : Fin 8) (t : Nat) (s : State) : Host.Outcome State Fault Refusal :=
  .next (s.run t fun s => s.fbRelease b t)

/-- A branch link comes up or goes down (R353). -/
def execBranchLinkChange (b : Fin 8) (up : Bool) (t : Nat) (s : State) : Host.Outcome State Fault Refusal :=
  .next (s.run t fun s => s.fbLink b up t)

end Sys2Proof.Machine
end

