-- ==== Sys2Proof/Machine/ExecGauge.lean ====
section
/-! DEFINITION. The commands of the Line Gauge (spec/08_line_gauge.md). In SLEEP and HOLDUP, and while the lanes
restart, the main section does nothing (R198). -/

namespace Sys2Proof.Machine

/-- The Line Gauge forms P, D, Φ and TT each µs and delivers a sample (R199). -/
def execGaugeTick (t : Nat) (s : State) : Host.Outcome State Fault Refusal :=
  .next (s.run t fun s => s.gaugeTick t)

/-- A released arm or disarm is applied by the hit unit at a gauge tick (R221). -/
def execComparatorArmApply (t : Nat) (s : State) : Host.Outcome State Fault Refusal :=
  .next (s.run t fun s => s.lgDo fun s => s.armsApply t)

/-- An armed comparator fires, becomes IDLE and performs its action (R222). -/
def execComparatorFire (n : Fin 128) (t : Nat) (s : State) : Host.Outcome State Fault Refusal :=
  .next (s.run t fun s => s.lgDo fun s => s.cmpFire n)

/-- The hit unit's switch command reaches a hardware-timed channel (R228). -/
def execSwitchCommand (c : Fin 128) (t : Nat) (s : State) : Host.Outcome State Fault Refusal :=
  .next (s.run t fun s => s.switchCommand c t)

/-- A comparator output pulse runs out (R228). -/
def execOutputPulseEnd (c : Fin 128) (t : Nat) (s : State) : Host.Outcome State Fault Refusal :=
  .next (s.run t fun s => s.outputPulseEnd c t)

/-- An offset measurement steps or steers TT and updates lock state (R201). -/
def execPtpOffsetApply (t : Nat) (s : State) : Host.Outcome State Fault Refusal :=
  .next (s.run t fun s => s.lgDo fun s => s.ptpApply t)

/-- TT unlocks after 4 s without a measurement (R202). -/
def execTtMeasurementTimeout (t : Nat) (s : State) : Host.Outcome State Fault Refusal :=
  .next (s.run t fun s => s.lgDo fun s => (s.ttTimeout t).ptpFollow t)

/-- An accepted wheel-sensor edge moves travel and distance (R203). -/
def execWheelEdge (k : Fin 2) (lead both : Bool) (t : Nat) (s : State) : Host.Outcome State Fault Refusal :=
  .next (s.runAlways t fun s => s.wheelEdge k lead both t)

/-- A pair becomes valid after 1 s without any invalidity cause (R204). -/
def execPairValidRestore (k : Fin 2) (t : Nat) (s : State) : Host.Outcome State Fault Refusal :=
  .next (s.run t fun s => s.lgDo fun s => s.wsRestore k t)

/-- Both pairs without an edge for 500 ms set STANDSTILL (R206). -/
def execStandstillEntry (t : Nat) (s : State) : Host.Outcome State Fault Refusal :=
  .next (s.run t fun s => s.lgDo fun s => s.standstill t)

/-- The accelerometer is read and the gradient estimate updated (R208). -/
def execAccelSample (x y z : Int) (t : Nat) (s : State) : Host.Outcome State Fault Refusal :=
  .next (s.run t fun s => s.lgDo fun s => s.accelSample x y z t)

/-- The slip flag clears after 200 ms without cause (R209). -/
def execSlipClear (t : Nat) (s : State) : Host.Outcome State Fault Refusal :=
  .next (s.run t fun s => s.lgDo fun s => s.slipClear t)

/-- Slip lasting SLIP_MAX reduces D quality (R210). -/
def execSlipMaxExpiry (t : Nat) (s : State) : Host.Outcome State Fault Refusal :=
  .next (s.run t fun s => s.lgDo fun s => s.slipMax t)

/-- Applies a line reference at the next gauge tick, accepting or rejecting it (R212). -/
def execApplyRef (t : Nat) (s : State) : Host.Outcome State Fault Refusal :=
  .next (s.run t fun s => s.lgWrite 1#32 t)

/-- Restores D quality to FULL when no cause remains (R212). -/
def execDqRestore (t : Nat) (s : State) : Host.Outcome State Fault Refusal :=
  .next (s.run t fun s => s.dqRestore t)

/-- A positive crossing of the phase input updates period and phase rate (R217). -/
def execPhaseCrossing (t : Nat) (s : State) : Host.Outcome State Fault Refusal :=
  .next (s.run t fun s => s.lgDo fun s => s.phaseCrossing t)

/-- No crossing within 1.5 periods makes the reference absent (R218). -/
def execPhaseLost (t : Nat) (s : State) : Host.Outcome State Fault Refusal :=
  .next (s.run t fun s => s.lgDo fun s => s.phaseLost t)

/-- Every 10 ms the power-system class is evaluated and confirmed (R219). -/
def execClassEvaluation (uac udc n : Nat) (t : Nat) (s : State) : Host.Outcome State Fault Refusal :=
  .next (s.run t fun s => s.lgDo fun s => s.classEval uac udc n t)

/-- The always-on section loses its supply after 50 ms without source (R518). -/
def execAoSupplyLost (t : Nat) (s : State) : Host.Outcome State Fault Refusal :=
  .next (s.runAlways t fun s => s.aoLost)

end Sys2Proof.Machine
end

