-- ==== Sys2Proof/Machine/ExecHost.lean ====
section
/-! DEFINITION. The commands of host frames and register commands (spec/02_host_access.md). -/

namespace Sys2Proof.Machine

/-- Opens a session handshake and returns a module nonce (R44). -/
def execHpOpen (f : Frame) (s : State) : Host.Outcome State Fault Refusal :=
  .next (s.runHost f.t fun s => s.hostCommand 0x01 f)

/-- Verifies a handshake proof and completes or ends the session (R44). -/
def execAuth (f : Frame) (s : State) : Host.Outcome State Fault Refusal :=
  .next (s.runHost f.t fun s => s.hostCommand 0x02 f)

/-- Quoin Q31 is freed 20 µs after verification began (R46). -/
def execProofVerifyEnd (t : Nat) (s : State) : Host.Outcome State Fault Refusal :=
  .next (s.runHost t fun s => s.verifyEnd t)

/-- Closes a session and releases its quoins (R49). -/
def execClose (f : Frame) (s : State) : Host.Outcome State Fault Refusal :=
  .next (s.runHost f.t fun s => s.hostCommand 0x03 f)

/-- Keeps a session alive (R40). -/
def execKeepalive (f : Frame) (s : State) : Host.Outcome State Fault Refusal :=
  .next (s.runHost f.t fun s => s.hostCommand 0x04 f)

/-- Reads words of the management space (R40). -/
def execRead (f : Frame) (s : State) : Host.Outcome State Fault Refusal :=
  .next (s.runHost f.t fun s => s.hostCommand 0x10 f)

/-- Writes words of the management space after address, quoin, mode and value checks (R42). -/
def execWrite (f : Frame) (s : State) : Host.Outcome State Fault Refusal :=
  .next (s.runHost f.t fun s => s.hostCommand 0x11 f)

/-- Writes masked bits of one word (R40). -/
def execWriteMasked (f : Frame) (s : State) : Host.Outcome State Fault Refusal :=
  .next (s.runHost f.t fun s => s.hostCommand 0x12 f)

/-- Takes ownership of a quoin (R50). -/
def execQlock (f : Frame) (s : State) : Host.Outcome State Fault Refusal :=
  .next (s.runHost f.t fun s => s.hostCommand 0x20 f)

/-- Frees a quoin held by the caller (R50). -/
def execQrelease (f : Frame) (s : State) : Host.Outcome State Fault Refusal :=
  .next (s.runHost f.t fun s => s.hostCommand 0x21 f)

/-- Frees a quoin whatever its owner and records it (R50). -/
def execQbreak (f : Frame) (s : State) : Host.Outcome State Fault Refusal :=
  .next (s.runHost f.t fun s => s.hostCommand 0x22 f)

/-- A host port answers ARP for its address (R36). -/
def execHostArpRequest (p : Port) (ip : PortAsk) (tagged : Bool) (t : Nat) (s : State) : Host.Outcome State Fault Refusal :=
  .next (s.runHost t fun s => s.hostAnswer true (portNo p) ip tagged)

/-- A host port answers an ICMP echo request (R36). -/
def execHostIcmpEcho (p : Port) (ip : PortAsk) (tagged : Bool) (t : Nat) (s : State) : Host.Outcome State Fault Refusal :=
  .next (s.runHost t fun s => s.hostAnswer false (portNo p) ip tagged)

/-- A handshake without AUTH within 1 s lapses and frees its session number (R44). -/
def execHandshakeLapse (p : Port) (n : Nat) (t : Nat) (s : State) : Host.Outcome State Fault Refusal :=
  .next (s.runHost t fun q => q.handshakeLapse (portNo p) n t)

/-- A session idle for SESS_TIMEOUT closes and releases its quoins (R49). -/
def execSessionTimeout (p : Port) (n : Nat) (t : Nat) (s : State) : Host.Outcome State Fault Refusal :=
  .next (s.runHost t fun q => q.sessionTimeout (portNo p) n t)

/-- New host addresses take effect after the commit reply and close affected sessions (R37). -/
def execHostAddressChange (t : Nat) (s : State) : Host.Outcome State Fault Refusal :=
  .next (s.runHost t fun s => if s.hp.addrCommit then s.hpApply t else s)

/-- Takes the block's shadows as the pending set (R54). -/
def execCommitGo (b : Block) (t : Nat) (s : State) : Host.Outcome State Fault Refusal :=
  .next (s.runHost t fun s => s.commitGo none b t)

/-- Reloads the shadows and cancels the pending set (R55). -/
def execCommitDiscard (b : Block) (t : Nat) (s : State) : Host.Outcome State Fault Refusal :=
  .next (s.runHost t fun s => s.commitDiscard b)

/-- A pending set takes effect at its block's boundary (R54). -/
def execPendingSetApply (b : Block) (t : Nat) (s : State) : Host.Outcome State Fault Refusal :=
  .next (s.runHost t fun s => s.setApply b t)

/-- Performs a BLOCK reset of the block (R541). -/
def execSoftReset (b : Block) (t : Nat) (s : State) : Host.Outcome State Fault Refusal :=
  .next (s.runHost t fun s => s.blockReset b t)

/-- Sets every counter of the block to 0 (R56). -/
def execCntClear (b : Block) (t : Nat) (s : State) : Host.Outcome State Fault Refusal :=
  .next (s.runHost t fun s => s.cntClear b)

/-- Writes a register without behaviour of its own, clamping illegal values (R53). -/
def execRegisterWrite (a : Nat) (v : Word) (t : Nat) (s : State) : Host.Outcome State Fault Refusal :=
  .next (s.runHost t fun s =>
    let u := (s.regWrite (.host 0 0) a v t).scopeClamp [a]
    if a = R.SYS_MODE_REQ_REQ.base ∨ a = (R.BLK_CTRL_SOFT_RESET.at .hp).base then u.afterReply t else u)

/-- The distributor samples an asynchronous input once, stamps it and delivers it staggered to the lanes (R13). -/
def execInputSample (w : Nat) (v : Word) (t : Nat) (s : State) : Host.Outcome State Fault Refusal :=
  .next (s.runHost t fun s => if w < 65536 then s.sample w v t else s)

end Sys2Proof.Machine
end

