-- ==== Sys2Proof/Machine/ExecLane.lean ====
section
/-! DEFINITION. The commands of lanes and the voter (spec/09_lanes_and_voting.md). -/

namespace Sys2Proof.Machine

/-- The voter compares an item presented by a lane and releases, excludes or enters SAFE (R242). -/
def execVoterItem (x : LaneId) (t : Nat) (s : State) : Host.Outcome State Fault Refusal :=
  .next (s.runLive t fun s => s.voterItem x t)

/-- An item not presented by 16 cycles after its expected cycle is judged late (R240). -/
def execItemLate (x : LaneId) (t : Nat) (s : State) : Host.Outcome State Fault Refusal :=
  .next (s.runLive t fun s => s.itemLate x t)

/-- An excluded lane is reset and starts its self-test (R247). -/
def execLaneReset (x : LaneId) (t : Nat) (s : State) : Host.Outcome State Fault Refusal :=
  .next (s.runAwake t fun s => s.laneReset x)

/-- A lane self-test ends, marking the lane out or ready to rejoin (R255). -/
def execLaneSelftestEnd (x : LaneId) (pass : Bool) (t : Nat) (s : State) : Host.Outcome State Fault Refusal :=
  .next (s.runAwake t fun s => s.selftestDone x pass t)

/-- A rejoin copy starts mirroring and sweeping from the primary source (R257). -/
def execRejoinCopyStart (x : LaneId) (t : Nat) (s : State) : Host.Outcome State Fault Refusal :=
  .next (s.runAwake t fun s => s.copyStart x t)

/-- The SRAM sweep of a rejoin copy completes (R257). -/
def execSweepEnd (x : LaneId) (t : Nat) (s : State) : Host.Outcome State Fault Refusal :=
  .next (s.runAwake t fun s => s.sweepEnd x t)

/-- Register state is transferred and the target lane votes (R258). -/
def execRejoinSwitch (x : LaneId) (t : Nat) (s : State) : Host.Outcome State Fault Refusal :=
  .next (s.runAwake t fun s => s.rejoinSwitch x t)

/-- The scrubber finds an uncorrectable word, excluding or repairing by lane state (R248). -/
def execScrubUncorrectable (x : LaneId) (a : Nat) (t : Nat) (s : State) : Host.Outcome State Fault Refusal :=
  .next (s.runAwake t fun s => s.scrubFound x a t)

/-- A repair value is written into the lane with the error at point p (R248). -/
def execScrubRepairWrite (x : LaneId) (a : Nat) (t : Nat) (s : State) : Host.Outcome State Fault Refusal :=
  .next (s.runAwake t fun s => s.scrubRepair x a)

/-- Elapsed grace reaches 80 % and a warning is recorded (R263). -/
def execGraceWarn (t : Nat) (s : State) : Host.Outcome State Fault Refusal :=
  .next (s.run t fun s => s.graceWarn t)

/-- Elapsed grace reaches the grace time and the module enters SAFE (R263). -/
def execGraceExpiry (t : Nat) (s : State) : Host.Outcome State Fault Refusal :=
  .next (s.run t fun s => s.graceExpiry t)

/-- Elapsed grace is written to flash every 10 min (R263). -/
def execGraceRecord (t : Nat) (s : State) : Host.Outcome State Fault Refusal :=
  .next (s.run t fun s => s.graceRecord t)

/-- SIMPLEX-DIAG lasting 10 min sends the module to SAFE (R251). -/
def execSimplexLimit (t : Nat) (s : State) : Host.Outcome State Fault Refusal :=
  .next (s.run t fun s => s.simplexLimit t)

/-- Names lanes held out of the next program start, refused outside STOP and MAINT (R262). -/
def execVtHoldOutWrite (v : Word) (t : Nat) (s : State) : Host.Outcome State Fault Refusal :=
  .next (s.run t fun s => s.holdOutWrite v)

/-- A single-bit or uncorrectable error arises in a word of a lane's SRAM (R88). -/
def execSramError (x : LaneId) (a : Nat) (uncorr : Bool) (s : State) : Host.Outcome State Fault Refusal :=
  .next (if s.pw.off then s else s.setLane x ((s.lane x).memError a uncorr))

/-- The background scrubber reads a word with a single-bit error, corrects and rewrites it and counts it (R88). -/
def execScrubCorrection (x : LaneId) (a : Nat) (s : State) : Host.Outcome State Fault Refusal :=
  .next (if s.pw.off then s else s.setLane x ((s.lane x).scrubOne a))

end Sys2Proof.Machine
end

