-- ==== Sys2Proof/Machine/ExecLogic.lean ====
section
/-! DEFINITION. The commands of bit-logic and program-flow instructions (spec/04_bit_and_flow.md). -/

namespace Sys2Proof.Machine

/-- Loads a bit operand into BA (R99). -/
def execLdb (e : EngId) (o : MOp) (s : State) : Host.Outcome State Fault Refusal :=
  .next (s.memOp (.ldb e o) e o 1 (bitReadBody o fun _ v => v))

/-- Loads the inverse of a bit operand into BA (R99). -/
def execLdbn (e : EngId) (o : MOp) (s : State) : Host.Outcome State Fault Refusal :=
  .next (s.memOp (.ldbn e o) e o 1 (bitReadBody o fun _ v => !v))

/-- ANDs BA with a bit operand (R99). -/
def execAndBit (e : EngId) (o : MOp) (s : State) : Host.Outcome State Fault Refusal :=
  .next (s.memOp (.andBit e o) e o 1 (bitReadBody o fun ba v => ba && v))

/-- ANDs BA with the inverse of a bit operand (R99). -/
def execAndnBit (e : EngId) (o : MOp) (s : State) : Host.Outcome State Fault Refusal :=
  .next (s.memOp (.andnBit e o) e o 1 (bitReadBody o fun ba v => ba && !v))

/-- ORs BA with a bit operand (R99). -/
def execOrBit (e : EngId) (o : MOp) (s : State) : Host.Outcome State Fault Refusal :=
  .next (s.memOp (.orBit e o) e o 1 (bitReadBody o fun ba v => ba || v))

/-- ORs BA with the inverse of a bit operand (R99). -/
def execOrnBit (e : EngId) (o : MOp) (s : State) : Host.Outcome State Fault Refusal :=
  .next (s.memOp (.ornBit e o) e o 1 (bitReadBody o fun ba v => ba || !v))

/-- XORs BA with a bit operand (R99). -/
def execXorBit (e : EngId) (o : MOp) (s : State) : Host.Outcome State Fault Refusal :=
  .next (s.memOp (.xorBit e o) e o 1 (bitReadBody o fun ba v => xor ba v))

/-- XORs BA with the inverse of a bit operand (R99). -/
def execXornBit (e : EngId) (o : MOp) (s : State) : Host.Outcome State Fault Refusal :=
  .next (s.memOp (.xornBit e o) e o 1 (bitReadBody o fun ba v => xor ba (!v)))

/-- Writes BA into a bit element (R103). -/
def execSt (e : EngId) (o : MOp) (s : State) : Host.Outcome State Fault Refusal :=
  .next (s.memOp (.st e o) e o 1 (bitWriteBody o fun ba => some ba))

/-- Writes NOT BA into a bit element (R103). -/
def execStn (e : EngId) (o : MOp) (s : State) : Host.Outcome State Fault Refusal :=
  .next (s.memOp (.stn e o) e o 1 (bitWriteBody o fun ba => some (!ba)))

/-- Sets a bit element when BA is 1 (R103). -/
def execSetBit (e : EngId) (o : MOp) (s : State) : Host.Outcome State Fault Refusal :=
  .next (s.memOp (.setBit e o) e o 1 (bitWriteBody o fun ba => if ba then some true else none))

/-- Clears a bit element when BA is 1 (R103). -/
def execRstBit (e : EngId) (o : MOp) (s : State) : Host.Outcome State Fault Refusal :=
  .next (s.memOp (.rstBit e o) e o 1 (bitWriteBody o fun ba => if ba then some false else none))

/-- Reports a rising edge of BA against its memory bit and stores BA (R105). -/
def execRise (e : EngId) (o : MOp) (s : State) : Host.Outcome State Fault Refusal :=
  .next (s.memOp (.rise e o) e o 1 (edgeBody o fun ba m => ba && !m))

/-- Reports a falling edge of BA against its memory bit and stores BA (R105). -/
def execFall (e : EngId) (o : MOp) (s : State) : Host.Outcome State Fault Refusal :=
  .next (s.memOp (.fall e o) e o 1 (edgeBody o fun ba m => !ba && m))

/-- Opens a branch with pending AND, pushing BA and clearing it (R100). -/
def execBand (e : EngId) (low : BitVec 20) (s : State) : Host.Outcome State Fault Refusal :=
  .next (s.regOp (.band e low) e 1 (branchOpenBody 0 low))

/-- Opens a branch with pending AND NOT (R100). -/
def execBandn (e : EngId) (low : BitVec 20) (s : State) : Host.Outcome State Fault Refusal :=
  .next (s.regOp (.bandn e low) e 1 (branchOpenBody 1 low))

/-- Opens a branch with pending OR (R100). -/
def execBor (e : EngId) (low : BitVec 20) (s : State) : Host.Outcome State Fault Refusal :=
  .next (s.regOp (.bor e low) e 1 (branchOpenBody 2 low))

/-- Opens a branch with pending OR NOT (R100). -/
def execBorn (e : EngId) (low : BitVec 20) (s : State) : Host.Outcome State Fault Refusal :=
  .next (s.regOp (.born e low) e 1 (branchOpenBody 3 low))

/-- Opens a branch with pending XOR (R100). -/
def execBxor (e : EngId) (low : BitVec 20) (s : State) : Host.Outcome State Fault Refusal :=
  .next (s.regOp (.bxor e low) e 1 (branchOpenBody 4 low))

/-- Opens a branch with pending XOR NOT (R100). -/
def execBxorn (e : EngId) (low : BitVec 20) (s : State) : Host.Outcome State Fault Refusal :=
  .next (s.regOp (.bxorn e low) e 1 (branchOpenBody 5 low))

/-- Closes a branch, popping its entry and combining the saved BA with BA (R101). -/
def execBend (e : EngId) (rest : BitVec 26) (s : State) : Host.Outcome State Fault Refusal :=
  .next (s.regOp (.bend e rest) e 1 (bendBody rest))

/-- Clears BA (R106). -/
def execClrb (e : EngId) (low : BitVec 20) (s : State) : Host.Outcome State Fault Refusal :=
  .next (s.regOp (.clrb e low) e 1 (regBody (low == 0) fun r => { r with ba := false }))

/-- Sets BA (R106). -/
def execSetb (e : EngId) (low : BitVec 20) (s : State) : Host.Outcome State Fault Refusal :=
  .next (s.regOp (.setb e low) e 1 (regBody (low == 0) fun r => { r with ba := true }))

/-- Inverts BA (R106). -/
def execNotBa (e : EngId) (low : BitVec 20) (s : State) : Host.Outcome State Fault Refusal :=
  .next (s.regOp (.notBa e low) e 1 (regBody (low == 0) fun r => { r with ba := !r.ba }))

/-- Loads BA with the truth of a condition code (R106). -/
def execLdc (e : EngId) (low : BitVec 20) (s : State) : Host.Outcome State Fault Refusal :=
  .next (s.regOp (.ldc e low) e 1 (ldcBody low))

/-- Loads BA from SV and clears SV (R106). -/
def execLdsv (e : EngId) (low : BitVec 20) (s : State) : Host.Outcome State Fault Refusal :=
  .next (s.regOp (.ldsv e low) e 1 (regBody (low == 0) fun r => { r with ba := r.sv, sv := false }))

/-- Jumps to a target when its condition holds (R108). -/
def execJmp (e : EngId) (c : BitVec 4) (target : BitVec 22) (s : State) : Host.Outcome State Fault Refusal :=
  .next (s.regOp (.jmp e c target) e 1 (jmpBody c target))

/-- Pushes a call frame and jumps to a subroutine (R109). -/
def execCall (e : EngId) (c : BitVec 4) (target : BitVec 22) (s : State) : Host.Outcome State Fault Refusal :=
  .next (s.regOp (.call e c target) e 2 (callBody c target))

/-- Pops a call frame, checks DEPTH and returns (R110). -/
def execRet (e : EngId) (rest : BitVec 26) (s : State) : Host.Outcome State Fault Refusal :=
  .next (s.regOp (.ret e rest) e 2 (retBody rest))

/-- Decrements an index register and loops back while it stays non-zero (R111). -/
def execRept (e : EngId) (c : BitVec 4) (target : BitVec 22) (s : State) : Host.Outcome State Fault Refusal :=
  .next (s.regOp (.rept e c target) e 1 (reptBody c target))

/-- Ends the activation, starting the output commit and closing the proof window (R112). -/
def execEndAct (e : EngId) (low : BitVec 20) (s : State) : Host.Outcome State Fault Refusal :=
  .next (s.codeOp (.endAct e low) e fun l => l.endInstr s.phase e s.lt low fun _ => true)

/-- Ends the activation when BA is 1 (R112). -/
def execEndBa (e : EngId) (low : BitVec 20) (s : State) : Host.Outcome State Fault Refusal :=
  .next (s.codeOp (.endBa e low) e fun l => l.endInstr s.phase e s.lt low fun ba => ba)

/-- Ends the activation when BA is 0 (R112). -/
def execEndNba (e : EngId) (low : BitVec 20) (s : State) : Host.Outcome State Fault Refusal :=
  .next (s.codeOp (.endNba e low) e fun l => l.endInstr s.phase e s.lt low fun ba => !ba)

/-- Advances PC only (R113). -/
def execNop (e : EngId) (rest : BitVec 26) (s : State) : Host.Outcome State Fault Refusal :=
  .next (s.regOp (.nop e rest) e 1 (regBody (rest == 0) fun r => r))

/-- An engine fetches a word whose OP no chapter assigns, or a word at or beyond code index 0x30_0000, and faults with ILLEGAL_OP or ADDR (R79). -/
def execUnassignedOpFetch (e : EngId) (w : Word) (s : State) : Host.Outcome State Fault Refusal :=
  .next (s.engineDo fun l => l.unassigned s.phase e s.lt w)

end Sys2Proof.Machine
end

