-- ==== Sys2Proof/Machine/ExecNetwork.lean ====
section
/-! DEFINITION. The commands of the consist network (spec/14_train_network.md). -/

namespace Sys2Proof.Machine

/-- An SDT comparison window ends without a partner copy (R295). -/
def execSdtCompareWindowEnd (n : Nat) (t : Nat) (s : State) : Host.Outcome State Fault Refusal :=
  .next (s.runAwake t fun s => s.sdtWindowEnd n t)

/-- A plane switch learns and forwards a received frame (R376). -/
def execSwitchFrameReceived (p : Fin 4) (f : EthFrame) (t : Nat) (s : State) : Host.Outcome State Fault Refusal :=
  .next (s.run t fun s => s.switchFrame p f t)

/-- A queued frame starts transmission and is judged on time or LATE (R380). -/
def execEgressTransmit (q : Fin 7) (t : Nat) (s : State) : Host.Outcome State Fault Refusal :=
  .next (s.run t fun s => s.egress q t)

/-- A copy still queued at twice its deadline is removed as DROPPED (R381). -/
def execCopyDrop (q : Fin 7) (t : Nat) (s : State) : Host.Outcome State Fault Refusal :=
  .next (s.run t fun s => s.copyDrop q t)

/-- The endpoint answers ARP for its address (R378). -/
def execEndpointArp (pl : Fin 2) (ip : Word) (asker : Word) (t : Nat) (s : State) : Host.Outcome State Fault Refusal :=
  .next (s.runAwake t fun s => s.endpointArp pl ip asker t)

/-- An ARP cache entry is refreshed every 60 s (R378). -/
def execArpRefresh (pl : Fin 2) (ip : Word) (answer : Option (BitVec 48)) (t : Nat) (s : State) : Host.Outcome State Fault Refusal :=
  .next (s.runAwake t fun s => s.arpAsk pl ip answer false t)

/-- A failed ARP request is repeated every 1 s (R378). -/
def execArpRetry (pl : Fin 2) (ip : Word) (answer : Option (BitVec 48)) (t : Nat) (s : State) : Host.Outcome State Fault Refusal :=
  .next (s.runAwake t fun s => s.arpAsk pl ip answer true t)

/-- A learned address ages out after 300 s (R376). -/
def execAddressAgeing (pl : Fin 2) (mac : BitVec 48) (t : Nat) (s : State) : Host.Outcome State Fault Refusal :=
  .next (s.run t fun s => s.ageAddress pl mac t)

/-- A PUBLISH entry sends copies on its planes at its instant (R389). -/
def execPdPublication (n : Nat) (codesOk : Bool) (t : Nat) (s : State) : Host.Outcome State Fault Refusal :=
  .next (s.runAwake t fun s => s.publishAt n codesOk t)

/-- A received PD copy is checked, accepted or discarded as duplicate (R391); the one that wakes the module is discarded (R469). -/
def execPdCopyReceived (pl : Fin 2) (c : PdCopy) (t : Nat) (s : State) : Host.Outcome State Fault Refusal :=
  .next (s.runAwake t fun s => if s.wakesOn 6 then s else s.pdCopyAt pl c t)

/-- A subscription without acceptance for TIMEOUT is timed out (R393). -/
def execPdTimeout (n : Nat) (t : Nat) (s : State) : Host.Outcome State Fault Refusal :=
  .next (s.runAwake t fun s => s.pdTimeout n t)

/-- A safe channel without acceptance for SAFE_TMO is timed out (R396). -/
def execSdtTimeout (n : Nat) (t : Nat) (s : State) : Host.Outcome State Fault Refusal :=
  .next (s.runAwake t fun s => s.sdtTimeout n t)

/-- A received MD message is queued or discarded by its session role (R398); the one that wakes the module is discarded (R469). -/
def execMdMessageReceived (pl : Fin 2) (m : MdMsg) (t : Nat) (s : State) : Host.Outcome State Fault Refusal :=
  .next (s.runAwake t fun s => if s.wakesOn 6 then s else s.mdReceive pl m t)

/-- An outstanding request without reply sets REPLY_TIMEOUT (R398). -/
def execMdReplyTimeout (n : Nat) (t : Nat) (s : State) : Host.Outcome State Fault Refusal :=
  .next (s.runAwake t fun s => s.mdReplyTimeout n t)

/-- An incomplete fragmented datagram is discarded after 100 ms (R398). -/
def execMdReassemblyTimeout (n : Nat) (t : Nat) (s : State) : Host.Outcome State Fault Refusal :=
  .next (s.runAwake t fun s => s.mdReassemblyTimeout n t)

/-- A PTP Sync forms an offset measurement (R384). -/
def execSyncReceived (pl : Fin 2) (sender : PtpFrom) (twoStep : Bool) (t1 cs t2 : Int) (t : Nat) (s : State) : Host.Outcome State Fault Refusal :=
  .next (s.runAwake t fun s => s.syncReceived pl sender twoStep t1 cs t2)

/-- A Follow_Up completes a two-step Sync measurement (R384). -/
def execFollowUpReceived (pl : Fin 2) (sender : PtpFrom) (t1 cs : Int) (t : Nat) (s : State) : Host.Outcome State Fault Refusal :=
  .next (s.runAwake t fun s => s.followUp pl sender t1 cs)

/-- A Delay_Req is sent at a randomised interval (R384). -/
def execDelayReqSend (t3 : Int) (t : Nat) (s : State) : Host.Outcome State Fault Refusal :=
  .next (s.runAwake t fun s => s.delayReq t3 t)

/-- A Delay_Resp forms a path delay value (R384). -/
def execDelayRespReceived (pl : Fin 2) (sender : PtpFrom) (t4 cd : Int) (t : Nat) (s : State) : Host.Outcome State Fault Refusal :=
  .next (s.runAwake t fun s => s.delayResp pl sender t4 cd)

/-- An Announce is qualified and the best master selected (R382). -/
def execAnnounceReceived (pl : Fin 2) (a : Announce) (t : Nat) (s : State) : Host.Outcome State Fault Refusal :=
  .next (s.runAwake t fun s => s.announce pl a t)

/-- Missing Announces change the PTP plane or state (R383). -/
def execAnnounceTimeout (t : Nat) (s : State) : Host.Outcome State Fault Refusal :=
  .next (s.runAwake t fun s => s.announceTimeout t)

/-- A consist port link comes up or goes down (R383). -/
def execNetLinkChange (p : Fin 5) (up gigabit : Bool) (t : Nat) (s : State) : Host.Outcome State Fault Refusal :=
  .next (s.run t fun s => s.linkChange p up gigabit t)

end Sys2Proof.Machine
end

