-- ==== Sys2Proof/Machine/ExecPower.lean ====
section
/-! DEFINITION. The commands of the power unit (spec/19_power_and_ageing.md). -/

namespace Sys2Proof.Machine

/-- The main supply becomes present and boot or ride-through recovery follows (R459). -/
def execSupplyPresent (slot : Fin 4) (key : Bool) (sysOk : BitVec 2) (t : Nat) (s : State) : Host.Outcome State Fault Refusal :=
  .next (State.keepQueue s (((s.now t).supplyPresent slot key sysOk t).settle t))

/-- The main supply is lost and the ride-through window starts (R462). -/
def execSupplyLost (t : Nat) (s : State) : Host.Outcome State Fault Refusal :=
  .next (s.runHost t fun s => s.supplyLost t)

/-- Ride-through expires and HOLDUP stops the lanes and starts the save (R463). -/
def execHoldupEntry (t : Nat) (s : State) : Host.Outcome State Fault Refusal :=
  .next (s.runHost t fun s => s.holdupEntry t)

/-- The retained save carries its end mark (R464). -/
def execRetainedSaveEnd (t : Nat) (s : State) : Host.Outcome State Fault Refusal :=
  .next (s.runHost t fun s => s.retainedEnd t)

/-- The hold-up bank reaches its end voltage and the module is unpowered (R463). -/
def execHoldupBankEnd (torn : Bool) (t : Nat) (s : State) : Host.Outcome State Fault Refusal :=
  .next (s.runHost t fun s => s.bankEnd torn)

/-- Sets the balance to the grant and enters STABLED (R461). -/
def execPwStable (t : Nat) (s : State) : Host.Outcome State Fault Refusal :=
  .next (s.run t fun s => s.pwWrite 1#32 t)

/-- Adds the grant to the balance in STABLED (R461). -/
def execPwTopup (t : Nat) (s : State) : Host.Outcome State Fault Refusal :=
  .next (s.run t fun s => s.pwWrite 2#32 t)

/-- Leaves STABLED (R461). -/
def execPwUnstable (t : Nat) (s : State) : Host.Outcome State Fault Refusal :=
  .next (s.run t fun s => s.pwWrite 3#32 t)

/-- Requests SLEEP and starts the entry (R467). -/
def execPwSleep (t : Nat) (s : State) : Host.Outcome State Fault Refusal :=
  .next (s.run t fun s => s.pwWrite 4#32 t)

/-- The lead lane reaches a quiet point during sleep entry (R467). -/
def execSleepQuietPoint (t : Nat) (s : State) : Host.Outcome State Fault Refusal :=
  .next (s.run t fun s => s.sleepQuiet t)

/-- Retention is committed and the module is in SLEEP (R467). -/
def execRetentionCommit (t : Nat) (s : State) : Host.Outcome State Fault Refusal :=
  .next (s.run t fun s => s.retain t)

/-- No quiet point by 20 ms, or an exclusion, abandons the entry (R467). -/
def execSleepEntryAbandon (t : Nat) (s : State) : Host.Outcome State Fault Refusal :=
  .next (s.run t fun s => s.sleepAbandon t)

/-- An enabled wake source is latched and the module wakes (R470). -/
def execWakeLatch (src : BitVec 9) (can irq : Fin 4) (chan : Fin 128) (t : Nat) (s : State) : Host.Outcome State Fault Refusal :=
  .next (s.run t fun s => s.wakeLatch src can irq chan t)

/-- The caddy balance reaches 0 (R475). -/
def execBalanceExhausted (t : Nat) (s : State) : Host.Outcome State Fault Refusal :=
  .next (s.run t fun s => s.balanceExhausted t)

/-- The heat credit reaches 0 (R476). -/
def execHeatCreditExhausted (t : Nat) (s : State) : Host.Outcome State Fault Refusal :=
  .next (s.run t fun s => s.heatExhausted)

/-- Board temperatures are read every 10 ms (R476). -/
def execTemperatureRead (ts : List Int) (t : Nat) (s : State) : Host.Outcome State Fault Refusal :=
  .next (s.run t fun s => s.temperatures ts)

/-- Path-delay slack is sampled and a core-voltage step requested when due (R481). -/
def execSlackSample (x : LaneId) (slack ring : Nat) (t : Nat) (s : State) : Host.Outcome State Fault Refusal :=
  .next (s.runAwake t fun s => s.slackSample x slack ring t)

/-- A core-voltage step is made, verified and counted (R480). -/
def execVcoreStep (x : LaneId) (naks : StepBus) (settled fault : Bool) (t : Nat) (s : State) : Host.Outcome State Fault Refusal :=
  .next (s.runAwake t fun s => s.vcoreStep x naks settled fault t)

/-- Every 10 min the working reference is compared and corrected (R486). -/
def execReferenceCheck (g : Fin 8) (diff : Int) (t : Nat) (s : State) : Host.Outcome State Fault Refusal :=
  .next (s.runAwake t fun s => s.referenceCheck g diff t)

/-- Flash blocks are read and refreshed on excess corrected bits (R487). -/
def execFlashScan (block bits : Nat) (image : Bool) (t : Nat) (s : State) : Host.Outcome State Fault Refusal :=
  .next (s.runAwake t fun s => s.flashScan block bits image t)

/-- At power-up the hold-up bank's C and ESR are measured (R484). -/
def execHoldupMeasurement (step fall : Nat) (t : Nat) (s : State) : Host.Outcome State Fault Refusal :=
  .next (s.run t fun s => s.holdMeasure step fall t)

/-- The hold-up time at present draw is refreshed every 1 s (R484). -/
def execHoldupNowRefresh (t : Nat) (s : State) : Host.Outcome State Fault Refusal :=
  .next (s.run t fun s => s.holdNow)

end Sys2Proof.Machine
end

