-- ==== Sys2Proof/Machine/ExecRecorder.lean ====
section
/-! DEFINITION. The commands of the event recorder (spec/18_event_recorder.md). -/

namespace Sys2Proof.Machine

/-- The record at the queue head is programmed, verified and marked in flash (R451). -/
def execRecordWrite (ok : Bool) (t : Nat) (s : State) : Host.Outcome State Fault Refusal :=
  .next (s.runAwake t fun s => s.recordWrite ok)

/-- Starts a fetch of a record into the port's read buffer (R456). -/
def execErFetch (p : Port) (t : Nat) (s : State) : Host.Outcome State Fault Refusal :=
  .next (s.run t fun s => s.fetchAt p)

/-- A fetch completes with FOUND or NOT_FOUND (R456). -/
def execErFetchDone (p : Port) (t : Nat) (s : State) : Host.Outcome State Fault Refusal :=
  .next (s.run t fun s => s.erFetchDone (portNo p))

/-- Opens a clearing challenge with a fresh nonce, in MAINT (R457, R458). -/
def execClearReq (t : Nat) (s : State) : Host.Outcome State Fault Refusal :=
  .next (s.run t fun s => if s.mode = mdMaint then s.clearReq t else s)

/-- Submits the clearing response, clearing or recording a failure, in MAINT (R457, R458). -/
def execClearGo (p : Port) (session : Nat) (t : Nat) (s : State) : Host.Outcome State Fault Refusal :=
  .next (s.run t fun s => if s.mode = mdMaint then s.clearGo (portNo p) session t else s)

/-- An open challenge closes after 10 s (R458). -/
def execClearChallengeExpiry (t : Nat) (s : State) : Host.Outcome State Fault Refusal :=
  .next (s.run t fun s => s.clearExpiry t)

/-- At boot the recorder finds the append point and closes torn records (R455). -/
def execRecorderRecovery (t : Nat) (s : State) : Host.Outcome State Fault Refusal :=
  .next (s.run t fun s => s.erRecover t)

/-- The background erase of the blocks below the first SEQ kept after a clear completes and ERASING reads 0 (R458). -/
def execBackgroundEraseEnd (t : Nat) (s : State) : Host.Outcome State Fault Refusal :=
  .next (s.runAwake t fun s => s.eraseEnd)

end Sys2Proof.Machine
end

