-- ==== Sys2Proof/Machine/ExecRedundancy.lean ====
section
/-! DEFINITION. The commands of the redundancy unit (spec/17_module_redundancy.md). -/

namespace Sys2Proof.Machine

/-- A member sends RENEW or STATUS every steep/4 (R435). -/
def execLeaseMessageSend (t : Nat) (s : State) : Host.Outcome State Fault Refusal :=
  .next (s.runAwake t fun s => s.leaseSend t)

/-- A lease message is checked and acted upon, with ACK for RENEW (R434). -/
def execLeaseMessageReceived (m : LeaseMsg) (t : Nat) (s : State) : Host.Outcome State Fault Refusal :=
  .next (s.runAwake t fun s => s.leaseReceive m t)

/-- A holder stops acting at h_a + S − G and sends RELEASE (R436). -/
def execActingExpiry (t : Nat) (s : State) : Host.Outcome State Fault Refusal :=
  .next (s.runAwake t fun s => s.actingExpiry t)

/-- A follower without RENEW for S + G claims the lease (R437). -/
def execClaimTimeout (t : Nat) (s : State) : Host.Outcome State Fault Refusal :=
  .next (s.runAwake t fun s => s.claimTimeout t)

/-- A claimant not withdrawn after S/4 takes the lease (R437). -/
def execLeaseTake (t : Nat) (s : State) : Host.Outcome State Fault Refusal :=
  .next (s.runAwake t fun s => s.leaseTake t)

/-- A member silent for steep/2 is no longer alive (R435). -/
def execMemberAliveExpiry (m : Fin 3) (t : Nat) (s : State) : Host.Outcome State Fault Refusal :=
  .next (s.runAwake t fun s => s.aliveExpiry m t)

/-- A publication without partner copy in its cycle is not compared (R444). -/
def execComparisonWindowEnd (k : Fin 64) (t : Nat) (s : State) : Host.Outcome State Fault Refusal :=
  .next (s.runAwake t fun s => s.pairWindowEnd k t)

/-- A holder stops acting and sends RELEASE (R446). -/
def execRdRelease (t : Nat) (s : State) : Host.Outcome State Fault Refusal :=
  .next (s.run t fun s => s.rdRelease t)

/-- A holder stops acting and hands the lease to a successor (R446). -/
def execRdHandover (successor : Fin 256) (t : Nat) (s : State) : Host.Outcome State Fault Refusal :=
  .next (s.run t fun s => s.rdHandover successor t)

/-- Sets BARRED (R446). -/
def execRdBar (t : Nat) (s : State) : Host.Outcome State Fault Refusal :=
  .next (s.run t fun s => s.rdBar)

/-- Clears BARRED unless a comparison fault stands (R446). -/
def execRdUnbar (t : Nat) (s : State) : Host.Outcome State Fault Refusal :=
  .next (s.run t fun s => s.rdUnbar)

/-- The redundancy status sample is delivered on change or every 10 ms (R447). -/
def execRdStatusSample (t : Nat) (s : State) : Host.Outcome State Fault Refusal :=
  .next (s.runAwake t fun s => s.rdPeriodic t)

end Sys2Proof.Machine
end

