-- ==== Sys2Proof/Machine/ExecService.lean ====
section
/-! DEFINITION. The commands of service instructions and their results (spec/05_word_time_comm.md). -/

namespace Sys2Proof.Machine

/-- Replaces the publish buffer of a PD telegram from D (R142). -/
def execTxpd (e : EngId) (low : BitVec 20) (s : State) : Host.Outcome State Fault Refusal :=
  .next (s.regOp (.txpd e low) e 0 (txpdBody e low))

/-- Copies the latched PD payload and status into D and registers (R142). -/
def execRxpd (e : EngId) (low : BitVec 20) (s : State) : Host.Outcome State Fault Refusal :=
  .next (s.regOp (.rxpd e low) e 0 (rxpdBody low))

/-- Replaces the safe data of an SDT channel from D (R142). -/
def execTxsdt (e : EngId) (low : BitVec 20) (s : State) : Host.Outcome State Fault Refusal :=
  .next (s.regOp (.txsdt e low) e 0 (txsdtBody e low))

/-- Copies latched SDT data into D and sets BA from the checks (R142). -/
def execRxsdt (e : EngId) (low : BitVec 20) (s : State) : Host.Outcome State Fault Refusal :=
  .next (s.regOp (.rxsdt e low) e 0 (rxsdtBody low))

/-- Sends an MD message from D (R142). -/
def execTxmd (e : EngId) (low : BitVec 20) (s : State) : Host.Outcome State Fault Refusal :=
  .next (s.regOp (.txmd e low) e 0 (txmdBody e low))

/-- Requests a pop of the oldest MD message into D and waits (R142). -/
def execRxmd (e : EngId) (low : BitVec 20) (s : State) : Host.Outcome State Fault Refusal :=
  .next (s.waitOp (.rxmd e low) e (rxmdReq low))

/-- Loads a telegram object's status word (R142). -/
def execTstat (e : EngId) (low : BitVec 20) (s : State) : Host.Outcome State Fault Refusal :=
  .next (s.regOp (.tstat e low) e 1 (tstatBody low))

/-- Queues a CAN frame descriptor for transmission (R145). -/
def execCtx (e : EngId) (low : BitVec 20) (s : State) : Host.Outcome State Fault Refusal :=
  .next (s.regOp (.ctx e low) e 20 (ctxBody e false low))

/-- Queues a CAN frame for transmission at a time target (R145). -/
def execCtxt (e : EngId) (low : BitVec 20) (s : State) : Host.Outcome State Fault Refusal :=
  .next (s.regOp (.ctxt e low) e 20 (ctxBody e true low))

/-- Reads the latest frame of a CAN receive buffer (R145). -/
def execCrxb (e : EngId) (low : BitVec 20) (s : State) : Host.Outcome State Fault Refusal :=
  .next (s.regOp (.crxb e low) e 20 (crxbBody low))

/-- Requests a pop of the CAN FIFO and waits (R145). -/
def execCrxf (e : EngId) (low : BitVec 20) (s : State) : Host.Outcome State Fault Refusal :=
  .next (s.waitOp (.crxf e low) e (crxfReq low))

/-- Requests a rack bridge read and waits (R146). -/
def execBrd (e : EngId) (low : BitVec 20) (s : State) : Host.Outcome State Fault Refusal :=
  .next (s.waitOp (.brd e low) e (brdReq (fun k => s.br.sizes.getD k 0) low))

/-- Requests a non-posted rack bridge write and waits (R146). -/
def execBwr (e : EngId) (low : BitVec 20) (s : State) : Host.Outcome State Fault Refusal :=
  .next (s.waitOp (.bwr e low) e (bwrReq (fun k => s.br.sizes.getD k 0) low))

/-- Issues a recorder entry from D (R147). -/
def execRecEntry (e : EngId) (rest : BitVec 26) (ext : Word) (s : State) : Host.Outcome State Fault Refusal :=
  .next (s.codeOp (.recEntry e rest ext) e fun l => l.instr s.phase e s.lt 2 0 (recBody e rest ext))

/-- Issues a peripheral register write effect (R148). -/
def execPwr (e : EngId) (low : BitVec 20) (s : State) : Host.Outcome State Fault Refusal :=
  .next (s.regOp (.pwr e low) e 1 (pwrBody e low))

/-- Requests a peripheral register read and waits (R148). -/
def execPrd (e : EngId) (low : BitVec 20) (s : State) : Host.Outcome State Fault Refusal :=
  .next (s.waitOp (.prd e low) e (prdReq low))

/-- Issues a comparator arm effect from an arm record (R150). -/
def execArm (e : EngId) (low : BitVec 20) (s : State) : Host.Outcome State Fault Refusal :=
  .next (s.regOp (.arm e low) e 5 (armBody s.isHwt e low))

/-- Issues a comparator disarm effect (R150). -/
def execDisarm (e : EngId) (low : BitVec 20) (s : State) : Host.Outcome State Fault Refusal :=
  .next (s.regOp (.disarm e low) e 1 (disarmBody e low))

/-- Sets the running task's energy and heat classes in the caddy (R151). -/
def execEcls (e : EngId) (rest : BitVec 26) (s : State) : Host.Outcome State Fault Refusal :=
  .next (s.regOp (.ecls e rest) e 1 (eclsBody e rest))

/-- The result of a waiting request arrives through the distributor and completes the instruction (R139). -/
def execRequestResult (e : EngId) (t : Nat) (s : State) : Host.Outcome State Fault Refusal :=
  .next (s.run t fun s => s.onLanes fun l => l.deliverResult s.phase e t)

end Sys2Proof.Machine
end

