-- ==== Sys2Proof/Machine/ExecTask.lean ====
section
/-! DEFINITION. The commands of tasks, modes and events (spec/06_tasks_and_scan.md, spec/07_events.md). -/

namespace Sys2Proof.Machine

/-- A base tick releases due cyclic tasks and delivers the caddy sample (R155). -/
def execBaseTick (volt power loss : Nat) (t : Nat) (s : State) : Host.Outcome State Fault Refusal :=
  .next (s.run t fun s => s.baseTick volt power loss t)

/-- The lead dispatcher places pending tasks on engines, preempting and deferring as needed (R160). -/
def execDispatchDecision (t : Nat) (s : State) : Host.Outcome State Fault Refusal :=
  .next (s.run t fun s => s.dispatchAt t)

/-- A written bit releases its task (R155). -/
def execTskRelease (n : Nat) (t : Nat) (s : State) : Host.Outcome State Fault Refusal :=
  .next (s.run t fun s => if n < 64 then s.tskRelease n t else s)

/-- A written bit cancels its task's pending or running activation (R158). -/
def execTskCancel (n : Nat) (t : Nat) (s : State) : Host.Outcome State Fault Refusal :=
  .next (s.run t fun s => if n < 64 then s.tskCancel n t else s)

/-- An activation reaching its instruction budget is cancelled (R166). -/
def execBudgetCancel (e : EngId) (t : Nat) (s : State) : Host.Outcome State Fault Refusal :=
  .next (s.run t fun s => s.onLanes fun l => l.budgetCancel s.phase e t)

/-- Requests a WARM reset and program start (R176). -/
def execModeReqRunWarm (t : Nat) (s : State) : Host.Outcome State Fault Refusal :=
  .next (s.runHost t fun s => s.restartReq true t)

/-- Requests a COLD reset and program start (R176). -/
def execModeReqRunCold (t : Nat) (s : State) : Host.Outcome State Fault Refusal :=
  .next (s.runHost t fun s => s.restartReq false t)

/-- Enters maintenance mode (R176). -/
def execModeReqMaint (t : Nat) (s : State) : Host.Outcome State Fault Refusal :=
  .next (s.runHost t fun s => s.modeReq mdMaint)

/-- Enters STOP mode, cancelling pending tasks (R176). -/
def execModeReqStop (t : Nat) (s : State) : Host.Outcome State Fault Refusal :=
  .next (s.runHost t fun s => s.modeReq mdStop)

/-- Tick 0 falls after the last start-up task and normal releases begin (R174). -/
def execTickZero (t : Nat) (s : State) : Host.Outcome State Fault Refusal :=
  .next (s.run t fun s => s.tickZero t)

/-- A block raises an event source, setting PEND and ACC (R183). -/
def execEventRaise (n : Nat) (t : Nat) (s : State) : Host.Outcome State Fault Refusal :=
  .next (s.run t fun s => if n < 512 then s.raise n t else s)

/-- A written bit raises its event source (R181). -/
def execEvtRaise (n : Nat) (t : Nat) (s : State) : Host.Outcome State Fault Refusal :=
  .next (s.run t fun s => if n < 512 then s.raise n t else s)

/-- The lead controller delivers the highest-priority eligible source and releases its tasks (R185). -/
def execEventDelivery (t : Nat) (s : State) : Host.Outcome State Fault Refusal :=
  .next (s.run t fun s => s.eventAt t)

/-- A group's hold-off window ends and its sources become eligible (R186). -/
def execHoldoffExpiry (n : Nat) (t : Nat) (s : State) : Host.Outcome State Fault Refusal :=
  .next (s.run t fun s => if n < 32 then s.onLanes fun l => l.holdEnd n t else s)

/-- A written bit completes its source at once, or counts a spurious completion (R193). -/
def execEvtDone (n : Nat) (t : Nat) (s : State) : Host.Outcome State Fault Refusal :=
  .next (s.run t fun s => if n < 512 then s.evtDone n else s)

/-- Sets or clears global disable of deliveries (R191). -/
def execEvtCtrlWrite (v : Word) (t : Nat) (s : State) : Host.Outcome State Fault Refusal :=
  .next (s.run t fun s => s.regWrite (.host 0 0) R.EVT_CTRL_GDIS.base v t)

end Sys2Proof.Machine
end

