-- ==== Sys2Proof/Machine/ExecUpdate.lean ====
section
/-! DEFINITION. The commands of boot, update and the panel (spec/20_boot_update.md, spec/21_connectors_electrical.md). -/

namespace Sys2Proof.Machine

/-- A copy attempt of selected images completes and is hashed per lane (R502). -/
def execImageCopyCheck (progOk tabOk : BitVec 3) (t : Nat) (s : State) : Host.Outcome State Fault Refusal :=
  .next (s.runHost t fun s => s.imageCheck progOk tabOk t)

/-- The ACK key held for 5 s from power-up selects maintenance mode (R506). -/
def execAckHoldMaint (t : Nat) (s : State) : Host.Outcome State Fault Refusal :=
  .next (s.runHost t fun s => s.ackHold t)

/-- A host writes container data into the store (R495). -/
def execHostContainerWrite (k : Nat) (ws : List Word) (t : Nat) (s : State) : Host.Outcome State Fault Refusal :=
  .next (s.runHost t fun s => (s.hostPut k ws t).1)

/-- A relay chunk is stored or refused and answered (R496). -/
def execRelayChunkReceived (src cid : Word) (total ofs len : Nat) (data : List Byte) (t : Nat) (s : State) : Host.Outcome State Fault Refusal :=
  .next (s.runHost t fun s => s.relayChunk src cid total ofs len data t)

/-- A downstream answer advances the relay to that destination (R497). -/
def execRelayReplyReceived (d : Fin 4) (ofs : Nat) (cid : Word) (status kib : Nat) (t : Nat) (s : State) : Host.Outcome State Fault Refusal :=
  .next (s.runHost t fun s => s.relayReply d ofs cid status kib t)

/-- A chunk unanswered after 200 ms is sent again (R497). -/
def execRelayChunkRetry (d : Fin 4) (t : Nat) (s : State) : Host.Outcome State Fault Refusal :=
  .next (s.runHost t fun s => s.relayRetry d t)

/-- A destination without progress for 600 s becomes FAILED (R497). -/
def execRelayFailTimeout (d : Fin 4) (t : Nat) (s : State) : Host.Outcome State Fault Refusal :=
  .next (s.runHost t fun s => s.relayFail d t)

/-- A complete container is checked for key, signature and body hash (R499). -/
def execReceiptCheck (t : Nat) (s : State) : Host.Outcome State Fault Refusal :=
  .next (s.runHost t fun s => s.receiptCheck t)

/-- A passed container is applied into the alternate slot (R500). -/
def execContainerApply (t : Nat) (s : State) : Host.Outcome State Fault Refusal :=
  .next (s.runHost t fun s => s.containerApply t)

/-- Application ends with the slot CANDIDATE or EMPTY (R500). -/
def execApplyComplete (t : Nat) (s : State) : Host.Outcome State Fault Refusal :=
  .next (s.runHost t fun s => s.applyComplete t)

/-- Abandons an application and empties the store (R500). -/
def execUpDiscard (t : Nat) (s : State) : Host.Outcome State Fault Refusal :=
  .next (s.runHost t fun s => s.upDiscard)

/-- Sets the flag that makes the next boot enter MAINT (R506). -/
def execUpNextMaint (t : Nat) (s : State) : Host.Outcome State Fault Refusal :=
  .next (s.runHost t fun s => s.nextMaint)

/-- Writes a new customer key hash into an empty slot (R494). -/
def execKeyAdd (j : Fin 4) (t : Nat) (s : State) : Host.Outcome State Fault Refusal :=
  .next (s.runHost t fun s => (s.keyAdd j t).1)

/-- Sets a customer key slot's REVOKED bit (R494). -/
def execKeyRevoke (j : Fin 4) (t : Nat) (s : State) : Host.Outcome State Fault Refusal :=
  .next (s.runHost t fun s => (s.keyRevoke j t).1)

/-- The ACK key is accepted as pressed (R538). -/
def execAckKeyPress (t : Nat) (s : State) : Host.Outcome State Fault Refusal :=
  .next (s.runHost t fun s => s.keyPress t)

/-- The ACK key is accepted as released (R538). -/
def execAckKeyRelease (t : Nat) (s : State) : Host.Outcome State Fault Refusal :=
  .next (s.runHost t fun s => s.ackRelease t)

/-- The key pressed for 60 s is declared stuck (R539). -/
def execAckKeyStuck (t : Nat) (s : State) : Host.Outcome State Fault Refusal :=
  .next (s.runHost t fun s => s.keyStuck t)

/-- The 600 ms lamp test after the supply becomes present ends and the indicators follow their rules (R537). -/
def execLampTestEnd (t : Nat) (s : State) : Host.Outcome State Fault Refusal :=
  .next (s.runHost t fun s => s.lampEnd t)

end Sys2Proof.Machine
end

