-- ==== Sys2Proof/Machine/ExecWord.lean ====
section
/-! DEFINITION. The commands of word, timer, counter, signal and stamp instructions (spec/05_word_time_comm.md). -/

namespace Sys2Proof.Machine

/-- Loads a word operand into ACC1 (R120). -/
def execLd (e : EngId) (o : MOp) (s : State) : Host.Outcome State Fault Refusal :=
  .next (s.memOp (.ld e o) e o 1 (wordReadBody o fun v r => .ok { r with acc1 := v }))

/-- Stores ACC1 into a word element (R120). -/
def execStw (e : EngId) (o : MOp) (s : State) : Host.Outcome State Fault Refusal :=
  .next (s.memOp (.stw e o) e o 1 (wordWriteBody .wordWrite 1 o))

/-- Loads two consecutive words into ACC1 and ACC2 (R120). -/
def execLdd (e : EngId) (o : MOp) (s : State) : Host.Outcome State Fault Refusal :=
  .next (s.memOp (.ldd e o) e o 1 (lddBody o))

/-- Stores ACC1 and ACC2 into two consecutive words (R120). -/
def execStwd (e : EngId) (o : MOp) (s : State) : Host.Outcome State Fault Refusal :=
  .next (s.memOp (.stwd e o) e o 1 (wordWriteBody .doubleWrite 2 o))

/-- Adds a word to ACC1 and sets flags (R121). -/
def execAdd (e : EngId) (o : MOp) (s : State) : Host.Outcome State Fault Refusal :=
  .next (s.memOp (.add e o) e o 1 (wordReadBody o fun v r => .ok (aluAdd v r)))

/-- Subtracts a word from ACC1 and sets flags (R121). -/
def execSub (e : EngId) (o : MOp) (s : State) : Host.Outcome State Fault Refusal :=
  .next (s.memOp (.sub e o) e o 1 (wordReadBody o fun v r => .ok (aluSub v r)))

/-- ANDs a word into ACC1 (R121). -/
def execAw (e : EngId) (o : MOp) (s : State) : Host.Outcome State Fault Refusal :=
  .next (s.memOp (.aw e o) e o 1 (wordReadBody o fun v r => .ok (aluLogic (r.acc1 &&& v) r)))

/-- ORs a word into ACC1 (R121). -/
def execOw (e : EngId) (o : MOp) (s : State) : Host.Outcome State Fault Refusal :=
  .next (s.memOp (.ow e o) e o 1 (wordReadBody o fun v r => .ok (aluLogic (r.acc1 ||| v) r)))

/-- XORs a word into ACC1 (R121). -/
def execXw (e : EngId) (o : MOp) (s : State) : Host.Outcome State Fault Refusal :=
  .next (s.memOp (.xw e o) e o 1 (wordReadBody o fun v r => .ok (aluLogic (r.acc1 ^^^ v) r)))

/-- Compares ACC1 with a word as signed numbers (R121). -/
def execCmp (e : EngId) (o : MOp) (s : State) : Host.Outcome State Fault Refusal :=
  .next (s.memOp (.cmp e o) e o 1 (wordReadBody o fun v r => .ok (aluCmp v r)))

/-- Compares ACC1 with a word as unsigned numbers (R121). -/
def execCmpu (e : EngId) (o : MOp) (s : State) : Host.Outcome State Fault Refusal :=
  .next (s.memOp (.cmpu e o) e o 1 (wordReadBody o fun v r => .ok (aluCmpu v r)))

/-- Signed multiply into ACC2:ACC1 (R122). -/
def execMul (e : EngId) (o : MOp) (s : State) : Host.Outcome State Fault Refusal :=
  .next (s.memOp (.mul e o) e o 2 (wordReadBody o fun v r => .ok (aluMul v r)))

/-- Unsigned multiply into ACC2:ACC1 (R122). -/
def execMulu (e : EngId) (o : MOp) (s : State) : Host.Outcome State Fault Refusal :=
  .next (s.memOp (.mulu e o) e o 2 (wordReadBody o fun v r => .ok (aluMulu v r)))

/-- Signed division of ACC2:ACC1 by a word (R123). -/
def execDiv (e : EngId) (o : MOp) (s : State) : Host.Outcome State Fault Refusal :=
  .next (s.memOp (.div e o) e o 19 (wordReadBody o aluDiv))

/-- Unsigned division of ACC2:ACC1 by a word (R123). -/
def execDivu (e : EngId) (o : MOp) (s : State) : Host.Outcome State Fault Refusal :=
  .next (s.memOp (.divu e o) e o 19 (wordReadBody o aluDivu))

/-- Copies one register to another (R124). -/
def execMov (e : EngId) (low : BitVec 20) (s : State) : Host.Outcome State Fault Refusal :=
  .next (s.regOp (.mov e low) e 1 (movBody low))

/-- Exchanges ACC1 and ACC2 (R124). -/
def execSwap (e : EngId) (low : BitVec 20) (s : State) : Host.Outcome State Fault Refusal :=
  .next (s.regOp (.swap e low) e 1 (swapBody low))

/-- Negates ACC1 (R124). -/
def execNeg (e : EngId) (low : BitVec 20) (s : State) : Host.Outcome State Fault Refusal :=
  .next (s.regOp (.neg e low) e 1 (regBody (low == 0) aluNeg))

/-- Inverts ACC1 bitwise (R124). -/
def execInv (e : EngId) (low : BitVec 20) (s : State) : Host.Outcome State Fault Refusal :=
  .next (s.regOp (.inv e low) e 1 (regBody (low == 0) aluInv))

/-- Adds a signed 12-bit immediate to a register (R124). -/
def execAddi (e : EngId) (low : BitVec 20) (s : State) : Host.Outcome State Fault Refusal :=
  .next (s.regOp (.addi e low) e 1 (addiBody low))

/-- Takes the absolute value of ACC1 (R124). -/
def execAbs (e : EngId) (low : BitVec 20) (s : State) : Host.Outcome State Fault Refusal :=
  .next (s.regOp (.abs e low) e 1 (regBody (low == 0) aluAbs))

/-- Fills ACC2 with the sign of ACC1 (R124). -/
def execSext (e : EngId) (low : BitVec 20) (s : State) : Host.Outcome State Fault Refusal :=
  .next (s.regOp (.sext e low) e 1 (regBody (low == 0) aluSext))

/-- Shifts ACC1 left (R125). -/
def execShl (e : EngId) (low : BitVec 20) (s : State) : Host.Outcome State Fault Refusal :=
  .next (s.regOp (.shl e low) e 1 (shift32Body low (fun x n => x <<< n) outLeft))

/-- Shifts ACC1 right logically (R125). -/
def execShr (e : EngId) (low : BitVec 20) (s : State) : Host.Outcome State Fault Refusal :=
  .next (s.regOp (.shr e low) e 1 (shift32Body low (fun x n => x >>> n) outRight))

/-- Shifts ACC1 right arithmetically (R125). -/
def execSar (e : EngId) (low : BitVec 20) (s : State) : Host.Outcome State Fault Refusal :=
  .next (s.regOp (.sar e low) e 1 (shift32Body low (fun x n => x.sshiftRight n) outRight))

/-- Rotates ACC1 left (R125). -/
def execRol (e : EngId) (low : BitVec 20) (s : State) : Host.Outcome State Fault Refusal :=
  .next (s.regOp (.rol e low) e 1 (shift32Body low (fun x n => x.rotateLeft n) outLeft))

/-- Rotates ACC1 right (R125). -/
def execRor (e : EngId) (low : BitVec 20) (s : State) : Host.Outcome State Fault Refusal :=
  .next (s.regOp (.ror e low) e 1 (shift32Body low (fun x n => x.rotateRight n) outRight))

/-- Shifts ACC2:ACC1 left (R125). -/
def execShl64 (e : EngId) (low : BitVec 20) (s : State) : Host.Outcome State Fault Refusal :=
  .next (s.regOp (.shl64 e low) e 1 (shift64Body low (fun x n => x <<< n) outLeft))

/-- Shifts ACC2:ACC1 right logically (R125). -/
def execShr64 (e : EngId) (low : BitVec 20) (s : State) : Host.Outcome State Fault Refusal :=
  .next (s.regOp (.shr64 e low) e 1 (shift64Body low (fun x n => x >>> n) outRight))

/-- Shifts ACC2:ACC1 right arithmetically (R125). -/
def execSar64 (e : EngId) (low : BitVec 20) (s : State) : Host.Outcome State Fault Refusal :=
  .next (s.regOp (.sar64 e low) e 1 (shift64Body low (fun x n => x.sshiftRight n) outRight))

/-- Sign-extends the low byte of ACC1 (R126). -/
def execSx8 (e : EngId) (low : BitVec 20) (s : State) : Host.Outcome State Fault Refusal :=
  .next (s.regOp (.sx8 e low) e 1 (convBody low convSx8))

/-- Sign-extends the low half-word of ACC1 (R126). -/
def execSx16 (e : EngId) (low : BitVec 20) (s : State) : Host.Outcome State Fault Refusal :=
  .next (s.regOp (.sx16 e low) e 1 (convBody low convSx16))

/-- Zero-extends the low byte of ACC1 (R126). -/
def execZx8 (e : EngId) (low : BitVec 20) (s : State) : Host.Outcome State Fault Refusal :=
  .next (s.regOp (.zx8 e low) e 1 (convBody low convZx8))

/-- Zero-extends the low half-word of ACC1 (R126). -/
def execZx16 (e : EngId) (low : BitVec 20) (s : State) : Host.Outcome State Fault Refusal :=
  .next (s.regOp (.zx16 e low) e 1 (convBody low convZx16))

/-- Saturates ACC1 to the INT16 range (R126). -/
def execSat16 (e : EngId) (low : BitVec 20) (s : State) : Host.Outcome State Fault Refusal :=
  .next (s.regOp (.sat16 e low) e 1 (convBody low convSat16))

/-- Saturates ACC1 to the UINT16 range (R126). -/
def execSatu16 (e : EngId) (low : BitVec 20) (s : State) : Host.Outcome State Fault Refusal :=
  .next (s.regOp (.satu16 e low) e 1 (convBody low convSatu16))

/-- Sign-extends ACC2 from bit 15 for POS48 values (R126). -/
def execSx48 (e : EngId) (low : BitVec 20) (s : State) : Host.Outcome State Fault Refusal :=
  .next (s.regOp (.sx48 e low) e 1 (convBody low convSx48))

/-- Reverses the bytes of ACC1 (R126). -/
def execBsw32 (e : EngId) (low : BitVec 20) (s : State) : Host.Outcome State Fault Refusal :=
  .next (s.regOp (.bsw32 e low) e 1 (convBody low convBsw32))

/-- Swaps the two low bytes of ACC1 and clears the rest (R126). -/
def execBsw16 (e : EngId) (low : BitVec 20) (s : State) : Host.Outcome State Fault Refusal :=
  .next (s.regOp (.bsw16 e low) e 1 (convBody low convBsw16))

/-- Saturates ACC2:ACC1 to the INT32 range into ACC1 (R126). -/
def execSat64 (e : EngId) (low : BitVec 20) (s : State) : Host.Outcome State Fault Refusal :=
  .next (s.regOp (.sat64 e low) e 1 (convBody low convSat64))

/-- Moves a block of up to 256 words, one per cycle (R127). -/
def execBmov (e : EngId) (rest : BitVec 26) (ext : Word) (s : State) : Host.Outcome State Fault Refusal :=
  .next (s.codeOp (.bmov e rest ext) e fun l => l.instr s.phase e s.lt 2 0 (bmovBody rest ext))

/-- Evaluates an on-delay timer block (R130). -/
def execTon (e : EngId) (o : MOp) (s : State) : Host.Outcome State Fault Refusal :=
  .next (s.memOp (.ton e o) e o 2 (timerBody tkTon o))

/-- Evaluates an off-delay timer block (R130). -/
def execTof (e : EngId) (o : MOp) (s : State) : Host.Outcome State Fault Refusal :=
  .next (s.memOp (.tof e o) e o 2 (timerBody tkTof o))

/-- Evaluates a pulse timer block (R130). -/
def execTp (e : EngId) (o : MOp) (s : State) : Host.Outcome State Fault Refusal :=
  .next (s.memOp (.tp e o) e o 2 (timerBody tkTp o))

/-- Evaluates a retentive on-delay timer block (R130). -/
def execTonr (e : EngId) (o : MOp) (s : State) : Host.Outcome State Fault Refusal :=
  .next (s.memOp (.tonr e o) e o 2 (timerBody tkTonr o))

/-- Counts a rising edge of BA upward (R133). -/
def execCtu (e : EngId) (o : MOp) (s : State) : Host.Outcome State Fault Refusal :=
  .next (s.memOp (.ctu e o) e o 2 (counterBody ctuEval o))

/-- Counts a rising edge of BA downward (R133). -/
def execCtd (e : EngId) (o : MOp) (s : State) : Host.Outcome State Fault Refusal :=
  .next (s.memOp (.ctd e o) e o 2 (counterBody ctdEval o))

/-- Resets a timer or counter block when BA is 1 (R134). -/
def execRstb (e : EngId) (o : MOp) (s : State) : Host.Outcome State Fault Refusal :=
  .next (s.memOp (.rstb e o) e o 2 (rstbBody o))

/-- Loads ET or CV of a block into ACC1 (R134). -/
def execLdtc (e : EngId) (o : MOp) (s : State) : Host.Outcome State Fault Refusal :=
  .next (s.memOp (.ldtc e o) e o 1 (ldtcBody o))

/-- Reports ownership, validity and age of a global signal (R135). -/
def execSigv (e : EngId) (o : MOp) (s : State) : Host.Outcome State Fault Refusal :=
  .next (s.memOp (.sigv e o) e o 1 (sigvBody o))

/-- Returns the task-start stamp (R136). -/
def execStmpLt (e : EngId) (low : BitVec 20) (s : State) : Host.Outcome State Fault Refusal :=
  .next (s.regOp (.stmpLt e low) e 1 (stmpBody low stampLt))

/-- Returns train time from the gauge sample (R136). -/
def execStmpTt (e : EngId) (low : BitVec 20) (s : State) : Host.Outcome State Fault Refusal :=
  .next (s.regOp (.stmpTt e low) e 1 (stmpBody low stampTt))

/-- Returns position from the gauge sample (R136). -/
def execStmpP (e : EngId) (low : BitVec 20) (s : State) : Host.Outcome State Fault Refusal :=
  .next (s.regOp (.stmpP e low) e 1 (stmpBody low stampP))

/-- Returns distance from the gauge sample (R136). -/
def execStmpD (e : EngId) (low : BitVec 20) (s : State) : Host.Outcome State Fault Refusal :=
  .next (s.regOp (.stmpD e low) e 1 (stmpBody low stampD))

/-- Returns catenary phase from the gauge sample (R136). -/
def execStmpPh (e : EngId) (low : BitVec 20) (s : State) : Host.Outcome State Fault Refusal :=
  .next (s.regOp (.stmpPh e low) e 1 (stmpBody low stampPh))

/-- Returns speed from the gauge sample (R136). -/
def execStmpSpd (e : EngId) (low : BitVec 20) (s : State) : Host.Outcome State Fault Refusal :=
  .next (s.regOp (.stmpSpd e low) e 1 (stmpBody low stampSpd))

/-- Returns the interval since the previous task-start stamp (R136). -/
def execStmpCyc (e : EngId) (low : BitVec 20) (s : State) : Host.Outcome State Fault Refusal :=
  .next (s.regOp (.stmpCyc e low) e 1 (stmpBody low cycOf))

end Sys2Proof.Machine
end

