-- ==== Sys2Proof/Machine/Dispatch.lean ====
section
/-! DEFINITION. One arm per command: the meaning it calls. -/

namespace Sys2Proof.Machine

def exec (i : Instr) (s : State) : Host.Outcome State Fault Refusal :=
  match i with
  | .ldb e o => Sys2Proof.Machine.execLdb e o s
  | .ldbn e o => Sys2Proof.Machine.execLdbn e o s
  | .andBit e o => Sys2Proof.Machine.execAndBit e o s
  | .andnBit e o => Sys2Proof.Machine.execAndnBit e o s
  | .orBit e o => Sys2Proof.Machine.execOrBit e o s
  | .ornBit e o => Sys2Proof.Machine.execOrnBit e o s
  | .xorBit e o => Sys2Proof.Machine.execXorBit e o s
  | .xornBit e o => Sys2Proof.Machine.execXornBit e o s
  | .st e o => Sys2Proof.Machine.execSt e o s
  | .stn e o => Sys2Proof.Machine.execStn e o s
  | .setBit e o => Sys2Proof.Machine.execSetBit e o s
  | .rstBit e o => Sys2Proof.Machine.execRstBit e o s
  | .rise e o => Sys2Proof.Machine.execRise e o s
  | .fall e o => Sys2Proof.Machine.execFall e o s
  | .band e low => Sys2Proof.Machine.execBand e low s
  | .bandn e low => Sys2Proof.Machine.execBandn e low s
  | .bor e low => Sys2Proof.Machine.execBor e low s
  | .born e low => Sys2Proof.Machine.execBorn e low s
  | .bxor e low => Sys2Proof.Machine.execBxor e low s
  | .bxorn e low => Sys2Proof.Machine.execBxorn e low s
  | .bend e rest => Sys2Proof.Machine.execBend e rest s
  | .clrb e low => Sys2Proof.Machine.execClrb e low s
  | .setb e low => Sys2Proof.Machine.execSetb e low s
  | .notBa e low => Sys2Proof.Machine.execNotBa e low s
  | .ldc e low => Sys2Proof.Machine.execLdc e low s
  | .ldsv e low => Sys2Proof.Machine.execLdsv e low s
  | .jmp e c target => Sys2Proof.Machine.execJmp e c target s
  | .call e c target => Sys2Proof.Machine.execCall e c target s
  | .ret e rest => Sys2Proof.Machine.execRet e rest s
  | .rept e c target => Sys2Proof.Machine.execRept e c target s
  | .endAct e low => Sys2Proof.Machine.execEndAct e low s
  | .endBa e low => Sys2Proof.Machine.execEndBa e low s
  | .endNba e low => Sys2Proof.Machine.execEndNba e low s
  | .nop e rest => Sys2Proof.Machine.execNop e rest s
  | .ld e o => Sys2Proof.Machine.execLd e o s
  | .stw e o => Sys2Proof.Machine.execStw e o s
  | .ldd e o => Sys2Proof.Machine.execLdd e o s
  | .stwd e o => Sys2Proof.Machine.execStwd e o s
  | .add e o => Sys2Proof.Machine.execAdd e o s
  | .sub e o => Sys2Proof.Machine.execSub e o s
  | .aw e o => Sys2Proof.Machine.execAw e o s
  | .ow e o => Sys2Proof.Machine.execOw e o s
  | .xw e o => Sys2Proof.Machine.execXw e o s
  | .cmp e o => Sys2Proof.Machine.execCmp e o s
  | .cmpu e o => Sys2Proof.Machine.execCmpu e o s
  | .mul e o => Sys2Proof.Machine.execMul e o s
  | .mulu e o => Sys2Proof.Machine.execMulu e o s
  | .div e o => Sys2Proof.Machine.execDiv e o s
  | .divu e o => Sys2Proof.Machine.execDivu e o s
  | .mov e low => Sys2Proof.Machine.execMov e low s
  | .swap e low => Sys2Proof.Machine.execSwap e low s
  | .neg e low => Sys2Proof.Machine.execNeg e low s
  | .inv e low => Sys2Proof.Machine.execInv e low s
  | .addi e low => Sys2Proof.Machine.execAddi e low s
  | .abs e low => Sys2Proof.Machine.execAbs e low s
  | .sext e low => Sys2Proof.Machine.execSext e low s
  | .shl e low => Sys2Proof.Machine.execShl e low s
  | .shr e low => Sys2Proof.Machine.execShr e low s
  | .sar e low => Sys2Proof.Machine.execSar e low s
  | .rol e low => Sys2Proof.Machine.execRol e low s
  | .ror e low => Sys2Proof.Machine.execRor e low s
  | .shl64 e low => Sys2Proof.Machine.execShl64 e low s
  | .shr64 e low => Sys2Proof.Machine.execShr64 e low s
  | .sar64 e low => Sys2Proof.Machine.execSar64 e low s
  | .sx8 e low => Sys2Proof.Machine.execSx8 e low s
  | .sx16 e low => Sys2Proof.Machine.execSx16 e low s
  | .zx8 e low => Sys2Proof.Machine.execZx8 e low s
  | .zx16 e low => Sys2Proof.Machine.execZx16 e low s
  | .sat16 e low => Sys2Proof.Machine.execSat16 e low s
  | .satu16 e low => Sys2Proof.Machine.execSatu16 e low s
  | .sx48 e low => Sys2Proof.Machine.execSx48 e low s
  | .bsw32 e low => Sys2Proof.Machine.execBsw32 e low s
  | .bsw16 e low => Sys2Proof.Machine.execBsw16 e low s
  | .sat64 e low => Sys2Proof.Machine.execSat64 e low s
  | .bmov e rest ext => Sys2Proof.Machine.execBmov e rest ext s
  | .ton e o => Sys2Proof.Machine.execTon e o s
  | .tof e o => Sys2Proof.Machine.execTof e o s
  | .tp e o => Sys2Proof.Machine.execTp e o s
  | .tonr e o => Sys2Proof.Machine.execTonr e o s
  | .ctu e o => Sys2Proof.Machine.execCtu e o s
  | .ctd e o => Sys2Proof.Machine.execCtd e o s
  | .rstb e o => Sys2Proof.Machine.execRstb e o s
  | .ldtc e o => Sys2Proof.Machine.execLdtc e o s
  | .sigv e o => Sys2Proof.Machine.execSigv e o s
  | .stmpLt e low => Sys2Proof.Machine.execStmpLt e low s
  | .stmpTt e low => Sys2Proof.Machine.execStmpTt e low s
  | .stmpP e low => Sys2Proof.Machine.execStmpP e low s
  | .stmpD e low => Sys2Proof.Machine.execStmpD e low s
  | .stmpPh e low => Sys2Proof.Machine.execStmpPh e low s
  | .stmpSpd e low => Sys2Proof.Machine.execStmpSpd e low s
  | .stmpCyc e low => Sys2Proof.Machine.execStmpCyc e low s
  | .txpd e low => Sys2Proof.Machine.execTxpd e low s
  | .rxpd e low => Sys2Proof.Machine.execRxpd e low s
  | .txsdt e low => Sys2Proof.Machine.execTxsdt e low s
  | .rxsdt e low => Sys2Proof.Machine.execRxsdt e low s
  | .txmd e low => Sys2Proof.Machine.execTxmd e low s
  | .rxmd e low => Sys2Proof.Machine.execRxmd e low s
  | .tstat e low => Sys2Proof.Machine.execTstat e low s
  | .ctx e low => Sys2Proof.Machine.execCtx e low s
  | .ctxt e low => Sys2Proof.Machine.execCtxt e low s
  | .crxb e low => Sys2Proof.Machine.execCrxb e low s
  | .crxf e low => Sys2Proof.Machine.execCrxf e low s
  | .brd e low => Sys2Proof.Machine.execBrd e low s
  | .bwr e low => Sys2Proof.Machine.execBwr e low s
  | .recEntry e rest ext => Sys2Proof.Machine.execRecEntry e rest ext s
  | .pwr e low => Sys2Proof.Machine.execPwr e low s
  | .prd e low => Sys2Proof.Machine.execPrd e low s
  | .arm e low => Sys2Proof.Machine.execArm e low s
  | .disarm e low => Sys2Proof.Machine.execDisarm e low s
  | .ecls e rest => Sys2Proof.Machine.execEcls e rest s
  | .requestResult e t => Sys2Proof.Machine.execRequestResult e t s
  | .hpOpen f => Sys2Proof.Machine.execHpOpen f s
  | .auth f => Sys2Proof.Machine.execAuth f s
  | .proofVerifyEnd t => Sys2Proof.Machine.execProofVerifyEnd t s
  | .close f => Sys2Proof.Machine.execClose f s
  | .keepalive f => Sys2Proof.Machine.execKeepalive f s
  | .read f => Sys2Proof.Machine.execRead f s
  | .write f => Sys2Proof.Machine.execWrite f s
  | .writeMasked f => Sys2Proof.Machine.execWriteMasked f s
  | .qlock f => Sys2Proof.Machine.execQlock f s
  | .qrelease f => Sys2Proof.Machine.execQrelease f s
  | .qbreak f => Sys2Proof.Machine.execQbreak f s
  | .hostArpRequest p ip tagged t => Sys2Proof.Machine.execHostArpRequest p ip tagged t s
  | .hostIcmpEcho p ip tagged t => Sys2Proof.Machine.execHostIcmpEcho p ip tagged t s
  | .handshakeLapse p n t => Sys2Proof.Machine.execHandshakeLapse p n t s
  | .sessionTimeout p n t => Sys2Proof.Machine.execSessionTimeout p n t s
  | .hostAddressChange t => Sys2Proof.Machine.execHostAddressChange t s
  | .commitGo b t => Sys2Proof.Machine.execCommitGo b t s
  | .commitDiscard b t => Sys2Proof.Machine.execCommitDiscard b t s
  | .pendingSetApply b t => Sys2Proof.Machine.execPendingSetApply b t s
  | .softReset b t => Sys2Proof.Machine.execSoftReset b t s
  | .cntClear b t => Sys2Proof.Machine.execCntClear b t s
  | .registerWrite a v t => Sys2Proof.Machine.execRegisterWrite a v t s
  | .inputSample w v t => Sys2Proof.Machine.execInputSample w v t s
  | .voterItem x t => Sys2Proof.Machine.execVoterItem x t s
  | .itemLate x t => Sys2Proof.Machine.execItemLate x t s
  | .laneReset x t => Sys2Proof.Machine.execLaneReset x t s
  | .laneSelftestEnd x pass t => Sys2Proof.Machine.execLaneSelftestEnd x pass t s
  | .rejoinCopyStart x t => Sys2Proof.Machine.execRejoinCopyStart x t s
  | .sweepEnd x t => Sys2Proof.Machine.execSweepEnd x t s
  | .rejoinSwitch x t => Sys2Proof.Machine.execRejoinSwitch x t s
  | .scrubUncorrectable x a t => Sys2Proof.Machine.execScrubUncorrectable x a t s
  | .scrubRepairWrite x a t => Sys2Proof.Machine.execScrubRepairWrite x a t s
  | .graceWarn t => Sys2Proof.Machine.execGraceWarn t s
  | .graceExpiry t => Sys2Proof.Machine.execGraceExpiry t s
  | .graceRecord t => Sys2Proof.Machine.execGraceRecord t s
  | .simplexLimit t => Sys2Proof.Machine.execSimplexLimit t s
  | .vtHoldOutWrite v t => Sys2Proof.Machine.execVtHoldOutWrite v t s
  | .baseTick volt power loss t => Sys2Proof.Machine.execBaseTick volt power loss t s
  | .dispatchDecision t => Sys2Proof.Machine.execDispatchDecision t s
  | .tskRelease n t => Sys2Proof.Machine.execTskRelease n t s
  | .tskCancel n t => Sys2Proof.Machine.execTskCancel n t s
  | .budgetCancel e t => Sys2Proof.Machine.execBudgetCancel e t s
  | .modeReqRunWarm t => Sys2Proof.Machine.execModeReqRunWarm t s
  | .modeReqRunCold t => Sys2Proof.Machine.execModeReqRunCold t s
  | .modeReqMaint t => Sys2Proof.Machine.execModeReqMaint t s
  | .modeReqStop t => Sys2Proof.Machine.execModeReqStop t s
  | .tickZero t => Sys2Proof.Machine.execTickZero t s
  | .eventRaise n t => Sys2Proof.Machine.execEventRaise n t s
  | .evtRaise n t => Sys2Proof.Machine.execEvtRaise n t s
  | .eventDelivery t => Sys2Proof.Machine.execEventDelivery t s
  | .holdoffExpiry n t => Sys2Proof.Machine.execHoldoffExpiry n t s
  | .evtDone n t => Sys2Proof.Machine.execEvtDone n t s
  | .evtCtrlWrite v t => Sys2Proof.Machine.execEvtCtrlWrite v t s
  | .gaugeTick t => Sys2Proof.Machine.execGaugeTick t s
  | .comparatorArmApply t => Sys2Proof.Machine.execComparatorArmApply t s
  | .comparatorFire n t => Sys2Proof.Machine.execComparatorFire n t s
  | .switchCommand c t => Sys2Proof.Machine.execSwitchCommand c t s
  | .outputPulseEnd c t => Sys2Proof.Machine.execOutputPulseEnd c t s
  | .ptpOffsetApply t => Sys2Proof.Machine.execPtpOffsetApply t s
  | .ttMeasurementTimeout t => Sys2Proof.Machine.execTtMeasurementTimeout t s
  | .wheelEdge k lead both t => Sys2Proof.Machine.execWheelEdge k lead both t s
  | .pairValidRestore k t => Sys2Proof.Machine.execPairValidRestore k t s
  | .standstillEntry t => Sys2Proof.Machine.execStandstillEntry t s
  | .accelSample x y z t => Sys2Proof.Machine.execAccelSample x y z t s
  | .slipClear t => Sys2Proof.Machine.execSlipClear t s
  | .slipMaxExpiry t => Sys2Proof.Machine.execSlipMaxExpiry t s
  | .applyRef t => Sys2Proof.Machine.execApplyRef t s
  | .dqRestore t => Sys2Proof.Machine.execDqRestore t s
  | .phaseCrossing t => Sys2Proof.Machine.execPhaseCrossing t s
  | .phaseLost t => Sys2Proof.Machine.execPhaseLost t s
  | .classEvaluation uac udc n t => Sys2Proof.Machine.execClassEvaluation uac udc n t s
  | .aoSupplyLost t => Sys2Proof.Machine.execAoSupplyLost t s
  | .chaseInputSample n mv ug t => Sys2Proof.Machine.execChaseInputSample n mv ug t s
  | .chaseCycle c => Sys2Proof.Machine.execChaseCycle c s
  | .testCycleStart g t => Sys2Proof.Machine.execTestCycleStart g t s
  | .testPulseSample g slot highs t => Sys2Proof.Machine.execTestPulseSample g slot highs t s
  | .chaseInputStuck n t => Sys2Proof.Machine.execChaseInputStuck n t s
  | .darkPulseStart n t => Sys2Proof.Machine.execDarkPulseStart n t s
  | .darkPulseEnd n mv ug t => Sys2Proof.Machine.execDarkPulseEnd n mv ug t s
  | .extPotential n t => Sys2Proof.Machine.execExtPotential n t s
  | .chaseDiscrepancy n t => Sys2Proof.Machine.execChaseDiscrepancy n t s
  | .retest t => Sys2Proof.Machine.execRetest t s
  | .chaseSelftestEnd pass t => Sys2Proof.Machine.execChaseSelftestEnd pass t s
  | .chaseCrcCheck ok t => Sys2Proof.Machine.execChaseCrcCheck ok t s
  | .heartbeatMiss missing t => Sys2Proof.Machine.execHeartbeatMiss missing t s
  | .chaseComparatorCheck ok t => Sys2Proof.Machine.execChaseComparatorCheck ok t s
  | .degradedLimit t => Sys2Proof.Machine.execDegradedLimit t s
  | .degradedWarn t => Sys2Proof.Machine.execDegradedWarn t s
  | .degradedTimeRecord t => Sys2Proof.Machine.execDegradedTimeRecord t s
  | .clrFaults t => Sys2Proof.Machine.execClrFaults t s
  | .sdtCompareWindowEnd n t => Sys2Proof.Machine.execSdtCompareWindowEnd n t s
  | .groupPowered g t => Sys2Proof.Machine.execGroupPowered g t s
  | .groupUnpowered g t => Sys2Proof.Machine.execGroupUnpowered g t s
  | .groupOvervolt g t => Sys2Proof.Machine.execGroupOvervolt g t s
  | .groupOvervoltEnd g t => Sys2Proof.Machine.execGroupOvervoltEnd g t s
  | .groupTrip g t => Sys2Proof.Machine.execGroupTrip g t s
  | .fieldSample g ug ig rail mvs mas cool t => Sys2Proof.Machine.execFieldSample g ug ig rail mvs mas cool t s
  | .inputFrameDelivery g t => Sys2Proof.Machine.execInputFrameDelivery g t s
  | .commitApply g t => Sys2Proof.Machine.execCommitApply g t s
  | .modeTransitionEnd c t => Sys2Proof.Machine.execModeTransitionEnd c t s
  | .undetTimeout c t => Sys2Proof.Machine.execUndetTimeout c t s
  | .channelStuck c t => Sys2Proof.Machine.execChannelStuck c t s
  | .inputOverrun c t => Sys2Proof.Machine.execInputOverrun c t s
  | .countEdge c lv short both t => Sys2Proof.Machine.execCountEdge c lv short both t s
  | .freqGateEnd c n d t => Sys2Proof.Machine.execFreqGateEnd c n d t s
  | .outputTrip c hot t => Sys2Proof.Machine.execOutputTrip c hot t s
  | .parMismatch c t => Sys2Proof.Machine.execParMismatch c t s
  | .pwmPeriodStart c t => Sys2Proof.Machine.execPwmPeriodStart c t s
  | .doPulseEnd c t => Sys2Proof.Machine.execDoPulseEnd c t s
  | .tpSourceRestart c t => Sys2Proof.Machine.execTpSourceRestart c t s
  | .openWire c t => Sys2Proof.Machine.execOpenWire c t s
  | .openLoad c t => Sys2Proof.Machine.execOpenLoad c t s
  | .shortToSupply c t => Sys2Proof.Machine.execShortToSupply c t s
  | .backfeed c t => Sys2Proof.Machine.execBackfeed c t s
  | .backfeedClear c t => Sys2Proof.Machine.execBackfeedClear c t s
  | .faultCodeClear c t => Sys2Proof.Machine.execFaultCodeClear c t s
  | .conversionEnd c v v2 cj t => Sys2Proof.Machine.execConversionEnd c v v2 cj t s
  | .shuntDisconnect c t => Sys2Proof.Machine.execShuntDisconnect c t s
  | .shuntReconnect c ok t => Sys2Proof.Machine.execShuntReconnect c ok t s
  | .tcOpenTest c uv t => Sys2Proof.Machine.execTcOpenTest c uv t s
  | .aoOverload c t => Sys2Proof.Machine.execAoOverload c t s
  | .trimApply c t => Sys2Proof.Machine.execTrimApply c t s
  | .trimRestore c t => Sys2Proof.Machine.execTrimRestore c t s
  | .trimDrive c drive point t => Sys2Proof.Machine.execTrimDrive c drive point t s
  | .trimSaved c t => Sys2Proof.Machine.execTrimSaved c t s
  | .feedLowEntry g t => Sys2Proof.Machine.execFeedLowEntry g t s
  | .feedLowExit g t => Sys2Proof.Machine.execFeedLowExit g t s
  | .cycleStart t => Sys2Proof.Machine.execCycleStart t s
  | .starFrameCheck b f t => Sys2Proof.Machine.execStarFrameCheck b f t s
  | .formeFrameAccept b f t => Sys2Proof.Machine.execFormeFrameAccept b f t s
  | .slotEnd n t => Sys2Proof.Machine.execSlotEnd n t s
  | .networkIdle t => Sys2Proof.Machine.execNetworkIdle t s
  | .framePreparation n t => Sys2Proof.Machine.execFramePreparation n t s
  | .lockupEnd t => Sys2Proof.Machine.execLockupEnd t s
  | .fbSchedReq target t => Sys2Proof.Machine.execFbSchedReq target t s
  | .switchCheck t => Sys2Proof.Machine.execSwitchCheck t s
  | .scheduleSwitch t => Sys2Proof.Machine.execScheduleSwitch t s
  | .branchRelease b t => Sys2Proof.Machine.execBranchRelease b t s
  | .branchLinkChange b up t => Sys2Proof.Machine.execBranchLinkChange b up t s
  | .switchFrameReceived p f t => Sys2Proof.Machine.execSwitchFrameReceived p f t s
  | .egressTransmit q t => Sys2Proof.Machine.execEgressTransmit q t s
  | .copyDrop q t => Sys2Proof.Machine.execCopyDrop q t s
  | .endpointArp pl ip asker t => Sys2Proof.Machine.execEndpointArp pl ip asker t s
  | .arpRefresh pl ip answer t => Sys2Proof.Machine.execArpRefresh pl ip answer t s
  | .arpRetry pl ip answer t => Sys2Proof.Machine.execArpRetry pl ip answer t s
  | .addressAgeing pl mac t => Sys2Proof.Machine.execAddressAgeing pl mac t s
  | .pdPublication n codesOk t => Sys2Proof.Machine.execPdPublication n codesOk t s
  | .pdCopyReceived pl c t => Sys2Proof.Machine.execPdCopyReceived pl c t s
  | .pdTimeout n t => Sys2Proof.Machine.execPdTimeout n t s
  | .sdtTimeout n t => Sys2Proof.Machine.execSdtTimeout n t s
  | .mdMessageReceived pl m t => Sys2Proof.Machine.execMdMessageReceived pl m t s
  | .mdReplyTimeout n t => Sys2Proof.Machine.execMdReplyTimeout n t s
  | .mdReassemblyTimeout n t => Sys2Proof.Machine.execMdReassemblyTimeout n t s
  | .syncReceived pl sender twoStep t1 cs t2 t => Sys2Proof.Machine.execSyncReceived pl sender twoStep t1 cs t2 t s
  | .followUpReceived pl sender t1 cs t => Sys2Proof.Machine.execFollowUpReceived pl sender t1 cs t s
  | .delayReqSend t3 t => Sys2Proof.Machine.execDelayReqSend t3 t s
  | .delayRespReceived pl sender t4 cd t => Sys2Proof.Machine.execDelayRespReceived pl sender t4 cd t s
  | .announceReceived pl a t => Sys2Proof.Machine.execAnnounceReceived pl a t s
  | .announceTimeout t => Sys2Proof.Machine.execAnnounceTimeout t s
  | .netLinkChange p up gigabit t => Sys2Proof.Machine.execNetLinkChange p up gigabit t s
  | .canFrameReceived c w dataOk t => Sys2Proof.Machine.execCanFrameReceived c w dataOk t s
  | .rateCandidateTimeout c t => Sys2Proof.Machine.execRateCandidateTimeout c t s
  | .hbufLockRead c b t => Sys2Proof.Machine.execHbufLockRead c b t s
  | .hbufReleaseRead c b t => Sys2Proof.Machine.execHbufReleaseRead c b t s
  | .hbufLockTimeout c b t => Sys2Proof.Machine.execHbufLockTimeout c b t s
  | .canTxComplete c b t => Sys2Proof.Machine.execCanTxComplete c b t s
  | .canTxError c b arb t => Sys2Proof.Machine.execCanTxError c b arb t s
  | .busOffDelayEnd c t => Sys2Proof.Machine.execBusOffDelayEnd c t s
  | .busOffReturn c t => Sys2Proof.Machine.execBusOffReturn c t s
  | .ctxtDue c b t => Sys2Proof.Machine.execCtxtDue c b t s
  | .ctxtMissed c b t => Sys2Proof.Machine.execCtxtMissed c b t s
  | .pdoTimeout c b t => Sys2Proof.Machine.execPdoTimeout c b t s
  | .pdoEventTimer c b t => Sys2Proof.Machine.execPdoEventTimer c b t s
  | .pdoInhibitEnd c b t => Sys2Proof.Machine.execPdoInhibitEnd c b t s
  | .syncProduce c t => Sys2Proof.Machine.execSyncProduce c t s
  | .srbRequestStart t => Sys2Proof.Machine.execSrbRequestStart t s
  | .srbGrant reqs t => Sys2Proof.Machine.execSrbGrant reqs t s
  | .srbAnswer err ad t => Sys2Proof.Machine.execSrbAnswer err ad t s
  | .srbAnswerTimeout t => Sys2Proof.Machine.execSrbAnswerTimeout t s
  | .srbArbTimeout t => Sys2Proof.Machine.execSrbArbTimeout t s
  | .srbReset t => Sys2Proof.Machine.execSrbReset t s
  | .srbReady t => Sys2Proof.Machine.execSrbReady t s
  | .srbClockLost t => Sys2Proof.Machine.execSrbClockLost t s
  | .srbIrq k t => Sys2Proof.Machine.execSrbIrq k t s
  | .leaseMessageSend t => Sys2Proof.Machine.execLeaseMessageSend t s
  | .leaseMessageReceived m t => Sys2Proof.Machine.execLeaseMessageReceived m t s
  | .actingExpiry t => Sys2Proof.Machine.execActingExpiry t s
  | .claimTimeout t => Sys2Proof.Machine.execClaimTimeout t s
  | .leaseTake t => Sys2Proof.Machine.execLeaseTake t s
  | .memberAliveExpiry m t => Sys2Proof.Machine.execMemberAliveExpiry m t s
  | .comparisonWindowEnd k t => Sys2Proof.Machine.execComparisonWindowEnd k t s
  | .rdRelease t => Sys2Proof.Machine.execRdRelease t s
  | .rdHandover successor t => Sys2Proof.Machine.execRdHandover successor t s
  | .rdBar t => Sys2Proof.Machine.execRdBar t s
  | .rdUnbar t => Sys2Proof.Machine.execRdUnbar t s
  | .rdStatusSample t => Sys2Proof.Machine.execRdStatusSample t s
  | .recordWrite ok t => Sys2Proof.Machine.execRecordWrite ok t s
  | .erFetch p t => Sys2Proof.Machine.execErFetch p t s
  | .erFetchDone p t => Sys2Proof.Machine.execErFetchDone p t s
  | .clearReq t => Sys2Proof.Machine.execClearReq t s
  | .clearGo p session t => Sys2Proof.Machine.execClearGo p session t s
  | .clearChallengeExpiry t => Sys2Proof.Machine.execClearChallengeExpiry t s
  | .recorderRecovery t => Sys2Proof.Machine.execRecorderRecovery t s
  | .supplyPresent slot key sysOk t => Sys2Proof.Machine.execSupplyPresent slot key sysOk t s
  | .supplyLost t => Sys2Proof.Machine.execSupplyLost t s
  | .holdupEntry t => Sys2Proof.Machine.execHoldupEntry t s
  | .retainedSaveEnd t => Sys2Proof.Machine.execRetainedSaveEnd t s
  | .holdupBankEnd torn t => Sys2Proof.Machine.execHoldupBankEnd torn t s
  | .pwStable t => Sys2Proof.Machine.execPwStable t s
  | .pwTopup t => Sys2Proof.Machine.execPwTopup t s
  | .pwUnstable t => Sys2Proof.Machine.execPwUnstable t s
  | .pwSleep t => Sys2Proof.Machine.execPwSleep t s
  | .sleepQuietPoint t => Sys2Proof.Machine.execSleepQuietPoint t s
  | .retentionCommit t => Sys2Proof.Machine.execRetentionCommit t s
  | .sleepEntryAbandon t => Sys2Proof.Machine.execSleepEntryAbandon t s
  | .wakeLatch src can irq chan t => Sys2Proof.Machine.execWakeLatch src can irq chan t s
  | .balanceExhausted t => Sys2Proof.Machine.execBalanceExhausted t s
  | .heatCreditExhausted t => Sys2Proof.Machine.execHeatCreditExhausted t s
  | .temperatureRead ts t => Sys2Proof.Machine.execTemperatureRead ts t s
  | .slackSample x slack ring t => Sys2Proof.Machine.execSlackSample x slack ring t s
  | .vcoreStep x naks settled fault t => Sys2Proof.Machine.execVcoreStep x naks settled fault t s
  | .referenceCheck g diff t => Sys2Proof.Machine.execReferenceCheck g diff t s
  | .flashScan block bits image t => Sys2Proof.Machine.execFlashScan block bits image t s
  | .holdupMeasurement step fall t => Sys2Proof.Machine.execHoldupMeasurement step fall t s
  | .holdupNowRefresh t => Sys2Proof.Machine.execHoldupNowRefresh t s
  | .imageCopyCheck progOk tabOk t => Sys2Proof.Machine.execImageCopyCheck progOk tabOk t s
  | .ackHoldMaint t => Sys2Proof.Machine.execAckHoldMaint t s
  | .hostContainerWrite k ws t => Sys2Proof.Machine.execHostContainerWrite k ws t s
  | .relayChunkReceived src cid total ofs len data t => Sys2Proof.Machine.execRelayChunkReceived src cid total ofs len data t s
  | .relayReplyReceived d ofs cid status kib t => Sys2Proof.Machine.execRelayReplyReceived d ofs cid status kib t s
  | .relayChunkRetry d t => Sys2Proof.Machine.execRelayChunkRetry d t s
  | .relayFailTimeout d t => Sys2Proof.Machine.execRelayFailTimeout d t s
  | .receiptCheck t => Sys2Proof.Machine.execReceiptCheck t s
  | .containerApply t => Sys2Proof.Machine.execContainerApply t s
  | .applyComplete t => Sys2Proof.Machine.execApplyComplete t s
  | .upDiscard t => Sys2Proof.Machine.execUpDiscard t s
  | .upNextMaint t => Sys2Proof.Machine.execUpNextMaint t s
  | .keyAdd j t => Sys2Proof.Machine.execKeyAdd j t s
  | .keyRevoke j t => Sys2Proof.Machine.execKeyRevoke j t s
  | .ackKeyPress t => Sys2Proof.Machine.execAckKeyPress t s
  | .ackKeyRelease t => Sys2Proof.Machine.execAckKeyRelease t s
  | .ackKeyStuck t => Sys2Proof.Machine.execAckKeyStuck t s
  | .unassignedOpFetch e w => Sys2Proof.Machine.execUnassignedOpFetch e w s
  | .sramError x a uncorr => Sys2Proof.Machine.execSramError x a uncorr s
  | .scrubCorrection x a => Sys2Proof.Machine.execScrubCorrection x a s
  | .canBusError c eight t => Sys2Proof.Machine.execCanBusError c eight t s
  | .canIntegration c t => Sys2Proof.Machine.execCanIntegration c t s
  | .canTxStart c b t => Sys2Proof.Machine.execCanTxStart c b t s
  | .backgroundEraseEnd t => Sys2Proof.Machine.execBackgroundEraseEnd t s
  | .lampTestEnd t => Sys2Proof.Machine.execLampTestEnd t s

end Sys2Proof.Machine
end

