-- ==== Sys2Proof/Safety.lean ====
section
/-! DEFINITION. The terms the statements use: a module that takes commands, an engine ready for an instruction, and what
an instruction or a command leaves. -/

namespace Sys2Proof.Machine

/-- The module has power, its lanes are not stopped (R463, R467) and it is not in RECOVERY (R505). -/
def State.live (s : State) : Bool := !s.pw.off && !s.pw.frozen && !s.recovering

/-- The state a command leaves whose own effect leaves `u`: what follows every command is carried out on `u` at `t` (a
STOP asked for, the redundancy unit's following, the hold store), and the queue stays. -/
def State.after (s u : State) (t : Nat) : State := State.keepQueue s (u.settle t)

/-- The command `c`, happening at `t`, answers a next state, and its own effect leaves `u`. -/
def State.leaves (s : State) (c : Instr) (t : Nat) (u : State) : Prop := exec c s = .next (s.after u t)

/-- The command `c`, happening at `t`, answers a next state, and what its own effect leaves is as `φ` says. -/
def State.leavesSome (s : State) (c : Instr) (t : Nat) (φ : State → Prop) : Prop := ∃ u, s.leaves c t u ∧ φ u

/-- The command `c`, happening at `t`, answers a next state, and its own effect leaves `u`, in which stopped lanes stand as they
stood (R463, R467). -/
def State.leavesStill (s : State) (c : Instr) (t : Nat) (u : State) : Prop :=
  exec c s = .next (State.keepQueue s ((State.keepLanes s u).settle t))

/-- Nothing is left to what follows every command at `t`: no STOP and no UNPAIRED waits in a serving lane, no start-up awaits its end,
no request's service ends, no schedule waits for the Forme controller, the redundancy unit shows what it should, the hold store's
registers show its occupancy and the caddy's sample stands. -/
def State.calm (s : State) (t : Nat) : Bool :=
  s.servingLanes.all (fun x => !(s.lane x).stopReq && !(s.lane x).unpaired) && !(s.startup && s.up.ready && s.up.startEnd.isNone) &&
  s.hp.sessions.all (fun x => x.serving.all fun v => decide (t < v.until_)) && !s.fb.waits &&
  (s.pw.frozen || s.pw.shown == (s.pwWords.getD 0 0, s.pwWords.getD 3 0)) &&
  (if s.rdEn then !(s.role == rrHolder && (s.stopped || s.isSafe)) && !(s.role == rrClaiming && !s.mayClaim t)
   else s.mayClaim t == s.acting) &&
  decide (s.rd_.rank = s.ownRank) && decide (s.rdWords = s.rd_.status) && decide (s.holdBytes ≤ 8388608) &&
  decide (s.rd R.VT_HOLD_NOW = s.holdBytes) && decide (s.holdBytes ≤ s.rd R.VT_HOLD_PEAK)

/-- No word of the lane's SRAM holds an error (R88). -/
def Lane.clean (l : Lane) : Bool := l.ecc1.isEmpty && l.ecc2.isEmpty

/-- Engine `e` is in RUN, its activation's input latch is taken, it has no partner in lockstep, and an instruction of `len` words
at its PC lies in the code store. -/
def Lane.ready (l : Lane) (e len : Nat) : Bool :=
  (l.engine e).st == .run && !(l.engine e).fresh && (l.engine e).pair == none && decide ((l.engine e).r.pc.toNat < codeWords) &&
  decide ((l.engine e).r.pc.toNat + len ≤ codeWords) && l.clean

/-- The module takes commands and engine `e` of every serving lane is ready for an instruction of `len` words. -/
def State.ready (s : State) (e len : Nat) : Bool := s.live && s.servingLanes.all fun x => (s.lane x).ready e len

/-- Where engine `e` of every serving lane has come to instruction `c` (its code words stand at PC, R76), the command answers
as `o` says. -/
def State.does (s : State) (e : EngId) (c : Instr) (o : Host.Outcome State Fault Refusal) : Prop :=
  (∀ x ∈ s.servingLanes, (s.lane x).stands e c = true) → exec c s = o

/-- The state after an instruction on engine `e` of base count `cyc` that leaves its lane and engine as `h` says: the
instruction retires in every serving lane (R84), and what follows every command is carried out. -/
def State.did (s : State) (e cyc : Nat) (h : Lane → Eng → Lane × Eng) : State :=
  s.after (s.onLanes fun l => (h l (l.engine e)).1.setEngine e ((h l (l.engine e)).2.retire cyc)) s.lt

/-- The engine with new registers, PC moved past `len` words. -/
def Eng.past (g : Eng) (r : Regs) (len : Nat) : Eng := { g with r := { r with pc := r.pc + BitVec.ofNat 22 len } }

end Sys2Proof.Machine
end

