-- ==== Sys2Proof/WellFormed.lean ====
section
/-! DEFINITION. The commands whose operands lie in the ranges the spec gives them. The types of `Instr` already bound most
operands; these are the checks that stay. A command that fails one names a happening the module has none of, and its
meaning leaves the state to what follows every command. -/

namespace Sys2Proof

/-- A word of a lane's SRAM (R28). -/
def sramWord (a : Nat) : Bool := decide (a % 4 = 0 ∧ a < 0x04000000)

/-- A management frame: the words of its payload count 256 at most, and its MAC has 16 bytes (R38). -/
def frameWf (f : Frame) : Bool := decide (f.payload.length ≤ 256 ∧ f.mac.length = 16)

/-- A Forme frame: its times rise, its payload is LEN bytes (R358). -/
def formeWf (f : FbFrame) : Bool :=
  decide (f.start ≤ f.stop ∧ f.payload.length * 4 = (f.len + 3) / 4 * 4 ∧ f.sched < 8)

/-- A lease message: every field fits its bytes (R434). -/
def leaseWf (m : LeaseMsg) : Bool :=
  decide (m.type < 256 ∧ m.slot < 256 ∧ m.rank < 256 ∧ m.flags < 256 ∧ m.steep < 2 ^ 32)

/-- The checks of a command. -/
def Instr.wellFormed : Instr → Bool
  | .ldb _ o => o.spelt
  | .ldbn _ o => o.spelt
  | .andBit _ o => o.spelt
  | .andnBit _ o => o.spelt
  | .orBit _ o => o.spelt
  | .ornBit _ o => o.spelt
  | .xorBit _ o => o.spelt
  | .xornBit _ o => o.spelt
  | .st _ o => o.spelt
  | .stn _ o => o.spelt
  | .setBit _ o => o.spelt
  | .rstBit _ o => o.spelt
  | .rise _ o => o.spelt
  | .fall _ o => o.spelt
  | .ld _ o => o.spelt
  | .stw _ o => o.spelt
  | .ldd _ o => o.spelt
  | .stwd _ o => o.spelt
  | .add _ o => o.spelt
  | .sub _ o => o.spelt
  | .aw _ o => o.spelt
  | .ow _ o => o.spelt
  | .xw _ o => o.spelt
  | .cmp _ o => o.spelt
  | .cmpu _ o => o.spelt
  | .mul _ o => o.spelt
  | .mulu _ o => o.spelt
  | .div _ o => o.spelt
  | .divu _ o => o.spelt
  | .ton _ o => o.spelt
  | .tof _ o => o.spelt
  | .tp _ o => o.spelt
  | .tonr _ o => o.spelt
  | .ctu _ o => o.spelt
  | .ctd _ o => o.spelt
  | .rstb _ o => o.spelt
  | .ldtc _ o => o.spelt
  | .sigv _ o => o.spelt
  | .hpOpen f => frameWf f
  | .auth f => frameWf f
  | .close f => frameWf f
  | .keepalive f => frameWf f
  | .read f => frameWf f
  | .write f => frameWf f
  | .writeMasked f => frameWf f
  | .qlock f => frameWf f
  | .qrelease f => frameWf f
  | .qbreak f => frameWf f
  | .handshakeLapse _ n _ => decide (1 ≤ n ∧ n ≤ 8)
  | .sessionTimeout _ n _ => decide (1 ≤ n ∧ n ≤ 8)
  | .registerWrite a _ _ => decide (a % 4 = 0 ∧ a < 2 ^ 32)
  | .inputSample w _ _ => decide (w < 65536)
  | .scrubUncorrectable _ a _ => sramWord a
  | .scrubRepairWrite _ a _ => sramWord a
  | .tskRelease n _ => decide (n < 64)
  | .tskCancel n _ => decide (n < 64)
  | .eventRaise n _ => decide (n < 512)
  | .evtRaise n _ => decide (n < 512)
  | .holdoffExpiry n _ => decide (n < 32)
  | .evtDone n _ => decide (n < 512)
  | .sdtCompareWindowEnd n _ => decide (n < 256)
  | .fieldSample _ _ _ _ mvs mas _ _ => decide (mvs.length = 16 ∧ mas.length = 16)
  | .freqGateEnd _ _ d _ => decide (0 < d)
  | .starFrameCheck _ f _ => formeWf f
  | .formeFrameAccept _ f _ => formeWf f
  | .slotEnd n _ => decide (n < 1024)
  | .framePreparation i _ => decide (i < 1024)
  | .switchFrameReceived _ f _ => decide (64 ≤ f.len)
  | .pdPublication n _ _ => decide (n < 2048)
  | .pdCopyReceived _ c _ => decide (c.data.length * 4 = (c.dsLen + 3) / 4 * 4)
  | .pdTimeout n _ => decide (n < 2048)
  | .sdtTimeout n _ => decide (n < 256)
  | .mdMessageReceived _ m _ => decide (m.sid < 2 ^ 128)
  | .mdReplyTimeout n _ => decide (n < 256)
  | .announceReceived _ a _ => decide (a.prio1 < 256 ∧ a.cls < 256 ∧ a.accuracy < 256 ∧ a.variance < 65536 ∧ a.prio2 < 256 ∧ a.steps < 65536)
  | .canFrameReceived _ w _ _ => decide (w.length = 18)
  | .leaseMessageReceived m _ => leaseWf m
  | .clearGo _ session _ => decide (1 ≤ session ∧ session ≤ 8)
  | .temperatureRead ts _ => decide (ts.length = 6)
  | .vcoreStep _ naks _ _ _ => decide (naks.vout ≤ 2)
  | .relayChunkReceived _ _ total ofs len data _ => decide (total < 2 ^ 32 ∧ ofs < 2 ^ 32 ∧ len < 2 ^ 16 ∧ data.length = len)
  | .relayReplyReceived _ _ _ status kib _ => decide (status < 4 ∧ kib < 2 ^ 24)
  | .sramError _ a _ => sramWord a
  | .scrubCorrection _ a => sramWord a
  | .band _ _ | .bandn _ _ | .bor _ _ | .born _ _ | .bxor _ _ | .bxorn _ _ | .bend _ _ | .clrb _ _ | .setb _ _
  | .notBa _ _ | .ldc _ _ | .ldsv _ _ | .jmp _ _ _ | .call _ _ _ | .ret _ _ | .rept _ _ _ | .endAct _ _ | .endBa _ _
  | .endNba _ _ | .nop _ _ | .mov _ _ | .swap _ _ | .neg _ _ | .inv _ _ | .addi _ _ | .abs _ _ | .sext _ _ | .shl _ _
  | .shr _ _ | .sar _ _ | .rol _ _ | .ror _ _ | .shl64 _ _ | .shr64 _ _ | .sar64 _ _ | .sx8 _ _ | .sx16 _ _ | .zx8 _ _
  | .zx16 _ _ | .sat16 _ _ | .satu16 _ _ | .sx48 _ _ | .bsw32 _ _ | .bsw16 _ _ | .sat64 _ _ | .bmov _ _ _
  | .stmpLt _ _ | .stmpTt _ _ | .stmpP _ _ | .stmpD _ _ | .stmpPh _ _ | .stmpSpd _ _ | .stmpCyc _ _ | .txpd _ _
  | .rxpd _ _ | .txsdt _ _ | .rxsdt _ _ | .txmd _ _ | .rxmd _ _ | .tstat _ _ | .ctx _ _ | .ctxt _ _ | .crxb _ _
  | .crxf _ _ | .brd _ _ | .bwr _ _ | .recEntry _ _ _ | .pwr _ _ | .prd _ _ | .arm _ _ | .disarm _ _ | .ecls _ _
  | .requestResult _ _ | .proofVerifyEnd _ | .hostArpRequest _ _ _ _ | .hostIcmpEcho _ _ _ _ | .hostAddressChange _
  | .commitGo _ _ | .commitDiscard _ _ | .pendingSetApply _ _ | .softReset _ _ | .cntClear _ _ | .voterItem _ _
  | .itemLate _ _ | .laneReset _ _ | .laneSelftestEnd _ _ _ | .rejoinCopyStart _ _ | .sweepEnd _ _ | .rejoinSwitch _ _
  | .graceWarn _ | .graceExpiry _ | .graceRecord _ | .simplexLimit _ | .vtHoldOutWrite _ _ | .baseTick _ _ _ _
  | .dispatchDecision _ | .budgetCancel _ _ | .modeReqRunWarm _ | .modeReqRunCold _ | .modeReqMaint _ | .modeReqStop _
  | .tickZero _ | .eventDelivery _ | .evtCtrlWrite _ _ | .gaugeTick _ | .comparatorArmApply _ | .comparatorFire _ _
  | .switchCommand _ _ | .outputPulseEnd _ _ | .ptpOffsetApply _ | .ttMeasurementTimeout _ | .wheelEdge _ _ _ _
  | .pairValidRestore _ _ | .standstillEntry _ | .accelSample _ _ _ _ | .slipClear _ | .slipMaxExpiry _ | .applyRef _
  | .dqRestore _ | .phaseCrossing _ | .phaseLost _ | .classEvaluation _ _ _ _ | .aoSupplyLost _
  | .chaseInputSample _ _ _ _ | .chaseCycle _ | .testCycleStart _ _ | .testPulseSample _ _ _ _
  | .chaseInputStuck _ _ | .darkPulseStart _ _ | .darkPulseEnd _ _ _ _ | .extPotential _ _ | .chaseDiscrepancy _ _
  | .retest _ | .chaseSelftestEnd _ _ | .chaseCrcCheck _ _ | .heartbeatMiss _ _ | .chaseComparatorCheck _ _
  | .degradedLimit _ | .degradedWarn _ | .degradedTimeRecord _ | .clrFaults _ | .groupPowered _ _
  | .groupUnpowered _ _ | .groupOvervolt _ _ | .groupOvervoltEnd _ _ | .groupTrip _ _ | .inputFrameDelivery _ _
  | .commitApply _ _ | .modeTransitionEnd _ _ | .undetTimeout _ _ | .channelStuck _ _ | .inputOverrun _ _
  | .countEdge _ _ _ _ _ | .outputTrip _ _ _ | .parMismatch _ _ | .pwmPeriodStart _ _ | .doPulseEnd _ _
  | .tpSourceRestart _ _ | .openWire _ _ | .openLoad _ _ | .shortToSupply _ _ | .backfeed _ _ | .backfeedClear _ _
  | .faultCodeClear _ _ | .conversionEnd _ _ _ _ _ | .shuntDisconnect _ _ | .shuntReconnect _ _ _ | .tcOpenTest _ _ _
  | .aoOverload _ _ | .trimApply _ _ | .trimRestore _ _ | .trimDrive _ _ _ _ | .trimSaved _ _ | .feedLowEntry _ _
  | .feedLowExit _ _ | .cycleStart _ | .networkIdle _ | .lockupEnd _ | .fbSchedReq _ _ | .switchCheck _
  | .scheduleSwitch _ | .branchRelease _ _ | .branchLinkChange _ _ _ | .egressTransmit _ _ | .copyDrop _ _
  | .endpointArp _ _ _ _ | .arpRefresh _ _ _ _ | .arpRetry _ _ _ _ | .addressAgeing _ _ _ | .mdReassemblyTimeout _ _
  | .syncReceived _ _ _ _ _ _ _ | .followUpReceived _ _ _ _ _ | .delayReqSend _ _ | .delayRespReceived _ _ _ _ _
  | .announceTimeout _ | .netLinkChange _ _ _ _ | .rateCandidateTimeout _ _ | .hbufLockRead _ _ _
  | .hbufReleaseRead _ _ _ | .hbufLockTimeout _ _ _ | .canTxComplete _ _ _ | .canTxError _ _ _ _ | .busOffDelayEnd _ _
  | .busOffReturn _ _ | .ctxtDue _ _ _ | .ctxtMissed _ _ _ | .pdoTimeout _ _ _ | .pdoEventTimer _ _ _
  | .pdoInhibitEnd _ _ _ | .syncProduce _ _ | .srbRequestStart _ | .srbGrant _ _ | .srbAnswer _ _ _
  | .srbAnswerTimeout _ | .srbArbTimeout _ | .srbReset _ | .srbReady _ | .srbClockLost _ | .srbIrq _ _
  | .leaseMessageSend _ | .actingExpiry _ | .claimTimeout _ | .leaseTake _ | .memberAliveExpiry _ _
  | .comparisonWindowEnd _ _ | .rdRelease _ | .rdHandover _ _ | .rdBar _ | .rdUnbar _ | .rdStatusSample _
  | .recordWrite _ _ | .erFetch _ _ | .erFetchDone _ _ | .clearReq _ | .clearChallengeExpiry _ | .recorderRecovery _
  | .supplyPresent _ _ _ _ | .supplyLost _ | .holdupEntry _ | .retainedSaveEnd _ | .holdupBankEnd _ _ | .pwStable _
  | .pwTopup _ | .pwUnstable _ | .pwSleep _ | .sleepQuietPoint _ | .retentionCommit _ | .sleepEntryAbandon _
  | .wakeLatch _ _ _ _ _ | .balanceExhausted _ | .heatCreditExhausted _ | .slackSample _ _ _ _ | .referenceCheck _ _ _
  | .flashScan _ _ _ _ | .holdupMeasurement _ _ _ | .holdupNowRefresh _ | .imageCopyCheck _ _ _ | .ackHoldMaint _
  | .hostContainerWrite _ _ _ | .relayChunkRetry _ _ | .relayFailTimeout _ _ | .receiptCheck _ | .containerApply _
  | .applyComplete _ | .upDiscard _ | .upNextMaint _ | .keyAdd _ _ | .keyRevoke _ _ | .ackKeyPress _
  | .ackKeyRelease _ | .ackKeyStuck _ | .unassignedOpFetch _ _ | .canBusError _ _ _ | .canIntegration _ _
  | .canTxStart _ _ _ | .backgroundEraseEnd _ | .lampTestEnd _ => true

end Sys2Proof
end

