-- ==== Sys2Proof/Certificates/Slice0/Obligations.lean ====
section
/-! DEFINITION. The statements about the module. -/

open Sys2Proof Sys2Proof.Machine

/-- A step takes the command at the front of the queue: it is what that command does on the state with the queue's rest
(the model's queue, log entries 2 and 3).

With no command waiting a step leaves the state as it is (the model's choice, log entry 2). -/
def Obligations.StepTakesFrontCommand : Prop :=
  (∀ (c : Instr) (rest : List Instr) (s : State), s.pending = c :: rest → step s = exec c { s with pending := rest }) ∧
  (∀ s : State, s.pending = [] → step s = .next s)

/-- Every command answers a next state and changes nothing of the queue of the commands that wait (log entry 3). -/
def Obligations.EveryCommandAnswersAndKeepsQueue : Prop :=
  ∀ (c : Instr) (s : State), ∃ t, exec c s = .next t ∧ t.pending = s.pending

/-- A module without power takes no command but the supply's return and the two happenings of the always-on section
(R198, R463; log entry 65). -/
def Obligations.NoPowerNoEffect : Prop :=
  ∀ (c : Instr) (s : State), s.pw.off = true →
    (∀ slot key sysOk t, c ≠ .supplyPresent slot key sysOk t) → (∀ k lead both t, c ≠ .wheelEdge k lead both t) →
    (∀ t, c ≠ .aoSupplyLost t) → exec c s = .next s

/-- Where nothing is left to what follows every command, a command's own effect is all it does. -/
def Obligations.CalmStateStays : Prop := ∀ (s : State) (t : Nat), s.calm t = true → s.settle t = s

/-- The hold store (R244): after every step the proof-record bytes it holds are within its 8 MiB, or the module is in
SAFE. -/
def Obligations.HoldStoreWithinBounds : Prop :=
  ∀ s s' : State, (s.isSafe = true ∨ s.holdBytes ≤ 8388608) → step s = .next s' →
    (s'.isSafe = true ∨ s'.holdBytes ≤ 8388608)

/-- After a POR (R8, R251): the registers to which the tables give a POR value, some of each block group; no session, no
memory listed in a lane, no command waiting (the model's empty start: log entries 2, 7 and 8).

After reset the hold store is empty (the model's start: log entry 8). -/
def Obligations.ResetState : Prop :=
  (State.reset.rd R.SYS_PROFILE_PROFILE = 1 ∧ State.reset.rd R.SYS_MODE_STAT_MODE = 3 ∧
   State.reset.rd R.HP_A_ADDR_ADDR = 0xC0A8640A ∧ State.reset.rd R.HP_NET_CFG_SESS_TIMEOUT = 10 ∧
   State.reset.la.rd R.TSK_ENABLE_EN 0 = 0xFFFFFFFF ∧ State.reset.la.rd R.TSK_ENABLE_EN 1 = 0xFFFFFFFF ∧
   State.reset.rd R.LG_POS_STANDSTILL = 1 ∧ State.reset.rd R.LG_POS_ERR = 0xFFFFFFFF ∧
   State.reset.rd R.VT_STATE_STATE = 0 ∧ State.reset.rd R.VT_STATE_RANK = 3 ∧
   State.reset.rd R.CH_STAT_UNDET 127 = 1 ∧ State.reset.rd R.FB_STATE_LOCKUP_LEFT = 8 ∧
   State.reset.rd R.RD_STATE_ROLE = 1 ∧ State.reset.rd R.RD_STATE_HOLDER = 255 ∧ State.reset.rd R.UP_STATE_LOCK = 1 ∧
   State.reset.hp.sessions = [] ∧ State.reset.la.mem = [] ∧ State.reset.lb.mem = [] ∧ State.reset.lc.mem = [] ∧
   State.reset.pending = []) ∧
  (State.reset.holdBytes = 0 ∧ State.reset.isSafe = false)

/-- Code words (R76, R77, R79, R93, R114): the code words of a well-formed engine instruction decode to it on its engine, whatever word
follows them; an instruction that decodes from a word and its follower has exactly that word, or both, as its code words, so no two
instructions share a first word but by their extension word; and which words decode does not depend on the engine. -/
def Obligations.CodeWordsDecodeToTheirInstruction : Prop :=
  (∀ (i : Instr) (next : Word), i.wellFormed = true → engineCode i ≠ [] →
    ∃ e : EngId, decodeCode e ((engineCode i).getD 0 0) ((engineCode i).getD 1 next) = some i) ∧
  (∀ (e : EngId) (w ext : Word) (i : Instr), decodeCode e w ext = some i →
    i.wellFormed = true ∧ (engineCode i = [w] ∨ engineCode i = [w, ext])) ∧
  (∀ (e f : EngId) (w ext : Word), (decodeCode e w ext).isSome = (decodeCode f w ext).isSome)

/-- The bit-read instructions (R99) with every operand form R96 accepts, in range: BA becomes the instruction's function
of BA and the operand bit, PC moves past the instruction; no other register, no flag and no byte of memory changes. -/
def Obligations.BitReadSetsBa : Prop :=
  ∀ (s : State) (e : EngId) (o : MOp), s.ready e (opLen o) = true → opCheck .bitRead o = .ok () →
    (∀ x ∈ s.servingLanes, opIndex o ((s.lane x).engine e).r < spaceBits o.sp.toNat) →
    let bit := fun (l : Lane) (g : Eng) =>
      (memWord l.mem (wordAddr o.sp.toNat g.task (opIndex o g.r / 32))).getLsbD (opIndex o g.r % 32)
    let ans := fun (f : Bool → Bool → Bool) => Host.Outcome.next (φ := Fault) (ρ := Refusal)
      (s.did e (opLen o) fun l g => (l, g.past { g.r with ba := f g.r.ba (bit l g) } (opLen o)))
    s.does e (.ldb e o) (ans (fun _ v => v)) ∧ s.does e (.ldbn e o) (ans (fun _ v => !v)) ∧
    s.does e (.andBit e o) (ans (fun ba v => ba && v)) ∧ s.does e (.andnBit e o) (ans (fun ba v => ba && !v)) ∧
    s.does e (.orBit e o) (ans (fun ba v => ba || v)) ∧ s.does e (.ornBit e o) (ans (fun ba v => ba || !v)) ∧
    s.does e (.xorBit e o) (ans (fun ba v => xor ba v)) ∧ s.does e (.xornBit e o) (ans (fun ba v => xor ba (!v)))

/-- The bit-write and edge instructions (R103 to R105) with every operand form they accept, in range and owned: ST, STN,
SET and RST write one bit of the word that holds the element, or nothing where BA is 0 for SET and RST; RISE and FALL
write BA into it and give BA the edge; PC moves past the instruction. -/
def Obligations.BitWriteStoresBit : Prop :=
  ∀ (s : State) (e : EngId) (o : MOp), s.ready e (opLen o) = true →
    (∀ x ∈ s.servingLanes, opIndex o ((s.lane x).engine e).r < spaceBits o.sp.toNat) →
    let adr := fun (g : Eng) => wordAddr o.sp.toNat g.task (opIndex o g.r / 32)
    let put := fun (l : Lane) (g : Eng) (b : Bool) =>
      l.store (adr g) (setBitOf (memWord l.mem (adr g)) (opIndex o g.r % 32) b)
    let ans := fun (h : Lane → Eng → Lane × Eng) => Host.Outcome.next (φ := Fault) (ρ := Refusal) (s.did e (opLen o) h)
    (opCheck .bitWrite o = .ok () →
      (∀ x ∈ s.servingLanes, o.sp.toNat = spS → inOwned (s.lane x).ownedS (opIndex o ((s.lane x).engine e).r) = true) →
      s.does e (.st e o) (ans (fun l g => (put l g g.r.ba, g.past g.r (opLen o)))) ∧
      s.does e (.stn e o) (ans (fun l g => (put l g (!g.r.ba), g.past g.r (opLen o)))) ∧
      s.does e (.setBit e o) (ans (fun l g => (if g.r.ba then put l g true else l, g.past g.r (opLen o)))) ∧
      s.does e (.rstBit e o) (ans (fun l g => (if g.r.ba then put l g false else l, g.past g.r (opLen o))))) ∧
    (opCheck .edge o = .ok () →
      let mem := fun (l : Lane) (g : Eng) => (memWord l.mem (adr g)).getLsbD (opIndex o g.r % 32)
      s.does e (.rise e o) (ans (fun l g => (put l g g.r.ba, g.past { g.r with ba := g.r.ba && !mem l g } (opLen o)))) ∧
      s.does e (.fall e o) (ans (fun l g => (put l g g.r.ba, g.past { g.r with ba := !g.r.ba && mem l g } (opLen o)))))

/-- The branch stack (R63, R64, R100, R101): an opening pushes its pending operation with BA and clears BA, and the push that takes
hardware entry 15 spills the eight oldest in 10 cycles more; BEND pops the newest entry and gives BA the pending operation of the
saved BA and BA, and the pop that leaves fewer than two hardware entries fills up to eight spilled ones back.

CLRB, SETB, NOT, LDC and LDSV (R106) and NOP (R113): what each leaves in BA and SV. LDC takes the truth of a condition
code that is not reserved. -/
def Obligations.BranchStackAndStatus : Prop :=
  (∀ (s : State) (e : EngId), s.ready e 1 = true →
     ((∀ x ∈ s.servingLanes, ((s.lane x).engine e).r.hw.length < 14 ∧ ((s.lane x).engine e).r.depth < 255) →
       let ans := fun (op : Nat) => Host.Outcome.next (φ := Fault) (ρ := Refusal)
         (s.did e 1 fun l g => (l, g.past { g.r with hw := g.r.hw ++ [BitVec.ofNat 4 (2 * op + g.r.ba.toNat)], ba := false } 1))
       s.does e (.band e 0) (ans 0) ∧ s.does e (.bandn e 0) (ans 1) ∧ s.does e (.bor e 0) (ans 2) ∧
       s.does e (.born e 0) (ans 3) ∧ s.does e (.bxor e 0) (ans 4) ∧ s.does e (.bxorn e 0) (ans 5)) ∧
     ((∀ x ∈ s.servingLanes, ((s.lane x).engine e).r.hw.length = 14 ∧ ((s.lane x).engine e).r.depth < 255) →
       let ans := fun (op : Nat) => Host.Outcome.next (φ := Fault) (ρ := Refusal)
         (s.did e 1 fun l g => (l.storeWords (stackBase g.task + 4 * g.r.m) ((g.r.hw.take 8).map (·.setWidth 32)),
           { (g.past { g.r with hw := g.r.hw.drop 8 ++ [BitVec.ofNat 4 (2 * op + g.r.ba.toNat)], m := g.r.m + 8, ba := false } 1).extra 10
             with trapUntil := s.lt + 20 }))
       s.does e (.band e 0) (ans 0) ∧ s.does e (.bandn e 0) (ans 1) ∧ s.does e (.bor e 0) (ans 2) ∧
       s.does e (.born e 0) (ans 3) ∧ s.does e (.bxor e 0) (ans 4) ∧ s.does e (.bxorn e 0) (ans 5)) ∧
     (∀ (op : Nat) (saved : Bool), op < 6 →
       (∀ x ∈ s.servingLanes, ∃ hw, ((s.lane x).engine e).r.hw = hw ++ [BitVec.ofNat 4 (2 * op + saved.toNat)] ∧
         hw.length < 2 ∧ ((s.lane x).engine e).r.m ≠ 0) →
       s.does e (.bend e 0) (.next (s.did e 1 fun l g =>
         let n := min 8 g.r.m
         (l, { (g.past { g.r with
           hw := ((List.range n).map fun k => (memWord l.mem (stackBase g.task + 4 * (g.r.m - n + k))).setWidth 4) ++ g.r.hw.dropLast,
           m := g.r.m - n,
           ba := [saved && g.r.ba, saved && !g.r.ba, saved || g.r.ba, saved || !g.r.ba, xor saved g.r.ba,
                  xor saved (!g.r.ba)].getD op false } 1).extra (2 + n) with trapUntil := s.lt + 2 * (2 + n) })))) ∧
     (∀ (op : Nat) (saved : Bool), op < 6 →
       (∀ x ∈ s.servingLanes, ∃ hw, ((s.lane x).engine e).r.hw = hw ++ [BitVec.ofNat 4 (2 * op + saved.toNat)] ∧
         (2 ≤ hw.length ∨ ((s.lane x).engine e).r.m = 0)) →
       s.does e (.bend e 0) (.next (s.did e 1 fun l g => (l, g.past { g.r with
         hw := g.r.hw.dropLast,
         ba := [saved && g.r.ba, saved && !g.r.ba, saved || g.r.ba, saved || !g.r.ba, xor saved g.r.ba,
                xor saved (!g.r.ba)].getD op false } 1))))) ∧
  (∀ (s : State) (e : EngId), s.ready e 1 = true →
     let ans := fun (f : Regs → Regs) => Host.Outcome.next (φ := Fault) (ρ := Refusal)
       (s.did e 1 fun l g => (l, g.past (f g.r) 1))
     s.does e (.clrb e 0) (ans (fun r => { r with ba := false })) ∧ s.does e (.setb e 0) (ans (fun r => { r with ba := true })) ∧
     s.does e (.notBa e 0) (ans (fun r => { r with ba := !r.ba })) ∧
     s.does e (.ldsv e 0) (ans (fun r => { r with ba := r.sv, sv := false })) ∧ s.does e (.nop e 0) (ans (fun r => r)) ∧
     ∀ c : Fin 12, s.does e (.ldc e (BitVec.ofNat 20 c.val)) (ans (fun r => { r with
       ba := [true, r.ba, !r.ba, r.z, !r.z, r.n, !r.n, r.c, !r.c, r.v, !r.z && !r.n, r.z || r.n].getD c.val false })))

/-- JMP, CALL, RET and REPT (R108 to R111) in the forms that do not fault: where PC goes, the call frame that CALL writes
and RET reads, the index register that REPT counts down.

END, and ENDBA and ENDNBA by BA (R112): the form that is taken, with DEPTH 0, no open frame and no output word in error,
retires with one cycle and the cycles of its ranges, commits the outputs, closes the window and ends the activation; the
form that is not taken only moves PC, whatever DEPTH is. -/
def Obligations.FlowAndEnd : Prop :=
  (∀ (s : State) (e : EngId) (target : BitVec 22), s.ready e 1 = true →
     let jumps := fun (g : Eng) (r : Regs) => ({ g with r := { r with pc := target } } : Eng).extra 1
     let holds := fun (c : Nat) (r : Regs) => [true, r.ba, !r.ba, r.z, !r.z, r.n, !r.n, r.c, !r.c, r.v, !r.z && !r.n,
       r.z || r.n].getD c false
     (∀ c : Fin 12, (∀ x ∈ s.servingLanes, holds c.val ((s.lane x).engine e).r = true → target.toNat < codeWords) →
       s.does e (.jmp e (BitVec.ofNat 4 c.val) target) (.next (s.did e 1 fun l g =>
         (l, if holds c.val g.r then jumps g g.r else g.past g.r 1)))) ∧
     ((∀ x ∈ s.servingLanes, ((s.lane x).engine e).r.frames ≠ 1920) → target.toNat < codeWords →
       s.does e (.call e 0 target) (.next (s.did e 2 fun l g =>
         ((l.store (frameAddr g.task g.r.frames) (BitVec.ofNat 32 (g.r.pc.toNat + 1))).store
           (frameAddr g.task g.r.frames + 4) (BitVec.ofNat 32 g.r.depth),
          { g with r := { g.r with frames := g.r.frames + 1, pc := target } })))) ∧
     ((∀ x ∈ s.servingLanes, let l := s.lane x; let r := (l.engine e).r; let a := frameAddr (l.engine e).task (r.frames - 1)
         r.frames ≠ 0 ∧ (memWord l.mem (a + 4)).toNat % 256 = r.depth ∧ (memWord l.mem a).toNat % 4194304 < codeWords) →
       s.does e (.ret e 0) (.next (s.did e 2 fun l g =>
         (l, { g with r := { g.r with frames := g.r.frames - 1,
                                      pc := (memWord l.mem (frameAddr g.task (g.r.frames - 1))).setWidth 22 } })))) ∧
     (∀ n : Fin 8, (∀ x ∈ s.servingLanes, 1 < (((s.lane x).engine e).r.getX n.val).toNat → target.toNat < codeWords) →
       s.does e (.rept e (BitVec.ofNat 4 n.val) target) (.next (s.did e 1 fun l g =>
         let x := g.r.getX n.val
         (l, if x = 0 then g.past g.r 1
             else if x = 1 then g.past (g.r.setX n.val 0) 1 else jumps g (g.r.setX n.val (x - 1))))))) ∧
  (∀ (s : State) (e : EngId), s.ready e 1 = true →
     let ends := fun (i : Instr) (taken : Bool → Bool) =>
       (∀ x ∈ s.servingLanes, taken ((s.lane x).engine e).r.ba = true →
         ((s.lane x).engine e).r.depth = 0 ∧ ((s.lane x).engine e).r.frames = 0) →
       s.does e i (.next (s.after (s.onLanes fun l =>
         let g := l.engine e
         if taken g.r.ba then
           ((l.setEngine e (g.retire (1 + rangeCycles (l.outRanges g.task)))).outputCommit e).endActivation e crEnd leEnd
         else l.setEngine e ((g.past g.r 1).retire 1)) s.lt))
     ends (.endAct e 0) (fun _ => true) ∧ ends (.endBa e 0) (fun ba => ba) ∧ ends (.endNba e 0) (fun ba => !ba))

/-- The engine faults of R86, each with the whole of R87 through the lane's fault operation: ILLEGAL_OP for a form a class does not
take, a field that must be 0, a reserved condition code and an unassigned word; WRITE_PROT for a protected space and an element not
owned; ADDR for an element outside its space, a jump, a return and a fetch outside the code store; STACK, NEST, DIV_ZERO and ECC;
SERVICE for an object that is not in use and an address that is not a register's (R137). -/
def Obligations.EngineFaultsAreTaken : Prop :=
  ∀ (s : State) (e : EngId),
    let fl := fun c : Nat =>
      Host.Outcome.next (φ := Fault) (ρ := Refusal) (s.after (s.onLanes fun l => l.faultEngine s.phase e s.lt c) s.lt)
    let all := fun p : Lane → Eng → Prop => ∀ x ∈ s.servingLanes, p (s.lane x) ((s.lane x).engine e)
    (∀ o : MOp, s.ready e (opLen o) = true →
      let sp := o.sp.toNat
      let bits := fun c : Nat => s.does e (.ldb e o) (fl c) ∧ s.does e (.ldbn e o) (fl c) ∧ s.does e (.andBit e o) (fl c) ∧
        s.does e (.andnBit e o) (fl c) ∧ s.does e (.orBit e o) (fl c) ∧ s.does e (.ornBit e o) (fl c) ∧ s.does e (.xorBit e o) (fl c) ∧
        s.does e (.xornBit e o) (fl c)
      let puts := fun c : Nat => s.does e (.st e o) (fl c) ∧ s.does e (.stn e o) (fl c) ∧ s.does e (.setBit e o) (fl c) ∧
        s.does e (.rstBit e o) (fl c)
      let words := fun c : Nat => s.does e (.ld e o) (fl c) ∧ s.does e (.add e o) (fl c) ∧ s.does e (.sub e o) (fl c) ∧
        s.does e (.mul e o) (fl c) ∧ s.does e (.mulu e o) (fl c) ∧ s.does e (.div e o) (fl c) ∧ s.does e (.divu e o) (fl c) ∧
        s.does e (.aw e o) (fl c) ∧ s.does e (.ow e o) (fl c) ∧ s.does e (.xw e o) (fl c) ∧ s.does e (.cmp e o) (fl c) ∧
        s.does e (.cmpu e o) (fl c)
      (∀ c, opCheck .bitRead o = .error (flt c) → bits c) ∧
      (opCheck .bitRead o = .ok () → all (fun _ g => spaceBits sp ≤ opIndex o g.r) → bits cAddr) ∧
      (∀ c, opCheck .bitWrite o = .error (flt c) → puts c) ∧
      (opCheck .bitWrite o = .ok () → all (fun _ g => spaceBits sp ≤ opIndex o g.r) → puts cAddr) ∧
      (opCheck .bitWrite o = .ok () → sp = spS →
        all (fun l g => opIndex o g.r < spaceBits sp ∧ inOwned l.ownedS (opIndex o g.r) = false) → puts cWriteProt) ∧
      (∀ c, opCheck .edge o = .error (flt c) → s.does e (.rise e o) (fl c) ∧ s.does e (.fall e o) (fl c)) ∧
      (∀ c, opCheck .wordRead o = .error (flt c) → words c) ∧
      (opCheck .wordRead o = .ok () → sp ≠ spK → sp ≠ spKL → all (fun _ g => spaceWords sp ≤ opIndex o g.r) → words cAddr) ∧
      (sp = spK → o.x = false → o.low = 0 → s.does e (.div e o) (fl cDivZero) ∧ s.does e (.divu e o) (fl cDivZero)) ∧
      (∀ c, opCheck .doubleRead o = .error (flt c) → s.does e (.ldd e o) (fl c)) ∧
      (∀ c, opCheck .wordWrite o = .error (flt c) → s.does e (.stw e o) (fl c)) ∧
      (opCheck .wordWrite o = .ok () → all (fun _ g => spaceWords sp ≤ opIndex o g.r) → s.does e (.stw e o) (fl cAddr)) ∧
      (opCheck .wordWrite o = .ok () → sp = spW →
        all (fun l g => opIndex o g.r < spaceWords sp ∧ inOwned l.ownedW (opIndex o g.r) = false) → s.does e (.stw e o) (fl cWriteProt)) ∧
      (∀ c, opCheck .doubleWrite o = .error (flt c) → s.does e (.stwd e o) (fl c)) ∧
      (∀ c, opCheck .timer o = .error (flt c) → s.does e (.ton e o) (fl c) ∧ s.does e (.tof e o) (fl c) ∧ s.does e (.tp e o) (fl c) ∧
        s.does e (.tonr e o) (fl c)) ∧
      (∀ c, opCheck .counter o = .error (flt c) → s.does e (.ctu e o) (fl c) ∧ s.does e (.ctd e o) (fl c)) ∧
      (∀ c, opCheck .blockAcc o = .error (flt c) → s.does e (.rstb e o) (fl c) ∧ s.does e (.ldtc e o) (fl c)) ∧
      (∀ c, opCheck .signal o = .error (flt c) → s.does e (.sigv e o) (fl c))) ∧
    (s.ready e 1 = true →
      (∀ w, decodeCode e w 0 = none → all (fun l g => memWord l.mem (4 * g.r.pc.toNat) = w) → exec (.unassignedOpFetch e w) s = fl cIllegalOp) ∧
      (all (fun _ g => g.r.depth = 255) → s.does e (.band e 0) (fl cStack) ∧ s.does e (.bandn e 0) (fl cStack) ∧
        s.does e (.bor e 0) (fl cStack) ∧ s.does e (.born e 0) (fl cStack) ∧ s.does e (.bxor e 0) (fl cStack) ∧
        s.does e (.bxorn e 0) (fl cStack)) ∧
      (all (fun _ g => g.r.depth = 0) → s.does e (.bend e 0) (fl cNest)) ∧
      (∀ c : Fin 16, 12 ≤ c.val → s.does e (.ldc e (BitVec.ofNat 20 c.val)) (fl cIllegalOp) ∧
        ∀ target, s.does e (.jmp e (BitVec.ofNat 4 c.val) target) (fl cIllegalOp)) ∧
      (∀ target : BitVec 22, codeWords ≤ target.toNat → s.does e (.jmp e 0 target) (fl cAddr) ∧ s.does e (.call e 0 target) (fl cAddr)) ∧
      (∀ target : BitVec 22, target.toNat < codeWords → all (fun _ g => g.r.frames = 1920) → s.does e (.call e 0 target) (fl cStack)) ∧
      (all (fun _ g => g.r.frames = 0) → s.does e (.ret e 0) (fl cNest)) ∧
      (all (fun _ g => g.r.depth ≠ 0 ∨ g.r.frames ≠ 0) → s.does e (.endAct e 0) (fl cNest) ∧
        (all (fun _ g => g.r.ba = true) → s.does e (.endBa e 0) (fl cNest)) ∧ (all (fun _ g => g.r.ba = false) → s.does e (.endNba e 0) (fl cNest))) ∧
      (∀ k < 2048,
        (all (fun l _ => l.pdUsed k = false) → s.does e (.txpd e (BitVec.ofNat 20 k)) (fl cService) ∧
          s.does e (.rxpd e (BitVec.ofNat 20 k)) (fl cService) ∧ s.does e (.tstat e (BitVec.ofNat 20 k)) (fl cService)) ∧
        (all (fun l _ => l.sdtUsed k = false) → s.does e (.txsdt e (BitVec.ofNat 20 k)) (fl cService) ∧
          s.does e (.rxsdt e (BitVec.ofNat 20 k)) (fl cService)) ∧
        (all (fun l _ => l.mdUsed k = false) → s.does e (.txmd e (BitVec.ofNat 20 k)) (fl cService))) ∧
      (∀ k < 64, all (fun l _ => l.canUsed 0 k = false) → s.does e (.ctx e (BitVec.ofNat 20 k)) (fl cService) ∧
        s.does e (.crxb e (BitVec.ofNat 20 k)) (fl cService)) ∧
      (all (fun _ g => g.r.acc2.toNat % 4 ≠ 0) → s.does e (.pwr e 0) (fl cService))) ∧
    (s.live = true → all (fun _ g => g.st = .run ∧ g.fresh = false ∧ g.pair = none ∧ codeWords ≤ g.r.pc.toNat) → s.does e (.nop e 0) (fl cAddr)) ∧
    (s.live = true → all (fun l g => g.st = .run ∧ g.fresh = false ∧ g.pair = none ∧ g.r.pc.toNat < codeWords ∧ l.ecc2.contains (4 * g.r.pc.toNat) = true) →
      s.does e (.nop e 0) (fl cEcc))

/-- The frame of the loads, the bit reads and the stores that are carried out (R87, R99, R103, R120): in a state with nothing left
to what follows a command and no lane being copied, nothing but the serving lanes changes; a load, an addition and a bit read change no byte of memory; a store
changes no byte but those of the word it stores, at the address its operand names, and of that word's retained slot. -/
def Obligations.MemoryFrame : Prop :=
  ∀ (s u : State) (e : EngId) (o : MOp), s.ready e (opLen o) = true → s.calm s.lt = true → s.vt.copies = [] →
    (∀ x ∈ s.servingLanes, Cells.wf (s.lane x).mem = true) →
    let sp := o.sp.toNat
    let rest := ({ u with la := s.la, lb := s.lb, lc := s.lc } : State) = s ∧ ∀ x < 3, x ∉ s.servingLanes → u.lane x = s.lane x
    let all := fun p : Lane → Eng → Prop => ∀ x ∈ s.servingLanes, p (s.lane x) ((s.lane x).engine e)
    let none_ := rest ∧ ∀ x < 3, ∀ b, Cells.get (u.lane x).mem b = Cells.get (s.lane x).mem b
    let only := fun adr : Eng → Nat => rest ∧ ∀ x ∈ s.servingLanes, ∀ b,
      let l := s.lane x
      let a := adr (l.engine e)
      ¬ (a ≤ b ∧ b < a + 4) →
      (∀ k, dBase ≤ a → a < dBase + 4 * dWords → retainSlot l.retain 0 ((a - dBase) / 4) = some k →
        ¬ (retBase + 4 * k ≤ b ∧ b < retBase + 4 * k + 4)) →
      Cells.get (u.lane x).mem b = Cells.get l.mem b
    let word := fun g : Eng => wordAddr sp g.task (opIndex o g.r)
    let bit := fun g : Eng => wordAddr sp g.task (opIndex o g.r / 32)
    (opCheck .wordRead o = .ok () → (sp = spK ∨ sp = spKL ∨ all fun _ g => opIndex o g.r < spaceWords sp) →
      exec (.ld e o) s = .next u ∨ exec (.add e o) s = .next u → none_) ∧
    (opCheck .bitRead o = .ok () → (all fun _ g => opIndex o g.r < spaceBits sp) →
      exec (.ldb e o) s = .next u ∨ exec (.andBit e o) s = .next u → none_) ∧
    (opCheck .wordWrite o = .ok () →
      (all fun l g => opIndex o g.r < spaceWords sp ∧ (sp = spW → inOwned l.ownedW (opIndex o g.r) = true)) →
      exec (.stw e o) s = .next u → only word) ∧
    (opCheck .bitWrite o = .ok () →
      (all fun l g => opIndex o g.r < spaceBits sp ∧ (sp = spS → inOwned l.ownedS (opIndex o g.r) = true)) →
      exec (.st e o) s = .next u ∨ exec (.stn e o) s = .next u ∨ exec (.setBit e o) s = .next u ∨ exec (.rstBit e o) s = .next u →
      only bit) ∧
    (opCheck .edge o = .ok () → (all fun _ g => opIndex o g.r < spaceBits sp) →
      exec (.rise e o) s = .next u ∨ exec (.fall e o) s = .next u → only bit)

/-- The memory of the lanes keeps its canonical form under every store that is carried out, whatever it stores: addresses strictly
rising and no byte listed that an unlisted address reads as. -/
def Obligations.StoresKeepMemoryCanonical : Prop :=
  ∀ (s u : State) (e : EngId) (o : MOp), s.ready e (opLen o) = true → s.calm s.lt = true →
    (∀ x < 3, Cells.wf (s.lane x).mem = true) →
    (let all := fun p : Lane → Eng → Prop => ∀ x ∈ s.servingLanes, p (s.lane x) ((s.lane x).engine e)
     (opCheck .wordWrite o = .ok () ∧
        (all fun l g => opIndex o g.r + 2 ≤ spaceWords o.sp.toNat ∧ (o.sp.toNat = spW →
          inOwned l.ownedW (opIndex o g.r) = true ∧ inOwned l.ownedW (opIndex o g.r + 1) = true)) ∧
        (exec (.stw e o) s = .next u ∨ exec (.stwd e o) s = .next u)) ∨
     (opCheck .bitWrite o = .ok () ∧
        (all fun l g => opIndex o g.r < spaceBits o.sp.toNat ∧ (o.sp.toNat = spS → inOwned l.ownedS (opIndex o g.r) = true)) ∧
        (exec (.st e o) s = .next u ∨ exec (.stn e o) s = .next u ∨ exec (.setBit e o) s = .next u ∨
          exec (.rstBit e o) s = .next u))) →
    ∀ x < 3, Cells.wf (u.lane x).mem = true

/-- Loads and stores (R120) with every operand form their class accepts, in range and owned: LD takes the short immediate
sign-extended, the extension word or a word element; LDD takes two elements; STW and STWD store ACC1, or ACC1 and ACC2, at
the element's address. No flag changes. -/
def Obligations.LoadsAndStores : Prop :=
  ∀ (s : State) (e : EngId) (o : MOp), s.ready e (opLen o) = true →
    let sp := o.sp.toNat
    let adr := fun (g : Eng) => wordAddr sp g.task (opIndex o g.r)
    let fits := fun (n : Nat) => ∀ x ∈ s.servingLanes, opIndex o ((s.lane x).engine e).r + n ≤ spaceWords sp
    let owned := fun (n : Nat) => ∀ x ∈ s.servingLanes, ∀ k < n, sp = spW →
      inOwned (s.lane x).ownedW (opIndex o ((s.lane x).engine e).r + k) = true
    let ans := fun (h : Lane → Eng → Lane × Eng) => Host.Outcome.next (φ := Fault) (ρ := Refusal) (s.did e (opLen o) h)
    (opCheck .wordRead o = .ok () → (sp = spK ∨ sp = spKL ∨ fits 1) →
      s.does e (.ld e o) (ans (fun l g => (l, g.past { g.r with acc1 := (if sp = spK then o.low.signExtend 32
        else if sp = spKL then o.ext else memWord l.mem (adr g)) } (opLen o))))) ∧
    (opCheck .doubleRead o = .ok () → fits 2 →
      s.does e (.ldd e o) (ans (fun l g => (l, g.past { g.r with
        acc1 := memWord l.mem (adr g),
        acc2 := memWord l.mem (wordAddr sp g.task (opIndex o g.r + 1)) } (opLen o))))) ∧
    (opCheck .wordWrite o = .ok () → fits 1 → owned 1 →
      s.does e (.stw e o) (ans (fun l g => (l.store (adr g) g.r.acc1, g.past g.r (opLen o))))) ∧
    (opCheck .doubleWrite o = .ok () → fits 2 → owned 2 →
      s.does e (.stwd e o) (ans (fun l g => ((l.store (adr g) g.r.acc1).store (adr g + 4) g.r.acc2, g.past g.r (opLen o)))))

/-- Add, subtract, the bitwise words and the compares (R121): ACC1 and the four flags; a set V also sets SV (R62). The
carry is the bit out of 2^32, the borrow unsigned less-than, V the signed result outside the 32-bit range. -/
def Obligations.WordArithmetic : Prop :=
  ∀ (s : State) (e : EngId) (o : MOp), s.ready e (opLen o) = true → opCheck .wordRead o = .ok () →
    (o.sp.toNat = spK ∨ o.sp.toNat = spKL ∨
      ∀ x ∈ s.servingLanes, opIndex o ((s.lane x).engine e).r < spaceWords o.sp.toNat) →
    let val := fun (l : Lane) (g : Eng) => if o.sp.toNat = spK then o.low.signExtend 32 else if o.sp.toNat = spKL then o.ext
      else memWord l.mem (wordAddr o.sp.toNat g.task (opIndex o g.r))
    let ans := fun (f : Word → Word → Word) (keep : Bool) (c v n : Word → Word → Bool) (z : Word → Word → Bool) =>
      Host.Outcome.next (φ := Fault) (ρ := Refusal) (s.did e (opLen o) fun l g =>
        let a := g.r.acc1
        let b := val l g
        (l, g.past { g.r with acc1 := if keep then a else f a b, c := c a b, v := v a b, n := n a b, z := z a b,
                              sv := g.r.sv || v a b } (opLen o)))
    let off := fun (_ _ : Word) => false
    s.does e (.add e o) (ans (fun a b => a + b) false (fun a b => decide (4294967296 ≤ a.toNat + b.toNat))
      (fun a b => decide (a.toInt + b.toInt < -2147483648 ∨ 2147483648 ≤ a.toInt + b.toInt))
      (fun a b => (a + b).msb) (fun a b => a + b == 0)) ∧
    s.does e (.sub e o) (ans (fun a b => a - b) false (fun a b => decide (a.toNat < b.toNat))
      (fun a b => decide (a.toInt - b.toInt < -2147483648 ∨ 2147483648 ≤ a.toInt - b.toInt))
      (fun a b => (a - b).msb) (fun a b => a - b == 0)) ∧
    s.does e (.aw e o) (ans (fun a b => a &&& b) false off off (fun a b => (a &&& b).msb) (fun a b => (a &&& b) == 0)) ∧
    s.does e (.ow e o) (ans (fun a b => a ||| b) false off off (fun a b => (a ||| b).msb) (fun a b => (a ||| b) == 0)) ∧
    s.does e (.xw e o) (ans (fun a b => a ^^^ b) false off off (fun a b => (a ^^^ b).msb) (fun a b => (a ^^^ b) == 0)) ∧
    s.does e (.cmp e o) (ans (fun a _ => a) true (fun a b => decide (a.toNat < b.toNat)) off
      (fun a b => decide (a.toInt < b.toInt)) (fun a b => a == b)) ∧
    s.does e (.cmpu e o) (ans (fun a _ => a) true (fun a b => decide (a.toNat < b.toNat)) off
      (fun a b => decide (a.toNat < b.toNat)) (fun a b => a == b))

/-- Multiply and divide (R122, R123) with a divisor that is not 0: the 64-bit product, or the quotient and remainder of
ACC2:ACC1, truncated toward zero, saturated with remainder 0 and V where the quotient does not fit. -/
def Obligations.MultiplyAndDivide : Prop :=
  ∀ (s : State) (e : EngId) (o : MOp), s.ready e (opLen o) = true → opCheck .wordRead o = .ok () →
    (o.sp.toNat = spK ∨ o.sp.toNat = spKL ∨
      ∀ x ∈ s.servingLanes, opIndex o ((s.lane x).engine e).r < spaceWords o.sp.toNat) →
    let val := fun (l : Lane) (g : Eng) => if o.sp.toNat = spK then o.low.signExtend 32 else if o.sp.toNat = spKL then o.ext
      else memWord l.mem (wordAddr o.sp.toNat g.task (opIndex o g.r))
    let ans := fun (cyc : Nat) (lo hi : Eng → Word → Word) (z n v : Eng → Word → Bool) =>
      Host.Outcome.next (φ := Fault) (ρ := Refusal) (s.did e (cyc + (opLen o - 1)) fun l g =>
        let b := val l g
        (l, g.past { g.r with acc1 := lo g b, acc2 := hi g b, c := false, z := z g b, n := n g b, v := v g b,
                              sv := g.r.sv || v g b } (opLen o)))
    let sp := fun (g : Eng) (b : Word) => g.r.acc1.toInt * b.toInt
    let up := fun (g : Eng) (b : Word) => g.r.acc1.toNat * b.toNat
    let sd := fun (g : Eng) => (g.r.acc2 ++ g.r.acc1).toInt
    let ud := fun (g : Eng) => (g.r.acc2 ++ g.r.acc1).toNat
    let sfit := fun (q : Int) => decide (-2147483648 ≤ q ∧ q < 2147483648)
    let sq := fun (g : Eng) (b : Word) => let q := (sd g).tdiv b.toInt
      if sfit q then BitVec.ofInt 32 q else if 0 < q then 0x7FFFFFFF#32 else 0x80000000#32
    let uq := fun (g : Eng) (b : Word) => if ud g / b.toNat < 4294967296 then BitVec.ofNat 32 (ud g / b.toNat) else 0xFFFFFFFF#32
    s.does e (.mul e o) (ans 2 (fun g b => (BitVec.ofInt 64 (sp g b)).extractLsb' 0 32)
      (fun g b => (BitVec.ofInt 64 (sp g b)).extractLsb' 32 32) (fun g b => BitVec.ofInt 64 (sp g b) == 0)
      (fun g b => (BitVec.ofInt 64 (sp g b)).msb) (fun g b => !sfit (sp g b))) ∧
    s.does e (.mulu e o) (ans 2 (fun g b => (BitVec.ofNat 64 (up g b)).extractLsb' 0 32)
      (fun g b => (BitVec.ofNat 64 (up g b)).extractLsb' 32 32) (fun g b => BitVec.ofNat 64 (up g b) == 0)
      (fun g b => (BitVec.ofNat 64 (up g b)).msb) (fun g b => decide (4294967296 ≤ up g b))) ∧
    ((∀ x ∈ s.servingLanes, val (s.lane x) ((s.lane x).engine e) ≠ 0) →
      s.does e (.div e o) (ans 19 sq
        (fun g b => if sfit ((sd g).tdiv b.toInt) then BitVec.ofInt 32 ((sd g).tmod b.toInt) else 0)
        (fun g b => sq g b == 0) (fun g b => (sq g b).msb) (fun g b => !sfit ((sd g).tdiv b.toInt))) ∧
      s.does e (.divu e o) (ans 19 uq
        (fun g b => if ud g / b.toNat < 4294967296 then BitVec.ofNat 32 (ud g % b.toNat) else 0)
        (fun g b => uq g b == 0) (fun g b => (uq g b).msb) (fun g b => decide (4294967296 ≤ ud g / b.toNat))))

/-- The register operations (R124) in their legal encodings: MOV and ADDI between X0 to X7, ACC1 and ACC2, SWAP, NEG, INV,
ABS and SEXT with their flags.

The conversions (R126): the value each leaves in ACC1 (SX48 in ACC2, without flags), V where a saturation changed the
value, C 0, Z and N from ACC1. -/
def Obligations.RegistersAndConversions : Prop :=
  (∀ (s : State) (e : EngId), s.ready e 1 = true →
     let ans := fun (f : Regs → Regs) => Host.Outcome.next (φ := Fault) (ρ := Refusal)
       (s.did e 1 fun l g => (l, g.past (f g.r) 1))
     let get := fun (r : Regs) (k : Nat) => if k = 8 then r.acc1 else if k = 9 then r.acc2 else r.getX k
     let set := fun (r : Regs) (k : Nat) (w : Word) => if k = 8 then { r with acc1 := w } else if k = 9 then { r with acc2 := w }
       else r.setX k w
     let most := 0x80000000#32
     (∀ dst src : Fin 10, s.does e (.mov e (BitVec.ofNat 20 (65536 * dst.val + 4096 * src.val))) (ans (fun r => set r dst.val (get r src.val)))) ∧
     (∀ (dst : Fin 10) (imm : BitVec 12), s.does e (.addi e (BitVec.ofNat 20 (65536 * dst.val + imm.toNat))) (ans (fun r => set r dst.val (get r dst.val + imm.signExtend 32)))) ∧
     s.does e (.swap e 0) (ans (fun r => { r with acc1 := r.acc2, acc2 := r.acc1 })) ∧
     s.does e (.neg e 0) (ans (fun r => { r with
       acc1 := -r.acc1, c := false, v := (r.acc1 == most), z := (-r.acc1 == 0),
       n := (-r.acc1).msb, sv := (r.sv || r.acc1 == most) })) ∧
     s.does e (.inv e 0) (ans (fun r => { r with
       acc1 := ~~~r.acc1, c := false, v := false, z := (~~~r.acc1 == 0),
       n := (~~~r.acc1).msb })) ∧
     s.does e (.abs e 0) (ans (fun r => let a := if r.acc1.msb then -r.acc1 else r.acc1
       { r with
         acc1 := a, c := false, v := (r.acc1 == most), z := (a == 0), n := a.msb,
         sv := (r.sv || r.acc1 == most) })) ∧
     s.does e (.sext e 0) (ans (fun r => { r with acc2 := if r.acc1.msb then 0xFFFFFFFF#32 else 0 }))) ∧
  (∀ (s : State) (e : EngId), s.ready e 1 = true →
     let ans := fun (f : Regs → Word) (v : Regs → Bool) => Host.Outcome.next (φ := Fault) (ρ := Refusal)
       (s.did e 1 fun l g =>
         (l, g.past { g.r with acc1 := f g.r, c := false, v := v g.r, z := f g.r == 0, n := (f g.r).msb,
                               sv := g.r.sv || v g.r } 1))
     let no := fun (_ : Regs) => false
     let sat := fun (lo hi z : Int) => BitVec.ofInt 32 (if z < lo then lo else if hi < z then hi else z)
     let cut := fun (lo hi z : Int) => decide (z < lo ∨ hi < z)
     let d := fun (r : Regs) => (r.acc2 ++ r.acc1).toInt
     s.does e (.sx8 e 0) (ans (fun r => (r.acc1.setWidth 8).signExtend 32) no) ∧
     s.does e (.sx16 e 0) (ans (fun r => (r.acc1.setWidth 16).signExtend 32) no) ∧
     s.does e (.zx8 e 0) (ans (fun r => BitVec.ofNat 32 (r.acc1.toNat % 256)) no) ∧
     s.does e (.zx16 e 0) (ans (fun r => BitVec.ofNat 32 (r.acc1.toNat % 65536)) no) ∧
     s.does e (.sat16 e 0) (ans (fun r => sat (-32768) 32767 r.acc1.toInt) (fun r => cut (-32768) 32767 r.acc1.toInt)) ∧
     s.does e (.satu16 e 0) (ans (fun r => sat 0 65535 r.acc1.toInt) (fun r => cut 0 65535 r.acc1.toInt)) ∧
     s.does e (.sat64 e 0) (ans (fun r => sat (-2147483648) 2147483647 (d r)) (fun r => cut (-2147483648) 2147483647 (d r))) ∧
     s.does e (.bsw32 e 0) (ans (fun r => r.acc1.setWidth 8 ++ r.acc1.extractLsb' 8 8 ++ r.acc1.extractLsb' 16 8 ++
       r.acc1.extractLsb' 24 8) no) ∧
     s.does e (.bsw16 e 0) (ans (fun r => (r.acc1.setWidth 8 ++ r.acc1.extractLsb' 8 8).setWidth 32) no) ∧
     s.does e (.sx48 e 0) (.next (s.did e 1 fun l g => (l, g.past { g.r with acc2 := (g.r.acc2.setWidth 16).signExtend 32 } 1))))

/-- The shifts (R125) in their legal encodings, the count from CNT or from ACC2[4:0]: the result, C the last bit shifted or
rotated out and 0 for a count of 0, V 0, Z and N from the result. -/
def Obligations.Shifts : Prop :=
  ∀ (s : State) (e : EngId) (low : BitVec 20), s.ready e 1 = true → low.toNat / 64 % 8192 = 0 →
    let rc := low.getLsbD 19
    let cnt := low.toNat % 64
    let ans := fun (f : Word → Nat → Word) (out : Word → Nat → Bool) => Host.Outcome.next (φ := Fault) (ρ := Refusal)
      (s.did e 1 fun l g =>
        let n := if rc then g.r.acc2.toNat % 32 else cnt
        let w := f g.r.acc1 n
        (l, g.past { g.r with acc1 := w, c := if n = 0 then false else out g.r.acc1 n, v := false, z := w == 0, n := w.msb } 1))
    let ans64 := fun (f : BitVec 64 → BitVec 64) (out : BitVec 64 → Bool) => Host.Outcome.next (φ := Fault) (ρ := Refusal)
      (s.did e 1 fun l g =>
        let d := g.r.acc2 ++ g.r.acc1
        (l, g.past { g.r with acc1 := (f d).setWidth 32, acc2 := (f d).extractLsb' 32 32,
                              c := if cnt = 0 then false else out d, v := false, z := f d == 0, n := (f d).msb } 1))
    (cnt < 32 → (rc = true → cnt = 0) →
      s.does e (.shl e low) (ans (fun w n => w <<< n) (fun w n => w.getLsbD (32 - n))) ∧
      s.does e (.shr e low) (ans (fun w n => w >>> n) (fun w n => w.getLsbD (n - 1))) ∧
      s.does e (.sar e low) (ans (fun w n => w.sshiftRight n) (fun w n => w.getLsbD (n - 1))) ∧
      s.does e (.rol e low) (ans (fun w n => w.rotateLeft n) (fun w n => w.getLsbD (32 - n))) ∧
      s.does e (.ror e low) (ans (fun w n => w.rotateRight n) (fun w n => w.getLsbD (n - 1)))) ∧
    (rc = false →
      s.does e (.shl64 e low) (ans64 (fun d => d <<< cnt) (fun d => d.getLsbD (64 - cnt))) ∧
      s.does e (.shr64 e low) (ans64 (fun d => d >>> cnt) (fun d => d.getLsbD (cnt - 1))) ∧
      s.does e (.sar64 e low) (ans64 (fun d => d.sshiftRight cnt) (fun d => d.getLsbD (cnt - 1))))

/-- BMOV (R127) of one to 256 words between spaces it accepts, both blocks in range and owned: the words of the source go to
the destination one after the other in rising order, 3 + n cycles. -/
def Obligations.BlockMove : Prop :=
  ∀ (s : State) (e : EngId) (ssp dsp xs xd : Nat) (n : Nat), s.ready e 2 = true → ssp ∈ [0, 1, 2, 3, 5, 8] →
    dsp ∈ [1, 2, 3, 5, 8] → xs < 8 → xd < 8 → 1 ≤ n → n ≤ 256 →
    (∀ x ∈ s.servingLanes, let r := ((s.lane x).engine e).r
      (r.getX xs).toNat + n ≤ spaceWords ssp ∧ (r.getX xd).toNat + n ≤ spaceWords dsp ∧
      (dsp = spW → ∀ k < n, inOwned (s.lane x).ownedW ((r.getX xd).toNat + k) = true)) →
    s.does e (.bmov e (BitVec.ofNat 26 (65536 * ssp + 4096 * dsp + 512 * xs + 64 * xd)) (BitVec.ofNat 32 n)) (.next (s.did e 0 fun l g =>
        ((List.range n).foldl (fun m k => m.store (wordAddr dsp g.task ((g.r.getX xd).toNat + k))
            (memWord m.mem (wordAddr ssp g.task ((g.r.getX xs).toNat + k)))) l,
         (g.past g.r 2).extra (3 + n))))

/-- TON, TOF, TP and TONR (R130, R131): a block of another kind, or one that no timer evaluated before, starts again with ET, Q and
its input 0, and one of another kind shows KIND_CHG; ET counts the µs between the two task-start stamps up to PT (ACC1) as the kind
says, BA becomes Q, and the block keeps its kind, its input and the stamp, and its bits that no field has (R119).

CTU, CTD, RSTB and LDTC (R133, R134): the counter counts the rising edge of BA and stops at its end with OVF, Q compares
CV with ACC1, BA becomes Q; RSTB resets a block where BA is 1; LDTC reads ET or CV into ACC1. -/
def Obligations.TimersAndCounters : Prop :=
  (∀ (s : State) (e : EngId) (o : MOp), s.ready e 1 = true → opCheck .timer o = .ok () →
     (∀ x ∈ s.servingLanes, opIndex o ((s.lane x).engine e).r < 8192) →
     let adr := fun (g : Eng) => 0x028C0000 + 16 * opIndex o g.r
     let blk := fun (l : Lane) (g : Eng) => tmOf [memWord l.mem (adr g), memWord l.mem (adr g + 4), memWord l.mem (adr g + 8),
       memWord l.mem (adr g + 12)]
     let ans := fun (kind : Nat) (f : TmBlock → Bool → Nat → Nat → Nat × Bool) => Host.Outcome.next (φ := Fault) (ρ := Refusal)
       (s.did e 2 fun l g =>
         let old := blk l g
         let now := g.act.start / 1000
         let b := if old.kind = kind then old else { kind := kind, kindChg := old.kindChg || old.kind != 0, last := old.last }
         let r := f b g.r.ba g.r.acc1.toNat (if b.stamped && decide (b.last ≤ now) then now - b.last else 0)
         (l.storeWords (adr g) (tmWords { b with et := r.1, q := r.2, prevIn := g.r.ba, stamped := true, last := now }
           (memWord l.mem (adr g + 4))), g.past { g.r with ba := r.2 } 1))
     s.does e (.ton e o) (ans 1 (fun b inp pt d =>
       let et := if inp && b.prevIn then min (b.et + d) pt else 0
       (et, inp && decide (pt ≤ et)))) ∧
     s.does e (.tof e o) (ans 2 (fun b inp pt d =>
       if inp then (0, true) else if b.prevIn then (0, decide (0 < pt))
       else if b.q then (min (b.et + d) pt, decide (min (b.et + d) pt < pt)) else (b.et, false))) ∧
     s.does e (.tp e o) (ans 3 (fun b inp pt d =>
       if b.q then (min (b.et + d) pt, decide (min (b.et + d) pt < pt))
       else if inp && !b.prevIn then (0, decide (0 < pt)) else (if inp then b.et else 0, false))) ∧
     s.does e (.tonr e o) (ans 4 (fun b inp pt d =>
       let et := min (if inp && b.prevIn then b.et + d else b.et) pt
       (et, decide (pt ≤ et))))) ∧
  (∀ (s : State) (e : EngId) (o : MOp), s.ready e 1 = true →
     (∀ x ∈ s.servingLanes, opIndex o ((s.lane x).engine e).r < 8192) →
     let adr := fun (g : Eng) => blockAddr o.sp.toNat (opIndex o g.r)
     let w0 := fun (l : Lane) (g : Eng) => memWord l.mem (adr g)
     let w1 := fun (l : Lane) (g : Eng) => memWord l.mem (adr g + 4)
     let cnt := fun (prev : Nat) (stop : Word) (step : Word → Word) (q : Word → Word → Bool) =>
       Host.Outcome.next (φ := Fault) (ρ := Refusal) (s.did e 2 fun l g =>
         let edge := g.r.ba && !(w1 l g).getLsbD prev
         let cv := if edge && w0 l g != stop then step (w0 l g) else w0 l g
         let ovf := if edge && w0 l g == stop then setBitOf (w1 l g) 3 true else w1 l g
         let done := q g.r.acc1 cv
         (l.storeWords (adr g) [cv, setBitOf (setBitOf ovf prev g.r.ba) 0 done], g.past { g.r with ba := done } 1))
     (opCheck .counter o = .ok () →
       s.does e (.ctu e o) (cnt 1 0xFFFFFFFF#32 (fun v => v + 1) (fun a v => decide (a.toNat ≤ v.toNat))) ∧
       s.does e (.ctd e o) (cnt 2 0 (fun v => v - 1) (fun a v => decide (v.toNat ≤ a.toNat)))) ∧
     (opCheck .blockAcc o = .ok () →
       s.does e (.rstb e o) (.next (s.did e 2 fun l g =>
         (if !g.r.ba then l
          else if o.sp.toNat = spTM then l.storeWords (adr g) [0, setBitOf (w1 l g) 0 false]
          else l.storeWords (adr g) [g.r.acc1, setBitOf (setBitOf (w1 l g) 0 false) 3 false], g.past g.r 1))) ∧
       s.does e (.ldtc e o) (.next (s.did e 1 fun l g => (l, g.past { g.r with acc1 := w0 l g } 1)))))

/-- SIGV (R135) on an element that is owned, that no map carries, or whose telegram was received; and STMP (R136): the value
of each clock that the activation took at its start, in ACC2:ACC1, and its validity in BA. -/
def Obligations.SignalAgeAndStamps : Prop :=
  ∀ (s : State) (e : EngId),
    (∀ o : MOp, s.ready e 2 = true → opCheck .signal o = .ok () →
      (∀ x ∈ s.servingLanes, let l := s.lane x; let g := l.engine e
        opIndex o g.r < smElems o.sp.toNat ∧
        ∀ i, l.mapOf o.sp.toNat (opIndex o g.r) = some i → (g.act.obj (keyPd (l.smPd i))).count ≠ 0) →
      s.does e (.sigv e o) (.next (s.did e 2 fun l g =>
        let k := opIndex o g.r
        (l, if inOwned (if o.sp.toNat = spS then l.ownedS else l.ownedW) k then g.past { g.r with ba := true, acc1 := 0 } 2
            else match l.mapOf o.sp.toNat k with
              | none => g.past { g.r with ba := false, acc1 := 0xFFFFFFFF#32 } 2
              | some i => let c := g.act.obj (keyPd (l.smPd i))
                g.past { g.r with ba := c.status.getLsbD 0,
                                  acc1 := BitVec.ofNat 32 (min (g.act.start / 1000 - c.stampUs) 0xFFFFFFFF) } 2)))) ∧
    (s.ready e 1 = true →
      let ans := fun (f : Act → Nat) (ok : Act → Bool) => Host.Outcome.next (φ := Fault) (ρ := Refusal)
        (s.did e 1 fun l g => (l, g.past { g.r with
          acc1 := BitVec.ofNat 32 (f g.act), acc2 := BitVec.ofNat 32 (f g.act / 4294967296), ba := ok g.act } 1))
      s.does e (.stmpLt e 0) (ans (fun a => a.start) (fun _ => true)) ∧
      s.does e (.stmpTt e 0) (ans (fun a => a.gauge.tt) (fun a => a.gauge.ttLocked)) ∧
      s.does e (.stmpP e 0) (ans (fun a => (a.gauge.p % 18446744073709551616).toNat) (fun a => a.gauge.pRef)) ∧
      s.does e (.stmpD e 0) (ans (fun a => a.gauge.d) (fun a => a.gauge.dFull)) ∧
      s.does e (.stmpPh e 0) (ans (fun a => a.gauge.phi % 65536) (fun a => a.gauge.phPresent)) ∧
      s.does e (.stmpSpd e 0) (ans (fun a => (a.gauge.speed % 18446744073709551616).toNat)
        (fun a => a.gauge.pRef || a.gauge.dFull)) ∧
      s.does e (.stmpCyc e 0) (ans (fun a => match a.prev with
        | none => 0 | some p => min (a.start / 1000 - p / 1000) 0xFFFFFFFF) (fun a => a.prev.isSome)))

/-- The sending services (R142, R145, R147, R148, R150, R151) on an object of their own kind, the data within D: each emits
one effect record with its kind, its targets, its length and the data words, which the proof window folds, and moves PC.

The receiving services (R142, R145) on an object of their own kind, the destination within D: the object as the
activation took it at its start is copied to D, and its length, status, stamp and count to the registers. -/
def Obligations.ServicesSendAndReceive : Prop :=
  (∀ (s : State) (e : EngId) (xs : Nat) (n : Nat), s.ready e 1 = true → xs < 8 →
     let low := BitVec.ofNat 20 (131072 * xs + n)
     let k := fun (g : Eng) => (g.r.getX xs).toNat
     let fits := fun (m : Nat) => ∀ x ∈ s.servingLanes, k ((s.lane x).engine e) + m ≤ 2097152
     let all := fun (p : Lane → Prop) => ∀ x ∈ s.servingLanes, p (s.lane x)
     let data := fun (l : Lane) (g : Eng) (bytes : Nat) => maskTail bytes
       ((List.range ((bytes + 3) / 4)).map fun i => memWord l.mem (0x02000000 + 4 * (k g + i)))
     let ans := fun (kind : Nat) (t0 : Eng → Nat) (len : Lane → Eng → Nat) (cyc : Lane → Nat) (ws : Lane → Eng → List Word) =>
       Host.Outcome.next (φ := Fault) (ρ := Refusal) (s.did e 0 fun l g =>
         emitBody e kind (BitVec.ofNat 32 (t0 g)) 0 (len l g) (ws l g) l ((g.past g.r 1).extra (cyc l)))
     (n < 2048 → (all fun l => l.pdUsed n = true ∧ l.pdDir n = 1 ∧ l.pdSdt n = false ∧ l.leasePd n = false) →
       (∀ x ∈ s.servingLanes, k ((s.lane x).engine e) + ((s.lane x).pdLen n + 3) / 4 ≤ 2097152) →
       s.does e (.txpd e low) (ans rkPd (fun _ => n) (fun l _ => l.pdLen n) (fun l => 2 + (l.pdLen n + 3) / 4)
         (fun l g => data l g (l.pdLen n)))) ∧
     (n < 2048 → (all fun l => l.sdtUsed n = true ∧ l.pdDir (l.sdtPd n) = 1) →
       (∀ x ∈ s.servingLanes, k ((s.lane x).engine e) + ((s.lane x).sdtLen n + 3) / 4 ≤ 2097152) →
       s.does e (.txsdt e low) (ans rkSdt (fun _ => n) (fun l _ => l.sdtLen n) (fun l => 2 + (l.sdtLen n + 3) / 4)
         (fun l g => data l g (l.sdtLen n)))) ∧
     (n < 2048 → (all fun l => l.mdUsed n = true ∧ l.mdRole n ≠ mdListener ∧ (l.engine e).r.acc1.toNat ≤ l.mdMax n) →
       (∀ x ∈ s.servingLanes, k ((s.lane x).engine e) + ((s.lane x).mdMax n + 3) / 4 ≤ 2097152) →
       s.does e (.txmd e low) (ans rkMd (fun _ => n) (fun _ g => 4 + g.r.acc1.toNat) (fun l => 2 + (l.mdMax n + 3) / 4)
         (fun l g => g.r.acc1 :: data l g g.r.acc1.toNat))) ∧
     (∀ (c : Fin 4) (tb : Bool) (b : Fin 64), fits 18 → (all fun l => l.canUsed c b = true ∧ l.canDir c b = 2) →
       (∀ x ∈ s.servingLanes, let l := s.lane x; let g := l.engine e
         descOk (memWord l.mem (0x02000000 + 4 * k g)) (memWord l.mem (0x02000000 + 4 * (k g + 1))) = true) →
       let low := fun tb : Bool => BitVec.ofNat 20 (131072 * xs + 32768 * c.val + 16384 * tb.toNat + b.val)
       s.does e (.ctx e (low false)) (.next (s.did e 20 fun l g => emitBody e rkCan (BitVec.ofNat 32 (c.val + 256 * b.val)) 0 72
         (data l g 72) l (g.past g.r 1))) ∧
       s.does e (.ctxt e (low tb)) (.next (s.did e 20 fun l g => emitBody e rkCan (BitVec.ofNat 32 (c.val + 256 * b.val))
         (BitVec.ofNat 32 (1 + 2 * tb.toNat)) 80 (data l g 72 ++ [g.r.acc1, g.r.acc2]) l (g.past g.r 1)))) ∧
     (n < 64 → fits 4 →
       (∀ x ∈ s.servingLanes, let d := data (s.lane x) ((s.lane x).engine e) 16
         armOk s.isHwt (d.getD 0 0) (d.getD 1 0) (d.getD 2 0) (d.getD 3 0) = true) →
       s.does e (.arm e low) (.next (s.did e 5 fun l g => emitBody e rkArm (BitVec.ofNat 32 n) 0 16 (data l g 16) l (g.past g.r 1)))) ∧
     (n < 64 → s.does e (.disarm e (BitVec.ofNat 20 n)) (.next (s.did e 1 fun l g =>
       emitBody e rkDisarm (BitVec.ofNat 32 n) 0 0 [] l (g.past g.r 1)))) ∧
     (n < 256 → s.does e (.ecls e (BitVec.ofNat 26 n)) (.next (s.did e 1 fun l g =>
       emitBody e rkEcls (BitVec.ofNat 32 g.task) 0 4 [BitVec.ofNat 32 n] l (g.past g.r 1)))) ∧
     ((all fun l => (l.engine e).r.acc2.toNat % 4 = 0 ∧ periphAddr (l.engine e).r.acc2.toNat = true) →
       s.does e (.pwr e 0) (.next (s.did e 1 fun l g => emitBody e rkPwr g.r.acc2 0 4 [g.r.acc1] l (g.past g.r 1)))) ∧
     (s.ready e 2 = true → ∀ type : Nat, 0x8000 ≤ type → type < 0x10000 → ∀ m : Nat, m ≤ 4032 → fits ((m + 3) / 4) →
       s.does e (.recEntry e (BitVec.ofNat 26 (131072 * xs + type)) (BitVec.ofNat 32 m)) (.next (s.did e 0 fun l g =>
         emitBody e rkRec (BitVec.ofNat 32 type) 0 m (data l g m) l ((g.past g.r 2).extra (3 + (m + 3) / 4)))))) ∧
  (∀ (s : State) (e : EngId) (xs n : Nat), s.ready e 1 = true → xs < 8 →
     let low := BitVec.ofNat 20 (131072 * xs + n)
     let k := fun (g : Eng) => (g.r.getX xs).toNat
     let all := fun (p : Lane → Prop) => ∀ x ∈ s.servingLanes, p (s.lane x)
     let copy := fun (key : Nat) (len : Lane → Nat) => Host.Outcome.next (φ := Fault) (ρ := Refusal) (s.did e 0 fun l g =>
       let c := g.act.obj key
       let m := (len l + 3) / 4
       (l.storeWords (0x02000000 + 4 * k g) (padWords m c.data),
        (g.past { g.r with acc1 := BitVec.ofNat 32 c.len, acc2 := c.status, ba := c.status.getLsbD 0 } 1).extra (2 + m)))
     (n < 2048 → (all fun l => l.pdUsed n = true ∧ l.pdDir n = 2 ∧ l.pdSdt n = false ∧ l.leasePd n = false ∧
         k (l.engine e) + (l.pdLen n + 3) / 4 ≤ 2097152) →
       s.does e (.rxpd e low) (copy (keyPd n) (fun l => l.pdLen n))) ∧
     (n < 2048 → (all fun l => l.sdtUsed n = true ∧ l.pdDir (l.sdtPd n) = 2 ∧
         k (l.engine e) + (l.sdtLen n + 3) / 4 ≤ 2097152) →
       s.does e (.rxsdt e low) (copy (keySdt n) (fun l => l.sdtLen n))) ∧
     (n < 2048 →
       let stat := fun (cls : Nat) (key : Lane → Nat) => s.does e (.tstat e (BitVec.ofNat 20 (32768 * cls + n))) (.next (s.did e 1 fun l g =>
           let w := (g.act.obj (key l)).status
           (l, g.past { g.r with acc1 := w, ba := w.getLsbD 0 } 1)))
       ((all fun l => l.pdUsed n = true ∧ l.leasePd n = false ∧ (l.pdSdt n = false ∨ l.channelOf n = none)) →
         stat 0 (fun _ => keyPd n)) ∧
       ((all fun l => l.pdUsed n = true ∧ l.leasePd n = false ∧ l.pdSdt n = true ∧ (l.channelOf n).isSome = true) →
         stat 0 (fun l => keySdt ((l.channelOf n).getD 0))) ∧
       ((all fun l => l.mdUsed n = true) → stat 1 (fun _ => keyMd n)) ∧
       ((all fun l => l.sdtUsed n = true) → stat 2 (fun _ => keySdt n))) ∧
     (∀ c : Fin 4, n < 64 → (all fun l => l.canUsed c n = true ∧ l.canDir c n = 1 ∧ k (l.engine e) + 18 ≤ 2097152) →
       s.does e (.crxb e (BitVec.ofNat 20 (131072 * xs + 32768 * c.val + n))) (.next (s.did e 20 fun l g =>
         let o := g.act.obj (keyCan c n)
         (l.storeWords (0x02000000 + 4 * k g) (padWords 18 o.data),
          g.past { g.r with acc1 := BitVec.ofNat 32 o.stampUs, acc2 := BitVec.ofNat 32 (min o.count 0xFFFFFFFF),
                            ba := decide (1 ≤ o.count) } 1)))))

/-- The waiting services (R139, R140, R142, R145, R146, R148): a legal request makes the engine WAIT with the request it
emitted at its checkpoint; its result completes the instruction, ACC2 is the code, BA is 1 exactly for OK, and the words
of an OK result are stored in D.

A request's result (R139, R140) that is the oldest for an engine which waits without a cancel and without a task given
to it: ACC2 takes the code, BA is 1 exactly for OK, ACC1 the value read, an OK result's words go to D, PC moves on. -/
def Obligations.WaitingServicesComplete : Prop :=
  (∀ (s : State) (e : EngId), s.ready e 1 = true →
     let waits := fun (q : Eng → WaitReq) (data : Eng → List Word) => Host.Outcome.next (φ := Fault) (ρ := Refusal)
       (s.after (s.onLanes fun l =>
         let g := l.engine e
         (l.setEngine e { g with st := .wait, wait := some (q g) }).emit e (q g).kind (q g).t0 (q g).t1 (4 * (data g).length)
           (data g) true) s.lt)
     let all := fun (p : Lane → Prop) => ∀ x ∈ s.servingLanes, p (s.lane x)
     (∀ xs n m : Nat, xs < 8 → n < 2048 → (all fun l => l.mdUsed n = true ∧ l.mdRole n ≠ mdNotifier ∧ wordsOf (l.mdMax n) = m ∧
         ((l.engine e).r.getX xs).toNat + m ≤ 2097152) →
       s.does e (.rxmd e (BitVec.ofNat 20 (131072 * xs + n))) (waits (fun g =>
         { kind := rkMdPop, t0 := BitVec.ofNat 32 n, dFirst := (g.r.getX xs).toNat, dWords := m, cyc := 2 }) (fun _ => []))) ∧
     (∀ (xs : Nat) (c : Fin 4), xs < 8 → (all fun l => ((l.engine e).r.getX xs).toNat + 18 ≤ 2097152) →
       s.does e (.crxf e (BitVec.ofNat 20 (131072 * xs + 32768 * c.val))) (waits (fun g =>
         { kind := rkCanPop, t0 := BitVec.ofNat 32 c.val, dFirst := (g.r.getX xs).toNat, dWords := 18, cyc := 20 })
         (fun _ => []))) ∧
     (∀ (w : Fin 8) (wid : Fin 3), (all fun l => (l.engine e).r.acc2.toNat % 2 ^ wid.val = 0 ∧
         (l.engine e).r.acc2.toNat + 2 ^ wid.val ≤ s.br.sizes.getD w.val 0) →
       s.does e (.brd e (BitVec.ofNat 20 (8 * wid.val + w.val))) (waits (fun g =>
         { kind := rkBrd, t0 := BitVec.ofNat 32 (8 * wid.val + w.val), t1 := g.r.acc2, cyc := 2 }) (fun _ => [])) ∧
       s.does e (.bwr e (BitVec.ofNat 20 (8 * wid.val + w.val))) (waits (fun g =>
         { kind := rkBwr, t0 := BitVec.ofNat 32 (8 * wid.val + w.val), t1 := g.r.acc2, data := g.r.acc1, cyc := 2 })
         (fun g => [g.r.acc1]))) ∧
     ((all fun l => (l.engine e).r.acc2.toNat % 4 = 0 ∧ periphAddr (l.engine e).r.acc2.toNat = true) →
       s.does e (.prd e 0) (waits (fun g => { kind := rkPrd, t0 := g.r.acc2, cyc := 1 }) (fun _ => [])))) ∧
  (∀ (s : State) (e : EngId) (t : Nat) (res : ReqResult) (q : WaitReq), s.live = true →
     let n := s.now t
     (∀ x ∈ n.servingLanes, let l := n.lane x; let g := l.engine e
       l.clean = true ∧ l.results.head? = some res ∧ res.engine = e ∧ g.wait = some q ∧ g.pair = none ∧ g.next = none ∧
       g.act.cancel = none) →
     s.leaves (.requestResult e t) t (n.onLanes fun l =>
       let g := l.engine e
       let l1 := { l with results := l.results.drop 1 }
       let l2 := if res.code = 0 then l1.storeWords (0x02000000 + 4 * q.dFirst) (res.data.take q.dWords) else l1
       l2.setEngine e (({ g with st := .run, wait := none }.past { g.r with
         acc2 := BitVec.ofNat 32 res.code, ba := res.code == 0, acc1 := res.acc1.getD g.r.acc1 } 1).retire q.cyc)))

/-- The handshake (R39, R44 to R46): OPEN of a port with fewer than four sessions opens a handshake with the lowest free number and
answers CHALLENGE with the module nonce; AUTH whose proof verifies for the one handshake of its port and slot turns it into an open
session with the credential's role and the session key, holds Q31 for 20 µs and answers OK. -/
def Obligations.HandshakeOpensSession : Prop :=
  ∀ (s : State) (f : Frame), s.live = true → frameTaken f = true → frameOk f = true → f.tie = false → s.pw.armed = false →
    (∀ n : Nat, f.command = 0x01 → 1 ≤ n → n ≤ 8 → (∀ x ∈ s.hp.sessions, x.number ≠ n) →
      (∀ m, 1 ≤ m → m < n → ∃ x ∈ s.hp.sessions, x.number = m) →
      (s.hp.sessions.filter fun x => x.port == portNo f.port).length < 4 →
      s.leavesSome (.hpOpen f) f.t fun u =>
        (∃ x, u.hp.sessions = s.hp.sessions ++ [x] ∧ x.number = n ∧ x.port = portNo f.port ∧ x.slot = f.arg.toNat ∧
          x.isOpen = false ∧ x.last = f.t) ∧
        (∃ r, NMap.look u.hp.sent (portNo f.port) = some r ∧ r.status = stChallenge ∧ r.session = n ∧
          r.seq = f.seq.toNat ∧ r.payload.length = 4)) ∧
    (∀ (x : Session) (c : Cred), f.command = 0x02 → s.verifying f.t = false → s.cred f.arg.toNat = some c →
      (s.hp.sessions.filter fun y => y.port == portNo f.port && !y.isOpen && y.slot == f.arg.toNat) = [x] →
      x.slot = f.arg.toNat → s.proves x f = true →
      s.leavesSome (.auth f) f.t fun u =>
        u.hp.sessions = (s.hp.sessions.map fun y => if y.port == x.port && y.number == x.number then
          { x with isOpen := true, key := hmac c.key (x.modNonce ++ x.hostNonce), role := c.role, lastSeq := 0, reply := none,
                   last := f.t } else y) ∧
        u.hp.verifyUntil = some (f.t + 20000) ∧
        (∃ r, NMap.look u.hp.sent (portNo f.port) = some r ∧ r.status = stOk ∧ r.session = x.number))

/-- A request in an open session with none in service (R39, R40, R48 to R50) whose frame is valid, whose MAC is right, whose SEQ is
the next and whose role suffices: the command's effect, and the request is in service until its reply leaves (the time is free:
log entry 70). KEEPALIVE has no other effect, CLOSE ends the session once its reply left, QLOCK takes a free quoin, QRELEASE frees
one the session holds, QBREAK frees one whoever holds it and records it; READ answers the words, WRITE stores its words in ascending
order where every check of R42 passes. At the end of its service a request's reply is stored in the session and leaves on its port. -/
def Obligations.SessionRequestsServed : Prop :=
  (∀ (s : State) (x : Session) (v : Serving) (t : Nat), s.hp.sessions = [x] → x.serving = some v → v.until_ ≤ t →
    (s.repliesDue t).hp.sessions = [{ x with lastSeq := v.seq, reply := some v.reply, serving := none }] ∧
    NMap.look (s.repliesDue t).hp.sent x.port = some v.reply) ∧
  ∀ (s : State) (f : Frame) (x : Session), s.live = true → frameTaken f = true → frameOk f = true → f.tie = false →
    s.pw.armed = false → (∀ y ∈ s.hp.sessions, y.serving = none) →
    s.session (portNo f.port) f.session.toNat = some x → x.isOpen = true → requestMac x.key f = f.mac →
    f.seq.toNat = (x.lastSeq + 1) % 65536 → (∀ r, x.reply = some r → x.lastSeq ≠ f.seq.toNat) →
    (cmdRole f.command.toNat).getD 9 ≤ x.role → s.hp.resetAfterReply = false → s.hp.restart = none →
    let y := { x with last := f.t }
    let s0 := (s.now f.t).putSession y
    let words := if f.command = 0x10 then f.count.toNat else if f.command = 0x11 then f.payload.length
      else if f.command = 0x12 then 1 else 0
    let serve := fun (time : Nat) (r : State) (a : Answer) =>
      let v : Serving :=
        { seq := f.seq.toNat, frame := f, words := words, reply := replyTo f x.number (some x.key) a, until_ := f.t + time }
      (r.putSession { y with serving := some v }).repliesDue f.t
    let done := serve (Config.serviceTime x.port f.t)
    let q := f.arg.toNat
    (f.command = 0x04 → s.leaves (.keepalive f) f.t (done s0 { status := stOk })) ∧
    (f.command = 0x03 → s.leaves (.close f) f.t ((serve 0 s0 { status := stOk }).closeSession x.port x.number)) ∧
    (f.command = 0x20 → q < 31 → s.rd R.HP_QUOIN_HELD q = 0 → s.leaves (.qlock f) f.t
      (done (((s0.wr R.HP_QUOIN_HELD 1 q).wr R.HP_QUOIN_PORT x.port q).wr R.HP_QUOIN_SESSION x.number q) { status := stOk })) ∧
    (f.command = 0x21 → q < 31 → s.rd R.HP_QUOIN_HELD q = 1 →
      256 * s.rd R.HP_QUOIN_PORT q + s.rd R.HP_QUOIN_SESSION q = 256 * x.port + x.number →
      s.leaves (.qrelease f) f.t (done (s0.wrWord (R.HP_QUOIN_HELD.addr q) 0) { status := stOk })) ∧
    (f.command = 0x22 → q < 31 → s.rd R.HP_QUOIN_HELD q = 1 →
      let who := fun o : Nat => byte (o / 256 * 16 + o % 16)
      s.leaves (.qbreak f) f.t (done (((s0.wrWord (R.HP_QUOIN_HELD.addr q) 0).wr R.HP_FLAGS_QBREAK_SEEN 1).record .hp 0x0102
        [byte q, who (256 * x.port + x.number), who (s.quoinOwner q)] f.t) { status := stOk })) ∧
    (f.command = 0x10 → (∀ k < f.count.toNat, mapped (f.address.toNat + 4 * k) = true) →
      (∀ k < f.count.toNat, s0.inReset (f.address.toNat + 4 * k) f.t = false) →
      s.leaves (.read f) f.t (done ((wordsFrom f.address.toNat f.count.toNat).foldl (fun r a => r.readEffect a f.t) s0)
        { status := stOk, payload := (wordsFrom f.address.toNat f.count.toNat).map fun a => s0.view (some x.port) a f.t })) ∧
    (let store := fun (ws : List Word) (c : Instr) =>
      (∀ a ∈ (wordsFrom f.address.toNat ws.length), mapped a = true ∧ s0.holdsQuoin y a = true ∧ hxAddr a = false ∧
        s0.inReset a f.t = false) →
      (∀ b ∈ (wordsFrom f.address.toNat ws.length).zip ws, s0.modeRefuses b.1 b.2 = false ∧ roleRefuses x.role b.1 b.2 = false ∧
        s0.valueRefuses b.1 b.2 = false) →
      let r := (((wordsFrom f.address.toNat ws.length).zip ws).foldl
        (fun (r : State) b => r.hostStore (.host x.port x.number) b.1 b.2 f.t) s0).scopeClamp (wordsFrom f.address.toNat ws.length)
      r.hp.resetAfterReply = false → r.hp.restart = none → s.leaves c f.t (done r { status := stOk })
     (f.command = 0x11 → store f.payload (.write f)) ∧
     (f.command = 0x12 →
       store [(s0.oldWord x.port f.address.toNat f.t &&& ~~~f.arg) ||| (f.payload.getD 0 0 &&& f.arg)] (.writeMasked f)))

/-- What the host side does by itself (R36, R37, R44, R46, R49): the verification ends 20 µs after it began and frees Q31; a
handshake lapses after 1 s, an idle session closes after SESS_TIMEOUT, each with its quoins; an ARP or echo request to the port's own
address, untagged and whole, is answered to its sender, the echo with its bytes; once the reply to its GO has left a committed address
takes effect and closes the sessions of each port whose address or prefix changed, and a set that R58 refuses is rejected.

The registers of a block (R52 to R56, R541): a write leaves a read-only register and an address of no register alone, clears the
bits of a W1C field that it writes with 1, stages a RWS field; GO makes the staged values the pending set, DISCARD forgets them, the
boundary makes a legal pending set the values in effect, CNT_CLEAR clears the block's counters, a reset of HP closes every session
and leaves the voter; a sample of an input word reaches its I word with its stamp. -/
def Obligations.HostSideAndRegisters : Prop :=
  (∀ (s : State) (p : Port) (n t : Nat) (x : Session), s.live = true →
     (∀ u, s.hp.verifyUntil = some u → u ≤ t → s.leaves (.proofVerifyEnd t) t
       (((s.now t).setHp { s.hp with verifyUntil := none }).wrWord (R.HP_QUOIN_HELD.addr 31) 0)) ∧
     (s.session (portNo p) n = some x → x.isOpen = false → x.last + 1000000000 ≤ t →
       s.leaves (.handshakeLapse p n t) t ((s.now t).closeSession (portNo p) n)) ∧
     (s.session (portNo p) n = some x → x.isOpen = true → x.last + 1000000000 * s.rd R.HP_NET_CFG_SESS_TIMEOUT ≤ t →
       s.leaves (.sessionTimeout p n t) t ((s.now t).closeSession (portNo p) n)) ∧
     ((∀ y, s.session (portNo p) n = some y → t < y.last + 1000000000) →
       s.leaves (.handshakeLapse p n t) t (s.now t)) ∧
     (∀ q : PortAsk,
       let own := match p with | .a => s.rd R.HP_A_ADDR_ADDR | .b => s.rd R.HP_B_ADDR_ADDR
       let answer := fun a : PortAnswer => (s.now t).setHp { s.hp with answers := NMap.put s.hp.answers (portNo p) a }
       (q.target.toNat = own → q.fragment = false →
         s.leaves (.hostArpRequest p q false t) t (answer { arp := true, dst := q.source, mac := q.mac, echo := [] }) ∧
         s.leaves (.hostIcmpEcho p q false t) t (answer { arp := false, dst := q.source, mac := q.mac, echo := q.echo })) ∧
       (∀ tagged, tagged = true ∨ q.fragment = true ∨ q.target.toNat ≠ own →
         s.leaves (.hostArpRequest p q tagged t) t (s.now t) ∧ s.leaves (.hostIcmpEcho p q tagged t) t (s.now t))) ∧
     (s.hp.addrCommit = true →
       let r := (s.now t).repliesDue t
       let off := { r.hp with addrCommit := false, addrBy := none }
       let new := r.rf.applied .hp
       (r.goInService = true → s.leaves (.hostAddressChange t) t r) ∧
       (r.goInService = false → r.rf.waits .hp = false → s.leaves (.hostAddressChange t) t (r.setHp off)) ∧
       (r.goInService = false → r.rf.waits .hp = true → hpSetOk new.word = true → s.leaves (.hostAddressChange t) t
         (({ r with rf := new, hp := off } : State).closeSessions fun x =>
           if x.port = 0 then r.rd R.HP_A_ADDR_ADDR != new.rd R.HP_A_ADDR_ADDR || r.rd R.HP_NET_CFG_PREFIX_A != new.rd R.HP_NET_CFG_PREFIX_A
           else r.rd R.HP_B_ADDR_ADDR != new.rd R.HP_B_ADDR_ADDR || r.rd R.HP_NET_CFG_PREFIX_B != new.rd R.HP_NET_CFG_PREFIX_B)) ∧
       (r.goInService = false → r.rf.waits .hp = true → hpSetOk new.word = false → s.leaves (.hostAddressChange t) t
         { r with rf := r.rf.reject .hp, hp := off }))) ∧
  (∀ (s : State) (v : Word) (t : Nat), s.live = true →
     s.leaves (.registerWrite 0x0 v t) t (s.now t) ∧
     (∀ a, blockOf a = none → s.leaves (.registerWrite a v t) t (s.now t)) ∧
     s.leavesSome (.registerWrite 0x10008 v t) t (fun u => u.rf.eff = s.rf.eff ∧ u.rf.shadowWord 0x10008 = v ∧ u.vt = s.vt) ∧
     (Cells.wf s.rf.eff = true → s.leavesSome (.registerWrite R.HP_FLAGS_DISCARD_SEEN.base v t) t (fun u =>
       (∀ f ∈ [R.HP_FLAGS_DISCARD_SEEN, R.HP_FLAGS_AUTH_FAIL_A, R.HP_FLAGS_AUTH_FAIL_B, R.HP_FLAGS_QBREAK_SEEN],
         u.rd f = if f.ext v = 1 then 0 else s.rd f) ∧ u.rf.shadow = s.rf.shadow ∧ u.hp = s.hp)) ∧
     s.leaves (.commitGo .nw t) t { s.now t with rf := s.rf.go .nw } ∧
     s.leaves (.commitGo .hp t) t { s.now t with rf := s.rf.go .hp, hp := { s.hp with addrCommit := true, addrBy := none } } ∧
     s.leaves (.commitGo .tsk t) t ((s.now t).onLanes fun l => { l with rf := l.rf.go .tsk }) ∧
     s.leaves (.commitDiscard .nw t) t { s.now t with rf := s.rf.discard .nw } ∧
     (s.rf.waits .nw = true → s.nwSetOk (s.rf.applied .nw).word = true →
       s.leaves (.pendingSetApply .nw t) t { s.now t with rf := s.rf.applied .nw }) ∧
     (s.rf.waits .nw = true → s.nwSetOk (s.rf.applied .nw).word = false →
       s.leaves (.pendingSetApply .nw t) t { s.now t with rf := s.rf.reject .nw }) ∧
     (s.rf.waits .nw = false → s.leaves (.pendingSetApply .nw t) t (s.now t)) ∧
     s.leaves (.cntClear .nw t) t { s.now t with rf := s.rf.cntClear .nw } ∧
     s.leaves (.cntClear .tsk t) t ((s.now t).onLanes fun l => { l with rf := l.rf.cntClear .tsk }) ∧
     s.leavesSome (.softReset .hp t) t (fun u => u.hp.sessions = [] ∧ u.hp.verifyUntil = none ∧ u.vt = s.vt ∧
       NMap.get u.rst 0 0x10000 = t + Config.resetTime 0x10000 t) ∧
     (∀ w < 65536, s.leaves (.inputSample w v t) t ((s.now t).onLanes fun l =>
       let c := NMap.get l.samples {} w
       { l with samples := NMap.put l.samples w { stamp := t, cur := v, prev := if c.stamp < t then c.cur else c.prev } })) ∧
     (s.mode = mdStop ∨ s.mode = mdMaint → v.toNat % 8 < 7 →
       s.leaves (.vtHoldOutWrite v t) t ((s.now t).wr R.VT_CMD_HOLD_OUT (v.toNat % 8))) ∧
     (s.mode ≠ mdStop → s.mode ≠ mdMaint → s.leaves (.vtHoldOutWrite v t) t (s.now t)) ∧
     s.leaves (.evtCtrlWrite v t) t ((s.now t).onLanes fun l => { l with rf := { l.rf with
       eff := Cells.set l.rf.eff 0x51100 (R.EVT_CTRL_GDIS.ins (Cells.get l.rf.eff 0x51100) (v.toNat % 2)) } }))

/-- Proof attempts (R46, R47): an AUTH while Q31 is held is answered BUSY; a verification holds Q31 for exactly 20 µs, whether the
proof is valid or not, and it is freed then; a proof that does not verify is answered AUTH_FAIL, ends its handshake and no other, counts
in its port's half of HP_AUTH_FAIL_CNT, sets the port's flag and is recorded. -/
def Obligations.ProofAttemptsAreSerialised : Prop :=
  ∀ (s : State) (f : Frame) (t : Nat), s.live = true →
    let p := portNo f.port
    let hs := s.hp.sessions.filter fun x => x.port == p && !x.isOpen && x.slot == f.arg.toNat
    let holds := fun u : State => u.hp.verifyUntil = some (f.t + 20000) ∧ u.rd R.HP_QUOIN_HELD 31 = 1
    let answers := fun (u : State) (st n : Nat) => ∃ r, NMap.look u.hp.sent p = some r ∧ r.status = st ∧ r.session = n
    (frameTaken f = true → frameOk f = true → f.tie = false → s.pw.armed = false → f.command = 0x02 →
      (s.verifying f.t = true → s.leaves (.auth f) f.t
        ((s.now f.t).send p (replyTo f 0 none { status := stBusy, arg := s.quoinOwner 31 }))) ∧
      (s.verifying f.t = false →
        (∀ x, hs.find? (fun y => s.proves y f) = some x → s.leavesSome (.auth f) f.t fun u => holds u ∧ answers u stOk x.number) ∧
        (∀ x, (∀ y ∈ hs, s.proves y f = false) → hs.getLast? = some x → s.leavesSome (.auth f) f.t fun u =>
          holds u ∧ answers u stAuthFail x.number ∧
          u.hp.sessions = (s.hp.sessions.filter fun y => !(y.port == p && y.number == x.number)) ∧
          (f.port = .a → u.rd R.HP_AUTH_FAIL_CNT_PORT_A = min 65535 (s.rd R.HP_AUTH_FAIL_CNT_PORT_A + 1) ∧
            u.rd R.HP_FLAGS_AUTH_FAIL_A = 1) ∧
          (f.port = .b → u.rd R.HP_AUTH_FAIL_CNT_PORT_B = min 65535 (s.rd R.HP_AUTH_FAIL_CNT_PORT_B + 1) ∧
            u.rd R.HP_FLAGS_AUTH_FAIL_B = 1) ∧
          ∃ (s1 : State) (r : Reply), u = (s1.record .hp 0x0101 [byte p, byte f.arg.toNat] f.t).send p r))) ∧
    (∀ e, s.hp.verifyUntil = some e →
      (t < e → s.leaves (.proofVerifyEnd t) t (s.now t)) ∧
      (e ≤ t → s.leaves (.proofVerifyEnd t) t
        (((s.now t).setHp { s.hp with verifyUntil := none }).wrWord (R.HP_QUOIN_HELD.addr 31) 0)))

/-- What the voter takes (R240, R242, R243): with nothing presented nothing happens; a lane that does not vote is not heard; in
TRIPLEX, where the item of lane `x` and that of another voting lane agree and all three have presented the same, the point is
done with in every lane and the item is taken; in DUPLEX two items that agree are taken and two that differ send the module to
SAFE with DUPLEX_DIS; in SIMPLEX-DIAG an item of an activation without a partner is taken.

What an agreed item does (R17, R139, R243, R246): a record is held; a checkpoint releases what its window holds before the request
it stands for and issues that request; the close of a window counts it, takes its records out of the hold store and gives them, in program order, to their targets.

A lane that is late (R240, R247): for an item it owes the other two, in TRIPLEX it is excluded with cause LATE, in DUPLEX
the module goes to SAFE; either way VT_LATE_CNT counts it and VT_LAST_DIS tells which item it was. A lane that does not vote is
never late. -/
def Obligations.VoterJudgesItems : Prop :=
  (∀ (s : State) (x : LaneId) (t : Nat), s.live = true →
     let n := s.now t
     ((n.lane x).items = [] → s.leaves (.voterItem x t) t n) ∧
     (∀ (i : Item) (r : List Item), (n.lane x).items = i :: r →
       (s.votes x = false → s.leaves (.voterItem x t) t (n.setLane x { n.lane x with items := r })) ∧
       (s.votes x = true → s.owes x i = none → s.isTriplex = true → s.votingLanes = [0, 1, 2] →
         (∀ y < 3, s.isLate y i = false) →
         ∀ a b c : Item, n.shown 0 i = some a → n.shown 1 i = some b → n.shown 2 i = some c →
           a.agrees a = true → a.agrees b = true → a.agrees c = true →
           s.leaves (.voterItem x t) t ((n.doneWith i).take a t)) ∧
       (s.votes x = true → s.owes x i = none → s.isDuplex = true → (∀ y < 3, s.isLate y i = false) →
         ∀ a b : Item, s.votingLanes.map (fun y => n.shown y i) = [some a, some b] →
           (a.agrees b = true → s.leaves (.voterItem x t) t ((n.doneWith i).take a t)) ∧
           (a.agrees b = false → s.leaves (.voterItem x t) t ((n.lastDis i 0 t).enterSafe scDuplexDis t))) ∧
       (s.votes x = true → s.owes x i = none → s.isSimplex = true → i.kind ≠ 3 → 7 < (n.lane x).tkPriority i.task →
         s.leaves (.voterItem x t) t ((n.setLane x { n.lane x with items := ((n.lane x).items).erase i }).take i t)))) ∧
  (∀ (s : State) (i : Item) (t : Nat),
     (i.kind = 0 → s.take i t = s.setVt { s.vt with held := s.vt.held ++ [i] }) ∧
     (i.kind = 1 → (∀ r ∈ s.vt.held, r.task = i.task → r.win = i.win → r.recKind ≠ rkCommit) →
       let kept := s.vt.held.filter fun r => !(r.task == i.task && r.win == i.win)
       s.take i t = (s.vt.held.filter fun r => r.task == i.task && r.win == i.win).foldl (fun s r => s.releaseEffect r t)
         ((s.setVt { s.vt with held := kept }).bump R.VT_WIN_CNT)) ∧
     (∀ r : Item, i.kind = 2 → (s.vt.held.find? fun r => r.task == i.task && r.win == i.win && r.pos == i.pos) = some r →
       let win := fun h : Item => h.task == i.task && h.win == i.win
       s.take i t = ((s.vt.held.filter fun h => win h && decide (h.pos < r.pos)).foldl (fun s h => s.releaseEffect h t)
         (s.setVt { s.vt with held := s.vt.held.filter fun h => !(win h && decide (h.pos ≤ r.pos)) })).issue
           { r with engine := i.engine } t)) ∧
  (∀ (s : State) (x : LaneId) (t : Nat), s.live = true →
     let n := s.now t
     (s.votes x = false → s.leaves (.itemLate x t) t n) ∧
     (∀ (p : Nat × Item), s.votes x = true → (s.vt.owed.find? fun q => q.1 == x.val) = some p →
       let u := (n.setVt { s.vt with owed := s.vt.owed.erase p }).bump R.VT_LATE_CNT
       (s.isTriplex = true → s.leaves (.itemLate x t) t
         ((u.lastDis p.2 (laneMask (s.votingLanes.filter (· != x.val))) t).exclude x lcLate t)) ∧
       (s.isDuplex = true → s.leaves (.itemLate x t) t ((u.lastDis p.2 0 t).enterSafe scDuplexDis t))))

/-- A lane's exclusion (R247, R248): in TRIPLEX a voting lane no longer votes and DUPLEX-x begins, the role and the cause show,
VT_FLAGS.LANE_FAULT is set; in any other lane state nothing is excluded.

Grace and the limits (R251, R263): in DUPLEX 80 % of the grace time is recorded once, the grace at its end sends the module to
SAFE with cause GRACE, and the elapsed grace goes to flash every 10 min; SIMPLEX-DIAG lasts 10 min.

SAFE (R265): the lane state and its rank, no lane votes, the cause shows, nothing is held, and a module in SAFE stays as it
is. -/
def Obligations.ExclusionDuplexAndSafe : Prop :=
  (∀ (s : State) (x : LaneId) (cause t : Nat), cause < 16 →
     (s.isTriplex = false → s.exclude x cause t = s) ∧
     (s.isTriplex = true → s.votes x = true →
       let u := s.exclude x cause t
       u.vstate = vsDuplex x ∧ u.rd R.VT_STATE_VOTING = 7 - 2 ^ x.val ∧ u.laneRole x = lrExcluded ∧
       u.rd R.VT_LANE_STAT_CAUSE x = cause ∧ u.rd R.VT_FLAGS_LANE_FAULT = 1 ∧ (u.lane x).items = [])) ∧
  (∀ (s : State) (t : Nat), s.live = true →
     let n := s.now t
     (s.isDuplex = true → 4 * s.graceLimit ≤ 5 * s.graceNow t → s.rd R.VT_FLAGS_GRACE_WARN = 0 → s.leaves (.graceWarn t) t
       ((n.wr R.VT_FLAGS_GRACE_WARN 1).record .vt 0x0303 (leBytes (s.graceNow t) 4) t)) ∧
     (s.isDuplex = true → s.graceLimit ≤ s.graceNow t → s.leaves (.graceExpiry t) t (n.enterSafe scGrace t)) ∧
     (s.isDuplex = true → s.vt.graceFlash + 10 ≤ s.graceNow t → s.leaves (.graceRecord t) t
       (n.setVt { s.vt with graceFlash := s.graceNow t })) ∧
     (s.isSimplex = true → s.vt.simplexSince + 600000000000 ≤ t → s.leaves (.simplexLimit t) t (n.enterSafe scSimplexLimit t)) ∧
     (s.isDuplex = false → s.leaves (.graceExpiry t) t n)) ∧
  (∀ (s : State) (c t : Nat), c < 16 → (c ≠ scDuplexDis ∨ s.exclInCycle t = false) →
     (s.isSafe = true → s.enterSafe c t = s) ∧
     (s.isSafe = false →
       let u := s.enterSafe c t
       u.isSafe = true ∧ u.rd R.VT_STATE_RANK = 4 ∧ u.rd R.VT_STATE_VOTING = 0 ∧ u.rd R.VT_STATE_SAFE_CAUSE = c ∧
       u.rd R.VT_FLAGS_SAFE_SEEN = 1 ∧ u.vt.held = [] ∧ u.vt.safeServing = s.votingLanes))

/-- A lane outside the vote (R247, R254 to R258): an excluded lane is reset, turns away what is open through its window and tests itself; a test that fails leaves it out, one
that passes lets it rejoin unless its exclusions reach REJOIN_MAX; a copy starts, its sweep ends with the primary's SRAM in the
target, and the switch makes it vote: from DUPLEX the module is in TRIPLEX. (That an excluded lane shows EXCLUDED until its copy is
the model's reading, log entry 71.)

Memory errors and the scrubber (R88, R248): an error lies in a word until it is corrected or overwritten; the scrubber
corrects a single-bit error and counts it; an uncorrectable word in a voting lane excludes it in TRIPLEX, and in DUPLEX is
repaired with the other lane's value. -/
def Obligations.LanesRejoinAndAreRepaired : Prop :=
  (∀ (s : State) (x : LaneId) (t : Nat), s.live = true → s.pwState ≠ psSleep →
     let n := s.now t
     (s.laneRole x = lrExcluded → s.testOf x = 0 → s.vt.testing.contains x.val = false → s.leaves (.laneReset x t) t
       (((n.turnOpen fun a => decide (0x01000000 + 0x04000000 * x.val ≤ a ∧ a < 0x05000000 + 0x04000000 * x.val)).setLane x
         { rf := { eff := porLane } }).setVt { s.vt with testing := s.vt.testing ++ [x.val] })) ∧
     (s.vt.testing.contains x.val = true → s.isSafe = false →
       let v := fun k : Nat => n.setVt { s.vt with test := NMap.put s.vt.test x k, testing := s.vt.testing.filter (· != x.val) }
       let out := fun (u : State) (c : Nat) => (u.wr R.VT_LANE_STAT_ROLE lrOut x).wr R.VT_LANE_STAT_CAUSE c x
       (s.vstate = vsSelftest → s.leaves (.laneSelftestEnd x true t) t (v 1)) ∧
       (s.vstate = vsSelftest → (∃ y < 3, y ≠ x.val ∧ s.testOf y ≠ 2) →
         s.leaves (.laneSelftestEnd x false t) t (out (v 2) lcSelftest)) ∧
       (s.vstate ≠ vsSelftest → s.leaves (.laneSelftestEnd x false t) t (out (v 2) lcSelftest)) ∧
       (s.vstate ≠ vsSelftest → s.exclInWin x t < s.rd R.VT_CFG_REJOIN_MAX → s.leaves (.laneSelftestEnd x true t) t (v 1)) ∧
       (s.vstate ≠ vsSelftest → s.rd R.VT_CFG_REJOIN_MAX ≤ s.exclInWin x t →
         s.leaves (.laneSelftestEnd x true t) t (out (v 1) lcRejoinLimit))) ∧
     (∀ (p : Nat) (q : Option Nat), (s.laneRole x = lrSelftest ∨ s.laneRole x = lrExcluded) → s.testOf x = 1 → s.votes x = false →
       (s.isSimplex || s.isDuplex) = true → s.pwState ≠ psEntering → s.copySources x = some (p, q) →
       s.leaves (.rejoinCopyStart x t) t
         ((n.setVt { s.vt with copies := NMap.put s.vt.copies x { primary := p, second := q, start := t } }).wr
           R.VT_LANE_STAT_ROLE lrCopying x)) ∧
     (∀ c : Copy, NMap.look s.vt.copies x = some c → c.swept = false →
       ((∀ q, c.second = some q → (n.lane q).mem = (n.lane c.primary).mem) →
         let u := (n.setVt { s.vt with copies := NMap.put s.vt.copies x { c with swept := true } }).setLane x
           { n.lane x with mem := (n.lane c.primary).mem, ecc1 := [], ecc2 := [] }
         s.leaves (.sweepEnd x t) t (if x.val = 0 then u.wr R.VT_LANE_STAT_JOIN_WAIT 1 0 else u)) ∧
       (∀ q, c.second = some q → (n.lane q).mem ≠ (n.lane c.primary).mem → s.isDuplex = true → s.leaves (.sweepEnd x t) t
         (((n.copyEnd x).wr R.VT_FLAGS_SRC_MISMATCH 1).enterSafe scSrcMismatch t))) ∧
     (∀ c : Copy, NMap.look s.vt.copies x = some c → n.maySwitch x = true → s.isDuplex = true → s.graceOver t = false →
       s.votes x = false → s.rd R.VT_STATE_VOTING ||| 2 ^ x.val = 7 → (∀ k ∈ s.vt.copies, k.1 < 3) →
       s.leavesSome (.rejoinSwitch x t) t fun u =>
         (u.lane x).mem = (n.lane c.primary).mem ∧ u.vt.copies = NMap.del s.vt.copies x ∧
         u.vstate = vsTriplex ∧ u.rd R.VT_STATE_VOTING = 7 ∧ u.laneRole x = lrVoting ∧ u.rd R.VT_FLAGS_REJOIN_DONE = 1)) ∧
  (∀ (s : State) (x : LaneId) (a t : Nat), s.live = true → s.pwState ≠ psSleep →
     let n := s.now t
     let l := s.lane x
     (a % 4 = 0 → a < 0x03C00000 → l.ecc1.contains a = false → l.ecc2.contains a = false →
       exec (.sramError x a false) s = .next (s.setLane x { l with ecc1 := l.ecc1 ++ [a] }) ∧
       exec (.sramError x a true) s = .next (s.setLane x { l with ecc1 := l.ecc1.filter (· != a), ecc2 := l.ecc2 ++ [a] })) ∧
     (l.ecc1.contains a = true → exec (.scrubCorrection x a) s = .next (s.setLane x
       ((({ l with ecc1 := l.ecc1.filter (· != a) } : Lane).bump R.LE_ECC_CORR_CNT_COUNT).wr R.LE_ECC_FLAGS_CORR 1))) ∧
     ((n.lane x).ecc2.contains a = true →
       let u := n.setLane x ((n.lane x).wr R.LE_ECC_FLAGS_UNCORR 1)
       (s.votes x = false → s.leaves (.scrubUncorrectable x a t) t u) ∧
       (s.votes x = true → s.isTriplex = true → s.leaves (.scrubUncorrectable x a t) t (u.exclude x lcScrub t)) ∧
       (∀ y, s.votes x = true → s.isDuplex = true → s.exclInCycle t = false → s.votingLanes.find? (· != x.val) = some y →
         s.leaves (.scrubUncorrectable x a t) t
           (u.setVt { s.vt with repairs := s.vt.repairs ++ [{ lane := x, addr := a, value := (n.lane y).word a }] }))) ∧
     (∀ r : Repair, (s.vt.repairs.find? fun r => r.lane == x.val && r.addr == a) = some r → (n.lane x).ecc2.contains a = true →
       s.votes x = true → s.leaves (.scrubRepairWrite x a t) t
         ((((n.setVt { s.vt with repairs := s.vt.repairs.erase r }).setLane x ((n.lane x).setWord a r.value)).bump R.VT_REPAIR_CNT).wr
           R.VT_FLAGS_SCRUB_REPAIR 1)))

/-- Releases (R155 to R157, R159): TSK_RELEASE of an enabled task that is not pending makes it READY with its stamp in every
serving lane; a pending one overruns, shown and counted; an unused, STARTUP or FAULT task is a bad release. TSK_CANCEL of a waiting
release ends it with CANCEL, and where the release carries the same stamp discards it and counts the race.

The end of an activation (R87, R158, R166, R167): its window closes, LAST_END shows the code and no memory changes; after END its
engine is free with its instruction count, after a fault or a cancel it is on its way to the dispatcher for 4 cycles; an activation
that has retired its BUDGET is cancelled in every serving lane. -/
def Obligations.ReleasesAndEnds : Prop :=
  (∀ (s : State) (k t : Nat), s.live = true → k < 64 →
     let n := s.now t
     let every := fun (p : Lane → Prop) => ∀ x ∈ s.servingLanes, p (n.lane x)
     let usable := fun l : Lane => l.used.contains k = true ∧ l.tkKind k ≠ kStartup ∧ l.tkKind k ≠ kFault ∧ l.enabled k = true ∧
       (l.task k).cancelAt ≠ some t
     let marked := fun m : Lane => m.setTask k { m.task k with cancelAt := some t, overAt := none }
     (s.mode = mdRun → s.startup = false → s.isSafe = false → s.isSimplex = false →
       (every (fun l => usable l ∧ l.isPending k = false) → s.leaves (.tskRelease k t) t
         (n.onLanes fun l => (l.wr R.TSK_STAT_STATE tsReady k).setTask k { l.task k with stamp := t, evrec := [] })) ∧
       (every (fun l => usable l ∧ l.isPending k = true ∧ (l.task k).overAt = none) → s.leaves (.tskRelease k t) t
         (n.onLanes fun l => ((l.setTask k { l.task k with
             overAt := some (t, l.rd R.TSK_STAT_OVERRUN k, l.rd R.TSK_OVERRUN_CNT_COUNT k) }).wr R.TSK_STAT_OVERRUN 1 k).bump
           R.TSK_OVERRUN_CNT_COUNT k))) ∧
     (every (fun l => l.used.contains k = false ∨ l.tkKind k = kStartup ∨ l.tkKind k = kFault) →
       s.leaves (.tskRelease k t) t (n.onLanes fun l => l.wr R.TSK_FLAGS_BAD_RELEASE 1)) ∧
     (every (fun l => l.tskState k = tsReady ∧ (l.task k).stamp ≠ t ∧ l.tkKind k ≠ kFault ∧ (l.task k).overAt = none) →
       s.leaves (.tskCancel k t) t (n.onLanes fun l => marked (((l.unreserveTask k).dropRecord k).taskEnded k leCancel))) ∧
     (every (fun l => l.tskState k = tsReady ∧ (l.task k).stamp = t ∧ l.tkKind k ≠ kFault ∧ (l.task k).overAt = none) →
       s.leaves (.tskCancel k t) t (n.onLanes fun l =>
         marked ((((l.complete k).unreserveTask k).wr R.TSK_STAT_STATE (l.restState k) k).bump R.TSK_CANCEL_RACE_CNT_COUNT)))) ∧
  ((∀ (s : State) (e : EngId) (t : Nat), s.live = true →
     let n := s.now t
     (∀ x ∈ s.servingLanes, let l := n.lane x; let g := l.engine e
       g.st = .run ∧ g.fresh = false ∧ g.pair = none ∧ 0 < l.tkBudget g.task ∧ l.tkBudget g.task ≤ g.act.retired) →
     s.leaves (.budgetCancel e t) t (n.onLanes fun l =>
       (l.stopActivation e t crCancel leBudget).afterFault s.phase (l.engine e).task t 0 true)) ∧
   (∀ (l : Lane) (e : EngId) (t reason code : Nat), 1 ≤ code → code < 8 → (l.task (l.engine e).task).owed = false →
     let g := l.engine e
     let ended := fun u : Lane => u.rd R.TSK_STAT_LAST_END g.task = code ∧ u.mem = l.mem ∧ u.used = l.used
     (ended (l.endActivation e reason code) ∧ (l.endActivation e reason code).engine e = { icnt := g.icnt }) ∧
     (let u := l.stopActivation e t reason code
      ended u ∧ (u.engine e).st = .idle ∧ (u.engine e).trapUntil = t + 8 ∧ (u.engine e).icnt = g.icnt ∧ (u.engine e).task = g.task ∧
        (u.engine e).r = g.r)))

/-- Requests of a program mode (R175, R176): STOP in RUN cancels every pending task and ends what runs, MAINT in STOP only changes
the mode; every output follows. RUN_WARM and RUN_COLD restart the module: its sessions and its lanes' memory are gone and the
boot begins. While a restart runs a request is counted and ignored.

The program's clock (R155, R160, R161, R174): tick 0 is the first 125 µs boundary after the last STARTUP activation has ended;
each base tick shows its number and releases the CYCLIC tasks that are due, those with (k - OFFSET) mod PERIOD = 0; a dispatch
decision is taken in the lowest serving lane and carried out in every one, and starts the first candidate on an idle engine of its
set, 8 ns after its dispatch point. -/
def Obligations.ModesAndTicks : Prop :=
  (∀ (s : State) (t : Nat), s.live = true →
     let n := s.now t
     (s.mode = mdRun → s.isSafe = false →
       s.leaves (.modeReqStop t) t ((n.leaveRun.wr R.SYS_MODE_STAT_MODE mdStop).allOut) ∧
       s.leaves (.modeReqMaint t) t ((n.leaveRun.wr R.SYS_MODE_STAT_MODE mdMaint).allOut)) ∧
     (s.mode = mdStop → s.isSafe = false → s.leaves (.modeReqMaint t) t ((n.wr R.SYS_MODE_STAT_MODE mdMaint).allOut) ∧
       s.leaves (.modeReqStop t) t n) ∧
     (s.mode = mdMaint → s.isSafe = false →
       s.leaves (.modeReqStop t) t (((n.trimLeave.wr R.NW_MIRROR_EN 0).wr R.SYS_MODE_STAT_MODE mdStop).allOut)) ∧
     (s.mode ≠ mdRestarting → s.rd R.UP_STATE_STATE ≠ usRecovery → s.pwState ≠ psHoldup →
       let boots := fun (warm : Bool) (u : State) => u.rd R.UP_STATE_LOCK = 1 ∧ u.rd R.UP_STATE_STATE = usBooting ∧
         u.hp.sessions = [] ∧ u.vt.held = [] ∧ u.up.warm = warm ∧ u.up.por = false
       s.leavesSome (.modeReqRunWarm t) t (boots true) ∧ s.leavesSome (.modeReqRunCold t) t (boots false)) ∧
     (s.mode = mdRestarting → s.isSafe = false → s.rd R.UP_STATE_STATE ≠ usRecovery →
       s.leaves (.modeReqStop t) t (n.clampCnt .sys) ∧ s.leaves (.modeReqMaint t) t (n.clampCnt .sys) ∧
       s.leaves (.modeReqRunWarm t) t (n.clampCnt .sys) ∧ s.leaves (.modeReqRunCold t) t (n.clampCnt .sys))) ∧
  ((∀ (s : State) (t : Nat), s.live = true →
     let n := s.now t
     (∀ u, s.mode = mdRestarting → s.startup = true → s.up.ready = true → s.servingLanes ≠ [] → s.isSafe = false →
       s.up.startEnd = some u → t % 125000 = 0 → u < t → t ≤ u + 125000 →
       s.leaves (.tickZero t) t (({ (n.wr R.SYS_MODE_STAT_STARTUP 0).wr R.SYS_MODE_STAT_MODE mdRun with
         nw := { s.nw with tick0 := some t } } : State).upComplete t)) ∧
     (s.pwState ≠ psEntering → n.front.rf.waits .tsk = false → n.front.rf.waits .evt = false →
       s.leaves (.dispatchDecision t) t (n.onLanes fun l => l.decide_ (n.front.choices s.phase t) (t + 8))) ∧
     (∀ v p l : Nat, let c := n.caddyTick v p l t
       c.pw.frozen = false →
       (c.nw.tick0 = none → s.leaves (.baseTick v p l t) t
         (c.onLanes fun l => { l with admitEnergy := 0xFFFF, admitHeat := 0xFFFF })) ∧
       (∀ t0, c.nw.tick0 = some t0 →
         let k := (t - t0) / 125000
         let u := c.onLanes fun l => (l.wr R.TSK_TICK_TICK (k % 2 ^ 32) 0).wr R.TSK_TICK_TICK (k / 2 ^ 32) 1
         (c.pwState ≠ psEntering → s.leaves (.baseTick v p l t) t ((u.onLanes fun l => l.cyclicTick c.phase k t).beats k)) ∧
         (c.pwState = psEntering → s.leaves (.baseTick v p l t) t (u.beats k))))) ∧
   (∀ (l : Lane) (ph : Phase) (n k t : Nat), l.used = [n] → l.cyclicTick ph k t =
     if l.tkKind n = kCyclic ∧ ((k : Int) - l.tkOffset n) % (l.tkPeriod n : Int) = 0 then (l.releaseOwn ph n t).1 else l) ∧
   (∀ (l : Lane) (ph : Phase) (n e t : Nat), l.candidates = [n] → l.tskState n = tsReady →
     (l.tkPriority n ≤ 7 ∨ l.admitted n = true) → ph.simplex = false → l.chooseEngine n (l.engineSet t n) = some e →
     (l.engine e).st = .idle → (l.engine e).next = none → (l.engine e).nextPair = none → (l.task n).ctx = none →
     l.choices ph t = [.one n e] ∧
     l.decide_ [.one n e] t = { l.startActivation e n t with decisions := ((l.startActivation e n t).decisions + 1) % 2 ^ 32 }))

/-- Event sources (R182 to R188, R192, R193): a raise of an enabled source sets PEND with its first stamp and counts in ACC, one
of a disabled source is discarded; the source the lowest serving lane selects is delivered in every lane, which clears both and,
where no task takes it, is unserved; a hold-off ends after its time; EVT_DONE completes the source, or is spurious when it owes
nothing. -/
def Obligations.EventsRaiseAndComplete : Prop :=
  ∀ (s : State) (k t : Nat), s.live = true → k < 512 →
    let n := s.now t
    let every := fun (p : Lane → Prop) => ∀ x ∈ s.servingLanes, p (n.lane x)
    (every (fun l => l.rd R.EVT_SRC_CFG_EN k ≠ 0 ∧ l.rd R.EVT_SRC_STAT_PEND k ≠ 0 ∧ l.rd R.EVT_SRC_STAT_ACC k < 255) →
      let u := n.onLanes fun l => l.wr R.EVT_SRC_STAT_ACC (l.rd R.EVT_SRC_STAT_ACC k + 1) k
      s.leaves (.eventRaise k t) t u ∧ s.leaves (.evtRaise k t) t u) ∧
    (every (fun l => l.rd R.EVT_SRC_CFG_EN k ≠ 0 ∧ l.rd R.EVT_SRC_STAT_PEND k = 0 ∧ l.rd R.EVT_SRC_STAT_ACC k = 0 ∧
        Cells.wf l.rf.eff = true) →
      let u := n.onLanes fun l => { (l.wr R.EVT_SRC_STAT_PEND 1 k).wr R.EVT_SRC_STAT_ACC 1 k with
        first := NMap.put l.first k t }
      s.leaves (.eventRaise k t) t u ∧ s.leaves (.evtRaise k t) t u) ∧
    (every (fun l => l.rd R.EVT_SRC_CFG_EN k = 0) →
      s.leaves (.eventRaise k t) t (n.onLanes fun l => l) ∧ s.leaves (.evtRaise k t) t (n.onLanes fun l => l)) ∧
    (n.front.selectEvent s.phase t = some k → every (fun l => l.rd R.EVT_GRP_CFG_HOLDOFF (k / 16) = 0 ∧
        (∀ m ∈ l.used, l.tkKind m ≠ kEvent) ∧
          ((l.wr R.EVT_SRC_STAT_PEND 0 k).wr R.EVT_SRC_STAT_ACC 0 k).rd R.EVT_SRC_STAT_OWED k = 0) →
      s.leaves (.eventDelivery t) t (n.onLanes fun l =>
        let l1 := (l.wr R.EVT_SRC_STAT_PEND 0 k).wr R.EVT_SRC_STAT_ACC 0 k
        ((({ l1 with first := NMap.del l.first k, lastDelivery := some t } : Lane).bump R.EVT_UNSERVED_CNT_COUNT).wr
          R.EVT_FLAGS_UNSERVED 1).bump R.EVT_DELIVER_CNT_COUNT)) ∧
    (n.front.selectEvent s.phase t = none → s.leaves (.eventDelivery t) t n) ∧
    (∀ e, k < 32 → e ≤ t → every (fun l => NMap.look l.hold k = some e) →
      s.leaves (.holdoffExpiry k t) t (n.onLanes fun l =>
        { (l.wr R.EVT_GRP_STAT_HELD 0 k) with hold := NMap.del l.hold k })) ∧
    (every (fun l => l.rd R.EVT_SRC_STAT_OWED k = 0) → s.leaves (.evtDone k t) t
      (n.onLanes fun l => (l.bump R.EVT_SPURIOUS_CNT_COUNT).wr R.EVT_FLAGS_SPURIOUS 1)) ∧
    (every (fun l => l.rd R.EVT_SRC_STAT_OWED k ≠ 0) → s.leaves (.evtDone k t) t (n.onLanes fun l =>
      { (l.wr R.EVT_SRC_STAT_OWED 0 k) with
        tasks := l.tasks.map fun c =>
          if l.tkKind c.1 == kEvent && l.tkSource c.1 == k then (c.1, { c.2 with owed := false }) else c }))

/-- Train time (R201, R202): the oldest measurement is taken; one at or beyond STEP_THR steps TT by it at once and the integral
starts anew; a smaller one steers the rate (after none, by a rate the rules leave open); 4 s without a measurement unlock TT, with TT_LOST and
EV373 where it was locked; the ordinary clock's state follows (R383).

References and the gauge tick (R199, R212): APPLY_REF asks for the reference to be taken; the next tick takes it, and delivers
to every serving lane a sample stamped with the tick that holds TT; a reference in train time while TT is not locked is rejected
with its code, REF_REJ and EV369. -/
def Obligations.TrainTimeAndReferences : Prop :=
  (∀ (s : State) (t : Nat), s.live = true → s.vstate ≠ vsSelftest →
     let n := s.now t
     (s.nw.ptp.meas = [] → s.leaves (.ptpOffsetApply t) t n) ∧
     (∀ o r, s.nw.ptp.meas = o :: r →
       s.leaves (.ptpOffsetApply t) t (((n.setPtp { s.nw.ptp with meas := r }).ttMeasure o t).ptpFollow t)) ∧
     (∀ o : Int, s.rd R.LG_TT_STEP_THR * 10000 ≤ o.natAbs →
       ((s.ttMeasure o t).lg.tt : Int) = ((s.lg.ttAt t : Int) - o) % 2 ^ 64 ∧ (s.ttMeasure o t).lg.isum = 0 ∧
       (s.ttMeasure o t).lg.ttLt = t ∧ (s.ttMeasure o t).lg.lastMeas = some t) ∧
     (∀ (o : Int) (p : Nat), o.natAbs < s.rd R.LG_TT_STEP_THR * 10000 → s.lg.lastMeas = some p →
       let dt : Int := (t : Int) - p
       (s.ttMeasure o t).lg.rate = clampInt (-100000) 100000
         (-(o * 1000000000) / (4 * dt) - ((s.lg.isum + o) * 1000000000) / (64 * dt)) ∧
       (s.ttMeasure o t).lg.isum = s.lg.isum + o ∧ (s.ttMeasure o t).lg.tt = s.lg.ttAt t) ∧
     (∀ o : Int, o.natAbs < s.rd R.LG_TT_STEP_THR * 10000 → s.lg.lastMeas = none →
       (s.ttMeasure o t).lg.rate = clampInt (-100000) 100000 (Config.ttFirstRate o)) ∧
     (∀ p, s.lg.lastMeas = some p → p + 4000000000 ≤ t →
       let u : State := { n with lg := { s.lg with lockRun := 0 } }
       (s.ttLocked = false → s.leaves (.ttMeasurementTimeout t) t (u.ptpFollow t)) ∧
       (s.ttLocked = true → s.leaves (.ttMeasurementTimeout t) t
         ((((u.wr R.LG_TT_LOCKED 0).wr R.LG_FLAGS_TT_LOST 1).raise 373 t).ptpFollow t)))) ∧
  (∀ (s : State) (t : Nat), s.live = true →
     let n := s.now t
     s.leaves (.applyRef t) t { n with lg := { s.lg with applyReq := true } } ∧
     (s.vstate = vsSelftest → s.leaves (.gaugeTick t) t n) ∧
     (s.vstate ≠ vsSelftest → s.leavesSome (.gaugeTick t) t fun u =>
       u.lg.applyReq = false ∧ u.lg.lastTick = t ∧ u.lg.ttStep = 0 ∧
       ∀ x ∈ s.servingLanes, (u.lane x).gauge.stamp = t ∧ (u.lane x).gauge.tt = s.lg.ttAt t) ∧
     (let r : State := { s.refTake with lg := { s.lg with applyReq := false } }
      r.rd R.LG_REF_TB = 1 → r.ttLocked = false →
       s.applyRef t = ((r.wr R.LG_REF_LAST 5).wr R.LG_FLAGS_REF_REJ 1).raise 369 t))

/-- Wheel sensors (R198, R203 to R206, R215): while the main section works, a simultaneous change of both channels is an edge
error, counted and flagged; an accepted edge is recorded with its stamp and direction, and of the used pair without slip moves the
train by its edge length, forward or back; a pair is valid again after 1 s without a cause; standstill begins when both pairs have
speed 0. While it does not work, with or without module power, the always-on section counts the used pair's edges and no other, among those of a calibration run (R211).

Slip and the quality of D (R208 to R212, R216): an acceleration sample is taken along its axis, and learns the offset while
there is no slip; slip ends after 200 ms without a condition; slip longer than SLIP_MAX reduces D's quality, which is full again
when no cause is present; the always-on section without a supply, with or without module power, loses what it counts. -/
def Obligations.WheelsAndDistance : Prop :=
  ((∀ (s : State) (k : Fin 2) (lead : Bool) (t : Nat), s.live = true → s.vstate ≠ vsSelftest →
     let n := s.now t
     let p := s.lg.pair k
     let fwd := xor lead ((s.rd R.LG_WS_INV).testBit k)
     s.leaves (.wheelEdge k lead true t) t
       (let u : State := { n with lg := s.lg.setPair k { p with qerrs := t :: p.qerrs.take 15 } }
        ((u.bump (if k = 0 then R.LG_WS_QERR_CNT_0 else R.LG_WS_QERR_CNT_1)).wr R.LG_FLAGS_QERR 1).wsCheck k t) ∧
     s.leavesSome (.wheelEdge k lead false t) t (fun u =>
       (u.lg.pair k).edges.head? = some (t, fwd) ∧ (u.lg.pair k).dirs.head? = some fwd ∧ (u.lg.pair k).others = 0 ∧
       (u.lg.pair (1 - k.val)).others = (s.lg.pair (1 - k.val)).others + 1 ∧
       (k.val = s.wsUsed → s.rd R.LG_POS_SLIP = 0 → u.lg.edgeAt = t ∧
         u.lg.travel = if fwd then s.lg.travel + s.edgeLen k else s.lg.travel - s.edgeLen k) ∧
       (k.val ≠ s.wsUsed ∨ s.rd R.LG_POS_SLIP = 1 → u.lg.travel = s.lg.travel ∧ u.lg.dist = s.lg.dist) ∧
       (Cells.wf s.rf.eff = true → s.rd R.LG_POS_STANDSTILL = 1 → u.rd R.LG_POS_STANDSTILL = 0)) ∧
     (s.wsBad k t = false → p.quiet t = true → p.badAt + 1000000000 ≤ t →
       (s.wsValid k = false → s.leaves (.pairValidRestore k t) t ((n.setBit R.LG_POS_WS_VALID k true).raise 377 t)) ∧
       (s.wsValid k = true → s.leaves (.pairValidRestore k t) t n)) ∧
     (s.wsBad k t = true ∨ p.quiet t = false ∨ t < p.badAt + 1000000000 → s.leaves (.pairValidRestore k t) t n) ∧
     (s.rd R.LG_POS_STANDSTILL = 0 → s.wsSpeed 0 t = 0 → s.wsSpeed 1 t = 0 → s.leaves (.standstillEntry t) t
       ((n.wr R.LG_POS_STANDSTILL 1).raise 382 t)) ∧
     (s.rd R.LG_POS_STANDSTILL = 1 ∨ s.wsSpeed 0 t ≠ 0 ∨ s.wsSpeed 1 t ≠ 0 → s.leaves (.standstillEntry t) t n)) ∧
   (∀ (s : State) (k : Fin 2) (lead both : Bool) (t : Nat), s.live = false ∨ s.vstate = vsSelftest →
     let n := s.now t
     let fwd := xor lead ((s.rd R.LG_WS_INV).testBit k)
     let u : State := if both = false ∧ k.val = s.wsUsed then { n with lg := (s.lg.move fwd (s.edgeLen k) t).calEdge k } else n
     (s.pw.off = true ∨ s.recovering = true → exec (.wheelEdge k lead both t) s = .next u) ∧
     (s.pw.off = false → s.recovering = false → s.leavesStill (.wheelEdge k lead both t) t u)) ∧
   (∀ (g : LgState) (fwd : Bool) (e t : Nat), let m := g.move fwd e t
     m.travel = (if fwd then g.travel + e else g.travel - e) ∧ m.fwd = fwd ∧ m.edgeAt = t ∧
     (fwd ≠ g.fwd → m.dist = g.dist ∧ m.heldEdges = 1 ∧ m.heldLen = e) ∧
     (fwd = g.fwd → g.heldEdges = 0 → m.dist = g.dist + e ∧ m.heldEdges = 0) ∧
     (fwd = g.fwd → g.heldEdges = 1 → m.dist = g.dist ∧ m.heldEdges = 2 ∧ m.heldLen = g.heldLen + e) ∧
     (fwd = g.fwd → g.heldEdges = 2 → m.dist = g.dist + g.heldLen + e ∧ m.heldEdges = 0))) ∧
  ((∀ (s : State) (t : Nat), s.live = true → s.vstate ≠ vsSelftest →
     let n := s.now t
     (∀ x y z : Int, let a := s.axisOf x y z * 65536
       (s.rd R.LG_POS_SLIP ≠ 0 → s.leaves (.accelSample x y z t) t { n with lg := { s.lg with aRaw := a } }) ∧
       (s.rd R.LG_POS_SLIP = 0 → s.leaves (.accelSample x y z t) t { n with
         lg := { s.lg with aRaw := a, gAcc := s.lg.gAcc + (a - s.wsAccel s.wsUsed t) - s.lg.gAcc / 10000 } })) ∧
     (s.rd R.LG_POS_SLIP = 1 → s.lg.slipHeld + 200000000 ≤ t → s.leaves (.slipClear t) t
       ((({ n with lg := s.lg.slipEnd t } : State).wr R.LG_POS_SLIP 0).raise 371 t)) ∧
     (s.rd R.LG_POS_SLIP = 0 ∨ t < s.lg.slipHeld + 200000000 → s.leaves (.slipClear t) t n) ∧
     (s.rd R.LG_POS_SLIP = 1 → s.lg.slipOn + s.rd R.LG_SLIP_SLIP_MAX * 1000000000 < t → s.rd R.LG_POS_DQ_REDUCED = 0 →
       s.leaves (.slipMaxExpiry t) t (((n.wr R.LG_FLAGS_DQ_REDUCED 1).wr R.LG_POS_DQ_REDUCED 1).raise 381 t)) ∧
     (s.slipLong t = true → s.rd R.LG_POS_DQ_REDUCED = 1 → s.leaves (.slipMaxExpiry t) t (n.wr R.LG_FLAGS_DQ_REDUCED 1)) ∧
     (s.slipLong t = false → s.leaves (.slipMaxExpiry t) t n)) ∧
   (∀ (s : State) (t : Nat), s.live = true →
     let n := s.now t
     (s.slipLong t = false → s.rd R.LG_POS_AO_LOST = 0 → s.leaves (.dqRestore t) t (n.wr R.LG_POS_DQ_REDUCED 0)) ∧
     (s.rd R.LG_POS_AO_LOST = 1 ∨ s.slipLong t = true → s.leaves (.dqRestore t) t n) ∧
     s.leaves (.aoSupplyLost t) t { n with lg := { s.lg with aoLost := true } }) ∧
   (∀ (s : State) (t : Nat), let u : State := { s.now t with lg := { s.lg with aoLost := true } }
     (s.pw.off = true ∨ s.recovering = true → exec (.aoSupplyLost t) s = .next u) ∧
     (s.pw.off = false → s.recovering = false → s.leavesStill (.aoSupplyLost t) t u)))

/-- Catenary phase and class (R217 to R219): a crossing gives the frequency of the mean of the last 8 intervals; with four stable
intervals it makes the phase present, its angle starting at the offset, and with the phase present it steers the rate; no
crossing within 1.5 periods loses it; an evaluation scales its voltages, within the measuring range (R519), shows their class, and takes it as the class once
CONFIRM evaluations agree.

Comparators (R221, R223 to R225, R228): an arm 1 µs old takes effect in the hit unit and in every lane's bank; a comparator whose
condition was met is IDLE, counts its hit, shows how it was hit and whether late, raises EV379 for a hit by a step, and performs its
action: a release, a raise, or a switch command for its channel; a switch command reaches an output with a lane-drive position 4 µs
later, as a pulse, which a running one takes up, or as a level, and no other channel; on a leased group of a module that is not acting
it is counted and dropped; a pulse ends at its end. -/
def Obligations.PhaseAndComparators : Prop :=
  (∀ (s : State) (t : Nat), s.live = true → s.vstate ≠ vsSelftest →
     let n := s.now t
     (s.lg.lastCross = none → s.lg.intervals = [] → s.leaves (.phaseCrossing t) t { n with lg := { s.lg with lastCross := some t } }) ∧
     (∀ p, s.lg.lastCross = some p →
       let ivs := ((t - p) :: s.lg.intervals).take 8
       let T := ivs.sum / ivs.length
       let g := { s.lg with lastCross := some t, intervals := ivs }
       let f := (2 * 1000000000000 + T) / (2 * T)
       let r0 : Nat := 65536000 * 2 ^ 32 / T
       0 < T →
       (s.rd R.LG_PH_PRESENT = 0 → stableFour ivs = false → s.leaves (.phaseCrossing t) t
         (({ n with lg := g } : State).wr R.LG_PH_FREQ f)) ∧
       (s.rd R.LG_PH_PRESENT = 0 → stableFour ivs = true → s.leaves (.phaseCrossing t) t
         ((({ ({ n with lg := g } : State).wr R.LG_PH_FREQ f with
           lg := { g with phi := s.rd R.LG_PH_OFS * 2 ^ 32, phiAt := t, phiRate := r0 } } : State).wr R.LG_PH_PRESENT 1).raise 374 t)) ∧
       (s.rd R.LG_PH_PRESENT = 1 →
         let eps := sdiff (s.lg.phiNow t) (s.rd R.LG_PH_OFS * 2 ^ 32) 48
         let lim : Int := (s.lg.phiRate : Int) * 2 / 100
         s.leaves (.phaseCrossing t) t { ({ n with lg := g } : State).wr R.LG_PH_FREQ f with
           lg := { g with phi := s.lg.phiNow t, phiAt := t,
                          phiRate := (clampInt (s.lg.phiRate - lim) (s.lg.phiRate + lim) ((r0 : Int) - eps * 1000 / T)).toNat } })) ∧
     (∀ p, s.lg.lastCross = some p → s.rd R.LG_PH_PRESENT = 1 → 2 * p + 3 * s.lg.period ≤ 2 * t →
       s.leaves (.phaseLost t) t ((((({ n with
         lg := { s.lg with phi := s.lg.phiNow t, phiAt := t, phiRate := 0, lastCross := none, intervals := [] } } : State).wr R.LG_PH_PRESENT 0).wr R.LG_FLAGS_PH_LOST 1)).raise 375 t)) ∧
     (∀ uac udc k : Nat, let m := s.rd R.LG_PH_SCALE
       let c := lineClass (min uac 200000 * m) (min udc 200000 * m) k (s.rd R.LG_PH_FREQ)
       let run := if c = s.rd R.LG_PH_EVAL then s.lg.classRun + 1 else 1
       let u := ({ n with lg := { s.lg with classRun := run } } : State).wr R.LG_PH_EVAL c
       (run < s.rd R.LG_PH_CONFIRM ∨ c = s.rd R.LG_PH_CLASS → s.leaves (.classEvaluation uac udc k t) t u) ∧
       (s.rd R.LG_PH_CONFIRM ≤ run → c ≠ s.rd R.LG_PH_CLASS →
         s.leaves (.classEvaluation uac udc k t) t ((u.wr R.LG_PH_CLASS c).raise 376 t))) ∧
     (∀ f : Nat, lineClass 499999 499999 5 f = 0 ∧ lineClass 1500000 1500000 0 f = 1 ∧ lineClass 0 3000000 0 f = 2 ∧
       lineClass 15000000 0 3 16700 = 3 ∧ lineClass 25000000 0 3 50000 = 4 ∧ lineClass 15000000 0 3 50000 = 7)) ∧
  ((∀ (s : State) (k : Fin 128) (t : Nat), s.live = true → s.vstate ≠ vsSelftest →
     let n := s.now t
     (s.lg.arms = [] → s.leaves (.comparatorArmApply t) t n) ∧
     (∀ r m : Nat, s.lg.arms = [(r, m, none)] → r + 1000 ≤ t → s.leaves (.comparatorArmApply t) t
       (({ n with lg := { s.lg with arms := [], cmp := NMap.del s.lg.cmp m } } : State).onLanes fun l => l.cmpIdle m)) ∧
     (∀ (r m : Nat) (w : List Word), s.lg.arms = [(r, m, some w)] → r + 1000 ≤ t → s.leaves (.comparatorArmApply t) t
       (({ n with lg := { s.lg with arms := [], cmp := NMap.put s.lg.cmp m { words := w } } } : State).onLanes
         fun l => l.cmpArm m w)) ∧
     (∀ (h : HitCmp) (hit : Nat) (late : Bool) (t0 : Nat), NMap.look s.lg.cmp k = some h → h.due = some (hit, late, t0) →
       let v := ({ n with lg := { s.lg with cmp := NMap.del s.lg.cmp k } } : State).onLanes fun l =>
         let l1 := ((l.cmpIdle k).bump R.LG_CMP_STAT_HIT_CNT k).wr R.LG_CMP_STAT_LAST_HIT hit k
         if late then l1.wr R.LG_CMP_STAT_LATE 1 k else l1
       let u := if hit = 2 then v.raise 379 t0 else v
       let sends := fun (pulse : Bool) => { u with lg := { u.lg with
         switches := s.lg.switches ++ [{ fired := t0, channel := recArg h.words, pulse := pulse, value := recPulse h.words }] } }
       (recAction h.words = 0 → s.leaves (.comparatorFire k t) t
         (u.onLanes fun l => (l.releaseBy u.phase (recArg h.words) t0).1)) ∧
       (recAction h.words = 1 → s.leaves (.comparatorFire k t) t (u.raise (recArg h.words) t0)) ∧
       (recAction h.words = 2 → s.leaves (.comparatorFire k t) t (sends true)) ∧
       (recAction h.words = 3 → s.leaves (.comparatorFire k t) t (sends false)))) ∧
   (∀ (s : State) (c : Fin 128) (t : Nat), s.live = true →
     let n := s.now t
     (s.lg.switches = [] → s.leaves (.switchCommand c t) t n) ∧
     (∀ w : SwitchCmd, s.lg.switches = [w] → w.channel = c.val → w.fired + 4000 ≤ t →
       let u : State := { n with lg := { s.lg with switches := [] } }
       (n.fieldLeased (c.val / 16) = true → s.acting = false → s.leaves (.switchCommand c t) t (u.bump R.RD_GATE_CNT)) ∧
       (n.fieldLeased (c.val / 16) = false ∨ s.acting = true →
         (s.isHwt c = false → s.leaves (.switchCommand c t) t u) ∧
         (s.isHwt c = true → w.pulse = true → s.leaves (.switchCommand c t) t
           ((u.setCh c { s.ch c with pulseEnd := some (max ((s.ch c).pulseEnd.getD 0) (t + 1000 * w.value)) }).parRefresh c)) ∧
         (s.isHwt c = true → w.pulse = false → s.leaves (.switchCommand c t) t
           ((u.setCh c { s.ch c with timed := some (decide (w.value ≠ 0)) }).parRefresh c)))) ∧
     (∀ e, (s.ch c).pulseEnd = some e →
       (e ≤ t → s.leaves (.outputPulseEnd c t) t ((n.setCh c { s.ch c with pulseEnd := none }).parRefresh c)) ∧
       (t < e → s.leaves (.outputPulseEnd c t) t n)) ∧
     ((s.ch c).pulseEnd = none → s.leaves (.outputPulseEnd c t) t n)))

/-- Chase inputs and test pulses (R271 to R276): a level that stays for FILTER samples becomes the input's value, which no sample
changes while it is frozen; while the input's own source pulses its level stays as it read before; a stuck input is declared; a test cycle begins and is numbered; the four inputs of a group are
sampled at a pulse, and a second finding of one kind at one slot in the following cycle declares the fault. -/
def Obligations.ChaseInputsAndPulses : Prop :=
  ∀ (s : State) (i : Fin 32) (g slot : Fin 8) (t : Nat), s.live = true → s.pwState ≠ psSleep →
    let n := s.now t
    let x := s.scTerm i
    let tab := s.sc.table
    (∀ (mv ug : Int) (b : Bool), s.scRoleOf i = srIn → scLevel mv ug = some b →
      (s.scOwnPulse i t = true → 10000 ≤ ug → s.scFrozen i t = true → s.leavesSome (.chaseInputSample i mv ug t) t fun u =>
        (u.scTerm i).filt = x.filt ∧ (u.scTerm i).level = x.level) ∧
      (s.scOwnPulse i t = false ∨ ug < 10000 → s.scFrozen i t = true → s.leavesSome (.chaseInputSample i mv ug t) t fun u =>
        (u.scTerm i).filt = x.filt ∧ (u.scTerm i).run = (if b = x.filt then 0 else x.run + 1) ∧ (u.scTerm i).level = some b) ∧
      (s.scOwnPulse i t = false ∨ ug < 10000 → s.scFrozen i t = false → b = x.filt → s.leavesSome (.chaseInputSample i mv ug t) t fun u =>
        (u.scTerm i).filt = b ∧ (u.scTerm i).run = 0) ∧
      (s.scOwnPulse i t = false ∨ ug < 10000 → s.scFrozen i t = false → b ≠ x.filt → scFilter tab i ≤ x.run + 1 →
        s.leavesSome (.chaseInputSample i mv ug t) t fun u =>
        (u.scTerm i).filt = b ∧ (u.scTerm i).run = 0 ∧ (u.scTerm i).level = some b) ∧
      (s.scOwnPulse i t = false ∨ ug < 10000 → s.scFrozen i t = false → b ≠ x.filt → x.run + 1 < scFilter tab i →
        s.leavesSome (.chaseInputSample i mv ug t) t fun u =>
        (u.scTerm i).filt = x.filt ∧ (u.scTerm i).run = x.run + 1)) ∧
    (s.scRoleOf i = srIn → 0 < scStuck tab i → x.filt = true → x.oneAt + scStuck tab i * 1000000000 ≤ t →
      s.scFaultOf i = 0 → s.leaves (.chaseInputStuck i t) t (n.scTermFault i tfStuck 0 t)) ∧
    (s.leavesSome (.testCycleStart g t) t fun u => NMap.look u.sc.cycles g = some (t, match NMap.look s.sc.cycles g with
        | some (_, m) => m + 1
        | none => 1) ∧
      (i.val / 4 = g.val → (u.scTerm i).found = [] ∧ (u.scTerm i).foundBefore = x.found)) ∧
    (∀ highs : BitVec 4, s.leaves (.testPulseSample g slot highs t) t
      ([0, 1, 2, 3].foldl (fun u k => State.scPulseTerm slot t u (4 * g.val + k) (highs.getLsbD k)) n)) ∧
    (scTpEn tab i = false ∨ x.filt = false → ∀ high, State.scPulseTerm slot t s i high = s) ∧
    (scTpEn tab i = true → x.filt = true → s.scFaultOf i = 0 →
      let u := fun kind : Nat => s.setScTerm i { x with
        found := (kind, slot.val) :: x.found, cycleBad := true, goodCycle := false }
      (scSlot tab i = slot →
        (x.foundBefore.contains (1, slot.val) = true → State.scPulseTerm slot t s i true = (u 1).scTermFault i tfOwn slot t) ∧
        (x.foundBefore.contains (1, slot.val) = false → State.scPulseTerm slot t s i true = u 1) ∧
        State.scPulseTerm slot t s i false = s.setScTerm i { x with cycleSeen := slot.val :: x.cycleSeen }) ∧
      (scSlot tab i ≠ slot →
        (x.foundBefore.contains (2, slot.val) = true → State.scPulseTerm slot t s i false = (u 2).scTermFault i tfForeign slot t) ∧
        (x.foundBefore.contains (2, slot.val) = false → State.scPulseTerm slot t s i false = u 2) ∧
        State.scPulseTerm slot t s i true = s.setScTerm i { x with cycleSeen := slot.val :: x.cycleSeen }))

/-- Chase outputs (R278, R279, R285): a dark pulse opens one switch of an energised output, the two in turn; a pin that does not
read low at its end, between the thresholds as before, tells that switch stuck; a potential on an output whose switches are open is a fault; 50 cycles of difference
from the lane command set DISC once.

A Chase cycle (R282 to R285): every equation reads the literals of the cycle before; each latch is set by its set equation
and reset by its reset equation, which wins; the timers step; the ACK release counts for one cycle; in NORMAL the switch command
is the outputs' equations, less what is held off, and in any other state it is 0; two evaluations that differ are a Chase
fault EVAL. -/
def Obligations.ChaseCycleAndTests : Prop :=
  (∀ (s : State) (i : Fin 32) (mv ug : Int) (t : Nat), s.live = true → s.pwState ≠ psSleep →
     let n := s.now t
     let x := s.scTerm i
     let c := scChannel i
     (s.scRoleOf i = srOut → 0 < scDarkPeriod s.sc.table i → s.scClosed i = true → s.scLaneOn i = true → x.dark = none →
       s.leaves (.darkPulseStart i t) t
         ((n.setScTerm i { x with dark := some x.darkLane, darkLane := !x.darkLane }).chRefresh c)) ∧
     (x.dark = none → s.leaves (.darkPulseEnd i mv ug t) t (n.chRefresh c)) ∧
     (∀ lane, x.dark = some lane →
       ((scLevel mv ug).or x.level = some false → s.leaves (.darkPulseEnd i mv ug t) t ((n.setScTerm i { x with dark := none }).chRefresh c)) ∧
       ((scLevel mv ug).or x.level ≠ some false → s.leaves (.darkPulseEnd i mv ug t) t
         (((n.setScTerm i { x with dark := none }).scTermFault i (if lane then tfSwLane else tfSwChase) 0 t).chRefresh c))) ∧
     (∀ a, s.scRoleOf i = srOut → x.openAt = some a → a + 1000000 ≤ t → x.level = some true → x.levelAt + 1000000 ≤ t →
       s.scFaultOf i = 0 →
       s.leaves (.extPotential i t) t ((n.setScTerm i { x with extLow := false }).scTermFault i tfExt 0 t)) ∧
     (x.openAt = none → s.leaves (.extPotential i t) t n) ∧
     (50 ≤ x.discRun → x.discSet = false → s.leaves (.chaseDiscrepancy i t) t
       ((((n.setScTerm i { x with discSet := true }).setBit R.SC_DISC_DISC i true).bump R.SC_TERM_STAT_DISC_CNT i).record .sc
         0x0403 [byte i] t)) ∧
     (x.discRun < 50 → s.leaves (.chaseDiscrepancy i t) t n)) ∧
  (∀ (s : State) (t : Nat), s.live = true → s.pwState ≠ psSleep →
     let tab := s.sc.table
     let eq := scEquation tab s.scLits
     s.leavesSome (.chaseCycle { t := t }) t (fun u =>
       u.sc.ackRel = false ∧ u.sc.table = tab ∧
       (∀ k < 8, u.sc.latches.testBit k = ((s.sc.latches.testBit k || eq (40 + k)) && !eq (48 + k))) ∧
       (∀ k < 8, NMap.get u.sc.timers {} k = scTimerStep (scTimerW tab k) (NMap.get s.sc.timers {} k) (eq (32 + k))) ∧
       (Cells.wf s.rf.eff = true → s.scState = csNormal → ∀ j < 32, (u.rd R.SC_CHASE_CMD_CMD 0).testBit j = (eq j && !s.scHeldOff j)) ∧
       (Cells.wf s.rf.eff = true → s.scState ≠ csNormal → u.rd R.SC_CHASE_CMD_CMD 0 = 0)) ∧
     s.leaves (.chaseCycle { t := t, agree := false }) t (((s.now t).scCycle true t).scFault scEval t))

/-- The Chase's states (R286 to R288): a self-test that passes ends TEST in NORMAL, one that fails, a table whose CRC is wrong,
three missing heartbeats and a comparator that differs are Chase faults; RETEST and CLR_FAULTS act in STOP and MAINT only; the
degraded time has its limit, its warning at 80 % and its record.

A Chase fault (R287, R288): its cause shows and CHASE_FAULT is set; from NORMAL the Chase is DEGRADED while the lane state is
TRIPLEX, with the bypass closed, and HELD in any other; in DEGRADED, HELD and EXPIRED the state stays. -/
def Obligations.ChaseStatesAndFaults : Prop :=
  (∀ (s : State) (t : Nat), s.live = true → s.pwState ≠ psSleep →
     let n := s.now t
     (s.scState = csTest → s.leaves (.chaseSelftestEnd true t) t
       ((({ n with sc := { s.sc with degrFlash := 0 } } : State).wr R.SC_DEGR_ELAPSED 0).scEnter csNormal t) ∧
       s.leaves (.chaseSelftestEnd false t) t (n.scFault scSelftest t)) ∧
     s.leaves (.chaseCrcCheck true t) t n ∧ s.leaves (.chaseCrcCheck false t) t (n.scFault scCorrupt t) ∧
     s.leaves (.chaseComparatorCheck true t) t n ∧ s.leaves (.chaseComparatorCheck false t) t (n.scFault scComparator t) ∧
     s.leaves (.heartbeatMiss false t) t { n with sc := { s.sc with misses := 0 } } ∧
     (s.sc.misses < 2 → s.leaves (.heartbeatMiss true t) t { n with sc := { s.sc with misses := s.sc.misses + 1 } }) ∧
     (s.sc.misses = 2 → s.leaves (.heartbeatMiss true t) t
       (({ n with sc := { s.sc with misses := 3 } } : State).scFault scHbCause t)) ∧
     (s.stopped = true → s.leaves (.retest t) t ((n.scLoad t).allOut) ∧ s.leaves (.clrFaults t) t n.scClearFaults.allOut) ∧
     (s.stopped = false → s.leaves (.retest t) t n ∧ s.leaves (.clrFaults t) t n.allOut) ∧
     (s.scState = csDegraded → s.scLimit ≤ s.scElapsed t → s.leaves (.degradedLimit t) t
       ((n.scEnter csExpired t).wr R.SC_DEGR_ELAPSED s.scLimit)) ∧
     (s.scState = csDegraded → s.scElapsed t < s.scLimit → s.leaves (.degradedLimit t) t n) ∧
     (s.scState = csDegraded → 4 * s.scLimit ≤ 5 * s.scElapsed t → s.leaves (.degradedWarn t) t
       (n.wr R.SC_FLAGS_DEGR_WARN 1)) ∧
     (s.scState = csDegraded → s.leaves (.degradedTimeRecord t) t
       { n with sc := { s.sc with degrFlash := s.scElapsed t } })) ∧
  (∀ (s : State) (cause t : Nat), 1 ≤ cause → cause < 8 →
     let u := s.scFault cause t
     u.rd R.SC_STATE_CAUSE = cause ∧ u.rd R.SC_FLAGS_CHASE_FAULT = 1 ∧
     (s.scState = csNormal → s.isTriplex = true → u.scState = csDegraded ∧ u.rd R.SC_STATE_BYPASS = 1 ∧ u.sc.degrAt = t) ∧
     (s.scState = csNormal → s.isTriplex = false → u.scState = csHeld ∧ u.rd R.SC_STATE_BYPASS = 0) ∧
     (s.scState = csDegraded ∨ s.scState = csHeld ∨ s.scState = csExpired → u.scState = s.scState))

/-- The groups of channels (R298 to R300): a group with EN that is not reversed becomes powered and its sixteen channels start; it
becomes unpowered, with GROUP_OFF on each; overvoltage shows and ends; a trip of the group trips its outputs and is counted.

What opens a channel's switch (R270, R299, R319, R325 to R328): its group unpowered, SAFE, no power, a transition; for an
output also a trip, overvoltage, backfeed, a short, STOP, the lease held elsewhere, no commit yet, the Chase's line. A test-pulse
source is off for the pulse of its slot (R274), a pulse-width output in its off phase (R322). -/
def Obligations.GroupsAndOutputs : Prop :=
  (∀ (s : State) (g : Fin 8) (t : Nat), s.live = true →
     let n := s.now t
     let on := s.rd R.CH_GRP_STAT_POWERED g
     (s.rd R.CH_GRP_CFG_EN g ≠ 0 → on = 0 → s.rd R.CH_GRP_STAT_REVERSED g = 0 → s.leaves (.groupPowered g t) t
       ((chansOf g).foldl State.chRefresh ((chansOf g).foldl (fun s c => (s.chStart c t).chFeed c t)
         (n.wr R.CH_GRP_STAT_POWERED 1 g)))) ∧
     (s.rd R.CH_GRP_CFG_EN g = 0 → s.leaves (.groupPowered g t) t n) ∧
     (on ≠ 0 → s.leaves (.groupUnpowered g t) t ((chansOf g).foldl (fun s c => s.chUnpowered c t)
       ((n.wr R.CH_GRP_STAT_POWERED 0 g).wr R.CH_GRP_FLAGS_OFF_SEEN 1 g))) ∧
     (on = 0 → s.leaves (.groupUnpowered g t) t n ∧ s.leaves (.groupOvervolt g t) t n ∧ s.leaves (.groupTrip g t) t n) ∧
     (on ≠ 0 → s.leaves (.groupOvervolt g t) t
       (((n.wr R.CH_GRP_STAT_OVERVOLT 1 g).wr R.CH_GRP_FLAGS_OVERVOLT_SEEN 1 g).grpOut g)) ∧
     s.leaves (.groupOvervoltEnd g t) t ((n.wr R.CH_GRP_STAT_OVERVOLT 0 g).grpOut g) ∧
     (on ≠ 0 → s.pwState ≠ psSleep → s.leaves (.groupTrip g t) t ((chansOf g).foldl (fun s c =>
         if isHs (s.chMode c) || s.chMode c == cmTp then s.chTripOne c fcGroupOverload t else s)
       (((n.wr R.CH_GRP_STAT_TRIPPED 1 g).wr R.CH_GRP_FLAGS_OVERLOAD_SEEN 1 g).bump R.CH_GRP_TRIP_CNT_COUNT g)))) ∧
  (∀ (s : State) (c t : Nat),
     (s.powered c = false ∨ s.isSafe = true ∨ s.pwDown = true ∨ s.inTransition c = true ∨
       (s.chMode c ≠ cmTp ∧ isHs (s.chMode c) = false ∧ isAo (s.chMode c) = false) → s.chOnNow c = false) ∧
     (isHs (s.chMode c) = true → s.chMode c ≠ cmTp → (s.tripped c = true ∨ s.overvolt c = true ∨ s.chStopOff c = true ∨
       (s.ch c).backfed = true ∨ s.chFault c = fcShort ∨ s.scOpens c = true ∨
       (s.fieldLeased (c / 16) = true ∧ s.acting = false) ∨ (s.ch (s.parLeader c)).commits = false) → s.chOnNow c = false) ∧
     (s.chMode c = cmTp → s.scSourceOff (c / 16) (c % 16 - 4) t = true → s.chSwitch c t = false) ∧
     (s.chMode c = cmPwm → (s.ch (s.parLeader c)).pwmHigh t = false → s.chSwitch c t = false) ∧
     (s.chOnNow c = true → s.chMode c ≠ cmTp → s.chMode c ≠ cmPwm → s.chSwitch c t = true))

/-- A field sample (R298, R311; R471 in SLEEP): the supply, the current and the feed rail show; in SLEEP a group that does not wake
is not sampled, and of a group that wakes the DI channels alone (R468); a sample of a filtered input takes the level once it has stood for FILTER samples.

The frame of a group (R306) goes out at its first delivery, and 100 µs after the latest; the overrun bits it carried are
cleared. The commits released by `t` are applied at once, in the order of their release (R308). -/
def Obligations.SamplesAndFrames : Prop :=
  ((∀ (s : State) (g : Fin 8) (ug ig : Int) (rail : Nat) (mvs mas : List Int) (cool : BitVec 16) (t : Nat), s.live = true →
     let n := s.now t
     (s.pwState = psSleep → (s.rd R.PW_WAKE_GRP).testBit g = false → s.leaves (.fieldSample g ug ig rail mvs mas cool t) t n) ∧
     (s.pwState ≠ psSleep ∨ (s.rd R.PW_WAKE_GRP).testBit g = true → 0 ≤ ug →
       let shown := ((((n.wr R.CH_GRP_STAT_UG (min 65535 (ug / 10).toNat) g).wr R.CH_GRP_STAT_CURRENT
         (min 4095 (ig / 10).toNat) g).wr R.CH_GRP_STAT_REVERSED 0 g).wr R.CH_FEED_STAT_RAIL (min 2047 (rail / 10)) g)
       (s.rd R.CH_GRP_STAT_POWERED g ≠ 0 → s.leaves (.fieldSample g ug ig rail mvs mas cool t) t
         (((chansOf g).foldl (fun s c => if s.samples c then s.chShow c else s) ((List.range 16).foldl (fun s k =>
           if s.samples (16 * g.val + k) then
             s.chSample (16 * g.val + k) (mvs.getD k 0) ug (mas.getD k 0) (cool.getLsbD k) t
           else s) shown)).switchMargins g ug mvs mas t)) ∧
       (s.rd R.CH_GRP_STAT_POWERED g = 0 → s.leaves (.fieldSample g ug ig rail mvs mas cool t) t
         (((chansOf g).foldl (fun s c => s.chUnpowered c t) shown).switchMargins g ug mvs mas t)))) ∧
   (∀ (s : State) (c : Nat) (mv ug : Int) (b : Bool) (t : Nat), chLevel (s.rd R.CH_CFG_UN c) mv ug = some b →
     (s.ch c).raw = some b → (s.ch c).run < chFilter (s.rd R.CH_MODE_FILTER c) →
     let u := s.chSampleIn c mv ug t
     (u.ch c).raw = some b ∧ (u.ch c).run = (s.ch c).run + 1 ∧ (u.ch c).mv = mv ∧
     ((s.ch c).run + 1 = chFilter (s.rd R.CH_MODE_FILTER c) → (u.ch c).filt = some b ∧ (u.ch c).acceptAt = t) ∧
     ((s.ch c).run + 1 < chFilter (s.rd R.CH_MODE_FILTER c) → (u.ch c).filt = (s.ch c).filt))) ∧
  (∀ (s : State) (g : Fin 8) (t : Nat), s.live = true → s.pwState ≠ psSleep →
     let n := s.now t
     let x := s.group g
     ((∀ a, x.frameAt = some a → a + 100000 ≤ t) →
       let u := (chansOf g).foldl (fun s c => s.setCh c { s.ch c with overrun := false })
         (n.setGroup g { x with frameAt := some t, w0 := s.frame0 g, w1 := s.frame1 g })
       (NMap.look s.maps (2 * g.val) = none → s.leaves (.inputFrameDelivery g t) t u) ∧
       (∀ w, NMap.look s.maps (2 * g.val) = some w →
         s.leaves (.inputFrameDelivery g t) t (u.deliverWords w (s.inputFrame g) t))) ∧
     s.leaves (.commitApply g t) t ((chansOf g).foldl (fun s c => ((s.pwmFirst c t).aoJudge c t).chRefresh c)
       ((x.commits.filter fun cs => decide (cs.released ≤ t)).foldl (fun s cs => s.applySet g cs t)
         (n.setGroup g { x with commits := x.commits.filter fun cs => decide (t < cs.released) }))))

/-- Digital inputs (R304, R312 to R317): the transition of a mode ends; an input without a level is 0 after three filter periods;
a stuck input and an overrun are declared; a counting edge counts, saturating, and one after too short a phase is an overrun;
an edge of a quadrature pair counts by which channel leads, both at once are an overrun, set on the even channel by the model's
choice (log entry 97); a frequency is its periods over its gate, 0 without them.

Digital outputs (R319 to R328): an overload of an output that is on, or overtemperature, trips it with its whole paralleled
set; a mismatch of the set trips it; a pulse width changes at the period's start; a pulse ends; a tripped sensor supply restarts;
open load, a short to the supply and backfeed are declared, and end; a fault code whose condition stands, or that a restart
ends, stays.

The sink of an input (R299, R310): none in another mode, in an unpowered group or in a transition; the wetting current for
1 ms of every WET_PERIOD while the raw level is high; else as 10 kΩ up to the limit current. -/
def Obligations.DigitalChannels : Prop :=
  (∀ (s : State) (c : Fin 128) (t : Nat), s.live = true → s.pwState ≠ psSleep →
     let n := s.now t
     let x := s.ch c
     let flt := chFilter (s.rd R.CH_MODE_FILTER c)
     (∀ e, x.transEnd = some e → e ≤ t →
       let u := n.setCh c { x with transEnd := none }
       (isDin (s.chMode c) = true ∨ isAi (s.chMode c) = true →
         s.leaves (.modeTransitionEnd c t) t (((u.chStart c t).chFeed c t).chRefresh c)) ∧
       (isDin (s.chMode c) = false → isAi (s.chMode c) = false →
         s.leaves (.modeTransitionEnd c t) t ((u.wr R.CH_STAT_UNDET 0 c).chRefresh c))) ∧
     (x.transEnd = none → s.leaves (.modeTransitionEnd c t) t n) ∧
     (isDin (s.chMode c) = true → s.powered c = true → x.transEnd = none →
       (s.rd R.CH_STAT_UNDET c = 1 → x.undetAt + 3000 * flt ≤ t → s.leaves (.undetTimeout c t) t
         ((((n.setCh c { x with undetDone := true }).wr R.CH_STAT_UNDET 0 c).chSetValue c false t).chShow c)) ∧
       (0 < s.rd R.CH_CFG_STUCK c → x.filt = some true → x.oneAt + s.rd R.CH_CFG_STUCK c * 1000000000 ≤ t →
         s.rd R.CH_STAT_STUCK c = 0 → s.leaves (.channelStuck c t) t
           ((((((n.wr R.CH_STAT_STUCK 1 c).wr R.CH_FLAGS_STUCK_SEEN 1 c).chDeclare c fcStuck t).chSetValue c false t).chShow c).record
             .ch 0x0501 [byte c] t))) ∧
     (s.chMode c = cmDi → s.powered c = true → x.acceptAt < x.changedAt → x.acceptAt + 16000 * flt ≤ t →
       s.leaves (.inputOverrun c t) t (n.chOverrun c t)) ∧
     (s.powered c = true → x.transEnd = none → ∀ lv both,
       let u := n.setCh c { x with lvl := some lv, edgeAt := some t }
       let e := c.val - c.val % 2
       let o := s.ch (2 * e + 1 - c.val)
       (s.chMode c = cmUp →
         (s.rd R.CH_CFG_EDGE c = 2 ∨ (s.rd R.CH_CFG_EDGE c = 0 ∧ lv = true) ∨ (s.rd R.CH_CFG_EDGE c = 1 ∧ lv = false) →
           s.leaves (.countEdge c lv false both t) t ((u.countUp c).chShow c)) ∧
         ((s.rd R.CH_CFG_EDGE c = 0 ∧ lv = false) ∨ (s.rd R.CH_CFG_EDGE c = 1 ∧ lv = true) →
           s.leaves (.countEdge c lv false both t) t (u.chShow c) ∧
           s.leaves (.countEdge c lv true both t) t
             (((n.chOverrun c t).setCh c { (n.chOverrun c t).ch c with lvl := some lv, edgeAt := some t }).chShow c))) ∧
       (s.chMode c = cmQuad →
         s.leaves (.countEdge c lv false false t) t
           ((u.countQuad e (if c.val % 2 = 0 then lv != o.level else o.level == lv)).chShow e) ∧
         s.leaves (.countEdge c lv false true t) t
           ((u.setCh (2 * e + 1 - c.val) { o with lvl := some (!o.level), edgeAt := some t }).chOverrun e t)) ∧
       (s.chMode c ≠ cmUp → s.chMode c ≠ cmQuad → s.leaves (.countEdge c lv false both t) t n)) ∧
     (∀ k d, s.chMode c = cmFreq → s.powered c = true → x.transEnd = none → 0 < k → 0 < d →
       s.leaves (.freqGateEnd c k d t) t
         ((n.setCh c { x with result := (min ((2 * k * 10 ^ 10 + d) / (2 * d)) 0xFFFFFFFF : Nat) }).chShow c)) ∧
     (∀ k d, s.chMode c = cmFreq → x.transEnd = none → s.powered c = false ∨ k = 0 → s.leaves (.freqGateEnd c k d t) t
       ((n.setCh c { x with result := 0 }).chShow c)) ∧
     ((s.countUp c).ch c).count = (if 0xFFFFFFFF ≤ x.count + 1 then 0xFFFFFFFF else x.count + 1)) ∧
  (∀ (s : State) (c : Fin 128) (t : Nat), s.live = true → s.pwState ≠ psSleep →
     let n := s.now t
     let x := s.ch c
     let m := s.chMode c
     let on := s.rd R.CH_STAT_ON c
     let f := s.chFault c
     (isHs m = true ∨ m = cmTp → ∀ hot, on = 1 ∨ hot = true → s.leaves (.outputTrip c hot t) t
       ((n.parMembers c).foldl (fun s d => s.chTripOne d (if hot then fcOvertemp else fcOverload) t) n)) ∧
     (isHs m = true → on = 1 →
       (1 < (s.parMembers c).length → s.leaves (.parMismatch c t) t
         ((n.parMembers c).foldl (fun s d => s.chTripOne d fcPar t) n)) ∧
       s.leaves (.backfeed c t) t ((((n.setCh c { x with backfed := true, tripAt := t, released := false }).wr
         R.CH_STAT_TRIPPED 1 c).chDeclare c fcBackfeed t).chRefresh c) ∧
       (s.rd R.CH_CFG_OPEN_DET c = 1 → s.leaves (.openLoad c t) t ((n.chDeclare c fcOpenLoad t).chShow c))) ∧
     (isAo m = true → on = 1 → s.leaves (.backfeed c t) t
       (((n.setCh c { x with backfed := true, tripAt := t, released := false }).chDeclare c fcBackfeed t).chRefresh c)) ∧
     (m = cmAoI → on = 1 → s.leaves (.openLoad c t) t ((n.chDeclare c fcOpenLoad t).chShow c)) ∧
     (on = 0 → s.leaves (.backfeed c t) t n ∧ s.leaves (.openLoad c t) t n ∧ s.leaves (.outputTrip c false t) t n) ∧
     (isHs m = true → s.powered c = true → x.transEnd = none → on = 0 → s.leaves (.shortToSupply c t) t
       ((n.chDeclare c fcShort t).chRefresh c)) ∧
     ((isDin m = true ∧ s.rd R.CH_CFG_OPEN_DET c = 1) ∨ (m = cmAiI ∧ s.rd R.CH_ACFG0_RANGE c = 1) → s.powered c = true →
       x.transEnd = none → s.leaves (.openWire c t) t ((n.chDeclare c fcOpenWire t).chShow c)) ∧
     s.leaves (.backfeedClear c t) t (((n.setCh c { x with backfed := false }).chTripCheck c).chRefresh c) ∧
     ((f = fcOpenWire ∧ m ≠ cmTc) ∨ f = fcOpenLoad ∨ f = fcShort ∨ (f = fcGroupOff ∧ s.powered c = true) ∨ f = fcOverrange ∨
         f = fcSensorShort ∨ f = fcCjc ∨ (f = fcOverload ∧ m = cmAoU) ∨ (f = fcBackfeed ∧ x.backfed = false) →
       s.leaves (.faultCodeClear c t) t ((n.wr R.CH_STAT_FAULT 0 c).chRefresh c)) ∧
     ((f = fcStuck ∧ s.rd R.CH_STAT_STUCK c = 1) ∨ (f = fcGroupOff ∧ s.powered c = false) ∨ (f = fcOpenWire ∧ m = cmTc) ∨
         (f = fcFeedLow ∧ isAi m = true ∧ s.feedLow c = true) ∨ f = fcOvertemp ∨ f = fcGroupOverload ∨ f = fcPar ∨
         (f = fcOverload ∧ m ≠ cmAoU) →
       s.leaves (.faultCodeClear c t) t n) ∧
     (m = cmPwm → x.on = true → s.leaves (.pwmPeriodStart c t) t
       ((n.setCh c { x with pwmRun := true, period := max 10 (x.q.toNat / 65536), duty := x.q.toNat % 65536,
                            periodAt := t }).chRefresh c)) ∧
     (∀ e, x.dopEnd = some e → e ≤ t → s.leaves (.doPulseEnd c t) t ((n.setCh c { x with dopEnd := none }).chRefresh c)) ∧
     (m = cmTp → s.tripped c = true → s.leaves (.tpSourceRestart c t) t (n.chUntrip c))) ∧
  (∀ (s : State) (c t : Nat),
     (isDin (s.chMode c) = false ∨ s.powered c = false ∨ s.inTransition c = true → s.chSink c t = 0) ∧
     (isDin (s.chMode c) = true → s.powered c = true → s.inTransition c = false →
       (s.chWetting c t = true → s.chSink c t = 1000 * chWet (s.rd R.CH_CFG_WET c)) ∧
       (s.chWetting c t = false → s.chSink c t ≤ 1000 * chIlim (s.rd R.CH_CFG_ILIM c))) ∧
     (s.chWetting c t = true → s.rd R.CH_CFG_WET c ≠ 0 ∧ (s.ch c).raw = some true) ∧
     (∀ k, s.rd R.CH_CFG_WET c ≠ 0 → (s.ch c).raw = some true →
       s.chWetting c ((s.ch c).changedAt + k * (1000000 * chWetMs (s.rd R.CH_CFG_WET_PERIOD c))) = true))

/-- Analogue channels (R333 to R345, R350): a conversion of an output shows what it measures, one of a voltage input inside its
span enters the mean, one begun before the input started is none, and while the feed is low none is taken; the shunt of a current input opens at an overrange and closes at a
trial that holds; a thermocouple test declares and clears its open wire; a voltage output at its limit is overloaded; a low feed
is declared and ends.

The mean of an analogue input (R333, R337) is of its last 2^AVG conversions, rounded half away from zero; the trim of an
output (R346, R347): round((y - b) 2^24 / (2^24 + G)), clamped to the limits; a trim of 0 leaves a setpoint inside the limits as
it is.

The output trim's commands (R347, R348) act in MAINT only: values that give no legal trim are rejected, RESTORE returns to no
user trim, DRIVE and POINT are written; a flash write keeps the trim in effect. -/
def Obligations.AnalogueChannels : Prop :=
  (∀ (s : State) (c : Fin 128) (g : Fin 8) (t : Nat), s.live = true → s.pwState ≠ psSleep →
     let n := s.now t
     let x := s.ch c
     let m := s.chMode c
     (∀ v v2 cj : Int, x.heatTo = none → s.powered c = true → x.transEnd = none →
       (isAo m = true → s.feedLow c = false →
         let l := aoLimits m (s.rd R.CH_ACFG0_RANGE c)
         let y := clampInt l.1 l.2 (toSigned 32 x.q.toNat)
         s.leaves (.conversionEnd c v v2 cj t) t ((((n.setCh c { x with result := v }).chSetValue c
           (decide (100 * (v - y) ≤ l.2 ∧ 100 * (y - v) ≤ l.2)) t).wr R.CH_STAT_UNDET 0 c).chShow c)) ∧
       (m = cmAiU → s.feedLow c = false → s.convEarly c (t - 10000) = false → (s.spanOf c).1 ≤ v → v ≤ (s.spanOf c).2 →
         s.leaves (.conversionEnd c v v2 cj t) t
           (((n.setCh c { x with last := if x.shuntOff then x.last else v, beyond := 0, openRun := 0, shortRun := 0,
                                 hiSince := none }).convResult c v t).chShow c)) ∧
       (m = cmAiU → s.convEarly c (t - 10000) = true → s.leaves (.conversionEnd c v v2 cj t) t n) ∧
       (isAo m = true ∨ m = cmAiU → s.feedLow c = true → s.leaves (.conversionEnd c v v2 cj t) t n)) ∧
     (∀ v v2 cj : Int, isDin m = true → x.heatTo = none → s.leaves (.conversionEnd c v v2 cj t) t n) ∧
     (m = cmAiI → s.powered c = true → s.leaves (.shuntDisconnect c t) t
       (((n.setCh c { x with shuntOff := true, last := upperEnd cmAiI (s.chRange c) }).chDeclare c fcOverrange t).chShow c)) ∧
     (m = cmAiI → x.shuntOff = true → s.leaves (.shuntReconnect c true t) t (n.setCh c { x with shuntOff := false })) ∧
     s.leaves (.shuntReconnect c false t) t n ∧
     (∀ uv : Int, m = cmTc → c.val % 2 = 0 → s.powered c = true → s.feedLow c = false →
       (100000 < uv → s.leaves (.tcOpenTest c uv t) t ((n.chDeclare c fcOpenWire t).chShow c)) ∧
       (uv ≤ 100000 → s.chFault c = fcOpenWire → s.leaves (.tcOpenTest c uv t) t ((n.wr R.CH_STAT_FAULT 0 c).chShow c))) ∧
     (m = cmAoU → s.rd R.CH_STAT_ON c = 1 → s.leaves (.aoOverload c t) t ((n.chDeclare c fcOverload t).chShow c)) ∧
     (s.rd R.CH_FEED_STAT_FEED_LOW g = 0 → s.leaves (.feedLowEntry g t) t ((chansOf g).foldl (fun s c =>
         if isAi (s.chMode c) then (s.chDeclare c fcFeedLow t).chShow c else if isAo (s.chMode c) then s.chRefresh c else s)
       ((n.wr R.CH_FEED_STAT_FEED_LOW 1 g).bump R.CH_FEED_LOW_CNT_COUNT g))) ∧
     (s.rd R.CH_FEED_STAT_FEED_LOW g = 1 → s.leaves (.feedLowEntry g t) t n ∧ s.leaves (.feedLowExit g t) t
       ((chansOf g).foldl (fun s c =>
         if isAi (s.chMode c) then
           ((if s.chFault c = fcFeedLow then s.wr R.CH_STAT_FAULT 0 c else s).chStart c t).chShow c
         else if isAo (s.chMode c) then s.chRefresh c else s) (n.wr R.CH_FEED_STAT_FEED_LOW 0 g)))) ∧
  ((∀ a b : Int, 0 < b → 2 * (roundDiv a b * b - a).natAbs ≤ b.natAbs) ∧
   (∀ a b : Int, 0 < b → roundDiv (-a) b = -roundDiv a b) ∧
   (∀ g b lo hi y : Int, trimDrive g b lo hi y = clampInt lo hi (roundDiv ((y - b) * 2 ^ 24) (2 ^ 24 + g))) ∧
   (∀ lo hi y : Int, lo ≤ y → y ≤ hi → trimDrive 0 0 lo hi y = y) ∧
   (∀ (s : State) (c : Nat) (z : Int) (t : Nat), (s.ch c).full = true →
     (s.convResult c z t).ch c = { s.ch c with
       convs := (z :: (s.ch c).convs).take (2 ^ min 4 (s.rd R.CH_ACFG0_AVG (s.acfgOf c))),
       result := roundDiv ((z :: (s.ch c).convs).take (2 ^ min 4 (s.rd R.CH_ACFG0_AVG (s.acfgOf c)))).sum
         ((z :: (s.ch c).convs).take (2 ^ min 4 (s.rd R.CH_ACFG0_AVG (s.acfgOf c)))).length,
       limit := s.limitBit c (s.ch c).limit
         (roundDiv ((z :: (s.ch c).convs).take (2 ^ min 4 (s.rd R.CH_ACFG0_AVG (s.acfgOf c)))).sum
         ((z :: (s.ch c).convs).take (2 ^ min 4 (s.rd R.CH_ACFG0_AVG (s.acfgOf c)))).length) })) ∧
  (∀ (s : State) (c : Fin 128) (t : Nat), s.live = true →
     let n := s.now t
     let l := aoLimits (s.chMode c) (s.chRange c)
     let v := fun f : Fld => toSigned 32 (s.rd f c)
     let ok := trimOk l.1 l.2 (v R.CH_TRIM_S1) (v R.CH_TRIM_S2) (v R.CH_TRIM_M1) (v R.CH_TRIM_M2)
     let k := trimOf (v R.CH_TRIM_S1) (v R.CH_TRIM_S2) (v R.CH_TRIM_M1) (v R.CH_TRIM_M2)
     (s.mode ≠ mdMaint → s.leaves (.trimApply c t) t n ∧ s.leaves (.trimRestore c t) t n ∧
       (∀ d p, s.leaves (.trimDrive c d p t) t n)) ∧
     (s.mode = mdMaint →
       (isAo (s.chMode c) = true → ok = true → s.leaves (.trimApply c t) t
         ((((n.wr R.CH_TRIM_GAIN (fromSigned 32 k.1) c).wr R.CH_TRIM_OFS (fromSigned 32 k.2) c).wr R.CH_TRIM_CTL_SAVED 0 c).chAstat
           c)) ∧
       (isAo (s.chMode c) = false ∨ ok = false → s.leaves (.trimApply c t) t (n.wr R.CH_TRIM_CTL_REJ 1 c)) ∧
       s.leaves (.trimRestore c t) t
         ((((n.wr R.CH_TRIM_GAIN 0 c).wr R.CH_TRIM_OFS 0 c).wr R.CH_TRIM_CTL_SAVED 0 c).chAstat c) ∧
       (∀ d p : Bool, s.leaves (.trimDrive c d p t) t
         (((n.wr R.CH_TRIM_CTL_DRIVE (if d then 1 else 0) c).wr R.CH_TRIM_CTL_POINT (if p then 1 else 0) c).chRefresh c))) ∧
     s.leaves (.trimSaved c t) t ((n.setCh c { s.ch c with
       trimFlash := (BitVec.ofNat 32 (s.rd R.CH_TRIM_GAIN c), BitVec.ofNat 32 (s.rd R.CH_TRIM_OFS c)) }).wr R.CH_TRIM_CTL_SAVED 1 c))

/-- The Forme bus controller (R353, R355, R364 to R366, R369): a cycle begins when the running one ends, with its count one
higher, and counts down LOCKUP; one that is to park parks; PRESS follows LOCKUP; a schedule request is refused with its reason or
announced; the check one cycle before the switch passes with the acknowledgements it needs or ends the announcement; a branch is
released, and its link shows, without one while it is not enabled. -/
def Obligations.FormeControllerRuns : Prop :=
  ∀ (s : State) (b target : Fin 8) (t : Nat), s.live = true → s.pwState ≠ psSleep →
    let n := s.now t
    (s.rf.waits .fb = false → s.fb.waits = false →
      (s.fb.started = true → t = n.fbNextAt → s.fb.park = false → s.fbState = fsLockup ∨ s.fbState = fsPress →
        s.leavesSome (.cycleStart t) t fun u =>
          u.fb.cycleAt = t ∧ u.fb.dyn = [] ∧ u.fb.own = [] ∧ u.fb.accepted = [] ∧ u.fb.fwd = [] ∧
          u.fbCycle = satNat 32 (s.fbCycle + 1) ∧ u.fbState = s.fbState ∧
          (s.fbState = fsLockup → u.rd R.FB_STATE_LOCKUP_LEFT = s.rd R.FB_STATE_LOCKUP_LEFT - 1)) ∧
      (s.fb.started = true → t = n.fbNextAt → s.fb.park = true → s.leaves (.cycleStart t) t (n.fbParkNow t)) ∧
      (s.fb.started = true → t ≠ n.fbNextAt → s.leaves (.cycleStart t) t n) ∧
      (Cells.wf s.rf.eff = true → s.fb.started = false → s.fb.park = false → s.fbState = fsLockup → s.leavesSome (.cycleStart t) t fun u =>
        u.fb.started = true ∧ u.fb.cycleAt = t ∧ u.fbCycle = 0)) ∧
    (s.fbState = fsLockup → s.rd R.FB_STATE_LOCKUP_LEFT = 0 → s.leaves (.lockupEnd t) t ((n.fbEnter fsPress t).fbSync t)) ∧
    (s.fbState = fsPress → s.leaves (.lockupEnd t) t n) ∧
    (s.fbState ≠ fsPress → s.leaves (.fbSchedReq target t) t (n.wr R.FB_SCHED_STAT_LAST 6)) ∧
    (s.fbState = fsPress → s.rd R.FB_SCHED_STAT_PENDING = 1 → s.leaves (.fbSchedReq target t) t (n.wr R.FB_SCHED_STAT_LAST 3)) ∧
    (s.fbState = fsPress → s.rd R.FB_SCHED_STAT_PENDING = 0 →
      (s.fbIsUsable target = false → s.leaves (.fbSchedReq target t) t (n.wr R.FB_SCHED_STAT_LAST 4)) ∧
      (s.fbIsUsable target = true → target.val = s.fbSched → s.leaves (.fbSchedReq target t) t (n.wr R.FB_SCHED_STAT_LAST 5)) ∧
      (s.fbIsUsable target = true → target.val ≠ s.fbSched → s.leaves (.fbSchedReq target t) t
        ((((({ n with fb := { s.fb with firstAnn := s.fbCycle + 1, passed := false } } : State).wr R.FB_SCHED_STAT_TARGET
          target).wr R.FB_SCHED_STAT_PENDING 1).wr R.FB_SCHED_STAT_ACKED 0).wr R.FB_SWITCH_AT_CYCLE
          (satNat 32 (s.fbCycle + 1 + s.rd R.FB_CFG_ANNOUNCE))))) ∧
    (s.rd R.FB_SCHED_STAT_PENDING = 1 → s.fbCycle + 1 = s.rd R.FB_SWITCH_AT_CYCLE →
      let req := n.fbReq (s.rd R.FB_SCHED_STAT_TARGET)
      (req &&& s.rd R.FB_SCHED_STAT_ACKED = req → s.leaves (.switchCheck t) t { n with fb := { s.fb with passed := true } }) ∧
      (req &&& s.rd R.FB_SCHED_STAT_ACKED ≠ req → s.leaves (.switchCheck t) t
        ((((n.fbAnnEnd 2).wr R.FB_FLAGS_SWITCH_ABORT 1).raise 178 t).fbSync t))) ∧
    (Cells.wf s.rf.eff = true → s.rd R.FB_SCHED_STAT_PENDING = 1 → s.fb.passed = true → s.fbCycle = s.rd R.FB_SWITCH_AT_CYCLE →
      s.leavesSome (.scheduleSwitch t) t fun u => u.fb.passed = true ∧ u.fb.tx = s.fb.tx ∧ u.fb.br = s.fb.br ∧
        u.fbSched = s.rd R.FB_SCHED_STAT_TARGET) ∧
    (s.rd R.FB_SCHED_STAT_PENDING = 0 → s.leaves (.scheduleSwitch t) t n ∧ s.leaves (.switchCheck t) t n) ∧
    (let r := ((n.setFbBr b { s.fbBr b with left := 0 }).wr R.FB_BR_STAT_V 0 b).wr R.FB_BR_STAT_QUAR_N 0 b
     (s.rd R.FB_BR_STAT_STATE b ≠ bsDisabled → s.leaves (.branchRelease b t) t
       ((r.wr R.FB_BR_STAT_STATE bsActive b).fbBranchEvent b t)) ∧
     (s.rd R.FB_BR_STAT_STATE b = bsDisabled → s.leaves (.branchRelease b t) t (r.fbBranchEvent b t))) ∧
    (s.rd R.FB_BR_STAT_LINK b = 0 → s.leaves (.branchLinkChange b false t) t n ∧
      (s.fbEnabled b = false → s.leaves (.branchLinkChange b true t) t n) ∧
      (s.fbEnabled b = true → s.leaves (.branchLinkChange b true t) t
        (((n.wr R.FB_BR_STAT_LINK 1 b).fbBranchUse b).raise (168 + b.val) t))) ∧
    (s.rd R.FB_BR_STAT_LINK b = 1 → s.leaves (.branchLinkChange b false t) t
      (((n.wr R.FB_BR_STAT_LINK 0 b).fbBranchUse b).raise (168 + b.val) t))

/-- Forme frames (R354, R358, R361 to R363, R371, R372): the star's checks in their order, each violation counted; a frame that
passes is forwarded whole, one with a wrong header or too long is cut; the controller receives no frame that the star did not
forward; one accepted delivers its payload with its status, one that is not shows BAD; a static slot without one delivers
MISSING; a static transmit entry is prepared from its commits and sent on every branch in use; at the network idle every branch's
cycle is judged. -/
def Obligations.FormeFramesPass : Prop :=
  ∀ (s : State) (b : Fin 8) (f : FbFrame) (t : Nat), s.live = true → s.pwState ≠ psSleep →
    let n := s.now t
    let viol := fun u : State => u.setFbBr b { s.fbBr b with viol := true }
    (n.starCheck b f = .quarBlock → s.leaves (.starFrameCheck b f t) t (n.bump R.FB_BR_VIOL2_QUAR_BLOCK b)) ∧
    (n.starCheck b f = .outOfSlot → s.leaves (.starFrameCheck b f t) t (viol (n.bump R.FB_BR_VIOL_OUT_OF_SLOT b))) ∧
    (n.starCheck b f = .header → s.leaves (.starFrameCheck b f t) t ((viol (n.bump R.FB_BR_VIOL_HEADER b)).fbForward b f false)) ∧
    (n.starCheck b f = .overlong →
      s.leaves (.starFrameCheck b f t) t ((viol (n.bump R.FB_BR_VIOL2_OVERLONG b)).fbForward b f false)) ∧
    (n.starCheck b f = .forwarded →
      (f.switchAck = false ∨ s.rd R.FB_SCHED_STAT_PENDING = 0 → s.leaves (.starFrameCheck b f t) t (n.fbForward b f true)) ∧
      (f.switchAck = true → s.rd R.FB_SCHED_STAT_PENDING = 1 → s.fb.firstAnn ≤ s.fbCycle →
        s.leaves (.starFrameCheck b f t) t ((n.setBit R.FB_SCHED_STAT_ACKED b true).fbForward b f true))) ∧
    (s.rd R.FB_BR_STAT_STATE b = bsActive → s.fbWindow b f.start = none → s.starCheck b f = .outOfSlot) ∧
    (∀ whole w, s.fbWindow b f.start = some w →
      let u := s.fbForward b f whole
      u.fb.fwd = s.fb.fwd ++ [{ branch := b, frame := f, whole := whole, win := w }] ∧
      (w.1 = true → u.fb.dyn = s.fb.dyn) ∧
      (w.1 = false → u.fb.dyn = (w.2, fbOcc (s.fbMlead s.fbSched) (s.fbMl s.fbSched) f.len) :: s.fb.dyn) ∧
      (∀ d < 8, d ≠ b.val → s.fbInUse d = true → NMap.look u.fb.out d = some (.node b f whole)) ∧
      (NMap.look u.fb.out b = NMap.look s.fb.out b)) ∧
    (s.fb.fwd.find? (fun x => x.branch == b.val && x.frame == f) = none → s.leaves (.formeFrameAccept b f t) t n) ∧
    (∀ a w, s.fb.fwd.find? (fun x => x.branch == b.val && x.frame == f) = some a → n.fbByWin a.win = some w →
      n.fbIsTx (fbEntry w.2.2) = false →
      let i := fbEntry w.2.2
      let fb0 := { s.fb with fwd := s.fb.fwd.erase a }
      (a.whole = false ∨ f.fcs = false ∨ f.len ≠ n.fbBytes i ∨ f.sched ≠ s.fbSched →
        (w.1 = true → s.leaves (.formeFrameAccept b f t) t { n with fb := { fb0 with bad := i :: s.fb.bad } }) ∧
        (w.1 = false → s.leaves (.formeFrameAccept b f t) t
          (({ n with fb := fb0 } : State).fbDeliver i 16 (s.rd R.FB_FRM_STAT_CYCLE i) (s.rd R.FB_FRM_STAT_COUNT i) none (usAfter t)))) ∧
      (a.whole = true → f.fcs = true → f.len = n.fbBytes i → f.sched = s.fbSched →
        let u := ({ n with fb := { fb0 with accepted := i :: s.fb.accepted } } : State).fbDeliver i (if f.null then 2 else 1)
          (s.fbCycle % 256) 0 (if f.null then none else some ((List.range (f.len / 4)).map fun k => f.payload.getD k 0)) (usAfter t)
        (n.fbEvEn i = false → s.leaves (.formeFrameAccept b f t) t u) ∧
        (n.fbEvEn i = true → s.leaves (.formeFrameAccept b f t) t (u.raise (192 + n.fbEv i) t)))) ∧
    (∀ k w, s.fbState = fsPress ∨ s.fbState = fsLockup → ((n.fbWords s.fbSched).find? fun x => x.1 && x.2.1 == k) = some w →
      n.fbIsTx (fbEntry w.2.2) = false →
      let i := fbEntry w.2.2
      (s.fb.accepted.contains i = true → s.leaves (.slotEnd k t) t n) ∧
      (s.fb.accepted.contains i = false → s.leaves (.slotEnd k t) t
        (n.fbDeliver i (4 + (if s.fb.bad.contains i then 16 else 0)) (s.rd R.FB_FRM_STAT_CYCLE i)
          (min 65535 (s.rd R.FB_FRM_STAT_COUNT i + 1)) none t))) ∧
    (∀ i w, s.fbState = fsPress ∨ s.fbState = fsLockup → n.fbNamed s.fbSched i = some w → w.1 = true → n.fbIsTx i = true →
      let x := fbApplySets (s.fbTx i) (n.fbBytes i / 4) t
      let null := s.mode != mdRun || s.isSafe || s.fbState == fsLockup || (n.fbLeased && !s.acting)
      let frame := fbFrameBytes (s.fbHeader 0 false null false w.2.1 (n.fbBytes i)) (x.q.flatMap wordBytes)
      s.leaves (.framePreparation i t) t ((n.setFbTx i { x with
        prepared := x.q, null := null, pending := false, frame := frame }).fbSend none (.own frame))) ∧
    (s.fbState = fsPress ∨ s.fbState = fsLockup → s.fb.own = [] → s.leaves (.networkIdle t) t
      ((List.range 8).foldl (fun s k => s.fbBranchIdle k t) n)) ∧
    (s.fbState = fsOff ∨ s.fbState = fsParked → s.leaves (.networkIdle t) t n)

/-- The consist switches and the endpoint (R376 to R381, R399): a frame whose check or length is wrong is counted, a pause frame and a
frame of a VLAN that is unknown, or that its port is no member of, go no further, a frame for a learned address to its port; a learned address ages after 300 s; the endpoint answers for its own address and keeps its
cache; the oldest frame of the highest priority is sent, one at an internal port to the endpoint, a copy of the module late beyond its deadline; a copy at twice its
deadline is dropped; a link's change shows.

Residence time (R377, R385): a Sync or Delay_Req of PTP version 2 that an external port of a plane sends on from the other
one leaves with its residence time added to its correctionField, the time between its stamps with the rate of TT while TT is
locked; every other frame leaves as it came, its tag as UNTAG says. -/
def Obligations.ConsistNetworkForwards : Prop :=
  (∀ (s : State) (p : Fin 4) (q : Fin 7) (pl : Fin 2) (f : EthFrame) (ip asker : Word) (mac : BitVec 48) (t : Nat), s.live = true → s.pwState ≠ psSleep →
     let n := s.now t
     let seen := n.mirrorPort p { tag := f.tag.map fun v => (v.1.toNat, v.2.toNat), len := f.len, frame := some f }
     let vid := s.frameVid p f
     (f.fcs = false ∨ 1522 < f.len → s.leaves (.switchFrameReceived p f t) t (seen.bump R.NW_PORT_CNT_FCS_ERR p)) ∧
     (f.fcs = true → f.len ≤ 1522 → f.pause = true ∨ f.dst.toNat / 16 = 0x0180C200000 ∨ s.vlanMembers (p.val / 2) vid = none ∨
       (∃ m, s.vlanMembers (p.val / 2) vid = some m ∧ m.testBit (p.val % 2) = false) → s.leaves (.switchFrameReceived p f t) t seen) ∧
     (∀ m d, f.fcs = true → f.len ≤ 1522 → f.pause = false → f.dst.toNat / 16 ≠ 0x0180C200000 →
       s.vlanMembers (p.val / 2) vid = some m → m.testBit (p.val % 2) = true → isGroup f.dst = false →
       let l := seen.learn (p.val / 2) f.src p t
       l.learned (p.val / 2) f.dst = some d → d < 4 → d ≠ p.val → m.testBit (d % 2) = true → l.linkUp d = true →
       s.leaves (.switchFrameReceived p f t) t (l.enqueueTransit d
         { pcp := s.framePcp p f, bytes := f.len, frame := some f, vid := vid, inPort := p, inAt := t })) ∧
     s.leaves (.addressAgeing pl mac t) t { n with
       nw := { s.nw with fdb := s.nw.fdb.filter fun e => !(e.plane == pl.val && e.mac == mac && decide (e.at_ + 300000000000 ≤ t)) } } ∧
     s.leaves (.endpointArp pl (s.nwIp pl) asker t) t
       ((({ n with nw := { s.nw with answers := s.nw.answers ++ [(pl.val, asker)] } } : State).sendCtl (n.answerPorts pl asker) 0 64
         (.arpReply asker) t).learn pl (Config.nwMac pl) (4 + pl.val) t) ∧
     (ip ≠ s.nwIp pl → s.leaves (.endpointArp pl ip asker t) t n) ∧
     (∀ e a, s.arpEntry pl ip = some e →
       (e.asked + 60000000000 ≤ t → s.leaves (.arpRefresh pl ip a t) t (n.putArp { e with mac := a, asked := t })) ∧
       (e.mac = none → e.asked + 1000000000 ≤ t → s.leaves (.arpRetry pl ip a t) t (n.putArp { e with mac := a, asked := t })) ∧
       (e.mac = none → t < e.asked + 1000000000 → ∀ m, a = some m →
         s.leaves (.arpRetry pl ip a t) t (n.putArp { e with mac := a }) ∧
         s.leaves (.arpRefresh pl ip a t) t (n.putArp { e with mac := a })) ∧
       (e.mac ≠ none → s.leaves (.arpRetry pl ip a t) t n)) ∧
     (s.queue q = [] → s.leaves (.egressTransmit q t) t n) ∧
     (∀ g, ((s.queue q).find? fun g => g.pcp == topPcp (s.queue q)) = some g →
       let r0 := n.setQueue q ((s.queue q).erase g)
       let r := if q.val < 4 then r0.mirrorPort q (r0.sentOf q g t) else r0
       (g.own = none →
         (q.val < 4 ∨ q.val = 6 ∨ g.frame = none → s.leaves (.egressTransmit q t) t (r.putSent q g t)) ∧
         (∀ e, q.val = 4 ∨ q.val = 5 → g.frame = some e →
           s.leaves (.egressTransmit q t) t ((r.putSent q g t).endpointFrame (q.val - 4) e t))) ∧
       (∀ o, g.own = some o →
         (o.tp + 2000 * o.deadline ≤ t → s.leaves (.egressTransmit q t) t (r0.copyLate o true t)) ∧
         (t < o.tp + 2000 * o.deadline →
           let u := (r.putSent q g t).copyLeft o (q.val / 2) t
           (o.tp + 1000 * o.deadline ≤ t → s.leaves (.egressTransmit q t) t (u.copyLate o false t)) ∧
           (t < o.tp + 1000 * o.deadline → s.leaves (.egressTransmit q t) t u)))) ∧
     ((∀ g ∈ s.queue q, g.own = none) → s.leaves (.copyDrop q t) t (n.setQueue q (s.queue q))) ∧
     (∀ o g, s.queue q = [g] → g.own = some o → o.tp + 2000 * o.deadline ≤ t →
       s.leaves (.copyDrop q t) t ((n.setQueue q []).copyLate o true t)) ∧
     (∀ gig, s.leavesSome (.netLinkChange p.castSucc true gig t) t fun u =>
       u.linkUp p = true ∧ u.rd R.NW_PORT_STAT_SPEED p = if gig then 3 else 2)) ∧
  (∀ (s : State) (q : Nat) (f : QFrame) (e : EthFrame) (t : Nat),
     let o := s.egressFrame q f e t
     (∀ m, e.ptp = some m → m.version = 2 → m.type ≤ 1 → f.inPort < 4 → q < 4 →
       o.frame = some { e with ptp := some { m with correction := m.correction + s.residence f.inAt t } }) ∧
     (∀ m, e.ptp = some m → (m.version ≠ 2 ∨ 1 < m.type ∨ 4 ≤ f.inPort ∨ 4 ≤ q) → o.frame = some e) ∧
     (e.ptp = none → o.frame = some e) ∧
     (f.copy = none → f.frame = some e → NMap.look (s.putSent q f t).nw.sent q = some o) ∧
     (s.ttLocked = false → f.inAt ≤ t → s.residence f.inAt t = 65536 * ((t : Int) - f.inAt)) ∧
     (s.ttLocked = true → f.inAt ≤ t → s.residence f.inAt t =
       65536 * ((t : Int) - f.inAt) + 65536 * ((t : Int) - f.inAt) * s.lg.rate / 1000000000) ∧
     ((s.vlanUntag (portPlane q) f.vid).testBit (portBit q) = true → o.tag = none) ∧
     ((s.vlanUntag (portPlane q) f.vid).testBit (portBit q) = false → o.tag = some (f.vid, f.pcp)))

/-- Process and message data (R389 to R398, R295): a publication that is due counts, takes the latest dataset and goes out on its
planes; a copy that breaks a check of the header is discarded and counted, one that matches its entry is accepted; an entry and a
safe channel time out; the comparison window of a safe channel ends; a message's parts, its reply and its reassembly have their
ends. -/
def Obligations.TrainDataIsExchanged : Prop :=
  ∀ (s : State) (pl : Fin 2) (k t : Nat), s.live = true → s.pwState ≠ psSleep →
    let n := s.now t
    let l := n.tab
    let x := s.nwPd k
    let y := s.nwSdt k
    let m := s.nwMd k
    (∀ c tt ok, s.pwDown = false → l.pdUsed k = true → l.pdDir k = 1 → l.leasePd k = false → l.pdSdt k = false →
      l.pdLease k = false → n.pdDue k t = some (c, tt) →
      let z := x.settle t
      let inv := s.pdInvalid z
      s.leaves (.pdPublication k ok t) t
        ((((n.setNwPd k { z with counter := some c, pubAt := some t, pubTt := s.ttLocked,
                                 pubData := State.publish.padWords2 (l.pdLen k) z.buf, pubInvalid := inv }).pdStatus k
          (BitVec.ofNat 32 (c % 65536 * 65536) ||| (if inv then 4#32 else 0#32)) t).sendCopies k (if inv then 0 else l.pdLen k)
          t).pairsOpen k)) ∧
    (n.pdDue k t = none → s.leaves (.pdPublication k true t) t n) ∧
    (∀ c : PdCopy, s.wakesOn 6 = false →
      (c.udpLen < 40 ∨ c.hdrOk = false ∨ c.version ≠ 1 ∨ c.isPd = false ∨ c.dsLen + 40 ≠ c.udpLen ∨ 1432 < c.dsLen →
        s.leaves (.pdCopyReceived pl c t) t (n.bump R.NW_RX_DISC_CNT)) ∧
      (c.hdrOk = true → c.version = 1 → c.isPd = true → c.dsLen + 40 = c.udpLen → c.dsLen ≤ 1432 →
        (s.topoOk c.etb c.optrn = false → s.leaves (.pdCopyReceived pl c t) t
          (((n.bump R.NW_TOPO_DISC_CNT).wr R.NW_FLAGS_TOPO_DISC 1).raise 230 t)) ∧
        (s.topoOk c.etb c.optrn = true → ((List.range 2048).filter fun j => n.pdMatches j pl c) = [k] →
          (c.dsLen = 0 ∨ c.dsLen = l.pdLen k →
            let r := (n.pdTimedOut k (usAfter t)).pdEntryCopy k pl c (usAfter t)
            s.leaves (.pdCopyReceived pl c t) t
              ((r.1.pairCopies (if r.2 then [k] else []) c (usAfter t)).leaseCopy pl c t)) ∧
          (c.dsLen ≠ 0 → c.dsLen ≠ l.pdLen k → s.leaves (.pdCopyReceived pl c t) t
            ((n.bump R.NW_RX_DISC_CNT).leaseCopy pl c t))))) ∧
    (∀ c : PdCopy, s.tab.pdSdt k = false →
      (x.last = none ∨ x.status.getLsbD 1 = true → s.pdEntryCopy k pl c t = (s.pdAccept k pl c t, true)) ∧
      (∀ a, x.last = some a → x.status.getLsbD 1 = false →
        (0 < sdiff c.counter.toNat a 32 → s.pdEntryCopy k pl c t = (s.pdAccept k pl c t, true)) ∧
        (sdiff c.counter.toNat a 32 ≤ 0 → (s.pdEntryCopy k pl c t).2 = false ∧
          (c.counter.toNat ≠ a → (s.pdEntryCopy k pl c t).1 = s.bump R.NW_DUP_CNT)))) ∧
    (∀ a, s.tmoBase x.accAt = some a → l.pdUsed k = true → l.pdDir k = 2 → x.tmoDone = false → a + l.pdTimeout k * 1000000 ≤ t →
      (l.pdZero k = false → s.leaves (.pdTimeout k t) t
        (((n.setNwPd k { x with tmoDone := true }).pdStatus k ((x.status ||| 2#32) &&& ~~~1#32) t).pdEvent k (l.pdEvTmo k) t)) ∧
      (l.pdZero k = true → s.leaves (.pdTimeout k t) t
        ((((n.setNwPd k { x with tmoDone := true, data := [], len := 0 }).pdStatus k ((x.status ||| 2#32) &&& ~~~1#32) t).writeMaps k
          []).pdEvent k (l.pdEvTmo k) t))) ∧
    (∀ a, s.tmoBase y.accAt = some a → l.sdtUsed k = true → l.pdDir (l.sdtPd k) = 2 → y.tmoDone = false →
      a + l.sdtTmo k * 1000000 ≤ t →
      let u := (n.setNwSdt k { y with tmoDone := true, data := [], last := none, ref := none }).sdtStatus k
        ((y.status ||| 2#32) &&& ~~~1#32) t
      (l.pdZero (l.sdtPd k) = false → s.leaves (.sdtTimeout k t) t (u.pdEvent (l.sdtPd k) (l.pdEvTmo (l.sdtPd k)) t)) ∧
      (l.pdZero (l.sdtPd k) = true → s.leaves (.sdtTimeout k t) t
        ((u.writeMaps (l.sdtPd k) []).pdEvent (l.sdtPd k) (l.pdEvTmo (l.sdtPd k)) t))) ∧
    (∀ w, (y.wins.find? fun w => decide (w.t1 + l.sdtCmpWin k * 1000000 ≤ t)) = some w →
      let u := n.setNwSdt k { y with wins := y.wins.erase w, closed := w.c :: y.closed }
      (l.sdtSingleOk k = false → s.leaves (.sdtCompareWindowEnd k t) t u) ∧
      (l.sdtSingleOk k = true → s.leaves (.sdtCompareWindowEnd k t) t (u.sdtDeliver k w.c (planeBit w.plane) w.data t))) ∧
    (∀ (g : MdMsg), g.dg = none → g.whole = true →
      (s.wakesOn 6 = false → s.topoOk g.etb g.optrn = true → g.type ≠ .mp → s.leaves (.mdMessageReceived pl g t) t
        ((List.range 256).foldl (fun s j => s.mdSession j pl g t) n)) ∧
      (l.mdUsed k = true → l.mdComId k = g.comId → n.mdPlaneNow k = pl.val → g.type = .mn → l.mdRole k = mdListener →
        (l.mdPeer k = 0 ∨ l.mdPeer k = g.src) → m.queue.length < l.mdDepth k → g.len ≤ l.mdMax k → l.mdEvRx k = false →
        n.mdSession k pl g t = (n.setNwMd k { m with
          queue := m.queue ++ [{ src := g.src, sid := g.sid, len := g.len, data := g.data }] }).mdStatus k t)) ∧
    (∀ (g : MdMsg) d, s.wakesOn 6 = false → g.dg = some d → g.whole = false → s.nw.frags.length < 8 → NMap.look s.nw.frags d = none →
      s.leaves (.mdMessageReceived pl g t) t { n with nw := { s.nw with frags := NMap.put s.nw.frags d t } }) ∧
    (∀ sid a, m.outstanding = some (sid, a) → a + l.mdReplyTmo k * 1000000 ≤ t → s.leaves (.mdReplyTimeout k t) t
      ((n.setNwMd k { m with outstanding := none, replyTmo := true }).mdStatus k t)) ∧
    (∀ a, NMap.look s.nw.frags k = some a →
      (a + 100000000 ≤ t → s.leaves (.mdReassemblyTimeout k t) t { n with nw := { s.nw with frags := NMap.del s.nw.frags k } }) ∧
      (t < a + 100000000 → s.leaves (.mdReassemblyTimeout k t) t n))

/-- Precision time (R382 to R384): a Sync of the selected master on the plane in use gives its offset once a delay is known, at once
or with its Follow_Up; a delay request goes out once its interval has passed and leaves its stamp, its response a delay, of the last eight that are not negative; a master
that is not qualified is ignored, one that is enters the selection; silent masters leave it, and where only the other plane has one left
the clock changes over to it. -/
def Obligations.ClockFollowsItsMaster : Prop :=
  ∀ (s : State) (pl : Fin 2) (m : PtpFrom) (t : Nat), s.live = true → s.pwState ≠ psSleep →
    let n := s.now t
    let p := s.nw.ptp
    (∀ t1 cs t2 : Int, s.fromMaster pl m = true →
      s.leaves (.syncReceived pl m true t1 cs t2 t) t
        ((n.wr R.NW_PTP_STAT_TWO_STEP 1).setPtp { p with syncWait := some (t2, cs) }) ∧
      (p.kept = [] → s.leaves (.syncReceived pl m false t1 cs t2 t) t
        ((n.wr R.NW_PTP_STAT_TWO_STEP 0).setPtp { p with fwd := some (t2 - t1 - cs), syncWait := none })) ∧
      (p.kept ≠ [] → s.leaves (.syncReceived pl m false t1 cs t2 t) t
        ((n.wr R.NW_PTP_STAT_TWO_STEP 0).setPtp { p with
          fwd := some (t2 - t1 - cs), syncWait := none, meas := p.meas ++ [t2 - t1 - cs - p.kept.sum / p.kept.length] })) ∧
      (∀ c0, p.syncWait = some (t2, c0) → s.leaves (.followUpReceived pl m t1 cs t) t (n.syncDone (t2 - t1 - (c0 + cs))))) ∧
    (∀ t1 cs t2 : Int, s.fromMaster pl m = false → s.leaves (.syncReceived pl m false t1 cs t2 t) t n ∧
      s.leaves (.followUpReceived pl m t1 cs t) t n ∧ s.leaves (.delayRespReceived pl m t1 cs t) t n) ∧
    (∀ t3 : Int, (s.ptpState = pcUncal ∨ s.ptpState = pcSlave →
        ((∀ a, p.reqAt = some a → a + s.dreqInterval ≤ t) → s.leaves (.delayReqSend t3 t) t
          (((n.setPtp { p with t3 := some t3, reqAt := some t, reqNo := p.reqNo + 1 }).sendCtl (n.ownPorts s.ptpPlane) 7
            (dreqBytes (s.rd R.NW_PTP_CFG_TRANSPORT)) .delayReq t).learn s.ptpPlane (Config.nwMac s.ptpPlane) (4 + s.ptpPlane) t)) ∧
        (∀ a, p.reqAt = some a → t < a + s.dreqInterval → s.leaves (.delayReqSend t3 t) t n)) ∧
      (s.ptpState = pcListening → s.leaves (.delayReqSend t3 t) t n)) ∧
    (∀ t3 t4 cd f : Int, s.fromMaster pl m = true → p.t3 = some t3 → p.fwd = some f →
      let d := (f + (t4 - t3 - cd)) / 2
      let kept := if 0 ≤ d then (d :: p.kept).take 8 else p.kept
      s.leaves (.delayRespReceived pl m t4 cd t) t ((n.setPtp { p with t3 := none, kept := kept }).wr R.NW_PTP_MPD
        (min (2 ^ 32 - 1) (ptpMean kept).toNat))) ∧
    (∀ a : Announce, (s.qualified a = false → s.leaves (.announceReceived pl a t) t n) ∧
      (s.qualified a = true → s.leaves (.announceReceived pl a t) t
        ((n.setPtp { p with masters := (p.masters.filter fun m => !(m.1 == pl.val && m.2.1.sender == a.sender)) ++
          [(pl.val, a, t)] }).ptpSelect t))) ∧
    ((∀ a ∈ p.masters, t < a.2.2 + annTimeout a.2.1 ∧ a.1 = s.ptpPlane) →
      s.leaves (.announceTimeout t) t (n.ptpSelect t)) ∧
    (∀ a, Cells.wf s.rf.eff = true → p.masters = [a] → t < a.2.2 + annTimeout a.2.1 → a.1 ≠ s.ptpPlane → p.useAt + annTimeout a.2.1 ≤ t →
      s.leavesSome (.announceTimeout t) t fun u => u.ptpPlane = 1 - s.ptpPlane ∧ u.nw.ptp.useAt = t ∧ u.nw.ptp.kept = [])

/-- CAN FD (R403 to R416): a candidate rate is left after 100 ms, or adopted; a frame received without error goes to its lowest
matching buffer, else into the FIFO or, where that is full or does not match, is discarded and counted, and a SYNC frame is seen; the host's window locks, is released and unlocks after 10 ms; a frame in progress completes or fails, TEC by its
rules, into bus-off at 256, and is sent again unless nothing may be sent; recovery; a timed frame is due at its target and, unless it has been in progress, missed at its late limit; a PDO times out, is queued by
its timer and after its inhibit time; SYNC is produced. -/
def Obligations.CanControllersWork : Prop :=
  ∀ (s : State) (c : Fin 4) (b : Fin 64) (t : Nat), s.live = true → s.pwState ≠ psSleep →
    let n := s.now t
    let k := s.can c
    let x := s.cbuf c b
    let st := s.canSt c
    let l := n.tab
    (st = ceDetect → n.candidate c 0 ≠ 0 →
      (k.candStart + 100000000 ≤ t → s.leaves (.rateCandidateTimeout c t) t (n.tryCandidate c (k.cand + 1) t)) ∧
      (t < k.candStart + 100000000 → s.leaves (.rateCandidateTimeout c t) t n) ∧
      (∀ e, s.leaves (.canBusError c e t) t (n.tryCandidate c (k.cand + 1) t)) ∧
      (s.wakesOn 7 = false → ∀ w ok, s.leaves (.canFrameReceived c w ok t) t (n.rateAdopt c t))) ∧
    (s.wakesOn 7 = false → st = ceActive ∨ st = cePassive → k.integrating = false → ∀ w : List Word,
      let d := rxDesc w
      let r := s.rd R.CN_STAT_REC c
      let n0 := n.wr R.CN_STAT_REC (if 127 < r then 119 + Config.canRecAfter r % 9 else r - 1) c
      let n1 := n0.canErrState c (n0.rd R.CN_STAT_TEC c) t
      let fs := (n1.can c).fifo
      let takes := fun j => l.canUsed c j && l.canDir c j == 1 && idMatch (l.canIde c j) (l.canId c j) (l.canMask c j) (d.getD 0 0)
      let fifo := s.rd R.CN_CTRL_FIFO_EN c = 1 ∧
        idMatch ((l.canWord c 4).getLsbD 29) (fieldOf (l.canWord c 4) 28 0) (fieldOf (l.canWord c 5) 28 0) (d.getD 0 0) = true
      let sync := fun u : State => if (d.getD 0 0).toNat % 2 ^ 31 = s.rd R.CN_SYNC_SYNC_ID c ∧ fieldOf (d.getD 1 0) 3 0 = 0 ∧
        (d.getD 1 0).getLsbD 8 = false then u.syncSeen c t else u
      (takes b = true → (∀ j < b.val, takes j = false) → s.leaves (.canFrameReceived c w true t) t (sync (n1.canGive c b d t))) ∧
      ((∀ j < 64, takes j = false) →
        (¬ fifo → s.leaves (.canFrameReceived c w true t) t (sync ((n1.bump R.CN_CNT_RX_DISC c).wr R.CN_FLAGS_RX_DISC 1 c))) ∧
        (fifo → 32 ≤ fs.length → s.leaves (.canFrameReceived c w true t) t
          (sync (((n1.bump R.CN_CNT_RX_DISC c).wr R.CN_FLAGS_FIFO_OVF 1 c).canEvent c 3 t))) ∧
        (fifo → fs.length < 32 →
          let m := (n1.setCan c { n1.can c with fifo := fs ++ [d] }).wr R.CN_STAT_FIFO_FILL (fs.length + 1) c
          s.leaves (.canFrameReceived c w true t) t (sync (if fs = [] then m.canEvent c 3 t else m))))) ∧
    (∀ w, st ≠ ceDetect → s.leaves (.canFrameReceived c w false t) t n) ∧
    s.leaves (.hbufLockRead c b t) t ((n.setCbuf c b { x with lockedAt := some t }).wr R.CN_BUF_STAT_LOCKED 1 c b) ∧
    (∀ a, x.lockedAt = some a →
      let u := ((n.setCbuf c b { x with lockedAt := none, win := x.copy.getD x.win, copy := none }).wr R.CN_BUF_STAT_LOCKED 0 c b).wr
        R.CN_BUF_STAT_OVERWR 0 c b
      s.leaves (.hbufReleaseRead c b t) t u ∧
      (a + 10000000 ≤ t → s.leaves (.hbufLockTimeout c b t) t (u.wr R.CN_FLAGS_LOCK_TMO 1 c))) ∧
    (x.lockedAt = none → s.leaves (.hbufReleaseRead c b t) t n ∧ s.leaves (.hbufLockTimeout c b t) t n) ∧
    (s.inProgress c b = true →
      let u := n.wr R.CN_STAT_TEC (s.rd R.CN_STAT_TEC c - 1) c
      s.leaves (.canTxComplete c (some b) t) t
        (((u.bump R.CN_BUF_STAT_COUNT c b).canMoveUp c b).canErrState c (u.rd R.CN_STAT_TEC c) t)) ∧
    (s.inProgress c b = false → s.leaves (.canTxComplete c (some b) t) t n ∧
      (∀ arb, s.leaves (.canTxError c (some b) arb t) t n)) ∧
    (s.inProgress c b = true → n.canGated c = false →
      let u := n.wr R.CN_BUF_STAT_IN_PROGRESS 0 c b
      s.leaves (.canTxError c (some b) true t) t u ∧
      s.leaves (.canTxError c (some b) false t) t ((u.wr R.CN_STAT_TEC
        (min 255 (s.rd R.CN_STAT_TEC c + 8)) c).canErrState c (s.rd R.CN_STAT_TEC c + 8) t)) ∧
    (s.inProgress c b = true → n.canGated c = true → s.leaves (.canTxError c (some b) true t) t
      (((n.wr R.CN_BUF_STAT_IN_PROGRESS 0 c b).setCbuf c b { x with tx := none, next := none }).txPending c b)) ∧
    (k.syncProg = true → n.canGated c = false → s.leaves (.canTxError c none true t) t
      (n.setCan c { k with syncProg := false })) ∧
    (∀ tec, 256 ≤ tec → st ≠ ceBusOff →
      let u := s.canErrState c tec t
      u.canSt c = ceBusOff ∧ (u.can c).boUntil = t + s.rd R.CN_CTRL_BO_DELAY c * 100000000 ∧ u.rd R.CN_FLAGS_BUS_OFF_SEEN c = 1) ∧
    (st = ceBusOff → k.boUntil ≤ t → s.leaves (.busOffDelayEnd c t) t (n.wr R.CN_STAT_STATE ceRecovering c)) ∧
    (st = ceRecovering → s.leaves (.busOffReturn c t) t
      ((((n.wr R.CN_STAT_STATE ceActive c).wr R.CN_STAT_TEC 0 c).wr R.CN_STAT_REC 0 c).canEvent c 0 t)) ∧
    (st = ceOff → (∀ e, s.leaves (.canBusError c e t) t n) ∧ s.leaves (.busOffReturn c t) t n ∧ s.leaves (.busOffDelayEnd c t) t n) ∧
    s.leaves (.canIntegration c t) t (n.setCan c { k with integrating := false }) ∧
    (s.canMaySend c = true → s.canBusy c = false →
      (s.canNext c = some (some b.val) → s.leaves (.canTxStart c (some b) t) t 
        ((n.setCbuf c b { x with tx := x.tx.map fun f => { f with begun := true } }).wr R.CN_BUF_STAT_IN_PROGRESS 1 c b)) ∧
      (s.canNext c = some none → s.leaves (.canTxStart c none t) t (n.setCan c { k with syncProg := true, syncBegun := true }))) ∧
    (s.canBusy c = true → s.leaves (.canTxStart c (some b) t) t n) ∧
    (∀ f tt tgt now, x.tx = some f → s.baseUs tt t = some now →
      (f.held = some (tt, tgt) → reached now tgt 32 = true → s.leaves (.ctxtDue c b t) t
        ((n.setCbuf c b { x with tx := some { f with held := none } }).txPending c b)) ∧
      (f.target = some (tt, tgt) → 0 < s.rd R.CN_CTRL_LATE_LIM c → x.next = none →
        (f.begun = true → s.leaves (.ctxtMissed c b t) t n) ∧ (f.begun = false → reached now (tgt + s.rd R.CN_CTRL_LATE_LIM c : Nat) 32 = true →
        s.leaves (.ctxtMissed c b t) t (((((n.setCbuf c b { x with tx := none, next := none }).wr R.CN_BUF_STAT_MISSED 1 c b).wr
          R.CN_FLAGS_TX_MISSED 1 c).canEvent c 4 t).txPending c b)))) ∧
    (x.tx = none → x.next = none → s.leaves (.ctxtDue c b t) t n ∧ s.leaves (.ctxtMissed c b t) t n) ∧
    (∀ a, l.canUsed c b = true → l.canDir c b = 1 → l.canPdo c b = true → 0 < l.canTmr c b → s.tmoBase x.lastRx = some a →
      a + l.canTmr c b * 1000000 ≤ t → x.pdoStatus.getLsbD 1 = false → NMap.look s.maps (0x1000 + 64 * c.val + b.val) = none →
      s.leaves (.pdoTimeout c b t) t (((n.setCbuf c b { x with pdoStatus := (x.pdoStatus ||| 2#32) &&& ~~~1#32 }).wr
        R.CN_BUF_STAT_TIMEOUT 1 c b).canEvent c 5 t)) ∧
    (n.txPdo c b 2 = true → 0 < l.canTmr c b → x.lastQueue = none → s.leaves (.pdoEventTimer c b t) t (n.pdoQueue c b t)) ∧
    (x.deferred = true → s.leaves (.pdoInhibitEnd c b t) t (n.pdoQueue c b t)) ∧
    (x.deferred = false → s.leaves (.pdoInhibitEnd c b t) t n) ∧
    (0 < s.rd R.CN_SYNC_SYNC_PERIOD c → k.lastSync + s.rd R.CN_SYNC_SYNC_PERIOD c * 1000000 ≤ t → n.canGated c = false →
      st ≠ ceOff → s.leaves (.syncProduce c t) t ((n.setCan c { k with lastSync := t, syncTx := true, syncNext := k.syncBegun }).syncSeen c t))

/-- The rack bridge (R418 to R426, R431): a request is taken, or completes with TARGET_RESET where its window no longer holds it; the
bus goes to the next requesting slot after the last one granted; an answer, an error and a timeout complete the open request with
their code and data; reset and a lost clock complete every request with TARGET_RESET and show; a rack interrupt raises its event. -/
def Obligations.BridgeServesRequests : Prop :=
  ∀ (s : State) (q : BrReq) (t : Nat), s.live = true → s.pwState ≠ psSleep →
    let n := s.now t
    let b := s.br
    (∀ r, b.queue = q :: r → b.opn = none → s.brReady = true →
      (s.brSize q.win < q.ofs + brWidth q.wid → s.leaves (.srbRequestStart t) t
        ((((n.setBr { b with queue := r }).brFinish q rcTargetReset 0 0 t).wr R.BR_FLAGS_STALE 1).brCount)) ∧
      (q.ofs + brWidth q.wid ≤ s.brSize q.win → s.leaves (.srbRequestStart t) t
        (((n.setBr { b with queue := r, opn := some q, reqAt := t }).wr R.BR_STAT_STATE bsArb).brCount))) ∧
    (b.queue = [] → s.leaves (.srbRequestStart t) t n) ∧
    (∀ reqs g, s.brState = bsIdle →
      brGrantee b.last (reqs &&& ~~~(1#4 <<< (s.slotCode % 4))) = some g → g ≠ s.slotCode % 4 →
      s.leaves (.srbGrant reqs t) t (n.setBr { b with last := g })) ∧
    (∀ reqs, s.brState = bsArb → b.opn = some q →
      brGrantee b.last ((reqs &&& ~~~(1#4 <<< (s.slotCode % 4))) ||| 1#4 <<< (s.slotCode % 4)) = some (s.slotCode % 4) →
      s.leaves (.srbGrant reqs t) t ((n.setBr { b with
        last := s.slotCode % 4, clock0 := some t, addr := s.brAddr q, be := brEnables (s.brAddr q) (brWidth q.wid),
        ad := if q.write then brDrive (s.rd R.BR_WIN_CFG_LANES q.win == 1) (s.brAddr q) (brWidth q.wid) q.data else 0 }).wr
        R.BR_STAT_STATE bsCycle)) ∧
    (∀ c ad, b.opn = some q → b.clock0 = some c →
      s.leaves (.srbAnswer false ad t) t ((n.brFinish q rcOk
        (brAssemble (s.rd R.BR_WIN_CFG_LANES q.win == 1) b.addr (brWidth q.wid) ad) 0 t).brClose) ∧
      (fieldOf ad 7 0 = 0xFE → s.leaves (.srbAnswer true ad t) t ((n.brFinish q rcTargetReset 0 0xFE t).brClose)) ∧
      (fieldOf ad 7 0 ≠ 0xFE → s.leaves (.srbAnswer true ad t) t
        ((n.brFinish q rcFarError (BitVec.ofNat 32 (fieldOf ad 7 0)) (fieldOf ad 7 0) t).brClose)) ∧
      (c + 1000 * s.rd R.BR_WIN_CFG_TMO q.win ≤ t → s.leaves (.srbAnswerTimeout t) t ((n.brFinish q rcTimeout 0 0 t).brClose))) ∧
    (b.opn = none → s.leaves (.srbAnswerTimeout t) t n ∧ (∀ e ad, s.leaves (.srbAnswer e ad t) t n)) ∧
    (b.opn = some q → s.brState = bsArb → b.reqAt + 1000 * s.rd R.BR_CFG_ARB_TMO ≤ t → s.leaves (.srbArbTimeout t) t
      (((n.brFinish q rcTimeout 0 0 t).brClose).wr R.BR_FLAGS_ARB_TMO 1)) ∧
    s.leaves (.srbReset t) t ((((n.setBr { b with rst := true, last := 3 }).wr R.BR_FLAGS_SRB_RESET_SEEN 1).brNotReady t).raise 354 t) ∧
    (b.clk = true → s.leaves (.srbClockLost t) t
      ((((n.setBr { b with clk := false }).wr R.BR_FLAGS_CLK_LOST 1).brNotReady t).raise 355 t)) ∧
    (b.clk = false → s.leaves (.srbClockLost t) t n) ∧
    (s.brReady = true → s.leaves (.srbReady t) t n) ∧
    (b.clk = true → b.rst = true → s.leaves (.srbReady t) t
      (((n.raise 354 t).setBr { b with rst := false }).wr R.BR_STAT_STATE bsIdle)) ∧
    (b.clk = false → b.rst = false → s.leaves (.srbReady t) t
      (((n.raise 355 t).setBr { b with clk := true }).wr R.BR_STAT_STATE bsIdle)) ∧
    (∀ k : Fin 4, (s.bit R.BR_CFG_IRQ_EN k = true → s.leaves (.srbIrq k t) t (n.raise (356 + k.val) t)) ∧
      (s.bit R.BR_CFG_IRQ_EN k = false → s.leaves (.srbIrq k t) t n)) ∧
    (∀ (inv : Bool) (a w : Nat) (v : Word), w = 1 ∨ w = 2 ∨ w = 4 → a % 4 + w ≤ 4 →
      brAssemble inv a w (brDrive inv a w v) = v &&& BitVec.ofNat 32 (2 ^ (8 * w) - 1))

/-- Lease messages (R432 to R437, R446, R447): a member in a group sends every steep/4, a RENEW as holder and else a STATUS; a
message that is damaged, of another group or of another steep is discarded and counted; one with the own slot and another serial
shows DUP_ID; one that passes is heard and takes effect; a RENEW is acknowledged and a holder with a higher slot yields; an ACK
from every member alive advances h_a; a member silent for steep/2 is no longer alive; the status sample is delivered 10 ms after
the latest. -/
def Obligations.LeaseMessagesAreServed : Prop :=
  ∀ (s : State) (m : LeaseMsg) (i : Fin 3) (t : Nat), s.live = true → s.pwState ≠ psSleep →
    let n := s.now t
    (s.rdEn = false → s.leaves (.leaseMessageSend t) t n ∧ s.leaves (.leaseMessageReceived m t) t n) ∧
    (s.rdEn = true → (s.rd_.periodAt = none ∨ ∃ p, s.rd_.periodAt = some p ∧ p + s.steep / 4 ≤ t) →
      (s.role = rrHolder → s.aliveSlots = [] → s.leavesSome (.leaseMessageSend t) t fun u =>
        u.rd_.ackAt = t ∧ u.rd_.periodAt = some t ∧ (∃ x, u.rd_.out.head? = some x ∧ x.msg.type = ltRenew ∧ x.msg.slot = s.ownSlot ∧
          x.planes = [0, 1].filter (s.rd R.RD_CFG_PATHS).testBit ∧ x.links = s.leaseLinks)) ∧
      (s.role ≠ rrHolder → s.leavesSome (.leaseMessageSend t) t fun u =>
        u.rd_.periodAt = some t ∧ u.rd_.ackAt = s.rd_.ackAt ∧
        (∃ x, u.rd_.out.head? = some x ∧ x.msg.type = ltStatus ∧ x.msg.slot = s.ownSlot ∧
          x.msg.seq = BitVec.ofNat 32 (s.rd_.seq + 1)))) ∧
    (∀ p, s.rd_.periodAt = some p → t < p + s.steep / 4 → s.leaves (.leaseMessageSend t) t n) ∧
    (s.rdEn = true → (leaseCrcOk m = false ∨ m.group.toNat ≠ s.rd R.RD_GROUP_ID) →
      s.leaves (.leaseMessageReceived m t) t (n.bump R.RD_RX_DISC_CNT)) ∧
    (s.rdEn = true → leaseCrcOk m = true → m.group.toNat = s.rd R.RD_GROUP_ID →
      (m.steep ≠ s.rd R.RD_TIMING_STEEP →
        s.leaves (.leaseMessageReceived m t) t ((n.bump R.RD_RX_DISC_CNT).wr R.RD_FLAGS_CFG_MISMATCH 1)) ∧
      (m.steep = s.rd R.RD_TIMING_STEEP → m.slot = s.ownSlot → m.serial ≠ BitVec.ofNat 32 Config.serial →
        s.leaves (.leaseMessageReceived m t) t ((n.setRd { s.rd_ with dupAt := some t }).wr R.RD_FLAGS_DUP_ID 1)) ∧
      (m.steep = s.rd R.RD_TIMING_STEEP → m.slot = s.ownSlot → m.serial = BitVec.ofNat 32 Config.serial →
        s.leaves (.leaseMessageReceived m t) t n) ∧
      (m.steep = s.rd R.RD_TIMING_STEEP → m.slot ≠ s.ownSlot → s.rd_.members = [] → m.rank = s.rd R.RD_MEMBER_RANK 0 →
        s.leaves (.leaseMessageReceived m t) t (((n.memberHeard 0 m t).gotMessage m t).rdSample t))) ∧
    (s.role ≠ rrHolder → s.gotRenew m t = ((s.rdSend ltAck m.seq.toNat t).rdFollower t).wr R.RD_STATE_HOLDER m.slot) ∧
    (s.role = rrHolder →
      let a := s.rdSend ltAck m.seq.toNat t
      (m.slot < s.ownSlot → s.gotRenew m t =
        (((a.stopActing t).rdFollower t).wr R.RD_FLAGS_DUAL_HOLDER 1).wr R.RD_STATE_HOLDER m.slot) ∧
      (s.ownSlot ≤ m.slot → s.gotRenew m t = a)) ∧
    (∀ x : RdRenew, s.role = rrHolder → s.rd_.renews = [x] → x.n = m.ref.toNat → t < x.at_ + s.steep / 4 → x.alive = [m.slot] →
      s.gotAck m t = s.setRd { s.rd_ with renews := [], ackAt := max s.rd_.ackAt x.at_ }) ∧
    (∀ x, s.rd_.members[i.val]? = some x → s.rd R.RD_MEMBER_ALIVE i = 1 →
      (x.at_ + s.steep / 2 ≤ t → s.leaves (.memberAliveExpiry i t) t (((n.wr R.RD_MEMBER_ALIVE 0 i).raise 386 t).rdSample t)) ∧
      (t < x.at_ + s.steep / 2 → s.leaves (.memberAliveExpiry i t) t n)) ∧
    (t < s.rd_.sampleAt + 10000000 → s.leaves (.rdStatusSample t) t n) ∧
    (s.rd_.sampleAt + 10000000 ≤ t → s.rdWords = s.rd_.status →
      let u := n.setRd { s.rd_ with sampleAt := t }
      (∀ w, NMap.look s.maps 0x2000 = some w → s.leaves (.rdStatusSample t) t
        (u.deliverWords w [s.rdWords.1, s.rdWords.2, BitVec.ofNat 32 s.rd_.changeAt] t)) ∧
      (NMap.look s.maps 0x2000 = none → s.leaves (.rdStatusSample t) t u))

/-- The mastership lease (R436 to R438, R442, R444, R446): a holder gives the lease up at h_a + S − G; a follower or a listening
module claims after S + G and takes the lease after a further S/4 where it may; RELEASE and HANDOVER are a holder's, and count as
clamped elsewhere; BAR and UNBAR; a publication without a partner's copy is not compared. -/
def Obligations.LeaseChangesHands : Prop :=
  ∀ (s : State) (k : Fin 64) (succ_ : Fin 256) (t : Nat), s.live = true → s.pwState ≠ psSleep →
    let n := s.now t
    let clamp := n.bump (R.BLK_CLAMP_CNT_COUNT.at .rd)
    (s.role = rrHolder →
      (s.rd_.ackAt + s.steep ≤ t + s.rdGuard →
        s.leaves (.actingExpiry t) t ((n.rdGiveUp ltRelease 0 t).wr R.RD_FLAGS_LOST 1)) ∧
      (t + s.rdGuard < s.rd_.ackAt + s.steep → s.leaves (.actingExpiry t) t n) ∧
      s.leaves (.rdRelease t) t (n.rdGiveUp ltRelease 0 t) ∧
      s.leaves (.rdHandover succ_ t) t (n.rdGiveUp ltHandover succ_ t) ∧
      s.leaves (.claimTimeout t) t n ∧ s.leaves (.leaseTake t) t n) ∧
    (s.role ≠ rrHolder → s.leaves (.actingExpiry t) t n ∧ s.leaves (.rdRelease t) t clamp ∧ s.leaves (.rdHandover succ_ t) t clamp) ∧
    (s.rdEn = true → (s.role = rrListening ∨ s.role = rrFollower) → s.mayClaim t = true →
      (s.rd_.base + s.steep + s.rdGuard ≤ t → s.leavesSome (.claimTimeout t) t fun u =>
        u.role = rrClaiming ∧ u.rd_.claimAt = t ∧ (∃ x, u.rd_.out.head? = some x ∧ x.msg.type = ltClaim)) ∧
      (t < s.rd_.base + s.steep + s.rdGuard → s.leaves (.claimTimeout t) t n)) ∧
    (s.role = rrClaiming → s.mayClaim t = true →
      (s.rd_.claimAt + s.steep / 4 ≤ t → s.leavesSome (.leaseTake t) t fun u => u.role = rrHolder ∧ u.rd_.ackAt = t) ∧
      (t < s.rd_.claimAt + s.steep / 4 → s.leaves (.leaseTake t) t n)) ∧
    s.leaves (.rdBar t) t ((n.setRd { s.rd_ with bar := true }).wr R.RD_STATE_BARRED 1) ∧
    (s.cmpFault = false ∨ s.barred = false →
      s.leaves (.rdUnbar t) t ((n.setRd { s.rd_ with bar := false }).wr R.RD_STATE_BARRED 0)) ∧
    (s.cmpFault = true → s.barred = true → s.leaves (.rdUnbar t) t n) ∧
    (let due := (s.rdPair k).opn.find? fun u => decide (u.at_ + 1000 * n.tab.pdCycle (n.pairPub k) ≤ t)
     (due = none → s.leaves (.comparisonWindowEnd k t) t n) ∧
     (∀ x, due = some x → k.val ∈ n.pairs →
       s.leaves (.comparisonWindowEnd k t) t ((n.pairJudge k x rcNotCompared t).rdSample t)))

/-- The event recorder (R449 to R451, R455, R456, R458): the record at the head of staging is programmed with the next SEQ, or
leaves a torn copy; a fetch runs once at a time on a port and finds the first record from the SEQ asked for; a challenge is open for
10 s and taken in MAINT only, and GO closes it, clearing on the right response and else recording CLEAR_FAIL; recovery makes the recorder ready with POWER_UP
at the head; the erase ends. -/
def Obligations.RecorderWorks : Prop :=
  ∀ (s : State) (p : Port) (ok : Bool) (session t : Nat), s.live = true → s.pwState ≠ psSleep →
    let n := s.now t
    let q := portNo p
    (n.stagedRecs = [] → s.leaves (.recordWrite ok t) t n) ∧
    (∀ r rest, n.stagedRecs = r :: rest → s.rd R.ER_STATE_STATE ≠ erRecovering → s.er.free + r.size ≤ erBlockBytes →
      let x : FlashRec := { seq := s.nextSeq, block := s.er.cur, ofs := s.er.free, valid := ok, entry := r }
      let u : State := { n with er := { s.er with log := s.er.log ++ [x], free := s.er.free + r.size } }
      (ok = true → s.leaves (.recordWrite true t) t
        ((u.setStaged rest).setNextSeq (s.nextSeq + 1))) ∧
      (ok = false → s.leaves (.recordWrite false t) t (u.wr R.ER_FLAGS_TORN 1))) ∧
    (s.rd R.ER_RD_STAT_STAT q = fsBusy → s.leaves (.erFetch p t) t (n.bump (R.BLK_CLAMP_CNT_COUNT.at .er)) ∧
      (let want := max (s.rd R.ER_RD_SEQ_SEQ q 0 + s.rd R.ER_RD_SEQ_SEQ q 1 * 2 ^ 32) s.firstSeq
       ((∀ r ∈ s.validRecs, ¬ (want ≤ r.seq ∧ r.seq < s.nextSeq)) →
         s.leaves (.erFetchDone p t) t (n.wr R.ER_RD_STAT_STAT fsNotFound q)) ∧
       (∀ r rs, s.validRecs = r :: rs → want ≤ r.seq → r.seq < s.nextSeq → s.leaves (.erFetchDone p t) t
         ((((n.setEr { s.er with bufs := NMap.put s.er.bufs q (wordsFromBytes (r.entry.bytes r.seq)) }).wr
           R.ER_RD_SEQ_SEQ (r.seq % 2 ^ 32) q 0).wr R.ER_RD_SEQ_SEQ (r.seq / 2 ^ 32) q 1).wr R.ER_RD_STAT_STAT fsFound q)))) ∧
    (s.rd R.ER_RD_STAT_STAT q ≠ fsBusy →
      s.leaves (.erFetch p t) t (n.wr R.ER_RD_STAT_STAT fsBusy q) ∧ s.leaves (.erFetchDone p t) t n) ∧
    (s.mode ≠ mdMaint → s.leaves (.clearReq t) t n ∧ s.leaves (.clearGo p session t) t n) ∧
    (s.mode = mdMaint → s.leavesSome (.clearReq t) t fun u => u.er.challenge = some ((List.range 16).map (Config.nonceByte s.free), t + 10000000000) ∧
      u.free = s.free + 1) ∧
    (s.er.challenge = none → s.leaves (.clearChallengeExpiry t) t n) ∧
    (∀ c e, s.er.challenge = some (c, e) →
      (e ≤ t → s.leaves (.clearChallengeExpiry t) t n.clearClose ∧
        (s.mode = mdMaint → s.leavesSome (.clearGo p session t) t fun u => u.er.challenge = none ∧ u.er.eraseBelow = s.er.eraseBelow ∧
          u.rd R.ER_FLAGS_CLR_FAIL = 1)) ∧
      (t < e → s.leaves (.clearChallengeExpiry t) t n ∧
        (let lo := s.rf.word (R.ER_CLR_SCOPE_UPTO_LO.addr 0)
         let hi := s.rf.word (R.ER_CLR_SCOPE_UPTO_HI.addr 0)
         ((List.range 4).flatMap fun k => wordBytes (NMap.get s.er.response 0 k)) =
           (hmac s.er.clrKey (c ++ wordBytes lo ++ wordBytes hi ++ leBytes (Config.serial % 2 ^ 32) 4)).take 16 →
         s.mode = mdMaint → hi.getLsbD 31 = true → s.leavesSome (.clearGo p session t) t fun u =>
           u.er.challenge = none ∧ u.er.eraseBelow = some s.nextSeq ∧ u.rd R.ER_STATE_ERASING = 1))) ∧
    (s.rd R.ER_STATE_STATE ≠ erRecovering → s.leaves (.recorderRecovery t) t n) ∧
    (s.rd R.ER_STATE_STATE = erRecovering → s.er.log = [] →
      let v := (n.setFirstSeq 0).setNextSeq 0
      s.leaves (.recorderRecovery t) t (((v.setEr { v.er with unwritten := 0 }).stageHead
        [n.ownRec rtPowerUp (leBytes Config.noSeq 8 ++ leBytes s.er.unwritten 4) t]).wr R.ER_STATE_STATE erReady)) ∧
    (s.er.eraseBelow = none → s.leaves (.backgroundEraseEnd t) t n) ∧
    (∀ b, s.er.eraseBelow = some b → s.er.blocks = [] → s.leaves (.backgroundEraseEnd t) t
      ((n.setEr { s.er with eraseBelow := none }).wr R.ER_STATE_ERASING 0))

/-- Supply and hold-up (R459, R462 to R464, R466): an unpowered module boots when the supply returns, with nothing of its sessions and
its SRAM kept; a supply that returns inside the ride-through window is a ride-through; a loss opens the window, or with RIDE 0 enters
HOLDUP, as does the window's end; HOLDUP stops the lanes and stages SUPPLY_LOSS; a supply back while the save runs is noted; the save
ends; the bank's end leaves the module without power, with the staged records lost and counted where the save has ended. Stopped lanes
stay as they are (`State.keepLanes`). -/
def Obligations.SupplyComesAndGoes : Prop :=
  ∀ (s : State) (slot : Fin 4) (key torn : Bool) (sysOk : BitVec 2) (t : Nat),
    let n := s.now t
    let lost := (n.wr R.PW_STATE_SUPPLY_OK 0).setPw { s.pw with lostAt := some t, back := none }
    (s.pw.off = true ∨ (s.pwState = psHoldup ∧ s.pw.saving = none) → s.leavesSome (.supplyPresent slot key sysOk t) t fun u =>
      u.pw.off = false ∧ u.pw.frozen = false ∧ u.slotCode = slot ∧ u.hp.sessions = [] ∧ u.hp.creds = s.hp.creds ∧
      u.la.mem = [] ∧ u.lb.mem = [] ∧ u.lc.mem = [] ∧ u.er.log = s.er.log ∧ u.up.slots = s.up.slots) ∧
    (s.live = true →
      (∀ l, s.pw.lostAt = some l → s.pwState ≠ psHoldup →
        let e := l + 100000 * s.rd R.PW_STATE_RIDE
        (t < e → s.leaves (.supplyPresent slot key sysOk t) t (n.rideThrough l t)) ∧
        (e ≤ t → s.leaves (.supplyPresent slot key sysOk t) t ((n.holdup e).supplyBack slot key sysOk))) ∧
      (s.pw.lostAt = none → s.pwState = psRun → s.leaves (.supplyPresent slot key sysOk t) t n) ∧
      (s.rd R.PW_STATE_SUPPLY_OK = 0 → s.leaves (.supplyLost t) t n) ∧
      (s.rd R.PW_STATE_SUPPLY_OK = 1 → s.pwState = psRun → 0 < s.rd R.PW_STATE_RIDE → Cells.wf s.rf.eff = true → s.leaves (.supplyLost t) t lost) ∧
      (s.rd R.PW_STATE_SUPPLY_OK = 1 → s.pwState = psRun → s.rd R.PW_STATE_RIDE = 0 → Cells.wf s.rf.eff = true → s.leaves (.supplyLost t) t (lost.holdup t)) ∧
      (s.pw.lostAt = none → s.leaves (.holdupEntry t) t n) ∧
      (∀ l, s.pw.lostAt = some l → s.pwState ≠ psHoldup →
        (t < l + 100000 * s.rd R.PW_STATE_RIDE → s.leaves (.holdupEntry t) t n) ∧
        (l + 100000 * s.rd R.PW_STATE_RIDE ≤ t → s.leaves (.holdupEntry t) t (n.holdup t) ∧ (n.holdup t).pw.frozen = true ∧
          ∃ r, (n.holdup t).stagedRecs.head? = some r ∧ r.type = rtSupplyLoss))) ∧
    (s.pw.off = false →
      (s.pw.saving = none → s.pw.back = none → s.leaves (.retainedSaveEnd t) t (State.keepLanes s n)) ∧
      (∀ k r, s.pw.saving = some k → NMap.look s.pw.saves k = some r → s.pw.back = none → s.leaves (.retainedSaveEnd t) t
        (State.keepLanes s (n.setPw { s.pw with saves := NMap.put s.pw.saves k { r with crc := r.data.crc, ended := true }, saving := none }))) ∧
      (s.pwState = psHoldup → ∀ k, s.pw.saving = some k → s.leaves (.supplyPresent slot key sysOk t) t
        ((n.wr R.PW_STATE_SUPPLY_OK 1).setPw { s.pw with back := some (slot.val, key, sysOk) })) ∧
      (s.pwState ≠ psHoldup → s.leaves (.holdupBankEnd torn t) t (State.keepLanes s n)) ∧
      (s.pwState = psHoldup → s.rd R.PW_STATE_SUPPLY_OK = 0 → s.leavesSome (.holdupBankEnd torn t) t fun u =>
        u.pw.off = true ∧ u.pw.saving = none ∧ u.br.opn = none ∧ u.stagedRecs = [] ∧
        (∀ k r, s.latestSave = some (k, r) →
          let d := { r.data with unwritten := n.stagedRecs.length }
          (r.ended = true → u.er.unwritten = n.stagedRecs.length ∧
            u.pw.saves = NMap.put s.pw.saves k { r with crc := d.crc, data := d }) ∧
          (r.ended = false → u.er.unwritten = 0)) ∧
        (s.latestSave = none → u.er.unwritten = 0)))

/-- The balance, SLEEP and its wakes (R461, R467, R470, R471, R475, R476): STABLE from RUN sets the balance to the grant, TOPUP adds it,
UNSTABLE leaves STABLED, each refused elsewhere; a SLEEP request enters ENTERING; the quiet point; retention; abandonment; a wake source
in SLEEP wakes the module; B and H at 0. -/
def Obligations.BalanceAndSleep : Prop :=
  ∀ (s : State) (src : BitVec 9) (can irq : Fin 4) (chan : Fin 128) (t : Nat),
    let n := s.now t
    (s.live = true →
      (s.pwState ≠ psRun → s.leaves (.pwStable t) t (n.pwLast 1 plRefused)) ∧
      (s.pwState = psRun → s.leavesSome (.pwStable t) t fun u =>
        u.pwState = psStabled ∧ u.pw.bal = s.rd R.PW_BUDGET_GRANT * 1000000 ∧ u.pw.balZero = false ∧
        u.rd R.PW_CMD_STAT_LAST = plDone) ∧
      (s.pwState ≠ psStabled → s.leaves (.pwTopup t) t (n.pwLast 2 plRefused) ∧ s.leaves (.pwUnstable t) t (n.pwLast 3 plRefused)) ∧
      (s.pwState = psStabled →
        s.leavesSome (.pwTopup t) t (fun u => u.pw.bal = min (s.pw.bal + s.rd R.PW_BUDGET_GRANT * 1000000) ((2 ^ 32 - 1) * 1000000) ∧
          u.pwState = psStabled ∧ u.rd R.PW_CMD_STAT_LAST = plDone) ∧
        s.leavesSome (.pwUnstable t) t (fun u => u.pwState = psRun ∧ u.pw.bal = s.pw.bal ∧ u.rd R.PW_CMD_STAT_LAST = plDone)) ∧
      (s.mode ≠ mdRun → s.mode ≠ mdStop → s.leaves (.pwSleep t) t (n.pwLast 4 plRefused)) ∧
      (s.pwState = psRun ∨ s.pwState = psStabled → s.vstate = vsTriplex → s.vt.copies = [] → s.mode = mdRun ∨ s.mode = mdStop →
        s.leavesSome (.pwSleep t) t fun u => u.pwState = psEntering ∧ u.pw.before = s.pwState ∧ u.pw.entryAt = t ∧
          u.pw.quiet = false ∧ u.pw.armed = true ∧ u.pw.latch = none ∧ u.rd R.PW_CMD_STAT_LAST = plDone) ∧
      (s.pwState = psEntering →
        (n.front.quiet = true → t ≤ s.pw.entryAt + 20000000 →
          s.leaves (.sleepQuietPoint t) t (n.setPw { s.pw with quiet := true })) ∧
        (n.front.quiet = false → s.leaves (.sleepQuietPoint t) t n) ∧
        (s.pw.quiet = true → s.pw.abort = false → s.leaves (.sleepEntryAbandon t) t n ∧
          (s.pw.latch = none → s.leavesSome (.retentionCommit t) t fun u =>
            u.pw.frozen = true ∧ u.pwState = psSleep ∧ u.pw.retainedAt = t ∧ u.pw.distAt = s.lgStop.lg.dist)) ∧
        (s.pw.quiet = false → s.leaves (.retentionCommit t) t n) ∧
        (s.pw.abort = false → t < s.pw.entryAt + 20000000 → s.leaves (.sleepEntryAbandon t) t n) ∧
        (s.pw.abort = true ∨ (s.pw.quiet = false ∧ s.pw.entryAt + 20000000 ≤ t) → s.pw.before = psRun ∨ s.pw.before = psStabled → s.leavesSome (.sleepEntryAbandon t) t fun u =>
          u.pwState = s.pw.before ∧ u.rd R.PW_FLAGS_SLEEP_ABORT = 1 ∧ u.pw.armed = false ∧ u.pw.latch = none)) ∧
      (s.pwState ≠ psEntering → s.leaves (.sleepQuietPoint t) t n ∧ s.leaves (.retentionCommit t) t n ∧
        s.leaves (.sleepEntryAbandon t) t n) ∧
      (s.pw.balZero = false → s.leaves (.balanceExhausted t) t n) ∧
      (let u := (((n.setPw { s.pw with balZero := false }).wr R.PW_FLAGS_EXHAUSTED 1).raise 391 t).budgetRec 4 t
       s.pw.balZero = true →
        (u.rd R.PW_CFG_ON_EMPTY = 0 → s.leaves (.balanceExhausted t) t u) ∧
        (u.rd R.PW_CFG_ON_EMPTY = 1 → s.leaves (.balanceExhausted t) t (u.pwSleep t))) ∧
      (s.pw.heatZero = false → s.leaves (.heatCreditExhausted t) t n) ∧
      (s.pw.heatZero = true → s.leaves (.heatCreditExhausted t) t
        ((n.setPw { s.pw with heatZero := false }).wr R.PW_FLAGS_HEAT_LIMIT 1))) ∧
    (s.pw.off = false → s.recovering = false → s.pwState = psSleep → s.pw.armed = true → s.pw.latch = none →
      ((∀ c : Nat, 1 ≤ c → c ≤ 9 → n.wakeOccurs src can irq chan t c = false) →
        s.leaves (.wakeLatch src can irq chan t) t (State.keepLanes s n)) ∧
      (∀ c : Nat, 1 ≤ c → c ≤ 9 → n.wakeOccurs src can irq chan t c = true →
        (∀ k : Nat, 1 ≤ k → k < c → n.wakeOccurs src can irq chan t k = false) → s.pw.before = psRun ∨ s.pw.before = psStabled →
        Cells.wf s.rf.eff = true → s.leavesSome (.wakeLatch src can irq chan t) t fun u =>
          u.pwState = s.pw.before ∧ u.pw.frozen = false ∧ u.pw.armed = false ∧ u.pw.latch = none ∧
          u.rd R.PW_LAST_WAKE_SOURCE = c ∧ u.rd R.PW_LAST_WAKE_REPLAYED = 0 ∧
          u.rd R.PW_LAST_WAKE_STAMP_LO = t / 1000 % 2 ^ 32))

/-- Temperature, core voltage, references, flash and the hold-up bank (R476, R480 to R487): the warmest sensor counts; ten low slack
samples ask for a step of 5 mV, which is made, or fails; the working reference is corrected; a block with 20 or more corrected bits is
refreshed; the bank's C and ESR are measured once, and its time at the present draw follows. -/
def Obligations.AgeingIsWatched : Prop :=
  ∀ (s : State) (x : LaneId) (g : Fin 8) (slack ring block bits step fall t : Nat) (diff b0 : Int) (bs : List Int), s.live = true →
    s.pwState ≠ psSleep →
    let n := s.now t
    let v := s.vcore x
    let smp := (n.wr R.PW_VCORE_MIN_SLACK (satNat 10 slack) x).wr R.PW_VCORE_RING (satNat 32 ring) x
    s.leaves (.temperatureRead (b0 :: bs) t) t (n.wr R.PW_T_BOARD (fromSigned 16 (clampInt (-32768) 32767 (bs.foldl max b0)))) ∧
    (n.slackLo ≤ slack → s.leaves (.slackSample x slack ring t) t (smp.setVcore x { v with low := 0 })) ∧
    (slack < n.slackLo → v.low < 9 → s.leaves (.slackSample x slack ring t) t (smp.setVcore x { v with low := v.low + 1 })) ∧
    (slack < n.slackLo → 9 ≤ v.low → v.stepAt = none →
      (s.rd R.PW_VCORE_STEPS x < 20 →
        s.leaves (.slackSample x slack ring t) t (smp.setVcore x { v with low := v.low + 1, wanted := true })) ∧
      (20 ≤ s.rd R.PW_VCORE_STEPS x → s.leaves (.slackSample x slack ring t) t
        ((smp.setVcore x { v with low := v.low + 1 }).wr R.PW_FLAGS_TIMING_EXHAUSTED 1))) ∧
    (v.wanted = false → ∀ k a f, s.leaves (.vcoreStep x k a f t) t n) ∧
    (v.wanted = true →
      (∀ (k : StepBus) a f, 2 ≤ k.vout ∨ a = false ∨ f = true → s.leaves (.vcoreStep x k a f t) t
        (((List.range (min k.vout 2 + k.rest)).foldl (fun s _ => s.pmbusErr) (n.setVcore x { v with wanted := false })).wr
          R.PW_FLAGS_VCORE_FAIL 1)) ∧
      (s.rd R.PW_VCORE_STEPS x < 20 → ∀ k : StepBus, k.vout < 2 → s.leavesSome (.vcoreStep x k true false t) t fun u =>
        u.rd R.PW_VCORE_STEPS x = s.rd R.PW_VCORE_STEPS x + 1 ∧
        u.pw.vcore = NMap.put (NMap.put s.pw.vcore x { v with wanted := false }) x { v with wanted := false, stepAt := some t } ∧
        u.pw.planRefs = ((List.range 8).filter fun g => s.rd R.CH_GRP_STAT_POWERED g == 1) ∧
        u.pw.planScans = (s.pw.scans.filter fun p => decide (10 ≤ p.2)).map Prod.fst)) ∧
    (s.rd R.CH_GRP_STAT_POWERED g = 0 → s.leaves (.referenceCheck g diff t) t n) ∧
    (s.rd R.CH_GRP_STAT_POWERED g ≠ 0 →
      let c := clampInt (-200) 200 (NMap.get s.pw.refs 0 g - refStep diff)
      s.leaves (.referenceCheck g diff t) t ((n.setPw
        { s.pw with refs := NMap.put s.pw.refs g c, planRefs := s.pw.planRefs.erase g }).setMargin (12 + g) c.natAbs t)) ∧
    (let sc := NMap.put s.pw.scans block bits
     let owed := if s.owedRefs.isEmpty then s.pw.planScans.erase block else s.pw.planScans
     let u := (n.setPw { s.pw with scans := sc, planScans := owed }).setMargin 20 (sc.foldl (fun a c => max a c.2) 0) t
     (bits < 20 → s.leaves (.flashScan block bits false t) t u) ∧
     (20 ≤ bits → s.leaves (.flashScan block bits false t) t (u.bump R.PW_REFRESH_CNT)) ∧
     (s.rd R.UP_STATE_LOCK = 1 → s.leaves (.flashScan block bits true t) t n)) ∧
    (s.rd R.PW_STATE_HOLD_READY = 1 → s.leaves (.holdupMeasurement step fall t) t n) ∧
    (s.rd R.PW_STATE_HOLD_READY = 0 → 0 < fall → s.leaves (.holdupMeasurement step fall t) t
      ((((n.wr R.PW_HOLDUP_ESR (satNat 32 (step / 2))).wr R.PW_HOLDUP_C (satNat 32 (8000000 / fall))).wr
        R.PW_STATE_HOLD_READY 1).holdPlan t)) ∧
    (0 < s.rd R.PW_POWER → s.leaves (.holdupNowRefresh t) t
      (n.wr R.PW_HOLDUP_T_HOLD_NOW (satNat 32 (holdTime (s.rd R.PW_HOLDUP_C) (s.rd R.PW_HOLDUP_ESR) (s.rd R.PW_POWER)))))

/-- Boot (R501 to R503, R506): a copy check with no image left goes on without one; where every lane's copies of a selected pair are
whole and hash right that pair boots, its image in every lane, and a second copy attempt with a bad PROGRAM leaves no image; the ACK key held for 5 s enters MAINT; NEXT_MAINT is noted.

The panel (R281, R537 to R539): the key's press is noted; its release after at least 100 ms and less than 5 s acknowledges, and the
release of a stuck key ends only the declaration; 60 s without interruption declare it stuck; the lamp test ends after 600 ms. -/
def Obligations.BootAndPanel : Prop :=
  (∀ (s : State) (progOk tabOk : BitVec 3) (t : Nat), s.live = true →
     let n := s.now t
     (s.rd R.UP_STATE_STATE ≠ usBooting → s.leaves (.imageCopyCheck progOk tabOk t) t n) ∧
     (s.rd R.UP_STATE_STATE = usBooting → s.vstate = vsSelftest → s.up.sys.isSome = true → s.up.ready = false → s.up.ackWait = false →
       (∀ x < 3, s.testOf x = 1) →
       (n.selectImages.up.sel = none → s.leaves (.imageCopyCheck progOk tabOk t) t (n.selectImages.bootGo false t)) ∧
       (∀ p q, n.selectImages.up.sel = some (p, q) →
         let u := n.selectImages
         s.leaves (.imageCopyCheck progOk tabOk t) t
           (u.imagesCopied p q (u.imageWhole ikProgram p) (u.imageWhole ikTables q) progOk tabOk t))) ∧
     (∀ p q, (∀ x < 3, s.testOf x = 1) →
       let u := s.upBooted p q
       let bad := (s.lastFail ikProgram p lfHash).setUp { s.up with hashBad := s.up.hashBad ++ [2 * ikProgram + p], attempts := s.up.attempts + 1, sel := none }
       s.imagesCopied p q true true 7#3 7#3 t =
         ([0, 1, 2].foldl (fun r x => r.setLane x { r.lane x with mem := u.imageMem p q }) u).bootGo true t ∧
       (s.up.attempts = 1 → s.imagesCopied p q false true progOk 7#3 t = bad.bootGo false t ∧
         s.imagesCopied p q true true 0#3 7#3 t = bad.bootGo false t)) ∧
     (s.up.ackWait = false → s.leaves (.ackHoldMaint t) t n) ∧
     (s.up.ackWait = true → s.ackHeld = true →
       (s.pw.upAt + 5000000000 ≤ t → s.leaves (.ackHoldMaint t) t (n.bootMaint mcAck t)) ∧
       (t < s.pw.upAt + 5000000000 → s.leaves (.ackHoldMaint t) t n)) ∧
     s.leaves (.upNextMaint t) t (n.wr R.UP_STATE_NEXT_MAINT 1)) ∧
  (∀ (s : State) (t : Nat), s.live = true →
     let n := s.now t
     let up := (n.setKey { s.key with pressedAt := none, sincePower := false }).wr R.SYS_KEY_STAT_PRESSED 0
     (s.rd R.SYS_KEY_STAT_PRESSED = 1 →
       s.leaves (.ackKeyPress t) t n ∧
       (s.up.ackWait = false →
         (s.rd R.SYS_KEY_STAT_STUCK = 1 →
           s.leaves (.ackKeyRelease t) t ((up.wr R.SYS_KEY_STAT_STUCK 0).record .sys 0x0901 [0] t)) ∧
         (up.rd R.SYS_KEY_STAT_STUCK = 0 → ∀ p, s.key.pressedAt = some p →
           (p + 100000000 ≤ t → t < p + 5000000000 → s.leaves (.ackKeyRelease t) t up.scAckRelease.allOut) ∧
           (t < p + 100000000 ∨ p + 5000000000 ≤ t → s.leaves (.ackKeyRelease t) t up))) ∧
       (∀ p, s.key.pressedAt = some p → s.rd R.SYS_KEY_STAT_STUCK = 0 →
         (p + 60000000000 ≤ t → s.leaves (.ackKeyStuck t) t
           ((((n.wr R.SYS_KEY_STAT_STUCK 1).wr R.SYS_KEY_STAT_STUCK_SEEN 1).bump R.SYS_KEY_STAT_STUCK_CNT).record .sys 0x0901 [1] t)) ∧
         (t < p + 60000000000 → s.leaves (.ackKeyStuck t) t n))) ∧
     (s.rd R.SYS_KEY_STAT_PRESSED = 0 →
       s.leaves (.ackKeyPress t) t ((n.setKey { s.key with pressedAt := some t }).wr R.SYS_KEY_STAT_PRESSED 1) ∧
       s.leaves (.ackKeyStuck t) t n ∧ (s.up.ackWait = false → s.leaves (.ackKeyRelease t) t n)) ∧
     (s.key.lamp = true →
       (s.key.lampAt + 600000000 ≤ t → s.leaves (.lampTestEnd t) t (n.setKey { s.key with lamp := false })) ∧
       (t < s.key.lampAt + 600000000 → s.leaves (.lampTestEnd t) t n)) ∧
     (s.key.lamp = false → s.leaves (.lampTestEnd t) t n))

/-- Containers and the relay (R495 to R497, R501): a host's words start a container or go to their place in the one it is sending, and a
write it cannot make, each of them while the image region is locked, leaves the store; a relay chunk from another address or while the image region is locked is refused with its answer, a first chunk starts
a container; an answer OK for the last chunk completes a destination, any other answer pauses it for 1 s; unanswered chunks are sent again
after 200 ms, and a relay that may not run goes back to the prefix its destination reported; 600 s without growth fail it. -/
def Obligations.ContainersArriveAndPassOn : Prop :=
  ∀ (s : State) (d : Fin 4) (k : Nat) (ws : List Word) (src cid : Word) (total ofs len : Nat) (data : List Byte) (t : Nat),
    s.live = true →
    let n := s.now t
    let o := s.rd R.UP_HX_OFS + 4 * k
    let bs := ws.flatMap wordBytes
    let put := s.leaves (.hostContainerWrite k ws t) t
    let chunk := s.leaves (.relayChunkReceived src cid total ofs len data t) t
    let r := s.relay d
    (s.rd R.UP_STATE_LOCK = 1 → put n) ∧
    (s.rd R.UP_STATE_LOCK = 0 → s.store = ssReceiving → s.up.store.source = 1 → o ≤ s.prefixLen →
      (max s.prefixLen (o + bs.length) < 16 ∨ o + bs.length ≤ 288 + hBodyLen (cellBytes (s.storeWith o bs) 0 288)) →
      put (n.storePut o bs t)) ∧
    (s.rd R.UP_STATE_LOCK = 0 → s.store = ssEmpty → o = 0 → bs.length ≤ 288 →
      put ((n.storeNew 1 none none t).storePut 0 bs t)) ∧
    (s.store = ssReceiving → s.up.store.source = 1 → o ≤ s.prefixLen → 16 ≤ max s.prefixLen (o + bs.length) →
      288 + hBodyLen (cellBytes (s.storeWith o bs) 0 288) < o + bs.length → put n) ∧
    (s.store = ssReceiving → s.up.store.source = 1 → s.prefixLen < o → put n) ∧
    (s.rd R.UP_STATE_LOCK = 0 → s.store = ssApplying → put n.storeBusy) ∧
    (s.store = ssEmpty → 0 < o → put n) ∧
    (s.relayRuns = false → chunk n) ∧
    (s.relayRuns = true →
      (src.toNat ≠ s.rd R.UP_ADDR_ADDR 0 → chunk (n.relayAnswer cid 3)) ∧
      (s.rd R.UP_ADDR_ADDR 0 ≠ 0 → src.toNat = s.rd R.UP_ADDR_ADDR 0 → 0 < len → len ≤ 4080 → ofs + len ≤ total →
        (s.rd R.UP_STATE_LOCK = 1 → chunk (n.relayAnswer cid 1)) ∧
        (s.rd R.UP_STATE_LOCK = 0 → s.store = ssEmpty → 0 < ofs → chunk (n.relayAnswer cid 2)) ∧
        (s.rd R.UP_STATE_LOCK = 0 → s.store = ssEmpty → ofs = 0 →
          chunk (((n.storeNew 2 (some cid) (some total) t).storePut 0 (data.take len) t).relayAnswer cid 0)))) ∧
    (s.rd R.UP_RELAY_STAT_STATE d ≠ rsSending → ∀ st kib, s.leaves (.relayReplyReceived d ofs cid st kib t) t n ∧
      s.leaves (.relayChunkRetry d t) t (n.relayPump d t) ∧ s.leaves (.relayFailTimeout d t) t n) ∧
    (s.rd R.UP_RELAY_STAT_STATE d = rsSending →
      (s.relayRuns = true → cid.toNat = s.rd R.UP_STORE_CID → (∃ c ∈ r.wait, c.ofs = ofs) → ∀ st kib,
        (st ≠ 0 → s.leaves (.relayReplyReceived d ofs cid st kib t) t
          (n.setRelay d { r with wait := [], next := min (1024 * r.kib) s.prefixLen, pause := some (t + 1000000000) })) ∧
        (st = 0 → r.kib < kib → (∀ c ∈ r.wait, c.ofs = ofs) → s.storeTotal = some r.next →
          s.leaves (.relayReplyReceived d ofs cid st kib t) t
            ((((n.setRelay d { r with wait := [], kib := kib, grownAt := t }).wr R.UP_RELAY_STAT_KIB (kib % 2 ^ 24) d).wr
              R.UP_RELAY_STAT_STATE rsDone d).raise 395 t))) ∧
      (cid.toNat ≠ s.rd R.UP_STORE_CID → ∀ st kib, s.leaves (.relayReplyReceived d ofs cid st kib t) t n) ∧
      (s.relayRuns = true → s.leaves (.relayChunkRetry d t) t ((n.setRelay d { r with
        wait := r.wait.map fun c => if c.at_ + 200000000 ≤ t then n.chunkAt t c.ofs c.len else c }).relayPump d t)) ∧
      (s.relayRuns = false → s.leaves (.relayChunkRetry d t) t
        (n.setRelay d { r with wait := [], next := min (1024 * r.kib) s.prefixLen })) ∧
      (r.grownAt + 600000000000 ≤ t → s.leaves (.relayFailTimeout d t) t
        ((((n.setRelay d { r with wait := [] }).wr R.UP_RELAY_STAT_STATE rsFailed d).wr R.UP_FLAGS_RELAY_FAIL 1).raise 395 t)) ∧
      (t < r.grownAt + 600000000000 → s.leaves (.relayFailTimeout d t) t n))

/-- Receipt, application and keys (R494, R499, R500): a received container with a trusted key, a right signature and body hash passes, any
other is rejected; a passed one is applied into the alternate slot, which is CANDIDATE with the image or EMPTY; DISCARD empties the store
and an abandoned slot; in MAINT a key goes into an empty slot only, and only a present one is revoked. -/
def Obligations.ContainersAreApplied : Prop :=
  ∀ (s : State) (j : Fin 4) (t : Nat), s.live = true →
    let n := s.now t
    let h := s.storeHeader
    let kd := hKind h
    (s.store ≠ ssReceived → s.leaves (.receiptCheck t) t n ∧ s.leaves (.containerApply t) t n) ∧
    (s.store = ssReceived → s.up.store.passed = false →
      let good := s.trusts h && ecdsaOk (hPubkey h) (h.take 212) (hSig h) && sha256 s.storeBody == hBodyHash h
      s.leaves (.containerApply t) t n ∧
      (good = true → s.leaves (.receiptCheck t) t (n.setUp { s.up with store := { s.up.store with passed := true } })) ∧
      (good = false → s.leaves (.receiptCheck t) t
        (((n.setStore ssRejected t).bump R.UP_RX_REJ_CNT).wr R.UP_FLAGS_RX_REJ 1))) ∧
    (s.store = ssReceived → s.up.store.passed = true → s.rd R.UP_STATE_LOCK = 0 → s.appPaused = false →
      s.rd R.UP_STATE_STATE ≠ usRecovery →
      (hDelta h = false →
        let a := s.alternate kd
        let u := (n.setUpSlot kd a { header := h }).setSlot kd a slWriting
        s.leaves (.containerApply t) t
          ((u.setUp { u.up with store := { s.up.store with target := some (kd, a) } }).setStore ssApplying t)) ∧
      (hDelta h = true → s.bootedSlot kd = none → hBaseHash h ≠ [] → s.leaves (.containerApply t) t
        ((n.setStore ssApplyFail t).wr R.UP_FLAGS_BASE_MISMATCH 1))) ∧
    (s.store ≠ ssApplying → s.leaves (.applyComplete t) t n) ∧
    (∀ a b, s.store = ssApplying → s.rd R.UP_STATE_LOCK = 0 → s.appPaused = false → s.up.store.target = some (a, b) →
      let s0 := n.setUp { s.up with store := { s.up.store with target := none } }
      (∀ m, s.applied a = some m → s.leaves (.applyComplete t) t
        (((s0.setUpSlot a b { header := h, image := m }).setSlot a b slCandidate).setStore ssApplied t)) ∧
      (s.applied a = none → s.leaves (.applyComplete t) t
        (((s0.setSlot a b slEmpty).setStore ssApplyFail t).wr R.UP_FLAGS_APPLY_FAIL 1))) ∧
    (let out := fun u : State =>
        (((u.setUp { u.up with store := {} }).wr R.UP_STORE_LEN 0).wr R.UP_STORE_CID 0).wr R.UP_STATE_STORE ssEmpty
     (s.rd R.UP_STATE_LOCK = 1 → s.leaves (.upDiscard t) t n) ∧
     (s.rd R.UP_STATE_LOCK = 0 → s.up.store.target = none → s.leaves (.upDiscard t) t (out n)) ∧
     (∀ a b, s.rd R.UP_STATE_LOCK = 0 → s.up.store.target = some (a, b) → s.leaves (.upDiscard t) t (out (n.setSlot a b slEmpty)))) ∧
    (s.mode ≠ mdMaint → s.leaves (.keyAdd j t) t n ∧ s.leaves (.keyRevoke j t) t n) ∧
    (s.keyPresent j = true → s.leaves (.keyAdd j t) t n ∧
      (s.mode = mdMaint → s.leaves (.keyRevoke j t) t ((n.setBit R.UP_KEY_STAT_REVOKED j true).keyRec 2 j t))) ∧
    (s.keyPresent j = false → s.leaves (.keyRevoke j t) t n ∧
      let key := (List.range 8).flatMap fun k => wordBytes (NMap.get s.up.keyNew 0 k)
      s.mode = mdMaint → s.leaves (.keyAdd j t) t
        (((n.setUp { s.up with keys := NMap.put s.up.keys j key }).setBit R.UP_KEY_STAT_PRESENT j true).keyRec 1 j t))
end

