-- ==== Sys2Proof/Laws/Cells.lean ====
section
/-! SUPPORT. Laws of the sparse stores: a read after a write, and the canonical form every operation keeps. -/

namespace Sys2Proof.Machine

@[simp] theorem Cells.get_nil {w : Nat} (a : Nat) : Cells.get ([] : Cells w) a = 0 := rfl

theorem Cells.get_cons {w : Nat} (k : Nat) (v : BitVec w) (t : Cells w) (a : Nat) :
    Cells.get ((k, v) :: t) a = if k = a then v else Cells.get t a := rfl

/-- Below the first address a canonical store reads 0. -/
theorem Cells.get_below {w : Nat} (m : Cells w) (lo a : Nat) (h : Cells.wfFrom lo m = true) (ha : a < lo) :
    Cells.get m a = 0 := by
  induction m generalizing lo with
  | nil => rfl
  | cons c t ih =>
    obtain ⟨k, v⟩ := c
    simp only [Cells.wfFrom, Bool.and_eq_true, decide_eq_true_eq] at h
    rw [Cells.get_cons, if_neg (by omega), ih (k + 1) h.2 (by omega)]

/-- A higher bound is a weaker one. -/
theorem Cells.wfFrom_le {w : Nat} (m : Cells w) (lo lo' : Nat) (h : Cells.wfFrom lo m = true) (hl : lo' ≤ lo) :
    Cells.wfFrom lo' m = true := by
  cases m with
  | nil => rfl
  | cons c t =>
    obtain ⟨k, v⟩ := c
    simp only [Cells.wfFrom, Bool.and_eq_true, decide_eq_true_eq] at h ⊢
    exact ⟨⟨by omega, h.1.2⟩, h.2⟩

/-- Read after write at another address; it needs no canonical form. -/
theorem Cells.get_set_ne {w : Nat} (m : Cells w) (a b : Nat) (v : BitVec w) (h : b ≠ a) :
    Cells.get (Cells.set m a v) b = Cells.get m b := by
  induction m with
  | nil =>
    unfold Cells.set
    split
    · rfl
    · simp [Cells.get_cons, Ne.symm h]
  | cons c t ih =>
    obtain ⟨k, x⟩ := c
    unfold Cells.set
    split
    · split
      · rfl
      · rw [Cells.get_cons, if_neg (Ne.symm h)]
    · split
      · next hk =>
        subst hk
        split
        · rw [Cells.get_cons, if_neg (Ne.symm h)]
        · rw [Cells.get_cons, if_neg (Ne.symm h), Cells.get_cons, if_neg (Ne.symm h)]
      · rw [Cells.get_cons, ih, Cells.get_cons]

theorem Cells.get_set_self_from {w : Nat} (m : Cells w) (lo a : Nat) (v : BitVec w) (hm : Cells.wfFrom lo m = true) :
    Cells.get (Cells.set m a v) a = v := by
  induction m generalizing lo with
  | nil =>
    unfold Cells.set
    split
    · next h => simp [h]
    · simp [Cells.get_cons]
  | cons c t ih =>
    obtain ⟨k, x⟩ := c
    simp only [Cells.wfFrom, Bool.and_eq_true, decide_eq_true_eq] at hm
    unfold Cells.set
    split
    · next hlt =>
      split
      · next h0 =>
        rw [Cells.get_cons, if_neg (by omega), h0]
        exact Cells.get_below t (k + 1) a hm.2 (by omega)
      · simp [Cells.get_cons]
    · split
      · next hk =>
        subst hk
        split
        · next h0 => rw [h0]; exact Cells.get_below t (a + 1) a hm.2 (by omega)
        · simp [Cells.get_cons]
      · rw [Cells.get_cons, if_neg (by omega), ih (k + 1) hm.2]

/-- Read after write at the same address of a canonical store. -/
theorem Cells.get_set_self {w : Nat} (m : Cells w) (a : Nat) (v : BitVec w) (hm : Cells.wf m = true) :
    Cells.get (Cells.set m a v) a = v := Cells.get_set_self_from m 0 a v hm

theorem Cells.wfFrom_set {w : Nat} (m : Cells w) (lo a : Nat) (v : BitVec w) (hm : Cells.wfFrom lo m = true) (ha : lo ≤ a) :
    Cells.wfFrom lo (Cells.set m a v) = true := by
  induction m generalizing lo with
  | nil =>
    unfold Cells.set
    split
    · rfl
    · next h => simp only [Cells.wfFrom, Bool.and_eq_true, decide_eq_true_eq]; exact ⟨⟨ha, h⟩, trivial⟩
  | cons c t ih =>
    obtain ⟨k, x⟩ := c
    have h2 := hm
    simp only [Cells.wfFrom, Bool.and_eq_true, decide_eq_true_eq] at h2
    unfold Cells.set
    split
    · split
      · exact hm
      · next h0 =>
        simp only [Cells.wfFrom, Bool.and_eq_true, decide_eq_true_eq]
        exact ⟨⟨ha, h0⟩, ⟨by omega, h2.1.2⟩, h2.2⟩
    · split
      · next hk =>
        subst hk
        split
        · exact Cells.wfFrom_le t (a + 1) lo h2.2 (by omega)
        · next h0 => simp only [Cells.wfFrom, Bool.and_eq_true, decide_eq_true_eq]; exact ⟨⟨ha, h0⟩, h2.2⟩
      · simp only [Cells.wfFrom, Bool.and_eq_true, decide_eq_true_eq]
        exact ⟨⟨h2.1.1, h2.1.2⟩, ih (k + 1) h2.2 (by omega)⟩

/-- A write keeps the canonical form. -/
theorem Cells.wf_set {w : Nat} (m : Cells w) (a : Nat) (v : BitVec w) (hm : Cells.wf m = true) :
    Cells.wf (Cells.set m a v) = true := Cells.wfFrom_set m 0 a v hm (Nat.zero_le a)

theorem Cells.wfFrom_filter {w : Nat} (m : Cells w) (lo : Nat) (p : Nat × BitVec w → Bool) (hm : Cells.wfFrom lo m = true) :
    Cells.wfFrom lo (m.filter p) = true := by
  induction m generalizing lo with
  | nil => rfl
  | cons c t ih =>
    obtain ⟨k, v⟩ := c
    simp only [Cells.wfFrom, Bool.and_eq_true, decide_eq_true_eq] at hm
    rw [List.filter_cons]
    split
    · simp only [Cells.wfFrom, Bool.and_eq_true, decide_eq_true_eq]
      exact ⟨hm.1, ih (k + 1) hm.2⟩
    · exact Cells.wfFrom_le _ (k + 1) lo (ih (k + 1) hm.2) (by omega)

/-- Clearing a range, and taking one, keep the canonical form. -/
theorem Cells.wf_clearRange {w : Nat} (m : Cells w) (a n : Nat) (hm : Cells.wf m = true) :
    Cells.wf (Cells.clearRange m a n) = true := Cells.wfFrom_filter m 0 _ hm
theorem Cells.wf_slice {w : Nat} (m : Cells w) (a n : Nat) (hm : Cells.wf m = true) :
    Cells.wf (Cells.slice m a n) = true := Cells.wfFrom_filter m 0 _ hm

/-! ### Keyed records -/

@[simp] theorem NMap.look_put_self {α : Type} (m : NMap α) (k : Nat) (v : α) : NMap.look (NMap.put m k v) k = some v := by
  induction m with
  | nil => simp [NMap.put, NMap.look]
  | cons c t ih =>
    obtain ⟨j, x⟩ := c
    unfold NMap.put
    split
    · simp [NMap.look]
    · split
      · simp [NMap.look]
      · next h1 h2 => simp only [NMap.look, if_neg (Ne.symm h2), ih]

theorem NMap.look_put_ne {α : Type} (m : NMap α) (k i : Nat) (v : α) (h : i ≠ k) :
    NMap.look (NMap.put m k v) i = NMap.look m i := by
  induction m with
  | nil => simp [NMap.put, NMap.look, Ne.symm h]
  | cons c t ih =>
    obtain ⟨j, x⟩ := c
    unfold NMap.put
    split
    · simp only [NMap.look, if_neg (Ne.symm h)]
    · split
      · next h2 => subst h2; simp only [NMap.look, if_neg (Ne.symm h)]
      · simp only [NMap.look, ih]

@[simp] theorem NMap.get_put_self {α : Type} (m : NMap α) (d : α) (k : Nat) (v : α) :
    NMap.get (NMap.put m k v) d k = v := by simp [NMap.get]

theorem NMap.get_put_ne {α : Type} (m : NMap α) (d : α) (k i : Nat) (v : α) (h : i ≠ k) :
    NMap.get (NMap.put m k v) d i = NMap.get m d i := by simp [NMap.get, NMap.look_put_ne m k i v h]

end Sys2Proof.Machine
end

