-- ==== Sys2Proof/Laws/Hash.lean ====
section
/-! SUPPORT. The lengths of SHA-256 and HMAC-SHA-256 results. -/

namespace Sys2Proof.Machine

theorem shaRound_length (st : List Word) (kw : Nat × Word) (h : st.length = 8) : (shaRound st kw).length = 8 := by
  unfold shaRound
  split
  · rfl
  · exact h

theorem shaRounds_length (ks : List (Nat × Word)) (st : List Word) (h : st.length = 8) : (ks.foldl shaRound st).length = 8 := by
  induction ks generalizing st with
  | nil => exact h
  | cons k ks ih => exact ih _ (shaRound_length st k h)

theorem shaBlock_length (st : List Word) (bs : List Byte) (h : st.length = 8) : (shaBlock st bs).length = 8 := by
  have hr := shaRounds_length (shaK.zip (shaExtend 48 (blockWords bs).reverse).reverse) st h
  simp only [shaBlock, List.length_zipWith, hr, h]
  rfl

theorem shaBlocks_length (n : Nat) (st : List Word) (bs : List Byte) (h : st.length = 8) : (shaBlocks n st bs).length = 8 := by
  induction n generalizing st bs with
  | zero => exact h
  | succ n ih => exact ih _ _ (shaBlock_length st bs h)

theorem beBytes_length (x n : Nat) : (beBytes x n).length = n := by
  induction n with
  | zero => rfl
  | succ n ih => simp [beBytes, ih]

theorem flatMap_beBytes_length (ws : List Word) : (ws.flatMap fun w => beBytes w.toNat 4).length = 4 * ws.length := by
  induction ws with
  | nil => rfl
  | cons w ws ih => simp [List.flatMap_cons, beBytes_length, ih]; omega

@[simp] theorem sha256_length (m : List Byte) : (sha256 m).length = 32 := by
  simp only [sha256]
  rw [flatMap_beBytes_length, shaBlocks_length _ _ _ (by rfl)]

@[simp] theorem hmac_length (key m : List Byte) : (hmac key m).length = 32 := sha256_length _

end Sys2Proof.Machine
end

