-- ==== Sys2Proof/Laws/State.lean ====
section
/-! SUPPORT. One lemma per field of the state and per plain update of it. -/

namespace Sys2Proof.Machine

theorem foldl_keeps {α β : Type} (p : State → α) (f : State → β → State) (h : ∀ s b, p (f s b) = p s) (xs : List β) (s : State) :
    p (xs.foldl f s) = p s := by
  induction xs generalizing s with
  | nil => rfl
  | cons x t ih => rw [List.foldl_cons, ih, h]

/-- What no change of a lane touches, no operation of the lanes in lockstep touches. -/
theorem State.onLanes_keeps {α : Type} (p : State → α) (h : ∀ s x l, p (s.setLane x l) = p s) (s : State) (g : Lane → Lane) :
    p (s.onLanes g) = p s := by
  unfold State.onLanes State.mirror
  rw [foldl_keeps p _ (fun s b => by simp only [h]), foldl_keeps p _ (fun s b => h _ _ _), State.watchCopies,
    foldl_keeps p _ (fun s b => h _ _ _)]

@[simp] theorem State.wr_lt (s : State) (f : Fld) (v i j : Nat) : (s.wr f v i j).lt = s.lt := rfl
@[simp] theorem State.wr_rf (s : State) (f : Fld) (v i j : Nat) : (s.wr f v i j).rf = s.rf.wr f v i j := rfl
@[simp] theorem State.wr_la (s : State) (f : Fld) (v i j : Nat) : (s.wr f v i j).la = s.la := rfl
@[simp] theorem State.wr_lb (s : State) (f : Fld) (v i j : Nat) : (s.wr f v i j).lb = s.lb := rfl
@[simp] theorem State.wr_lc (s : State) (f : Fld) (v i j : Nat) : (s.wr f v i j).lc = s.lc := rfl
@[simp] theorem State.wr_vt (s : State) (f : Fld) (v i j : Nat) : (s.wr f v i j).vt = s.vt := rfl
@[simp] theorem State.wr_hp (s : State) (f : Fld) (v i j : Nat) : (s.wr f v i j).hp = s.hp := rfl
@[simp] theorem State.wr_lg (s : State) (f : Fld) (v i j : Nat) : (s.wr f v i j).lg = s.lg := rfl
@[simp] theorem State.wr_sc (s : State) (f : Fld) (v i j : Nat) : (s.wr f v i j).sc = s.sc := rfl
@[simp] theorem State.wr_chan (s : State) (f : Fld) (v i j : Nat) : (s.wr f v i j).chan = s.chan := rfl
@[simp] theorem State.wr_grp (s : State) (f : Fld) (v i j : Nat) : (s.wr f v i j).grp = s.grp := rfl
@[simp] theorem State.wr_maps (s : State) (f : Fld) (v i j : Nat) : (s.wr f v i j).maps = s.maps := rfl
@[simp] theorem State.wr_fb (s : State) (f : Fld) (v i j : Nat) : (s.wr f v i j).fb = s.fb := rfl
@[simp] theorem State.wr_nw (s : State) (f : Fld) (v i j : Nat) : (s.wr f v i j).nw = s.nw := rfl
@[simp] theorem State.wr_cn (s : State) (f : Fld) (v i j : Nat) : (s.wr f v i j).cn = s.cn := rfl
@[simp] theorem State.wr_br (s : State) (f : Fld) (v i j : Nat) : (s.wr f v i j).br = s.br := rfl
@[simp] theorem State.wr_rdState (s : State) (f : Fld) (v i j : Nat) : (s.wr f v i j).rd_ = s.rd_ := rfl
@[simp] theorem State.wr_er (s : State) (f : Fld) (v i j : Nat) : (s.wr f v i j).er = s.er := rfl
@[simp] theorem State.wr_pw (s : State) (f : Fld) (v i j : Nat) : (s.wr f v i j).pw = s.pw := rfl
@[simp] theorem State.wr_up (s : State) (f : Fld) (v i j : Nat) : (s.wr f v i j).up = s.up := rfl
@[simp] theorem State.wr_key (s : State) (f : Fld) (v i j : Nat) : (s.wr f v i j).key = s.key := rfl
@[simp] theorem State.wr_slotCode (s : State) (f : Fld) (v i j : Nat) : (s.wr f v i j).slotCode = s.slotCode := rfl
@[simp] theorem State.wr_rst (s : State) (f : Fld) (v i j : Nat) : (s.wr f v i j).rst = s.rst := rfl
@[simp] theorem State.wr_free (s : State) (f : Fld) (v i j : Nat) : (s.wr f v i j).free = s.free := rfl
@[simp] theorem State.wr_pending (s : State) (f : Fld) (v i j : Nat) : (s.wr f v i j).pending = s.pending := rfl
@[simp] theorem State.bump_lt (s : State) (f : Fld) (i j n : Nat) : (s.bump f i j n).lt = s.lt := rfl
@[simp] theorem State.bump_rf (s : State) (f : Fld) (i j n : Nat) : (s.bump f i j n).rf = s.rf.bump f i j n := rfl
@[simp] theorem State.bump_la (s : State) (f : Fld) (i j n : Nat) : (s.bump f i j n).la = s.la := rfl
@[simp] theorem State.bump_lb (s : State) (f : Fld) (i j n : Nat) : (s.bump f i j n).lb = s.lb := rfl
@[simp] theorem State.bump_lc (s : State) (f : Fld) (i j n : Nat) : (s.bump f i j n).lc = s.lc := rfl
@[simp] theorem State.bump_vt (s : State) (f : Fld) (i j n : Nat) : (s.bump f i j n).vt = s.vt := rfl
@[simp] theorem State.bump_hp (s : State) (f : Fld) (i j n : Nat) : (s.bump f i j n).hp = s.hp := rfl
@[simp] theorem State.bump_lg (s : State) (f : Fld) (i j n : Nat) : (s.bump f i j n).lg = s.lg := rfl
@[simp] theorem State.bump_sc (s : State) (f : Fld) (i j n : Nat) : (s.bump f i j n).sc = s.sc := rfl
@[simp] theorem State.bump_chan (s : State) (f : Fld) (i j n : Nat) : (s.bump f i j n).chan = s.chan := rfl
@[simp] theorem State.bump_grp (s : State) (f : Fld) (i j n : Nat) : (s.bump f i j n).grp = s.grp := rfl
@[simp] theorem State.bump_maps (s : State) (f : Fld) (i j n : Nat) : (s.bump f i j n).maps = s.maps := rfl
@[simp] theorem State.bump_fb (s : State) (f : Fld) (i j n : Nat) : (s.bump f i j n).fb = s.fb := rfl
@[simp] theorem State.bump_nw (s : State) (f : Fld) (i j n : Nat) : (s.bump f i j n).nw = s.nw := rfl
@[simp] theorem State.bump_cn (s : State) (f : Fld) (i j n : Nat) : (s.bump f i j n).cn = s.cn := rfl
@[simp] theorem State.bump_br (s : State) (f : Fld) (i j n : Nat) : (s.bump f i j n).br = s.br := rfl
@[simp] theorem State.bump_rdState (s : State) (f : Fld) (i j n : Nat) : (s.bump f i j n).rd_ = s.rd_ := rfl
@[simp] theorem State.bump_er (s : State) (f : Fld) (i j n : Nat) : (s.bump f i j n).er = s.er := rfl
@[simp] theorem State.bump_pw (s : State) (f : Fld) (i j n : Nat) : (s.bump f i j n).pw = s.pw := rfl
@[simp] theorem State.bump_up (s : State) (f : Fld) (i j n : Nat) : (s.bump f i j n).up = s.up := rfl
@[simp] theorem State.bump_key (s : State) (f : Fld) (i j n : Nat) : (s.bump f i j n).key = s.key := rfl
@[simp] theorem State.bump_slotCode (s : State) (f : Fld) (i j n : Nat) : (s.bump f i j n).slotCode = s.slotCode := rfl
@[simp] theorem State.bump_rst (s : State) (f : Fld) (i j n : Nat) : (s.bump f i j n).rst = s.rst := rfl
@[simp] theorem State.bump_free (s : State) (f : Fld) (i j n : Nat) : (s.bump f i j n).free = s.free := rfl
@[simp] theorem State.bump_pending (s : State) (f : Fld) (i j n : Nat) : (s.bump f i j n).pending = s.pending := rfl
@[simp] theorem State.wrWord_lt (s : State) (a : Nat) (w : Word) : (s.wrWord a w).lt = s.lt := rfl
@[simp] theorem State.wrWord_rf (s : State) (a : Nat) (w : Word) : (s.wrWord a w).rf = { s.rf with eff := Cells.set s.rf.eff a w } := rfl
@[simp] theorem State.wrWord_la (s : State) (a : Nat) (w : Word) : (s.wrWord a w).la = s.la := rfl
@[simp] theorem State.wrWord_lb (s : State) (a : Nat) (w : Word) : (s.wrWord a w).lb = s.lb := rfl
@[simp] theorem State.wrWord_lc (s : State) (a : Nat) (w : Word) : (s.wrWord a w).lc = s.lc := rfl
@[simp] theorem State.wrWord_vt (s : State) (a : Nat) (w : Word) : (s.wrWord a w).vt = s.vt := rfl
@[simp] theorem State.wrWord_hp (s : State) (a : Nat) (w : Word) : (s.wrWord a w).hp = s.hp := rfl
@[simp] theorem State.wrWord_lg (s : State) (a : Nat) (w : Word) : (s.wrWord a w).lg = s.lg := rfl
@[simp] theorem State.wrWord_sc (s : State) (a : Nat) (w : Word) : (s.wrWord a w).sc = s.sc := rfl
@[simp] theorem State.wrWord_chan (s : State) (a : Nat) (w : Word) : (s.wrWord a w).chan = s.chan := rfl
@[simp] theorem State.wrWord_grp (s : State) (a : Nat) (w : Word) : (s.wrWord a w).grp = s.grp := rfl
@[simp] theorem State.wrWord_maps (s : State) (a : Nat) (w : Word) : (s.wrWord a w).maps = s.maps := rfl
@[simp] theorem State.wrWord_fb (s : State) (a : Nat) (w : Word) : (s.wrWord a w).fb = s.fb := rfl
@[simp] theorem State.wrWord_nw (s : State) (a : Nat) (w : Word) : (s.wrWord a w).nw = s.nw := rfl
@[simp] theorem State.wrWord_cn (s : State) (a : Nat) (w : Word) : (s.wrWord a w).cn = s.cn := rfl
@[simp] theorem State.wrWord_br (s : State) (a : Nat) (w : Word) : (s.wrWord a w).br = s.br := rfl
@[simp] theorem State.wrWord_rdState (s : State) (a : Nat) (w : Word) : (s.wrWord a w).rd_ = s.rd_ := rfl
@[simp] theorem State.wrWord_er (s : State) (a : Nat) (w : Word) : (s.wrWord a w).er = s.er := rfl
@[simp] theorem State.wrWord_pw (s : State) (a : Nat) (w : Word) : (s.wrWord a w).pw = s.pw := rfl
@[simp] theorem State.wrWord_up (s : State) (a : Nat) (w : Word) : (s.wrWord a w).up = s.up := rfl
@[simp] theorem State.wrWord_key (s : State) (a : Nat) (w : Word) : (s.wrWord a w).key = s.key := rfl
@[simp] theorem State.wrWord_slotCode (s : State) (a : Nat) (w : Word) : (s.wrWord a w).slotCode = s.slotCode := rfl
@[simp] theorem State.wrWord_rst (s : State) (a : Nat) (w : Word) : (s.wrWord a w).rst = s.rst := rfl
@[simp] theorem State.wrWord_free (s : State) (a : Nat) (w : Word) : (s.wrWord a w).free = s.free := rfl
@[simp] theorem State.wrWord_pending (s : State) (a : Nat) (w : Word) : (s.wrWord a w).pending = s.pending := rfl
@[simp] theorem State.setVt_lt (s : State) (x : Voter) : (s.setVt x).lt = s.lt := rfl
@[simp] theorem State.setVt_rf (s : State) (x : Voter) : (s.setVt x).rf = s.rf := rfl
@[simp] theorem State.setVt_la (s : State) (x : Voter) : (s.setVt x).la = s.la := rfl
@[simp] theorem State.setVt_lb (s : State) (x : Voter) : (s.setVt x).lb = s.lb := rfl
@[simp] theorem State.setVt_lc (s : State) (x : Voter) : (s.setVt x).lc = s.lc := rfl
@[simp] theorem State.setVt_vt (s : State) (x : Voter) : (s.setVt x).vt = x := rfl
@[simp] theorem State.setVt_hp (s : State) (x : Voter) : (s.setVt x).hp = s.hp := rfl
@[simp] theorem State.setVt_lg (s : State) (x : Voter) : (s.setVt x).lg = s.lg := rfl
@[simp] theorem State.setVt_sc (s : State) (x : Voter) : (s.setVt x).sc = s.sc := rfl
@[simp] theorem State.setVt_chan (s : State) (x : Voter) : (s.setVt x).chan = s.chan := rfl
@[simp] theorem State.setVt_grp (s : State) (x : Voter) : (s.setVt x).grp = s.grp := rfl
@[simp] theorem State.setVt_maps (s : State) (x : Voter) : (s.setVt x).maps = s.maps := rfl
@[simp] theorem State.setVt_fb (s : State) (x : Voter) : (s.setVt x).fb = s.fb := rfl
@[simp] theorem State.setVt_nw (s : State) (x : Voter) : (s.setVt x).nw = s.nw := rfl
@[simp] theorem State.setVt_cn (s : State) (x : Voter) : (s.setVt x).cn = s.cn := rfl
@[simp] theorem State.setVt_br (s : State) (x : Voter) : (s.setVt x).br = s.br := rfl
@[simp] theorem State.setVt_rdState (s : State) (x : Voter) : (s.setVt x).rd_ = s.rd_ := rfl
@[simp] theorem State.setVt_er (s : State) (x : Voter) : (s.setVt x).er = s.er := rfl
@[simp] theorem State.setVt_pw (s : State) (x : Voter) : (s.setVt x).pw = s.pw := rfl
@[simp] theorem State.setVt_up (s : State) (x : Voter) : (s.setVt x).up = s.up := rfl
@[simp] theorem State.setVt_key (s : State) (x : Voter) : (s.setVt x).key = s.key := rfl
@[simp] theorem State.setVt_slotCode (s : State) (x : Voter) : (s.setVt x).slotCode = s.slotCode := rfl
@[simp] theorem State.setVt_rst (s : State) (x : Voter) : (s.setVt x).rst = s.rst := rfl
@[simp] theorem State.setVt_free (s : State) (x : Voter) : (s.setVt x).free = s.free := rfl
@[simp] theorem State.setVt_pending (s : State) (x : Voter) : (s.setVt x).pending = s.pending := rfl
@[simp] theorem State.setHp_lt (s : State) (x : HostState) : (s.setHp x).lt = s.lt := rfl
@[simp] theorem State.setHp_rf (s : State) (x : HostState) : (s.setHp x).rf = s.rf := rfl
@[simp] theorem State.setHp_la (s : State) (x : HostState) : (s.setHp x).la = s.la := rfl
@[simp] theorem State.setHp_lb (s : State) (x : HostState) : (s.setHp x).lb = s.lb := rfl
@[simp] theorem State.setHp_lc (s : State) (x : HostState) : (s.setHp x).lc = s.lc := rfl
@[simp] theorem State.setHp_vt (s : State) (x : HostState) : (s.setHp x).vt = s.vt := rfl
@[simp] theorem State.setHp_hp (s : State) (x : HostState) : (s.setHp x).hp = x := rfl
@[simp] theorem State.setHp_lg (s : State) (x : HostState) : (s.setHp x).lg = s.lg := rfl
@[simp] theorem State.setHp_sc (s : State) (x : HostState) : (s.setHp x).sc = s.sc := rfl
@[simp] theorem State.setHp_chan (s : State) (x : HostState) : (s.setHp x).chan = s.chan := rfl
@[simp] theorem State.setHp_grp (s : State) (x : HostState) : (s.setHp x).grp = s.grp := rfl
@[simp] theorem State.setHp_maps (s : State) (x : HostState) : (s.setHp x).maps = s.maps := rfl
@[simp] theorem State.setHp_fb (s : State) (x : HostState) : (s.setHp x).fb = s.fb := rfl
@[simp] theorem State.setHp_nw (s : State) (x : HostState) : (s.setHp x).nw = s.nw := rfl
@[simp] theorem State.setHp_cn (s : State) (x : HostState) : (s.setHp x).cn = s.cn := rfl
@[simp] theorem State.setHp_br (s : State) (x : HostState) : (s.setHp x).br = s.br := rfl
@[simp] theorem State.setHp_rdState (s : State) (x : HostState) : (s.setHp x).rd_ = s.rd_ := rfl
@[simp] theorem State.setHp_er (s : State) (x : HostState) : (s.setHp x).er = s.er := rfl
@[simp] theorem State.setHp_pw (s : State) (x : HostState) : (s.setHp x).pw = s.pw := rfl
@[simp] theorem State.setHp_up (s : State) (x : HostState) : (s.setHp x).up = s.up := rfl
@[simp] theorem State.setHp_key (s : State) (x : HostState) : (s.setHp x).key = s.key := rfl
@[simp] theorem State.setHp_slotCode (s : State) (x : HostState) : (s.setHp x).slotCode = s.slotCode := rfl
@[simp] theorem State.setHp_rst (s : State) (x : HostState) : (s.setHp x).rst = s.rst := rfl
@[simp] theorem State.setHp_free (s : State) (x : HostState) : (s.setHp x).free = s.free := rfl
@[simp] theorem State.setHp_pending (s : State) (x : HostState) : (s.setHp x).pending = s.pending := rfl
@[simp] theorem State.setPw_lt (s : State) (x : PwState) : (s.setPw x).lt = s.lt := rfl
@[simp] theorem State.setPw_rf (s : State) (x : PwState) : (s.setPw x).rf = s.rf := rfl
@[simp] theorem State.setPw_la (s : State) (x : PwState) : (s.setPw x).la = s.la := rfl
@[simp] theorem State.setPw_lb (s : State) (x : PwState) : (s.setPw x).lb = s.lb := rfl
@[simp] theorem State.setPw_lc (s : State) (x : PwState) : (s.setPw x).lc = s.lc := rfl
@[simp] theorem State.setPw_vt (s : State) (x : PwState) : (s.setPw x).vt = s.vt := rfl
@[simp] theorem State.setPw_hp (s : State) (x : PwState) : (s.setPw x).hp = s.hp := rfl
@[simp] theorem State.setPw_lg (s : State) (x : PwState) : (s.setPw x).lg = s.lg := rfl
@[simp] theorem State.setPw_sc (s : State) (x : PwState) : (s.setPw x).sc = s.sc := rfl
@[simp] theorem State.setPw_chan (s : State) (x : PwState) : (s.setPw x).chan = s.chan := rfl
@[simp] theorem State.setPw_grp (s : State) (x : PwState) : (s.setPw x).grp = s.grp := rfl
@[simp] theorem State.setPw_maps (s : State) (x : PwState) : (s.setPw x).maps = s.maps := rfl
@[simp] theorem State.setPw_fb (s : State) (x : PwState) : (s.setPw x).fb = s.fb := rfl
@[simp] theorem State.setPw_nw (s : State) (x : PwState) : (s.setPw x).nw = s.nw := rfl
@[simp] theorem State.setPw_cn (s : State) (x : PwState) : (s.setPw x).cn = s.cn := rfl
@[simp] theorem State.setPw_br (s : State) (x : PwState) : (s.setPw x).br = s.br := rfl
@[simp] theorem State.setPw_rdState (s : State) (x : PwState) : (s.setPw x).rd_ = s.rd_ := rfl
@[simp] theorem State.setPw_er (s : State) (x : PwState) : (s.setPw x).er = s.er := rfl
@[simp] theorem State.setPw_pw (s : State) (x : PwState) : (s.setPw x).pw = x := rfl
@[simp] theorem State.setPw_up (s : State) (x : PwState) : (s.setPw x).up = s.up := rfl
@[simp] theorem State.setPw_key (s : State) (x : PwState) : (s.setPw x).key = s.key := rfl
@[simp] theorem State.setPw_slotCode (s : State) (x : PwState) : (s.setPw x).slotCode = s.slotCode := rfl
@[simp] theorem State.setPw_rst (s : State) (x : PwState) : (s.setPw x).rst = s.rst := rfl
@[simp] theorem State.setPw_free (s : State) (x : PwState) : (s.setPw x).free = s.free := rfl
@[simp] theorem State.setPw_pending (s : State) (x : PwState) : (s.setPw x).pending = s.pending := rfl
@[simp] theorem State.setRd_lt (s : State) (x : RdState) : (s.setRd x).lt = s.lt := rfl
@[simp] theorem State.setRd_rf (s : State) (x : RdState) : (s.setRd x).rf = s.rf := rfl
@[simp] theorem State.setRd_la (s : State) (x : RdState) : (s.setRd x).la = s.la := rfl
@[simp] theorem State.setRd_lb (s : State) (x : RdState) : (s.setRd x).lb = s.lb := rfl
@[simp] theorem State.setRd_lc (s : State) (x : RdState) : (s.setRd x).lc = s.lc := rfl
@[simp] theorem State.setRd_vt (s : State) (x : RdState) : (s.setRd x).vt = s.vt := rfl
@[simp] theorem State.setRd_hp (s : State) (x : RdState) : (s.setRd x).hp = s.hp := rfl
@[simp] theorem State.setRd_lg (s : State) (x : RdState) : (s.setRd x).lg = s.lg := rfl
@[simp] theorem State.setRd_sc (s : State) (x : RdState) : (s.setRd x).sc = s.sc := rfl
@[simp] theorem State.setRd_chan (s : State) (x : RdState) : (s.setRd x).chan = s.chan := rfl
@[simp] theorem State.setRd_grp (s : State) (x : RdState) : (s.setRd x).grp = s.grp := rfl
@[simp] theorem State.setRd_maps (s : State) (x : RdState) : (s.setRd x).maps = s.maps := rfl
@[simp] theorem State.setRd_fb (s : State) (x : RdState) : (s.setRd x).fb = s.fb := rfl
@[simp] theorem State.setRd_nw (s : State) (x : RdState) : (s.setRd x).nw = s.nw := rfl
@[simp] theorem State.setRd_cn (s : State) (x : RdState) : (s.setRd x).cn = s.cn := rfl
@[simp] theorem State.setRd_br (s : State) (x : RdState) : (s.setRd x).br = s.br := rfl
@[simp] theorem State.setRd_rdState (s : State) (x : RdState) : (s.setRd x).rd_ = x := rfl
@[simp] theorem State.setRd_er (s : State) (x : RdState) : (s.setRd x).er = s.er := rfl
@[simp] theorem State.setRd_pw (s : State) (x : RdState) : (s.setRd x).pw = s.pw := rfl
@[simp] theorem State.setRd_up (s : State) (x : RdState) : (s.setRd x).up = s.up := rfl
@[simp] theorem State.setRd_key (s : State) (x : RdState) : (s.setRd x).key = s.key := rfl
@[simp] theorem State.setRd_slotCode (s : State) (x : RdState) : (s.setRd x).slotCode = s.slotCode := rfl
@[simp] theorem State.setRd_rst (s : State) (x : RdState) : (s.setRd x).rst = s.rst := rfl
@[simp] theorem State.setRd_free (s : State) (x : RdState) : (s.setRd x).free = s.free := rfl
@[simp] theorem State.setRd_pending (s : State) (x : RdState) : (s.setRd x).pending = s.pending := rfl
@[simp] theorem State.setEr_lt (s : State) (x : ErState) : (s.setEr x).lt = s.lt := rfl
@[simp] theorem State.setEr_rf (s : State) (x : ErState) : (s.setEr x).rf = s.rf := rfl
@[simp] theorem State.setEr_la (s : State) (x : ErState) : (s.setEr x).la = s.la := rfl
@[simp] theorem State.setEr_lb (s : State) (x : ErState) : (s.setEr x).lb = s.lb := rfl
@[simp] theorem State.setEr_lc (s : State) (x : ErState) : (s.setEr x).lc = s.lc := rfl
@[simp] theorem State.setEr_vt (s : State) (x : ErState) : (s.setEr x).vt = s.vt := rfl
@[simp] theorem State.setEr_hp (s : State) (x : ErState) : (s.setEr x).hp = s.hp := rfl
@[simp] theorem State.setEr_lg (s : State) (x : ErState) : (s.setEr x).lg = s.lg := rfl
@[simp] theorem State.setEr_sc (s : State) (x : ErState) : (s.setEr x).sc = s.sc := rfl
@[simp] theorem State.setEr_chan (s : State) (x : ErState) : (s.setEr x).chan = s.chan := rfl
@[simp] theorem State.setEr_grp (s : State) (x : ErState) : (s.setEr x).grp = s.grp := rfl
@[simp] theorem State.setEr_maps (s : State) (x : ErState) : (s.setEr x).maps = s.maps := rfl
@[simp] theorem State.setEr_fb (s : State) (x : ErState) : (s.setEr x).fb = s.fb := rfl
@[simp] theorem State.setEr_nw (s : State) (x : ErState) : (s.setEr x).nw = s.nw := rfl
@[simp] theorem State.setEr_cn (s : State) (x : ErState) : (s.setEr x).cn = s.cn := rfl
@[simp] theorem State.setEr_br (s : State) (x : ErState) : (s.setEr x).br = s.br := rfl
@[simp] theorem State.setEr_rdState (s : State) (x : ErState) : (s.setEr x).rd_ = s.rd_ := rfl
@[simp] theorem State.setEr_er (s : State) (x : ErState) : (s.setEr x).er = x := rfl
@[simp] theorem State.setEr_pw (s : State) (x : ErState) : (s.setEr x).pw = s.pw := rfl
@[simp] theorem State.setEr_up (s : State) (x : ErState) : (s.setEr x).up = s.up := rfl
@[simp] theorem State.setEr_key (s : State) (x : ErState) : (s.setEr x).key = s.key := rfl
@[simp] theorem State.setEr_slotCode (s : State) (x : ErState) : (s.setEr x).slotCode = s.slotCode := rfl
@[simp] theorem State.setEr_rst (s : State) (x : ErState) : (s.setEr x).rst = s.rst := rfl
@[simp] theorem State.setEr_free (s : State) (x : ErState) : (s.setEr x).free = s.free := rfl
@[simp] theorem State.setEr_pending (s : State) (x : ErState) : (s.setEr x).pending = s.pending := rfl
@[simp] theorem State.setUp_lt (s : State) (x : UpState) : (s.setUp x).lt = s.lt := rfl
@[simp] theorem State.setUp_rf (s : State) (x : UpState) : (s.setUp x).rf = s.rf := rfl
@[simp] theorem State.setUp_la (s : State) (x : UpState) : (s.setUp x).la = s.la := rfl
@[simp] theorem State.setUp_lb (s : State) (x : UpState) : (s.setUp x).lb = s.lb := rfl
@[simp] theorem State.setUp_lc (s : State) (x : UpState) : (s.setUp x).lc = s.lc := rfl
@[simp] theorem State.setUp_vt (s : State) (x : UpState) : (s.setUp x).vt = s.vt := rfl
@[simp] theorem State.setUp_hp (s : State) (x : UpState) : (s.setUp x).hp = s.hp := rfl
@[simp] theorem State.setUp_lg (s : State) (x : UpState) : (s.setUp x).lg = s.lg := rfl
@[simp] theorem State.setUp_sc (s : State) (x : UpState) : (s.setUp x).sc = s.sc := rfl
@[simp] theorem State.setUp_chan (s : State) (x : UpState) : (s.setUp x).chan = s.chan := rfl
@[simp] theorem State.setUp_grp (s : State) (x : UpState) : (s.setUp x).grp = s.grp := rfl
@[simp] theorem State.setUp_maps (s : State) (x : UpState) : (s.setUp x).maps = s.maps := rfl
@[simp] theorem State.setUp_fb (s : State) (x : UpState) : (s.setUp x).fb = s.fb := rfl
@[simp] theorem State.setUp_nw (s : State) (x : UpState) : (s.setUp x).nw = s.nw := rfl
@[simp] theorem State.setUp_cn (s : State) (x : UpState) : (s.setUp x).cn = s.cn := rfl
@[simp] theorem State.setUp_br (s : State) (x : UpState) : (s.setUp x).br = s.br := rfl
@[simp] theorem State.setUp_rdState (s : State) (x : UpState) : (s.setUp x).rd_ = s.rd_ := rfl
@[simp] theorem State.setUp_er (s : State) (x : UpState) : (s.setUp x).er = s.er := rfl
@[simp] theorem State.setUp_pw (s : State) (x : UpState) : (s.setUp x).pw = s.pw := rfl
@[simp] theorem State.setUp_up (s : State) (x : UpState) : (s.setUp x).up = x := rfl
@[simp] theorem State.setUp_key (s : State) (x : UpState) : (s.setUp x).key = s.key := rfl
@[simp] theorem State.setUp_slotCode (s : State) (x : UpState) : (s.setUp x).slotCode = s.slotCode := rfl
@[simp] theorem State.setUp_rst (s : State) (x : UpState) : (s.setUp x).rst = s.rst := rfl
@[simp] theorem State.setUp_free (s : State) (x : UpState) : (s.setUp x).free = s.free := rfl
@[simp] theorem State.setUp_pending (s : State) (x : UpState) : (s.setUp x).pending = s.pending := rfl
@[simp] theorem State.setBr_lt (s : State) (x : BrState) : (s.setBr x).lt = s.lt := rfl
@[simp] theorem State.setBr_rf (s : State) (x : BrState) : (s.setBr x).rf = s.rf := rfl
@[simp] theorem State.setBr_la (s : State) (x : BrState) : (s.setBr x).la = s.la := rfl
@[simp] theorem State.setBr_lb (s : State) (x : BrState) : (s.setBr x).lb = s.lb := rfl
@[simp] theorem State.setBr_lc (s : State) (x : BrState) : (s.setBr x).lc = s.lc := rfl
@[simp] theorem State.setBr_vt (s : State) (x : BrState) : (s.setBr x).vt = s.vt := rfl
@[simp] theorem State.setBr_hp (s : State) (x : BrState) : (s.setBr x).hp = s.hp := rfl
@[simp] theorem State.setBr_lg (s : State) (x : BrState) : (s.setBr x).lg = s.lg := rfl
@[simp] theorem State.setBr_sc (s : State) (x : BrState) : (s.setBr x).sc = s.sc := rfl
@[simp] theorem State.setBr_chan (s : State) (x : BrState) : (s.setBr x).chan = s.chan := rfl
@[simp] theorem State.setBr_grp (s : State) (x : BrState) : (s.setBr x).grp = s.grp := rfl
@[simp] theorem State.setBr_maps (s : State) (x : BrState) : (s.setBr x).maps = s.maps := rfl
@[simp] theorem State.setBr_fb (s : State) (x : BrState) : (s.setBr x).fb = s.fb := rfl
@[simp] theorem State.setBr_nw (s : State) (x : BrState) : (s.setBr x).nw = s.nw := rfl
@[simp] theorem State.setBr_cn (s : State) (x : BrState) : (s.setBr x).cn = s.cn := rfl
@[simp] theorem State.setBr_br (s : State) (x : BrState) : (s.setBr x).br = x := rfl
@[simp] theorem State.setBr_rdState (s : State) (x : BrState) : (s.setBr x).rd_ = s.rd_ := rfl
@[simp] theorem State.setBr_er (s : State) (x : BrState) : (s.setBr x).er = s.er := rfl
@[simp] theorem State.setBr_pw (s : State) (x : BrState) : (s.setBr x).pw = s.pw := rfl
@[simp] theorem State.setBr_up (s : State) (x : BrState) : (s.setBr x).up = s.up := rfl
@[simp] theorem State.setBr_key (s : State) (x : BrState) : (s.setBr x).key = s.key := rfl
@[simp] theorem State.setBr_slotCode (s : State) (x : BrState) : (s.setBr x).slotCode = s.slotCode := rfl
@[simp] theorem State.setBr_rst (s : State) (x : BrState) : (s.setBr x).rst = s.rst := rfl
@[simp] theorem State.setBr_free (s : State) (x : BrState) : (s.setBr x).free = s.free := rfl
@[simp] theorem State.setBr_pending (s : State) (x : BrState) : (s.setBr x).pending = s.pending := rfl
@[simp] theorem State.setKey_lt (s : State) (x : KeyState) : (s.setKey x).lt = s.lt := rfl
@[simp] theorem State.setKey_rf (s : State) (x : KeyState) : (s.setKey x).rf = s.rf := rfl
@[simp] theorem State.setKey_la (s : State) (x : KeyState) : (s.setKey x).la = s.la := rfl
@[simp] theorem State.setKey_lb (s : State) (x : KeyState) : (s.setKey x).lb = s.lb := rfl
@[simp] theorem State.setKey_lc (s : State) (x : KeyState) : (s.setKey x).lc = s.lc := rfl
@[simp] theorem State.setKey_vt (s : State) (x : KeyState) : (s.setKey x).vt = s.vt := rfl
@[simp] theorem State.setKey_hp (s : State) (x : KeyState) : (s.setKey x).hp = s.hp := rfl
@[simp] theorem State.setKey_lg (s : State) (x : KeyState) : (s.setKey x).lg = s.lg := rfl
@[simp] theorem State.setKey_sc (s : State) (x : KeyState) : (s.setKey x).sc = s.sc := rfl
@[simp] theorem State.setKey_chan (s : State) (x : KeyState) : (s.setKey x).chan = s.chan := rfl
@[simp] theorem State.setKey_grp (s : State) (x : KeyState) : (s.setKey x).grp = s.grp := rfl
@[simp] theorem State.setKey_maps (s : State) (x : KeyState) : (s.setKey x).maps = s.maps := rfl
@[simp] theorem State.setKey_fb (s : State) (x : KeyState) : (s.setKey x).fb = s.fb := rfl
@[simp] theorem State.setKey_nw (s : State) (x : KeyState) : (s.setKey x).nw = s.nw := rfl
@[simp] theorem State.setKey_cn (s : State) (x : KeyState) : (s.setKey x).cn = s.cn := rfl
@[simp] theorem State.setKey_br (s : State) (x : KeyState) : (s.setKey x).br = s.br := rfl
@[simp] theorem State.setKey_rdState (s : State) (x : KeyState) : (s.setKey x).rd_ = s.rd_ := rfl
@[simp] theorem State.setKey_er (s : State) (x : KeyState) : (s.setKey x).er = s.er := rfl
@[simp] theorem State.setKey_pw (s : State) (x : KeyState) : (s.setKey x).pw = s.pw := rfl
@[simp] theorem State.setKey_up (s : State) (x : KeyState) : (s.setKey x).up = s.up := rfl
@[simp] theorem State.setKey_key (s : State) (x : KeyState) : (s.setKey x).key = x := rfl
@[simp] theorem State.setKey_slotCode (s : State) (x : KeyState) : (s.setKey x).slotCode = s.slotCode := rfl
@[simp] theorem State.setKey_rst (s : State) (x : KeyState) : (s.setKey x).rst = s.rst := rfl
@[simp] theorem State.setKey_free (s : State) (x : KeyState) : (s.setKey x).free = s.free := rfl
@[simp] theorem State.setKey_pending (s : State) (x : KeyState) : (s.setKey x).pending = s.pending := rfl
@[simp] theorem State.setCh_lt (s : State) (c : Nat) (x : FdChan) : (s.setCh c x).lt = s.lt := rfl
@[simp] theorem State.setCh_rf (s : State) (c : Nat) (x : FdChan) : (s.setCh c x).rf = s.rf := rfl
@[simp] theorem State.setCh_la (s : State) (c : Nat) (x : FdChan) : (s.setCh c x).la = s.la := rfl
@[simp] theorem State.setCh_lb (s : State) (c : Nat) (x : FdChan) : (s.setCh c x).lb = s.lb := rfl
@[simp] theorem State.setCh_lc (s : State) (c : Nat) (x : FdChan) : (s.setCh c x).lc = s.lc := rfl
@[simp] theorem State.setCh_vt (s : State) (c : Nat) (x : FdChan) : (s.setCh c x).vt = s.vt := rfl
@[simp] theorem State.setCh_hp (s : State) (c : Nat) (x : FdChan) : (s.setCh c x).hp = s.hp := rfl
@[simp] theorem State.setCh_lg (s : State) (c : Nat) (x : FdChan) : (s.setCh c x).lg = s.lg := rfl
@[simp] theorem State.setCh_sc (s : State) (c : Nat) (x : FdChan) : (s.setCh c x).sc = s.sc := rfl
@[simp] theorem State.setCh_chan (s : State) (c : Nat) (x : FdChan) : (s.setCh c x).chan = NMap.put s.chan c x := rfl
@[simp] theorem State.setCh_grp (s : State) (c : Nat) (x : FdChan) : (s.setCh c x).grp = s.grp := rfl
@[simp] theorem State.setCh_maps (s : State) (c : Nat) (x : FdChan) : (s.setCh c x).maps = s.maps := rfl
@[simp] theorem State.setCh_fb (s : State) (c : Nat) (x : FdChan) : (s.setCh c x).fb = s.fb := rfl
@[simp] theorem State.setCh_nw (s : State) (c : Nat) (x : FdChan) : (s.setCh c x).nw = s.nw := rfl
@[simp] theorem State.setCh_cn (s : State) (c : Nat) (x : FdChan) : (s.setCh c x).cn = s.cn := rfl
@[simp] theorem State.setCh_br (s : State) (c : Nat) (x : FdChan) : (s.setCh c x).br = s.br := rfl
@[simp] theorem State.setCh_rdState (s : State) (c : Nat) (x : FdChan) : (s.setCh c x).rd_ = s.rd_ := rfl
@[simp] theorem State.setCh_er (s : State) (c : Nat) (x : FdChan) : (s.setCh c x).er = s.er := rfl
@[simp] theorem State.setCh_pw (s : State) (c : Nat) (x : FdChan) : (s.setCh c x).pw = s.pw := rfl
@[simp] theorem State.setCh_up (s : State) (c : Nat) (x : FdChan) : (s.setCh c x).up = s.up := rfl
@[simp] theorem State.setCh_key (s : State) (c : Nat) (x : FdChan) : (s.setCh c x).key = s.key := rfl
@[simp] theorem State.setCh_slotCode (s : State) (c : Nat) (x : FdChan) : (s.setCh c x).slotCode = s.slotCode := rfl
@[simp] theorem State.setCh_rst (s : State) (c : Nat) (x : FdChan) : (s.setCh c x).rst = s.rst := rfl
@[simp] theorem State.setCh_free (s : State) (c : Nat) (x : FdChan) : (s.setCh c x).free = s.free := rfl
@[simp] theorem State.setCh_pending (s : State) (c : Nat) (x : FdChan) : (s.setCh c x).pending = s.pending := rfl
@[simp] theorem State.setGroup_lt (s : State) (g : Nat) (x : FdGroup) : (s.setGroup g x).lt = s.lt := rfl
@[simp] theorem State.setGroup_rf (s : State) (g : Nat) (x : FdGroup) : (s.setGroup g x).rf = s.rf := rfl
@[simp] theorem State.setGroup_la (s : State) (g : Nat) (x : FdGroup) : (s.setGroup g x).la = s.la := rfl
@[simp] theorem State.setGroup_lb (s : State) (g : Nat) (x : FdGroup) : (s.setGroup g x).lb = s.lb := rfl
@[simp] theorem State.setGroup_lc (s : State) (g : Nat) (x : FdGroup) : (s.setGroup g x).lc = s.lc := rfl
@[simp] theorem State.setGroup_vt (s : State) (g : Nat) (x : FdGroup) : (s.setGroup g x).vt = s.vt := rfl
@[simp] theorem State.setGroup_hp (s : State) (g : Nat) (x : FdGroup) : (s.setGroup g x).hp = s.hp := rfl
@[simp] theorem State.setGroup_lg (s : State) (g : Nat) (x : FdGroup) : (s.setGroup g x).lg = s.lg := rfl
@[simp] theorem State.setGroup_sc (s : State) (g : Nat) (x : FdGroup) : (s.setGroup g x).sc = s.sc := rfl
@[simp] theorem State.setGroup_chan (s : State) (g : Nat) (x : FdGroup) : (s.setGroup g x).chan = s.chan := rfl
@[simp] theorem State.setGroup_grp (s : State) (g : Nat) (x : FdGroup) : (s.setGroup g x).grp = NMap.put s.grp g x := rfl
@[simp] theorem State.setGroup_maps (s : State) (g : Nat) (x : FdGroup) : (s.setGroup g x).maps = s.maps := rfl
@[simp] theorem State.setGroup_fb (s : State) (g : Nat) (x : FdGroup) : (s.setGroup g x).fb = s.fb := rfl
@[simp] theorem State.setGroup_nw (s : State) (g : Nat) (x : FdGroup) : (s.setGroup g x).nw = s.nw := rfl
@[simp] theorem State.setGroup_cn (s : State) (g : Nat) (x : FdGroup) : (s.setGroup g x).cn = s.cn := rfl
@[simp] theorem State.setGroup_br (s : State) (g : Nat) (x : FdGroup) : (s.setGroup g x).br = s.br := rfl
@[simp] theorem State.setGroup_rdState (s : State) (g : Nat) (x : FdGroup) : (s.setGroup g x).rd_ = s.rd_ := rfl
@[simp] theorem State.setGroup_er (s : State) (g : Nat) (x : FdGroup) : (s.setGroup g x).er = s.er := rfl
@[simp] theorem State.setGroup_pw (s : State) (g : Nat) (x : FdGroup) : (s.setGroup g x).pw = s.pw := rfl
@[simp] theorem State.setGroup_up (s : State) (g : Nat) (x : FdGroup) : (s.setGroup g x).up = s.up := rfl
@[simp] theorem State.setGroup_key (s : State) (g : Nat) (x : FdGroup) : (s.setGroup g x).key = s.key := rfl
@[simp] theorem State.setGroup_slotCode (s : State) (g : Nat) (x : FdGroup) : (s.setGroup g x).slotCode = s.slotCode := rfl
@[simp] theorem State.setGroup_rst (s : State) (g : Nat) (x : FdGroup) : (s.setGroup g x).rst = s.rst := rfl
@[simp] theorem State.setGroup_free (s : State) (g : Nat) (x : FdGroup) : (s.setGroup g x).free = s.free := rfl
@[simp] theorem State.setGroup_pending (s : State) (g : Nat) (x : FdGroup) : (s.setGroup g x).pending = s.pending := rfl
@[simp] theorem State.setCan_lt (s : State) (c : Nat) (x : CanCtl) : (s.setCan c x).lt = s.lt := rfl
@[simp] theorem State.setCan_rf (s : State) (c : Nat) (x : CanCtl) : (s.setCan c x).rf = s.rf := rfl
@[simp] theorem State.setCan_la (s : State) (c : Nat) (x : CanCtl) : (s.setCan c x).la = s.la := rfl
@[simp] theorem State.setCan_lb (s : State) (c : Nat) (x : CanCtl) : (s.setCan c x).lb = s.lb := rfl
@[simp] theorem State.setCan_lc (s : State) (c : Nat) (x : CanCtl) : (s.setCan c x).lc = s.lc := rfl
@[simp] theorem State.setCan_vt (s : State) (c : Nat) (x : CanCtl) : (s.setCan c x).vt = s.vt := rfl
@[simp] theorem State.setCan_hp (s : State) (c : Nat) (x : CanCtl) : (s.setCan c x).hp = s.hp := rfl
@[simp] theorem State.setCan_lg (s : State) (c : Nat) (x : CanCtl) : (s.setCan c x).lg = s.lg := rfl
@[simp] theorem State.setCan_sc (s : State) (c : Nat) (x : CanCtl) : (s.setCan c x).sc = s.sc := rfl
@[simp] theorem State.setCan_chan (s : State) (c : Nat) (x : CanCtl) : (s.setCan c x).chan = s.chan := rfl
@[simp] theorem State.setCan_grp (s : State) (c : Nat) (x : CanCtl) : (s.setCan c x).grp = s.grp := rfl
@[simp] theorem State.setCan_maps (s : State) (c : Nat) (x : CanCtl) : (s.setCan c x).maps = s.maps := rfl
@[simp] theorem State.setCan_fb (s : State) (c : Nat) (x : CanCtl) : (s.setCan c x).fb = s.fb := rfl
@[simp] theorem State.setCan_nw (s : State) (c : Nat) (x : CanCtl) : (s.setCan c x).nw = s.nw := rfl
@[simp] theorem State.setCan_cn (s : State) (c : Nat) (x : CanCtl) : (s.setCan c x).cn = { s.cn with ctl := NMap.put s.cn.ctl c x } := rfl
@[simp] theorem State.setCan_br (s : State) (c : Nat) (x : CanCtl) : (s.setCan c x).br = s.br := rfl
@[simp] theorem State.setCan_rdState (s : State) (c : Nat) (x : CanCtl) : (s.setCan c x).rd_ = s.rd_ := rfl
@[simp] theorem State.setCan_er (s : State) (c : Nat) (x : CanCtl) : (s.setCan c x).er = s.er := rfl
@[simp] theorem State.setCan_pw (s : State) (c : Nat) (x : CanCtl) : (s.setCan c x).pw = s.pw := rfl
@[simp] theorem State.setCan_up (s : State) (c : Nat) (x : CanCtl) : (s.setCan c x).up = s.up := rfl
@[simp] theorem State.setCan_key (s : State) (c : Nat) (x : CanCtl) : (s.setCan c x).key = s.key := rfl
@[simp] theorem State.setCan_slotCode (s : State) (c : Nat) (x : CanCtl) : (s.setCan c x).slotCode = s.slotCode := rfl
@[simp] theorem State.setCan_rst (s : State) (c : Nat) (x : CanCtl) : (s.setCan c x).rst = s.rst := rfl
@[simp] theorem State.setCan_free (s : State) (c : Nat) (x : CanCtl) : (s.setCan c x).free = s.free := rfl
@[simp] theorem State.setCan_pending (s : State) (c : Nat) (x : CanCtl) : (s.setCan c x).pending = s.pending := rfl
@[simp] theorem State.keepQueue_lt (s : State) (s0 : State) : (State.keepQueue s0 s).lt = s.lt := rfl
@[simp] theorem State.keepQueue_rf (s : State) (s0 : State) : (State.keepQueue s0 s).rf = s.rf := rfl
@[simp] theorem State.keepQueue_la (s : State) (s0 : State) : (State.keepQueue s0 s).la = s.la := rfl
@[simp] theorem State.keepQueue_lb (s : State) (s0 : State) : (State.keepQueue s0 s).lb = s.lb := rfl
@[simp] theorem State.keepQueue_lc (s : State) (s0 : State) : (State.keepQueue s0 s).lc = s.lc := rfl
@[simp] theorem State.keepQueue_vt (s : State) (s0 : State) : (State.keepQueue s0 s).vt = s.vt := rfl
@[simp] theorem State.keepQueue_hp (s : State) (s0 : State) : (State.keepQueue s0 s).hp = s.hp := rfl
@[simp] theorem State.keepQueue_lg (s : State) (s0 : State) : (State.keepQueue s0 s).lg = s.lg := rfl
@[simp] theorem State.keepQueue_sc (s : State) (s0 : State) : (State.keepQueue s0 s).sc = s.sc := rfl
@[simp] theorem State.keepQueue_chan (s : State) (s0 : State) : (State.keepQueue s0 s).chan = s.chan := rfl
@[simp] theorem State.keepQueue_grp (s : State) (s0 : State) : (State.keepQueue s0 s).grp = s.grp := rfl
@[simp] theorem State.keepQueue_maps (s : State) (s0 : State) : (State.keepQueue s0 s).maps = s.maps := rfl
@[simp] theorem State.keepQueue_fb (s : State) (s0 : State) : (State.keepQueue s0 s).fb = s.fb := rfl
@[simp] theorem State.keepQueue_nw (s : State) (s0 : State) : (State.keepQueue s0 s).nw = s.nw := rfl
@[simp] theorem State.keepQueue_cn (s : State) (s0 : State) : (State.keepQueue s0 s).cn = s.cn := rfl
@[simp] theorem State.keepQueue_br (s : State) (s0 : State) : (State.keepQueue s0 s).br = s.br := rfl
@[simp] theorem State.keepQueue_rdState (s : State) (s0 : State) : (State.keepQueue s0 s).rd_ = s.rd_ := rfl
@[simp] theorem State.keepQueue_er (s : State) (s0 : State) : (State.keepQueue s0 s).er = s.er := rfl
@[simp] theorem State.keepQueue_pw (s : State) (s0 : State) : (State.keepQueue s0 s).pw = s.pw := rfl
@[simp] theorem State.keepQueue_up (s : State) (s0 : State) : (State.keepQueue s0 s).up = s.up := rfl
@[simp] theorem State.keepQueue_key (s : State) (s0 : State) : (State.keepQueue s0 s).key = s.key := rfl
@[simp] theorem State.keepQueue_slotCode (s : State) (s0 : State) : (State.keepQueue s0 s).slotCode = s.slotCode := rfl
@[simp] theorem State.keepQueue_rst (s : State) (s0 : State) : (State.keepQueue s0 s).rst = s.rst := rfl
@[simp] theorem State.keepQueue_free (s : State) (s0 : State) : (State.keepQueue s0 s).free = s.free := rfl
@[simp] theorem State.keepQueue_pending (s : State) (s0 : State) : (State.keepQueue s0 s).pending = s0.pending := rfl
@[simp] theorem State.setLane_lt (s : State) (x : Nat) (l : Lane) : (s.setLane x l).lt = s.lt := by
  unfold State.setLane
  split
  · rfl
  · split <;> rfl
@[simp] theorem State.onLanes_lt (s : State) (g : Lane → Lane) : (s.onLanes g).lt = s.lt :=
  State.onLanes_keeps (fun s => s.lt) State.setLane_lt s g
@[simp] theorem State.now_lt (s : State) (t : Nat) : (s.now t).lt = t := rfl
@[simp] theorem State.setLane_rf (s : State) (x : Nat) (l : Lane) : (s.setLane x l).rf = s.rf := by
  unfold State.setLane
  split
  · rfl
  · split <;> rfl
@[simp] theorem State.onLanes_rf (s : State) (g : Lane → Lane) : (s.onLanes g).rf = s.rf :=
  State.onLanes_keeps (fun s => s.rf) State.setLane_rf s g
@[simp] theorem State.now_rf (s : State) (t : Nat) : (s.now t).rf = s.rf := State.onLanes_rf s _
@[simp] theorem State.setLane_vt (s : State) (x : Nat) (l : Lane) : (s.setLane x l).vt = s.vt := by
  unfold State.setLane
  split
  · rfl
  · split <;> rfl
@[simp] theorem State.onLanes_vt (s : State) (g : Lane → Lane) : (s.onLanes g).vt = s.vt :=
  State.onLanes_keeps (fun s => s.vt) State.setLane_vt s g
@[simp] theorem State.now_vt (s : State) (t : Nat) : (s.now t).vt = s.vt := State.onLanes_vt s _
@[simp] theorem State.setLane_hp (s : State) (x : Nat) (l : Lane) : (s.setLane x l).hp = s.hp := by
  unfold State.setLane
  split
  · rfl
  · split <;> rfl
@[simp] theorem State.onLanes_hp (s : State) (g : Lane → Lane) : (s.onLanes g).hp = s.hp :=
  State.onLanes_keeps (fun s => s.hp) State.setLane_hp s g
@[simp] theorem State.now_hp (s : State) (t : Nat) : (s.now t).hp = s.hp := State.onLanes_hp s _
@[simp] theorem State.setLane_lg (s : State) (x : Nat) (l : Lane) : (s.setLane x l).lg = s.lg := by
  unfold State.setLane
  split
  · rfl
  · split <;> rfl
@[simp] theorem State.onLanes_lg (s : State) (g : Lane → Lane) : (s.onLanes g).lg = s.lg :=
  State.onLanes_keeps (fun s => s.lg) State.setLane_lg s g
@[simp] theorem State.now_lg (s : State) (t : Nat) : (s.now t).lg = s.lg := State.onLanes_lg s _
@[simp] theorem State.setLane_sc (s : State) (x : Nat) (l : Lane) : (s.setLane x l).sc = s.sc := by
  unfold State.setLane
  split
  · rfl
  · split <;> rfl
@[simp] theorem State.onLanes_sc (s : State) (g : Lane → Lane) : (s.onLanes g).sc = s.sc :=
  State.onLanes_keeps (fun s => s.sc) State.setLane_sc s g
@[simp] theorem State.now_sc (s : State) (t : Nat) : (s.now t).sc = s.sc := State.onLanes_sc s _
@[simp] theorem State.setLane_chan (s : State) (x : Nat) (l : Lane) : (s.setLane x l).chan = s.chan := by
  unfold State.setLane
  split
  · rfl
  · split <;> rfl
@[simp] theorem State.onLanes_chan (s : State) (g : Lane → Lane) : (s.onLanes g).chan = s.chan :=
  State.onLanes_keeps (fun s => s.chan) State.setLane_chan s g
@[simp] theorem State.now_chan (s : State) (t : Nat) : (s.now t).chan = s.chan := State.onLanes_chan s _
@[simp] theorem State.setLane_grp (s : State) (x : Nat) (l : Lane) : (s.setLane x l).grp = s.grp := by
  unfold State.setLane
  split
  · rfl
  · split <;> rfl
@[simp] theorem State.onLanes_grp (s : State) (g : Lane → Lane) : (s.onLanes g).grp = s.grp :=
  State.onLanes_keeps (fun s => s.grp) State.setLane_grp s g
@[simp] theorem State.now_grp (s : State) (t : Nat) : (s.now t).grp = s.grp := State.onLanes_grp s _
@[simp] theorem State.setLane_maps (s : State) (x : Nat) (l : Lane) : (s.setLane x l).maps = s.maps := by
  unfold State.setLane
  split
  · rfl
  · split <;> rfl
@[simp] theorem State.onLanes_maps (s : State) (g : Lane → Lane) : (s.onLanes g).maps = s.maps :=
  State.onLanes_keeps (fun s => s.maps) State.setLane_maps s g
@[simp] theorem State.now_maps (s : State) (t : Nat) : (s.now t).maps = s.maps := State.onLanes_maps s _
@[simp] theorem State.setLane_fb (s : State) (x : Nat) (l : Lane) : (s.setLane x l).fb = s.fb := by
  unfold State.setLane
  split
  · rfl
  · split <;> rfl
@[simp] theorem State.onLanes_fb (s : State) (g : Lane → Lane) : (s.onLanes g).fb = s.fb :=
  State.onLanes_keeps (fun s => s.fb) State.setLane_fb s g
@[simp] theorem State.now_fb (s : State) (t : Nat) : (s.now t).fb = s.fb := State.onLanes_fb s _
@[simp] theorem State.setLane_nw (s : State) (x : Nat) (l : Lane) : (s.setLane x l).nw = s.nw := by
  unfold State.setLane
  split
  · rfl
  · split <;> rfl
@[simp] theorem State.onLanes_nw (s : State) (g : Lane → Lane) : (s.onLanes g).nw = s.nw :=
  State.onLanes_keeps (fun s => s.nw) State.setLane_nw s g
@[simp] theorem State.now_nw (s : State) (t : Nat) : (s.now t).nw = s.nw := State.onLanes_nw s _
@[simp] theorem State.setLane_cn (s : State) (x : Nat) (l : Lane) : (s.setLane x l).cn = s.cn := by
  unfold State.setLane
  split
  · rfl
  · split <;> rfl
@[simp] theorem State.onLanes_cn (s : State) (g : Lane → Lane) : (s.onLanes g).cn = s.cn :=
  State.onLanes_keeps (fun s => s.cn) State.setLane_cn s g
@[simp] theorem State.now_cn (s : State) (t : Nat) : (s.now t).cn = s.cn := State.onLanes_cn s _
@[simp] theorem State.setLane_br (s : State) (x : Nat) (l : Lane) : (s.setLane x l).br = s.br := by
  unfold State.setLane
  split
  · rfl
  · split <;> rfl
@[simp] theorem State.onLanes_br (s : State) (g : Lane → Lane) : (s.onLanes g).br = s.br :=
  State.onLanes_keeps (fun s => s.br) State.setLane_br s g
@[simp] theorem State.now_br (s : State) (t : Nat) : (s.now t).br = s.br := State.onLanes_br s _
@[simp] theorem State.setLane_rdState (s : State) (x : Nat) (l : Lane) : (s.setLane x l).rd_ = s.rd_ := by
  unfold State.setLane
  split
  · rfl
  · split <;> rfl
@[simp] theorem State.onLanes_rdState (s : State) (g : Lane → Lane) : (s.onLanes g).rd_ = s.rd_ :=
  State.onLanes_keeps (fun s => s.rd_) State.setLane_rdState s g
@[simp] theorem State.now_rdState (s : State) (t : Nat) : (s.now t).rd_ = s.rd_ := State.onLanes_rdState s _
@[simp] theorem State.setLane_er (s : State) (x : Nat) (l : Lane) : (s.setLane x l).er = s.er := by
  unfold State.setLane
  split
  · rfl
  · split <;> rfl
@[simp] theorem State.onLanes_er (s : State) (g : Lane → Lane) : (s.onLanes g).er = s.er :=
  State.onLanes_keeps (fun s => s.er) State.setLane_er s g
@[simp] theorem State.now_er (s : State) (t : Nat) : (s.now t).er = s.er := State.onLanes_er s _
@[simp] theorem State.setLane_pw (s : State) (x : Nat) (l : Lane) : (s.setLane x l).pw = s.pw := by
  unfold State.setLane
  split
  · rfl
  · split <;> rfl
@[simp] theorem State.onLanes_pw (s : State) (g : Lane → Lane) : (s.onLanes g).pw = s.pw :=
  State.onLanes_keeps (fun s => s.pw) State.setLane_pw s g
@[simp] theorem State.now_pw (s : State) (t : Nat) : (s.now t).pw = s.pw := State.onLanes_pw s _
@[simp] theorem State.setLane_up (s : State) (x : Nat) (l : Lane) : (s.setLane x l).up = s.up := by
  unfold State.setLane
  split
  · rfl
  · split <;> rfl
@[simp] theorem State.onLanes_up (s : State) (g : Lane → Lane) : (s.onLanes g).up = s.up :=
  State.onLanes_keeps (fun s => s.up) State.setLane_up s g
@[simp] theorem State.now_up (s : State) (t : Nat) : (s.now t).up = s.up := State.onLanes_up s _
@[simp] theorem State.setLane_key (s : State) (x : Nat) (l : Lane) : (s.setLane x l).key = s.key := by
  unfold State.setLane
  split
  · rfl
  · split <;> rfl
@[simp] theorem State.onLanes_key (s : State) (g : Lane → Lane) : (s.onLanes g).key = s.key :=
  State.onLanes_keeps (fun s => s.key) State.setLane_key s g
@[simp] theorem State.now_key (s : State) (t : Nat) : (s.now t).key = s.key := State.onLanes_key s _
@[simp] theorem State.setLane_slotCode (s : State) (x : Nat) (l : Lane) : (s.setLane x l).slotCode = s.slotCode := by
  unfold State.setLane
  split
  · rfl
  · split <;> rfl
@[simp] theorem State.onLanes_slotCode (s : State) (g : Lane → Lane) : (s.onLanes g).slotCode = s.slotCode :=
  State.onLanes_keeps (fun s => s.slotCode) State.setLane_slotCode s g
@[simp] theorem State.now_slotCode (s : State) (t : Nat) : (s.now t).slotCode = s.slotCode := State.onLanes_slotCode s _
@[simp] theorem State.setLane_rst (s : State) (x : Nat) (l : Lane) : (s.setLane x l).rst = s.rst := by
  unfold State.setLane
  split
  · rfl
  · split <;> rfl
@[simp] theorem State.onLanes_rst (s : State) (g : Lane → Lane) : (s.onLanes g).rst = s.rst :=
  State.onLanes_keeps (fun s => s.rst) State.setLane_rst s g
@[simp] theorem State.now_rst (s : State) (t : Nat) : (s.now t).rst = s.rst := State.onLanes_rst s _
@[simp] theorem State.setLane_free (s : State) (x : Nat) (l : Lane) : (s.setLane x l).free = s.free := by
  unfold State.setLane
  split
  · rfl
  · split <;> rfl
@[simp] theorem State.onLanes_free (s : State) (g : Lane → Lane) : (s.onLanes g).free = s.free :=
  State.onLanes_keeps (fun s => s.free) State.setLane_free s g
@[simp] theorem State.now_free (s : State) (t : Nat) : (s.now t).free = s.free := State.onLanes_free s _
@[simp] theorem State.setLane_pending (s : State) (x : Nat) (l : Lane) : (s.setLane x l).pending = s.pending := by
  unfold State.setLane
  split
  · rfl
  · split <;> rfl
@[simp] theorem State.onLanes_pending (s : State) (g : Lane → Lane) : (s.onLanes g).pending = s.pending :=
  State.onLanes_keeps (fun s => s.pending) State.setLane_pending s g
@[simp] theorem State.now_pending (s : State) (t : Nat) : (s.now t).pending = s.pending := State.onLanes_pending s _

end Sys2Proof.Machine
end

