-- ==== Sys2Proof/Laws/Registers.lean ====
section
/-! SUPPORT. Laws of the register fields: a field reads back what was written to it, and a write leaves the registers at
other addresses and the other fields of its own word alone. -/

namespace Sys2Proof.Machine

theorem Fld.getLsbD_ones (f : Fld) (h : f.width ≤ 32) (k : Nat) : f.ones.getLsbD k = decide (k < f.width) := by
  have hp : 2 ^ f.width ≤ 2 ^ 32 := Nat.pow_le_pow_right (by decide) h
  have h1 : 0 < 2 ^ f.width := Nat.two_pow_pos _
  rw [Fld.ones, BitVec.getLsbD_ofNat, Nat.testBit_two_pow_sub_one]
  by_cases hk : k < f.width
  · have : k < 32 := by omega
    simp [hk, this]
  · simp [hk]

/-- A field that lies in a word reads back the low bits of what is written into it. -/
theorem Fld.ext_ins (f : Fld) (w : Word) (v : Nat) (h : f.lo + f.width ≤ 32) : f.ext (f.ins w v) = v % 2 ^ f.width := by
  have hw : f.width ≤ 32 := by omega
  unfold Fld.ext Fld.ins
  have : ((w &&& ~~~(f.ones <<< f.lo)) ||| ((BitVec.ofNat 32 v &&& f.ones) <<< f.lo)) >>> f.lo &&& f.ones
      = BitVec.ofNat 32 v &&& f.ones := by
    apply BitVec.eq_of_getLsbD_eq
    intro k hk
    simp only [BitVec.getLsbD_and, BitVec.getLsbD_ushiftRight, BitVec.getLsbD_or, BitVec.getLsbD_not, BitVec.getLsbD_shiftLeft,
      Fld.getLsbD_ones f hw]
    by_cases hkw : k < f.width
    · have : f.lo + k < 32 := by omega
      have e : f.lo + k - f.lo = k := by omega
      have n : ¬ f.lo + k < f.lo := by omega
      simp [hkw, this, e, n]
    · simp [hkw]
  rw [this]
  apply Nat.eq_of_testBit_eq
  intro k
  rw [BitVec.testBit_toNat, BitVec.getLsbD_and, Fld.getLsbD_ones f hw, BitVec.getLsbD_ofNat, Nat.testBit_mod_two_pow]
  by_cases hkw : k < f.width
  · have : k < 32 := by omega
    simp [hkw, this]
  · simp [hkw]

/-- A field reads the same after a write to bits of its word that lie outside it. -/
theorem Fld.ext_ins_disjoint (f g : Fld) (w : Word) (v : Nat) (hf : f.lo + f.width ≤ 32) (hg : g.lo + g.width ≤ 32)
    (h : f.lo + f.width ≤ g.lo ∨ g.lo + g.width ≤ f.lo) : f.ext (g.ins w v) = f.ext w := by
  have hfw : f.width ≤ 32 := by omega
  have hgw : g.width ≤ 32 := by omega
  unfold Fld.ext Fld.ins
  congr 1
  apply BitVec.eq_of_getLsbD_eq
  intro k hk
  simp only [BitVec.getLsbD_and, BitVec.getLsbD_ushiftRight, BitVec.getLsbD_or, BitVec.getLsbD_not, BitVec.getLsbD_shiftLeft,
    Fld.getLsbD_ones f hfw, Fld.getLsbD_ones g hgw]
  by_cases hkw : k < f.width
  · have hlt : f.lo + k < 32 := by omega
    rcases h with h | h
    · have : f.lo + k < g.lo := by omega
      simp [hkw, hlt, this]
    · have h1 : ¬ f.lo + k < g.lo := by omega
      have h2 : ¬ f.lo + k - g.lo < g.width := by omega
      simp [hkw, hlt, h1, h2]
  · simp [hkw]

theorem Cells.rd_wr_ne (r : Cells 32) (f g : Fld) (v i j i' j' : Nat) (h : f.addr i' j' ≠ g.addr i j) :
    Cells.rd (Cells.wr r g v i j) f i' j' = Cells.rd r f i' j' := by
  unfold Cells.rd Cells.wr
  rw [Cells.get_set_ne _ _ _ _ h]

theorem Cells.rd_wr_self (r : Cells 32) (f : Fld) (v i j : Nat) (hr : Cells.wf r = true) (h : f.lo + f.width ≤ 32) :
    Cells.rd (Cells.wr r f v i j) f i j = v % 2 ^ f.width := by
  unfold Cells.rd Cells.wr
  rw [Cells.get_set_self _ _ _ hr, Fld.ext_ins f _ v h]

theorem Cells.rd_wr_disjoint (r : Cells 32) (f g : Fld) (v i j i' j' : Nat) (hr : Cells.wf r = true)
    (ha : f.addr i' j' = g.addr i j) (hf : f.lo + f.width ≤ 32) (hg : g.lo + g.width ≤ 32)
    (h : f.lo + f.width ≤ g.lo ∨ g.lo + g.width ≤ f.lo) :
    Cells.rd (Cells.wr r g v i j) f i' j' = Cells.rd r f i' j' := by
  unfold Cells.rd Cells.wr
  rw [ha, Cells.get_set_self _ _ _ hr, Fld.ext_ins_disjoint f g _ v hf hg h]

theorem Cells.wf_wr (r : Cells 32) (f : Fld) (v i j : Nat) (hr : Cells.wf r = true) :
    Cells.wf (Cells.wr r f v i j) = true := Cells.wf_set _ _ _ hr

/-- A field of the module reads the same after a write to a register at another address. -/
theorem State.rd_wr_ne (s : State) (f g : Fld) (v i j i' j' : Nat) (h : f.addr i' j' ≠ g.addr i j) :
    (s.wr g v i j).rd f i' j' = s.rd f i' j' := Cells.rd_wr_ne _ f g v i j i' j' h

/-- A field of the module reads back what is written to it. -/
theorem State.rd_wr_self (s : State) (f : Fld) (v i j : Nat) (hr : Cells.wf s.rf.eff = true) (h : f.lo + f.width ≤ 32) :
    (s.wr f v i j).rd f i j = v % 2 ^ f.width := Cells.rd_wr_self _ f v i j hr h

/-- A field of the module reads the same after a write to another field of its register. -/
theorem State.rd_wr_disjoint (s : State) (f g : Fld) (v i j i' j' : Nat) (hr : Cells.wf s.rf.eff = true)
    (ha : f.addr i' j' = g.addr i j) (hf : f.lo + f.width ≤ 32) (hg : g.lo + g.width ≤ 32)
    (h : f.lo + f.width ≤ g.lo ∨ g.lo + g.width ≤ f.lo) : (s.wr g v i j).rd f i' j' = s.rd f i' j' :=
  Cells.rd_wr_disjoint _ f g v i j i' j' hr ha hf hg h

end Sys2Proof.Machine
end

