-- ==== Sys2Proof/Laws/Lease.lean ====
section
/-! SUPPORT. What sending a lease message leaves as it was: the redundancy unit's registers and what it keeps, but for the message. -/

namespace Sys2Proof.Machine

/-- A state that differs from another in the consist network and in what it delivers: the redundancy unit is as it was, and every
register outside the network's status area. -/
def State.NetOnly (s u : State) : Prop :=
  u.rd_ = s.rd_ ∧ u.slotCode = s.slotCode ∧ ∀ a, a < 0x120000 ∨ 0x124000 ≤ a → Cells.get u.rf.eff a = Cells.get s.rf.eff a

theorem State.NetOnly.refl (s : State) : State.NetOnly s s := ⟨rfl, rfl, fun _ _ => rfl⟩
theorem State.NetOnly.trans {a b c : State} (h : State.NetOnly a b) (g : State.NetOnly b c) : State.NetOnly a c :=
  ⟨g.1.trans h.1, g.2.1.trans h.2.1, fun x hx => (g.2.2 x hx).trans (h.2.2 x hx)⟩

/-- A register of the redundancy unit or of any block below the network reads the same. -/
theorem State.NetOnly.rd {s u : State} (h : State.NetOnly s u) (f : Fld) (i j : Nat)
    (ha : f.addr i j < 0x120000 ∨ 0x124000 ≤ f.addr i j) : u.rd f i j = s.rd f i j := by
  show Cells.rd u.rf.eff f i j = Cells.rd s.rf.eff f i j
  unfold Cells.rd
  rw [h.2.2 _ ha]

theorem State.NetOnly.wr (s : State) (f : Fld) (v i j : Nat) (ha : 0x120000 ≤ f.addr i j ∧ f.addr i j < 0x124000) :
    State.NetOnly s (s.wr f v i j) :=
  ⟨rfl, rfl, fun a h => Cells.get_set_ne _ _ _ _ (by omega)⟩

theorem State.NetOnly.bump (s : State) (f : Fld) (i j n : Nat) (ha : 0x120000 ≤ f.addr i j ∧ f.addr i j < 0x124000) :
    State.NetOnly s (s.bump f i j n) :=
  ⟨rfl, rfl, fun a h => Cells.get_set_ne _ _ _ _ (by omega)⟩

theorem State.NetOnly.onLanes (s : State) (g : Lane → Lane) : State.NetOnly s (s.onLanes g) :=
  ⟨State.onLanes_rdState s g, State.onLanes_slotCode s g, fun a _ => by rw [State.onLanes_rf]⟩

theorem State.NetOnly.raise (s : State) (k t : Nat) : State.NetOnly s (s.raise k t) := by
  unfold State.raise
  split
  · exact .refl s
  · exact .onLanes s _

/-- A change of the consist network alone. -/
theorem State.NetOnly.nw (s : State) (x : NwState) : State.NetOnly s { s with nw := x } := ⟨rfl, rfl, fun _ _ => rfl⟩

theorem State.NetOnly.foldl {α : Type} (f : State → α → State) (xs : List α) (s : State) (h : ∀ s, ∀ x ∈ xs, State.NetOnly s (f s x)) :
    State.NetOnly s (xs.foldl f s) := by
  induction xs generalizing s with
  | nil => exact .refl s
  | cons x t ih => exact (h s x (by simp)).trans (ih _ fun s y hy => h s y (by simp [hy]))

theorem State.NetOnly.pdStatus (s : State) (n : Nat) (w : Word) (t : Nat) (hn : n < 2048) : State.NetOnly s (s.pdStatus n w t) := by
  unfold State.pdStatus
  refine ((State.NetOnly.nw s _).trans (.wr _ _ _ _ _ ?_)).trans (.onLanes _ _)
  simp only [Fld.addr, R.NW_PD_STAT_STATUS]
  omega

theorem State.NetOnly.sdtStatus (s : State) (n : Nat) (w : Word) (t : Nat) (hn : n < 256) : State.NetOnly s (s.sdtStatus n w t) := by
  unfold State.sdtStatus
  refine ((State.NetOnly.nw s _).trans (.wr _ _ _ _ _ ?_)).trans (.onLanes _ _)
  simp only [Fld.addr, R.NW_SDT_STAT_STATUS]
  omega

theorem Lane.channelOf_lt (l : Lane) (n c : Nat) (h : l.channelOf n = some c) : c < 256 :=
  List.mem_range.mp (List.mem_of_find?_eq_some h)

/-- A publication's copy that is late or dropped. -/
theorem State.NetOnly.copyLate (s : State) (o : OwnCopy) (drop : Bool) (t : Nat) (hm : o.md = false) (hn : o.obj < 2048) :
    State.NetOnly s (s.copyLate o drop t) := by
  have late : ∀ (u : State) (b : Word), State.NetOnly u
      (if (u.nwPd o.obj).pubAt = some o.tp then
        (match (u.pdStatus o.obj ((u.nwPd o.obj).status ||| b) t).tab.channelOf o.obj with
        | some c => (u.pdStatus o.obj ((u.nwPd o.obj).status ||| b) t).sdtStatus c
            (((u.pdStatus o.obj ((u.nwPd o.obj).status ||| b) t).nwSdt c).status ||| b) t
        | none => u.pdStatus o.obj ((u.nwPd o.obj).status ||| b) t)
      else u) := by
    intro u b
    split
    · have h := State.NetOnly.pdStatus u o.obj ((u.nwPd o.obj).status ||| b) t hn
      split
      · rename_i c hc
        exact h.trans (.sdtStatus _ _ _ _ (Lane.channelOf_lt _ _ _ hc))
      · exact h
    · exact .refl u
  unfold State.copyLate
  simp only [hm]
  cases drop
  · exact (((State.NetOnly.bump _ _ _ _ _ (by decide)).trans (.wr _ _ _ _ _ (by decide))).trans (.raise _ 231 t)).trans (late _ _)
  · exact (((State.NetOnly.bump _ _ _ _ _ (by decide)).trans (.wr _ _ _ _ _ (by decide))).trans (.raise _ 231 t)).trans (late _ _)

theorem State.NetOnly.enqueueOwn (s : State) (q pcp bytes : Nat) (o : OwnCopy) (t : Nat) (hm : o.md = false) (hn : o.obj < 2048) :
    State.NetOnly s (s.enqueueOwn q pcp bytes o t) := by
  unfold State.enqueueOwn
  split
  · exact .nw s _
  · exact .copyLate s o true t hm hn

theorem State.NetOnly.learn (s : State) (pl : Nat) (mac : BitVec 48) (port t : Nat) : State.NetOnly s (s.learn pl mac port t) := by
  unfold State.learn
  simp only
  split
  · exact .nw s _
  · exact .refl s

theorem State.NetOnly.putArp (s : State) (e : ArpEntry) : State.NetOnly s (s.putArp e) := by
  unfold State.putArp
  simp only
  split
  · exact .nw s _
  · exact .refl s

theorem State.NetOnly.routeOwn (s : State) (pl : Nat) (ip : Word) (t : Nat) : State.NetOnly s (s.routeOwn pl ip t).1 := by
  unfold State.routeOwn
  simp only
  split
  · exact .refl s
  · split
    · split <;> exact .refl s
    · exact .putArp s _

theorem State.NetOnly.sendCopiesOn (s : State) (n m len t : Nat) (hn : n < 2048) : State.NetOnly s (s.sendCopiesOn n m len t) := by
  unfold State.sendCopiesOn
  refine .foldl _ _ _ fun s pl _ => ?_
  simp only
  split
  · exact .refl s
  · have h := State.NetOnly.routeOwn s pl (s.tab.pdDestIp n) t
    split
    · exact h.trans (.wr _ _ _ _ _ (by decide))
    · exact (h.trans (.learn _ _ _ _ _)).trans (.foldl _ _ _ fun s q _ => .enqueueOwn _ _ _ _ _ _ rfl hn)

theorem Lane.leaseTx_lt (l : Lane) : l.leaseTx < 2048 := by
  unfold Lane.leaseTx fieldOf
  exact Nat.mod_lt _ (by decide)

theorem State.NetOnly.leasePublish (s : State) (m : Nat) (ws : List Word) (t : Nat) : State.NetOnly s (s.leasePublish m ws t) := by
  unfold State.leasePublish
  simp only
  split
  · exact .refl s
  · exact ((State.NetOnly.nw s _).trans (.pdStatus _ _ _ _ (Lane.leaseTx_lt _))).trans (.sendCopiesOn _ _ _ _ _ (Lane.leaseTx_lt _))

/-- Sending a lease message keeps all that the unit holds but its SEQ and the messages sent. -/
theorem State.rdSend_rd_ (s : State) (type ref t : Nat) :
    ∃ o : LeaseOut, (s.rdSend type ref t).rd_ = { s.rd_ with seq := (s.rd_.seq + 1) % 2 ^ 32, out := (o :: s.rd_.out).take 4 } ∧
      o.msg.type = type ∧ o.msg.slot = s.ownSlot ∧ o.msg.seq = BitVec.ofNat 32 ((s.rd_.seq + 1) % 2 ^ 32) ∧
      o.msg.ref = BitVec.ofNat 32 ref ∧ o.planes = [0, 1].filter (s.rd R.RD_CFG_PATHS).testBit ∧ o.links = s.leaseLinks := by
  unfold State.rdSend
  refine ⟨_, (State.NetOnly.leasePublish _ _ _ _).1, rfl, rfl, rfl, rfl, rfl, rfl⟩

/-- It keeps every register of the unit. -/
theorem State.rdSend_rd (s : State) (type ref t : Nat) (f : Fld) (i j : Nat) (ha : f.addr i j < 0x120000 ∨ 0x124000 ≤ f.addr i j) :
    (s.rdSend type ref t).rd f i j = s.rd f i j := by
  unfold State.rdSend
  exact (State.NetOnly.leasePublish _ _ _ _).rd f i j ha

@[simp] theorem State.rdSend_role (s : State) (type ref t : Nat) : (s.rdSend type ref t).role = s.role :=
  State.rdSend_rd s type ref t _ _ _ (by decide)

@[simp] theorem State.rdSend_ownSlot (s : State) (type ref t : Nat) : (s.rdSend type ref t).ownSlot = s.ownSlot :=
  State.rdSend_rd s type ref t _ _ _ (by decide)

theorem State.rdSend_aliveSlots (s : State) (type ref t : Nat) : (s.rdSend type ref t).aliveSlots = s.aliveSlots := by
  have h : ∀ f : Fld, f.base = 0x160100 → f.s1 = 8 → f.s2 = 0 → ∀ m, (s.rdSend type ref t).rd f m = s.rd f m := by
    intro f hb h1 h2 m
    apply State.rdSend_rd
    simp only [Fld.addr, hb, h1, h2]
    omega
  unfold State.aliveSlots
  simp only [h R.RD_MEMBER_ALIVE rfl rfl rfl, h R.RD_MEMBER_SLOT_ID rfl rfl rfl]

end Sys2Proof.Machine
end

