-- ==== Sys2Proof/Laws/Memory.lean ====
section
/-! SUPPORT. Laws of a lane's SRAM: every operation on it keeps the canonical form, and what a word write reads back. -/

namespace Sys2Proof.Machine

/-- A word write keeps the canonical form. -/
theorem wf_memSetWord (m : List Host.Cell) (a : Nat) (w : Word) (h : Cells.wf m = true) :
    Cells.wf (memSetWord m a w) = true :=
  Cells.wf_set _ _ _ (Cells.wf_set _ _ _ (Cells.wf_set _ _ _ (Cells.wf_set _ _ _ h)))

/-- Bytes put into a memory keep its canonical form. -/
theorem wf_placeCells (m cs : List Host.Cell) (lo hi dst : Nat) (h : Cells.wf m = true) :
    Cells.wf (placeCells m cs lo hi dst) = true := by
  unfold placeCells
  induction cs generalizing m with
  | nil => exact h
  | cons c t ih =>
    simp only [List.foldl_cons]
    apply ih
    split
    · exact Cells.wf_set _ _ _ h
    · exact h

/-- The SRAM after the copies of a boot is canonical. -/
theorem wf_imageMem (s : State) (p n : Nat) : Cells.wf (s.imageMem p n) = true :=
  wf_placeCells _ _ _ _ _ (wf_placeCells _ _ _ _ _ (wf_placeCells _ _ _ _ _ rfl))

/-- The mirror of a rejoin copy keeps the canonical form of its target. -/
theorem wf_mirrorCells (old new tgt : List Host.Cell) (h : Cells.wf tgt = true) :
    Cells.wf (mirrorCells old new tgt) = true := by
  have one : ∀ (l : List Host.Cell) (t : List Host.Cell), Cells.wf t = true →
      Cells.wf (l.foldl (fun t c => if Cells.get old c.1 = c.2 then t else Cells.set t c.1 c.2) t) = true := by
    intro l
    induction l with
    | nil => exact fun _ h => h
    | cons c u ih =>
      intro t ht
      simp only [List.foldl_cons]
      apply ih
      split
      · exact ht
      · exact Cells.wf_set _ _ _ ht
  have two : ∀ (l : List Host.Cell) (t : List Host.Cell), Cells.wf t = true →
      Cells.wf (l.foldl (fun t c => if Cells.get new c.1 = 0 then Cells.set t c.1 0 else t) t) = true := by
    intro l
    induction l with
    | nil => exact fun _ h => h
    | cons c u ih =>
      intro t ht
      simp only [List.foldl_cons]
      apply ih
      split
      · exact Cells.wf_set _ _ _ ht
      · exact ht
  exact two _ _ (one _ _ h)

theorem wf_setWord (l : Lane) (a : Nat) (w : Word) (h : Cells.wf l.mem = true) : Cells.wf (l.setWord a w).mem = true :=
  wf_memSetWord _ _ _ h

theorem wf_store (l : Lane) (a : Nat) (w : Word) (h : Cells.wf l.mem = true) : Cells.wf (l.store a w).mem = true := by
  unfold Lane.store
  split
  · split
    · exact wf_setWord _ _ _ (wf_setWord _ _ _ h)
    · exact wf_setWord _ _ _ h
  · exact wf_setWord _ _ _ h

theorem wf_storeWords (l : Lane) (a : Nat) (ws : List Word) (h : Cells.wf l.mem = true) :
    Cells.wf (l.storeWords a ws).mem = true := by
  induction ws generalizing l a with
  | nil => exact h
  | cons w t ih => exact ih _ _ (wf_store l a w h)

/-- A byte outside the word written is read as before. -/
theorem get_memSetWord_ne (m : List Host.Cell) (a b : Nat) (w : Word) (h : b < a ∨ a + 4 ≤ b) :
    Cells.get (memSetWord m a w) b = Cells.get m b := by
  unfold memSetWord
  rw [Cells.get_set_ne _ _ _ _ (by omega), Cells.get_set_ne _ _ _ _ (by omega), Cells.get_set_ne _ _ _ _ (by omega),
    Cells.get_set_ne _ _ _ _ (by omega)]

theorem bytesWord_extract (w : Word) :
    bytesWord (w.extractLsb' 0 8) (w.extractLsb' 8 8) (w.extractLsb' 16 8) (w.extractLsb' 24 8) = w := by
  unfold bytesWord
  apply BitVec.eq_of_getLsbD_eq
  intro k hk
  simp only [BitVec.getLsbD_append, BitVec.getLsbD_extractLsb']
  by_cases h1 : k < 8
  · simp [h1]
  · by_cases h2 : k < 16
    · have : k - 8 < 8 := by omega
      simp [h1, this, show 8 + (k - 8) = k by omega]
    · by_cases h3 : k < 24
      · have h : ¬ k - 8 < 8 := by omega
        have : k - 8 - 8 < 8 := by omega
        simp [h1, h, this, show 16 + (k - 8 - 8) = k by omega]
      · have h : ¬ k - 8 < 8 := by omega
        have h' : ¬ k - 8 - 8 < 8 := by omega
        have : k - 8 - 8 - 8 < 8 := by omega
        simp [h1, h, h', this, show 24 + (k - 8 - 8 - 8) = k by omega]

/-- A word read after the word write. -/
theorem memWord_memSetWord (m : List Host.Cell) (a : Nat) (w : Word) (h : Cells.wf m = true) :
    memWord (memSetWord m a w) a = w := by
  unfold memWord memSetWord
  have h1 := Cells.wf_set m a (w.extractLsb' 0 8) h
  have h2 := Cells.wf_set _ (a + 1) (w.extractLsb' 8 8) h1
  have h3 := Cells.wf_set _ (a + 2) (w.extractLsb' 16 8) h2
  rw [Cells.get_set_self _ (a + 3) _ h3, Cells.get_set_ne _ (a + 3) (a + 2) _ (by omega), Cells.get_set_self _ (a + 2) _ h2,
    Cells.get_set_ne _ (a + 3) (a + 1) _ (by omega), Cells.get_set_ne _ (a + 2) (a + 1) _ (by omega),
    Cells.get_set_self _ (a + 1) _ h1, Cells.get_set_ne _ (a + 3) a _ (by omega), Cells.get_set_ne _ (a + 2) a _ (by omega),
    Cells.get_set_ne _ (a + 1) a _ (by omega), Cells.get_set_self _ a _ h]
  exact bytesWord_extract w

/-- The memory of a lane right after reset is canonical. -/
theorem reset_mem_wf : Cells.wf State.reset.la.mem = true ∧ Cells.wf State.reset.lb.mem = true ∧ Cells.wf State.reset.lc.mem = true :=
  ⟨rfl, rfl, rfl⟩

end Sys2Proof.Machine
end

