-- ==== Sys2Proof/Laws/Run.lean ====
section
/-! SUPPORT. What stands around a command: the module without power, the module that runs, the lanes in lockstep. -/

namespace Sys2Proof.Machine

/-! ### Lanes -/

@[simp] theorem State.lane_setLane_self (s : State) (x : Nat) (l : Lane) (h : x < 3) : (s.setLane x l).lane x = l := by
  match x, h with
  | 0, _ => rfl
  | 1, _ => rfl
  | 2, _ => rfl

theorem State.lane_setLane_ne (s : State) (x y : Nat) (l : Lane) (hx : x < 3) (hy : y < 3) (h : x ≠ y) :
    (s.setLane x l).lane y = s.lane y := by
  match x, hx, y, hy with
  | 0, _, 0, _ => exact absurd rfl h
  | 0, _, 1, _ => rfl
  | 0, _, 2, _ => rfl
  | 1, _, 0, _ => rfl
  | 1, _, 1, _ => exact absurd rfl h
  | 1, _, 2, _ => rfl
  | 2, _, 0, _ => rfl
  | 2, _, 1, _ => rfl
  | 2, _, 2, _ => exact absurd rfl h

/-- The lanes that serve are lanes, each named once. -/
theorem State.servingLanes_lt (s : State) (x : Nat) (h : x ∈ s.servingLanes) : x < 3 := by
  have : x ∈ [0, 1, 2] := (List.mem_filter.mp h).1
  simp at this
  omega

theorem State.servingLanes_nodup (s : State) : s.servingLanes.Nodup := List.Pairwise.filter _ (by decide)

theorem foldl_setLane_congr (g h : Lane → Lane) (xs : List Nat) (s : State) (hn : xs.Nodup) (hl : ∀ x ∈ xs, x < 3)
    (he : ∀ x ∈ xs, g (s.lane x) = h (s.lane x)) :
    xs.foldl (fun s x => s.setLane x (g (s.lane x))) s = xs.foldl (fun s x => s.setLane x (h (s.lane x))) s := by
  induction xs generalizing s with
  | nil => rfl
  | cons x t ih =>
    simp only [List.foldl_cons]
    rw [he x (by simp)]
    have hx := hl x (by simp)
    have hnx : x ∉ t := (List.nodup_cons.mp hn).1
    apply ih _ (List.nodup_cons.mp hn).2 (fun y hy => hl y (by simp [hy]))
    intro y hy
    have : x ≠ y := fun e => hnx (e ▸ hy)
    rw [State.lane_setLane_ne s x y _ hx (hl y (by simp [hy])) this]
    exact he y (by simp [hy])

/-- What is noted before an operation of the lanes changes no lane but in its `watch`. -/
theorem State.watchCopies_lane (s : State) (y : Nat) : ∃ w, s.watchCopies.lane y = { s.lane y with watch := w } := by
  unfold State.watchCopies
  generalize s.vt.copies = cs
  induction cs generalizing s with
  | nil => exact ⟨(s.lane y).watch, rfl⟩
  | cons c r ih =>
    rw [List.foldl_cons]
    obtain ⟨w, hw⟩ := ih (s.setLane c.2.primary { s.lane c.2.primary with watch := (s.lane c.1).ecc1 ++ (s.lane c.1).ecc2 })
    rw [hw]
    refine ⟨w, ?_⟩
    unfold State.setLane State.lane
    by_cases h0 : c.2.primary = 0 <;> by_cases h1 : c.2.primary = 1 <;> by_cases k0 : y = 0 <;> by_cases k1 : y = 1 <;>
      simp_all

/-- Two operations that agree on every serving lane, whatever it watches, do the same to the module. -/
theorem State.onLanes_congr (s : State) (g h : Lane → Lane)
    (he : ∀ x ∈ s.servingLanes, ∀ w, g { s.lane x with watch := w } = h { s.lane x with watch := w }) : s.onLanes g = s.onLanes h := by
  unfold State.onLanes
  rw [foldl_setLane_congr g h _ s.watchCopies s.servingLanes_nodup (fun x hx => s.servingLanes_lt x hx)]
  intro x hx
  obtain ⟨w, hw⟩ := s.watchCopies_lane x
  rw [hw]
  exact he x hx w

/-! ### A command and what follows it -/

/-- A module without power takes no command. -/
theorem State.runHost_off (s : State) (t : Nat) (f : State → State) (h : s.pw.off = true) : s.runHost t f = s := by
  simp [State.runHost, h]

theorem State.run_off (s : State) (t : Nat) (f : State → State) (h : s.pw.off = true) : s.run t f = s := by
  simp [State.run, State.runHost_off _ _ _ h]

/-- A command of a module whose lanes run: its own effect, and what follows every command. -/
theorem State.runHost_live (s : State) (t : Nat) (f : State → State) (h : s.live = true) :
    s.runHost t f = s.after (f (s.now t)) t := by
  simp only [State.live, Bool.and_eq_true, Bool.not_eq_true'] at h
  simp [State.runHost, State.keepLanes, State.after, h.1.1, h.1.2]

theorem State.run_live (s : State) (t : Nat) (f : State → State) (h : s.live = true) :
    s.run t f = s.after (f (s.now t)) t := by
  have hr : s.recovering = false := by
    simp only [State.live, Bool.and_eq_true, Bool.not_eq_true'] at h
    exact h.2
  rw [State.run, hr, if_neg (by decide), State.runHost_live _ _ _ h]

theorem State.engineDo_off (s : State) (g : Lane → Lane) (h : s.live = false) : s.engineDo g = s := by
  have : (s.pw.off || s.pw.frozen || s.recovering) = true := by
    cases ho : s.pw.off <;> cases hf : s.pw.frozen <;> simp_all [State.live]
  rw [State.engineDo, if_pos this]

theorem State.engineDo_live (s : State) (g : Lane → Lane) (h : s.live = true) :
    s.engineDo g = s.after (s.onLanes g) s.lt := by
  simp only [State.live, Bool.and_eq_true, Bool.not_eq_true'] at h
  simp [State.engineDo, State.after, h.1.1, h.1.2, h.2]

/-- No command touches the queue. -/
@[simp] theorem State.runHost_pending (s : State) (t : Nat) (f : State → State) : (s.runHost t f).pending = s.pending := by
  unfold State.runHost
  split <;> rfl

@[simp] theorem State.run_pending (s : State) (t : Nat) (f : State → State) : (s.run t f).pending = s.pending := by
  unfold State.run
  split
  · rfl
  · simp

@[simp] theorem State.runAlways_pending (s : State) (t : Nat) (f : State → State) : (s.runAlways t f).pending = s.pending := by
  unfold State.runAlways
  split
  · rfl
  · simp

@[simp] theorem State.engineDo_pending (s : State) (g : Lane → Lane) : (s.engineDo g).pending = s.pending := by
  unfold State.engineDo
  split <;> rfl

@[simp] theorem State.after_pending (s u : State) (t : Nat) : (s.after u t).pending = s.pending := rfl

/-! ### Engines -/

@[simp] theorem Lane.engine_setEngine_self (l : Lane) (e : Nat) (g : Eng) : (l.setEngine e g).engine e = g := by
  simp [Lane.engine, Lane.setEngine]

theorem Lane.engine_setEngine_ne (l : Lane) (e k : Nat) (g : Eng) (h : k ≠ e) : (l.setEngine e g).engine k = l.engine k := by
  simp [Lane.engine, Lane.setEngine, NMap.get_put_ne _ _ _ _ _ h]

@[simp] theorem Lane.setEngine_mem (l : Lane) (e : Nat) (g : Eng) : (l.setEngine e g).mem = l.mem := rfl

/-- A lane without memory errors reads its words. -/
theorem Lane.readW_clean (l : Lane) (a : Nat) (h : l.clean = true) : l.readW a = .ok (l.word a, l) := by
  simp only [Lane.clean, Bool.and_eq_true, List.isEmpty_iff] at h
  simp [Lane.readW, h.1, h.2]

/-- The fetch of an instruction that lies in the code store of a lane without memory errors. -/
theorem Lane.fetch_ready (l : Lane) (pc len : Nat) (h : l.clean = true) (h0 : pc < codeWords) (h1 : pc + len ≤ codeWords) :
    l.fetch pc len = .ok l := by
  unfold Lane.fetch
  rw [if_neg (by omega), Lane.readW_clean _ _ h]
  dsimp only
  split
  · rfl
  · rw [if_neg (by omega), Lane.readW_clean _ _ h]

/-- An engine whose input latch is taken takes none. -/
theorem Lane.takeInputs_taken (l : Lane) (e : Nat) (h : (l.engine e).fresh = false) : l.takeInputs e = l := by
  simp [Lane.takeInputs, h]

/-- An instruction on an engine that is ready for it, whose body answers and neither spills nor fills. -/
theorem Lane.instr_ready (l : Lane) (ph : Phase) (e t len cyc : Nat) (body : Body) (l1 : Lane) (g1 : Eng) (h : l.ready e len = true)
    (hb : body l (l.engine e) = .ok (l1, g1)) (hm : g1.r.m = (l.engine e).r.m) :
    l.instr ph e t len cyc body = l1.setEngine e (g1.retire cyc) := by
  simp only [Lane.ready, Bool.and_eq_true, Bool.not_eq_true', decide_eq_true_eq, beq_iff_eq] at h
  obtain ⟨⟨⟨⟨⟨hr, hf⟩, hp⟩, h0⟩, h1⟩, hc⟩ := h
  unfold Lane.instr
  simp only [Lane.takeInputs_taken l e hf, hr, bne_self_eq_false, Bool.false_eq_true, ↓reduceIte,
    Lane.fetch_ready l _ len hc h0 h1, hb, Eng.trapped, hm]
  simp [Lane.mirrorPair, hp]

/-- An instruction on an engine that is ready for it, whose body faults. -/
theorem Lane.instr_faults (l : Lane) (ph : Phase) (e t len cyc : Nat) (body : Body) (c : Nat) (h : l.ready e len = true)
    (hb : body l (l.engine e) = .error (c, none)) : l.instr ph e t len cyc body = l.faultEngine ph e t c := by
  simp only [Lane.ready, Bool.and_eq_true, Bool.not_eq_true', decide_eq_true_eq, beq_iff_eq] at h
  obtain ⟨⟨⟨⟨⟨hr, hf⟩, hp⟩, h0⟩, h1⟩, hc⟩ := h
  unfold Lane.instr
  simp only [Lane.takeInputs_taken l e hf, hr, bne_self_eq_false, Bool.false_eq_true, ↓reduceIte,
    Lane.fetch_ready l _ len hc h0 h1, hb]
  simp [Lane.mirrorPair, hp]

/-- An instruction that every serving lane's engine has come to and is ready for: what its body answers is what it does. -/
theorem State.instr_does (s : State) (c : Instr) (e : EngId) (len cyc : Nat) (body : Body) (h : Lane → Eng → Lane × Eng)
    (hr : s.ready e len = true) (hs : ∀ x ∈ s.servingLanes, (s.lane x).stands e c = true)
    (hb : ∀ x ∈ s.servingLanes, ∀ w, let l : Lane := { s.lane x with watch := w }
      body l (l.engine e) = .ok (h l (l.engine e)) ∧ (h l (l.engine e)).2.r.m = (l.engine e).r.m) :
    s.codeOp c e (fun l => l.instr s.phase e s.lt len cyc body) = s.did e cyc h := by
  simp only [State.ready, Bool.and_eq_true, List.all_eq_true] at hr
  unfold State.codeOp
  rw [State.engineDo_live _ _ hr.1]
  unfold State.did
  congr 1
  apply State.onLanes_congr
  intro x hx w
  have hs' : ({ s.lane x with watch := w } : Lane).stands e c = true := hs x hx
  have hr' : ({ s.lane x with watch := w } : Lane).ready e len = true := hr.2 x hx
  rw [if_pos hs']
  exact Lane.instr_ready _ _ _ _ _ _ _ _ _ hr' (hb x hx w).1 (hb x hx w).2

end Sys2Proof.Machine
end

