-- ==== Sys2Proof/Tests/Slice0.lean ====
section
/-! SUPPORT. Tests: an ill-formed command for each check, and witnesses of the statements' hypotheses. -/

namespace Sys2Proof.Tests

set_option Elab.async false

open Sys2Proof.Machine

/-! ### Ill-formed commands -/

theorem test_wf_operand : (Instr.ldb 0 { sp := 0, ext := 1 }).wellFormed = false := by decide
theorem test_wf_frame : (Instr.hpOpen { port := .a, command := 1, len := 16, t := 0 }).wellFormed = false := by decide
theorem test_wf_lapse : (Instr.handshakeLapse .a 0 0).wellFormed = false ∧ (Instr.handshakeLapse .a 9 0).wellFormed = false := by
  decide
theorem test_wf_timeout : (Instr.sessionTimeout .b 9 0).wellFormed = false := by decide
theorem test_wf_register : (Instr.registerWrite 0x10002 0 0).wellFormed = false := by decide
theorem test_wf_sample : (Instr.inputSample 65536 0 0).wellFormed = false := by decide
theorem test_wf_scrub : (Instr.scrubUncorrectable 0 0x04000000 0).wellFormed = false ∧
    (Instr.scrubRepairWrite 0 2 0).wellFormed = false ∧ (Instr.sramError 0 1 true).wellFormed = false ∧
    (Instr.scrubCorrection 0 3).wellFormed = false := by decide
theorem test_wf_task : (Instr.tskRelease 64 0).wellFormed = false ∧ (Instr.tskCancel 64 0).wellFormed = false := by decide
theorem test_wf_event : (Instr.eventRaise 512 0).wellFormed = false ∧ (Instr.evtRaise 512 0).wellFormed = false ∧
    (Instr.evtDone 512 0).wellFormed = false ∧ (Instr.holdoffExpiry 32 0).wellFormed = false := by decide
theorem test_wf_channel : (Instr.sdtCompareWindowEnd 256 0).wellFormed = false ∧ (Instr.sdtTimeout 256 0).wellFormed = false ∧
    (Instr.mdReplyTimeout 256 0).wellFormed = false ∧ (Instr.pdTimeout 2048 0).wellFormed = false ∧
    (Instr.pdPublication 2048 true 0).wellFormed = false := by decide
theorem test_wf_field : (Instr.fieldSample 0 0 0 0 [] [] 0 0).wellFormed = false ∧
    (Instr.freqGateEnd 0 1 0 0).wellFormed = false := by decide
theorem test_wf_forme : (Instr.starFrameCheck 0 { start := 2, stop := 1, kind := 0, id := 0, len := 0 } 0).wellFormed = false ∧
    (Instr.formeFrameAccept 0 { start := 1, stop := 2, kind := 0, id := 0, len := 4 } 0).wellFormed = false ∧
    (Instr.slotEnd 1024 0).wellFormed = false ∧ (Instr.framePreparation 1024 0).wellFormed = false := by decide
theorem test_wf_network : (Instr.switchFrameReceived 0 { src := 0, dst := 0, len := 63 } 0).wellFormed = false ∧
    (Instr.pdCopyReceived 0 { udpLen := 44, dsLen := 4, comId := 0, src := 0, dst := 0, counter := 0 } 0).wellFormed = false ∧
    (Instr.mdMessageReceived 0 { type := .mn, comId := 0, sid := 2 ^ 128, src := 0, len := 0 } 0).wellFormed = false := by decide
theorem test_wf_clock : (Instr.announceReceived 0 { sender := 0, prio1 := 256, cls := 0, accuracy := 0, variance := 0, prio2 := 0, gm := 0, steps := 0, logSync := 0, logAnn := 0, domain := 0 } 0).wellFormed = false := by decide
theorem test_wf_can : (Instr.canFrameReceived 0 [] true 0).wellFormed = false := by decide
theorem test_wf_lease : (Instr.leaseMessageReceived { type := 1, slot := 256, rank := 0, flags := 0, group := 0, epoch := 0, seq := 0, ref := 0, steep := 0, serial := 0 } 0).wellFormed = false := by decide
theorem test_wf_power : (Instr.temperatureRead [] 0).wellFormed = false ∧ (Instr.vcoreStep 0 { vout := 4 } true false 0).wellFormed = false ∧
    (Instr.clearGo .a 9 0).wellFormed = false := by decide
theorem test_wf_relay : (Instr.relayChunkReceived 0 0 4 0 4 [] 0).wellFormed = false ∧
    (Instr.relayReplyReceived 0 0 0 4 0 0).wellFormed = false := by decide

/-! ### Witnesses: one concrete state and operands for the hypotheses of each statement -/

/-- A module in TRIPLEX and RUN with all three lanes voting. -/
def w0 : State :=
  let s := ((((State.reset.wr R.VT_STATE_VOTING 7).wr R.VT_STATE_STATE 2).wr R.PW_STATE_STATE 1).wr R.SYS_MODE_STAT_MODE 0).wr
    R.SYS_MODE_STAT_STARTUP 0
  { s with vt := { s.vt with testing := [] } }

/-- Engine 0 of every lane in RUN with the registers `r`. -/
def wEng (r : Regs) : State := w0.onLanes fun l => l.setEngine 0 { st := .run, task := 1, r := r }

/-- The code words of `c` stand where engine 0 of every lane has come to. -/
def wAt (s : State) (c : Instr) : State := s.onLanes fun l =>
  (engineCode c).zipIdx.foldl (fun l p => l.setWord (4 * ((l.engine 0).r.pc.toNat + p.2)) p.1) l

/-- Engine 0 of every lane is ready for `c` and has come to it. -/
def here (s : State) (c : Instr) : Bool :=
  s.ready 0 (engineCode c).length && s.servingLanes.all fun x => (s.lane x).stands 0 c

/-- As `wEng`, with the lanes' memory and tables as `f` leaves them. -/
def wLane (r : Regs) (f : Lane → Lane) : State := (wEng r).onLanes f

def hyps (l : List Bool) : Bool := l.all id

/-- `p` of every serving lane and its engine 0. -/
def every (s : State) (p : Lane → Eng → Bool) : Bool := s.servingLanes.all fun x => p (s.lane x) ((s.lane x).engine 0)

/-- The command answers a next state. -/
def goes : Host.Outcome State Fault Refusal → Bool
  | .next _ => true
  | _ => false

/-- The class takes the operand form; the form is the fault `k`. -/
def okC (c : OpClass) (o : MOp) : Bool := match opCheck c o with
  | .ok _ => true
  | .error _ => false

def erC (c : OpClass) (o : MOp) (k : Nat) : Bool := match opCheck c o with
  | .ok _ => false
  | .error f => f.1 == k

theorem wit_StepTakesFrontCommand : hyps [({ w0 with pending := [.nop 0 0] } : State).pending = [.nop 0 0], w0.pending = []] = true := by
  decide +kernel

theorem wit_NoPowerNoEffect : hyps [({ w0 with pw := { w0.pw with off := true } } : State).pw.off] = true ∧
    (∀ slot key sysOk t, Instr.nop 0 0 ≠ .supplyPresent slot key sysOk t) ∧ (∀ k lead both t, Instr.nop 0 0 ≠ .wheelEdge k lead both t) ∧
    (∀ t, Instr.nop 0 0 ≠ .aoSupplyLost t) := by
  refine ⟨by decide +kernel, ?_, ?_, ?_⟩ <;> intros <;> intro h <;> cases h

/-- `s`, acting, with its status samples as delivered: nothing is left to what follows a command. -/
def calmed (s : State) : State :=
  let u := (s.wr R.RD_STATE_ACTING 1).setRd { s.rd_ with rank := s.ownRank }
  let v := u.setRd { u.rd_ with status := u.rdWords }
  { v with pw := { v.pw with shown := (v.pwWords.getD 0 0, v.pwWords.getD 3 0) } }

theorem wit_CalmStateStays : hyps [(calmed w0).calm 0] = true := by decide +kernel

theorem wit_HoldStoreWithinBounds : (w0.isSafe = true ∨ w0.holdBytes ≤ 8388608) ∧
    goes (step { w0 with pending := [.gaugeTick 5] }) = true := by decide +kernel

def oI : MOp := { sp := 0, low := 3 }
def oQ : MOp := { sp := 1, low := 2097151 }
def oD : MOp := { sp := 3, low := 2097151 }
def oS : MOp := { sp := 4, ext := 33554431 }
def oW : MOp := { sp := 5, ext := 4194303 }
def oTM : MOp := { sp := 6, low := 8191 }
def oCT : MOp := { sp := 7, low := 8191 }
def oK : MOp := { sp := 9, low := 0 }
def oKL : MOp := { sp := 10, ext := 7 }

theorem wit_BitReadSetsBa : hyps [here (wAt (wEng {}) (.ldb 0 oS)) (.ldb 0 oS), okC .bitRead oS,
    every (wAt (wEng {}) (.ldb 0 oS)) fun _ g => opIndex oS g.r < spaceBits oS.sp.toNat] = true := by decide +kernel

def wOwned : State := wLane {} fun l => { l with ownedS := [(33554400, 32)], ownedW := [(4194302, 2)] }

theorem wit_BitWriteStoresBit : hyps [here (wAt wOwned (.st 0 oS)) (.st 0 oS), okC .bitWrite oS,
    every (wAt wOwned (.st 0 oS)) fun l g => opIndex oS g.r < spaceBits oS.sp.toNat ∧ inOwned l.ownedS (opIndex oS g.r),
    here (wAt wOwned (.rise 0 oQ)) (.rise 0 oQ), okC .edge oQ,
    every (wAt wOwned (.rise 0 oQ)) fun _ g => opIndex oQ g.r < spaceBits oQ.sp.toNat] = true := by
  decide +kernel

theorem wit_BranchStackAndStatus : hyps [here (wAt (wEng {}) (.setb 0 0)) (.setb 0 0), here (wAt (wEng {}) (.ldc 0 11)) (.ldc 0 11),
    let s := wAt (wEng { hw := List.replicate 13 0, m := 241 }) (.band 0 0)
    here s (.band 0 0) && every s fun _ g => g.r.hw.length < 14 ∧ g.r.depth < 255,
    let s := wAt (wEng { hw := List.replicate 14 0, m := 240 }) (.bor 0 0)
    here s (.bor 0 0) && every s fun _ g => g.r.hw.length = 14 ∧ g.r.depth < 255,
    let s := wAt (wEng { hw := [BitVec.ofNat 4 11], m := 8 }) (.bend 0 0)
    here s (.bend 0 0) && every s fun _ g => g.r.hw = [] ++ [BitVec.ofNat 4 (2 * 5 + true.toNat)] ∧ g.r.m ≠ 0,
    let s := wAt (wEng { hw := [BitVec.ofNat 4 11] }) (.bend 0 0)
    here s (.bend 0 0) && every s fun _ g => g.r.hw = [] ++ [BitVec.ofNat 4 (2 * 5 + true.toNat)] ∧ g.r.m = 0] = true := by
  decide +kernel

/-- A lane with one open call frame of task 1, made at DEPTH 0 with a return address of 5. -/
def wCalled : State := wLane { frames := 1 } fun l => l.setWord (frameAddr 1 0) 5

theorem wit_FlowAndEnd : hyps [decide (codeWords ≤ (4194303#22).toNat ∧ (7#22).toNat < codeWords),
    let s := wAt (wEng {}) (.jmp 0 1 4194303)
    here s (.jmp 0 1 4194303) && every s fun _ g => g.r.ba = false,
    let s := wAt (wEng { x := [(7, 1)] }) (.rept 0 7 4194303)
    here s (.rept 0 7 4194303) && every s fun _ g => decide ((g.r.getX 7).toNat = 1),
    let s := wAt (wEng { x := [(7, 2)] }) (.rept 0 7 7)
    here s (.rept 0 7 7) && every s fun _ g => decide (1 < (g.r.getX 7).toNat),
    let s := wAt (wEng {}) (.call 0 0 7)
    here s (.call 0 0 7) && every s fun _ g => g.r.frames ≠ 1920,
    let s := wAt wCalled (.ret 0 0)
    here s (.ret 0 0) && every s fun l g => let a := frameAddr g.task (g.r.frames - 1)
      decide (g.r.frames ≠ 0 ∧ (memWord l.mem (a + 4)).toNat % 256 = g.r.depth ∧ (memWord l.mem a).toNat % 4194304 < codeWords),
    here (wAt (wEng {}) (.endAct 0 0)) (.endAct 0 0), here (wAt (wEng {}) (.endNba 0 0)) (.endNba 0 0),
    let s := wAt (wEng { ba := true }) (.endBa 0 0)
    here s (.endBa 0 0) && every s fun _ g => g.r.depth = 0 ∧ g.r.frames = 0] = true := by
  decide +kernel

/-- The state and the form of a clause about an instruction of one operand: the words stand, the lanes are as `p` says. -/
def clause (r : Regs) (c : Instr) (p : Lane → Eng → Bool) : Bool := let s := wAt (wEng r) c; here s c && every s p

theorem wit_EngineFaultsAreTaken_forms : hyps [
    clause {} (.ldb 0 oD) (fun _ _ => erC .bitRead oD cIllegalOp),
    clause { x := [(0, 0xFFFFFFFF)] } (.ldb 0 { sp := 0, x := true }) (fun _ g => okC .bitRead { sp := 0, x := true } &&
      spaceBits 0 ≤ opIndex { sp := 0, x := true } g.r),
    clause {} (.st 0 oI) (fun _ _ => erC .bitWrite oI cWriteProt),
    clause { x := [(0, 0xFFFFFFFF)] } (.st 0 { sp := 1, x := true }) (fun _ g => okC .bitWrite { sp := 1, x := true } &&
      spaceBits 1 ≤ opIndex { sp := 1, x := true } g.r),
    clause {} (.st 0 oS) (fun l g => okC .bitWrite oS && opIndex oS g.r < spaceBits 4 && inOwned l.ownedS (opIndex oS g.r) == false),
    clause {} (.rise 0 oS) (fun _ _ => erC .edge oS cIllegalOp), clause {} (.ld 0 oS) (fun _ _ => erC .wordRead oS cIllegalOp),
    clause { x := [(0, 0xFFFFFFFF)] } (.add 0 { sp := 3, x := true }) (fun _ g => okC .wordRead { sp := 3, x := true } &&
      spaceWords 3 ≤ opIndex { sp := 3, x := true } g.r),
    clause {} (.div 0 oK) (fun _ _ => oK.sp.toNat = spK ∧ oK.x = false ∧ oK.low = 0),
    clause {} (.ldd 0 oK) (fun _ _ => erC .doubleRead oK cIllegalOp), clause {} (.stw 0 oK) (fun _ _ => erC .wordWrite oK cWriteProt),
    clause { x := [(0, 0xFFFFFFFF)] } (.stw 0 { sp := 3, x := true }) (fun _ g => okC .wordWrite { sp := 3, x := true } &&
      spaceWords 3 ≤ opIndex { sp := 3, x := true } g.r),
    clause {} (.stw 0 oW) (fun l g => okC .wordWrite oW && opIndex oW g.r < spaceWords 5 && inOwned l.ownedW (opIndex oW g.r) == false),
    clause {} (.stwd 0 oI) (fun _ _ => erC .doubleWrite oI cWriteProt), clause {} (.ton 0 oCT) (fun _ _ => erC .timer oCT cIllegalOp),
    clause {} (.ctu 0 oTM) (fun _ _ => erC .counter oTM cIllegalOp), clause {} (.rstb 0 oI) (fun _ _ => erC .blockAcc oI cIllegalOp),
    clause {} (.sigv 0 oI) (fun _ _ => erC .signal oI cIllegalOp)] = true := by
  decide +kernel

theorem wit_EngineFaultsAreTaken_words : hyps [
    let s := (wEng {}).onLanes fun l => l.setWord 0 0xFFFFFFFF
    s.ready 0 1 && (decodeCode 0 0xFFFFFFFF 0).isNone && every s fun l g => memWord l.mem (4 * g.r.pc.toNat) == 0xFFFFFFFF,
    clause { m := 255 } (.band 0 0) (fun _ g => g.r.depth = 255), clause {} (.bend 0 0) (fun _ g => g.r.depth = 0),
    clause {} (.ldc 0 12) (fun _ _ => true), clause {} (.jmp 0 15 0) (fun _ _ => true),
    clause {} (.jmp 0 0 4194303) (fun _ _ => codeWords ≤ (4194303#22).toNat),
    clause { frames := 1920 } (.call 0 0 0) (fun _ g => g.r.frames = 1920), clause {} (.ret 0 0) (fun _ g => g.r.frames = 0),
    clause { m := 1 } (.endAct 0 0) (fun _ g => g.r.depth ≠ 0 ∨ g.r.frames ≠ 0),
    clause { m := 1, ba := true } (.endBa 0 0) (fun _ g => g.r.depth ≠ 0 ∧ g.r.ba),
    clause {} (.txpd 0 2047) (fun l _ => !l.pdUsed 2047), clause {} (.txsdt 0 0) (fun l _ => !l.sdtUsed 0),
    clause {} (.txmd 0 0) (fun l _ => !l.mdUsed 0), clause {} (.ctx 0 63) (fun l _ => !l.canUsed 0 63),
    clause { acc2 := 2 } (.pwr 0 0) (fun _ g => g.r.acc2.toNat % 4 ≠ 0),
    let s := wEng { pc := BitVec.ofNat 22 codeWords }
    s.live && every s fun l g => g.st = .run ∧ g.fresh = false ∧ g.pair = none ∧ codeWords ≤ g.r.pc.toNat ∧ l.stands 0 (.nop 0 0),
    let s := wAt (wLane { pc := 2 } id) (.nop 0 0) |>.onLanes fun l => { l with ecc2 := [8] }
    s.live && every s fun l g => g.st = .run ∧ g.fresh = false ∧ g.pair = none ∧ g.r.pc.toNat < codeWords ∧
      l.ecc2.contains (4 * g.r.pc.toNat) ∧ l.stands 0 (.nop 0 0)] = true := by
  decide +kernel

def wStore : State := calmed wOwned

/-- A store is carried out from where it stands, with nothing left to what follows it. -/
def stored (c : Instr) : Bool :=
  let s := wAt wStore c
  here s c && s.calm s.lt && s.vt.copies.isEmpty && ([0, 1, 2].all fun x => Cells.wf (s.lane x).mem) && goes (exec c s)

theorem wit_MemoryFrame : hyps [okC .wordRead oW, okC .bitRead oS, okC .wordWrite oW, okC .bitWrite oS, okC .edge oQ,
    every wStore fun l g => opIndex oW g.r < spaceWords 5 ∧ inOwned l.ownedW (opIndex oW g.r),
    every wStore fun l g => opIndex oS g.r < spaceBits 4 ∧ inOwned l.ownedS (opIndex oS g.r),
    stored (.stw 0 oW), stored (.st 0 oS), stored (.rise 0 oQ), stored (.ld 0 oW), stored (.ldb 0 oS)] = true := by decide +kernel

theorem wit_StoresKeepMemoryCanonical : hyps [stored (.stwd 0 { sp := 5, ext := 4194302 }),
    every wStore fun l g => let o : MOp := { sp := 5, ext := 4194302 }
      decide (okC .wordWrite o ∧ opIndex o g.r + 2 ≤ spaceWords 5 ∧ inOwned l.ownedW (opIndex o g.r) ∧
        inOwned l.ownedW (opIndex o g.r + 1))] = true := by decide +kernel

theorem wit_LoadsAndStores : hyps [
    let o : MOp := { sp := 5, ext := 4194302 }
    ([.ld 0 o, .ldd 0 o, .stw 0 o, .stwd 0 o] : List Instr).all fun c => let s := wAt wOwned c
      here s c && okC .doubleRead o && okC .doubleWrite o && every s fun l g =>
        decide (opIndex o g.r + 2 ≤ spaceWords 5 ∧ inOwned l.ownedW (opIndex o g.r) ∧ inOwned l.ownedW (opIndex o g.r + 1)),
    here (wAt wOwned (.ld 0 oK)) (.ld 0 oK), here (wAt wOwned (.ld 0 oKL)) (.ld 0 oKL)] = true := by
  decide +kernel

theorem wit_WordArithmetic : hyps [clause {} (.add 0 oW) (fun _ g => okC .wordRead oW && opIndex oW g.r < spaceWords oW.sp.toNat),
    clause {} (.cmpu 0 oK) (fun _ _ => okC .wordRead oK && oK.sp.toNat = spK)] = true := by decide +kernel

theorem wit_MultiplyAndDivide : hyps [clause {} (.divu 0 oKL) (fun _ _ => okC .wordRead oKL && decide (oKL.sp.toNat = spKL ∧ oKL.ext ≠ 0)),
    clause {} (.mul 0 oW) (fun _ g => okC .wordRead oW && opIndex oW g.r < spaceWords oW.sp.toNat)] = true := by decide +kernel

theorem wit_RegistersAndConversions : hyps [clause {} (.mov 0 0x99000) (fun _ _ => true), clause {} (.addi 0 0x9FFF) (fun _ _ => true),
    clause {} (.sat64 0 0) (fun _ _ => true)] = true := by decide +kernel

theorem wit_Shifts : hyps [clause {} (.shl 0 31) (fun _ _ => decide ((31#20).toNat / 64 % 8192 = 0 ∧ (31#20).toNat % 64 < 32 ∧
      (31#20).getLsbD 19 = false)),
    clause {} (.ror 0 524288) (fun _ _ => decide ((524288#20).toNat / 64 % 8192 = 0 ∧ (524288#20).getLsbD 19 = true ∧
      (524288#20).toNat % 64 = 0)), clause {} (.sar64 0 63) (fun _ _ => true)] = true := by decide +kernel

theorem wit_BlockMove : hyps [
    let c : Instr := .bmov 0 (BitVec.ofNat 26 (65536 * 3 + 4096 * 5 + 512 * 0 + 64 * 1)) 1
    let s := wAt (wLane { x := [(0, 2097151), (1, 4194303)] } fun l => { l with ownedW := [(4194303, 1)] }) c
    here s c && every s fun l g =>
      decide ((g.r.getX 0).toNat + 1 ≤ spaceWords 3 ∧ (g.r.getX 1).toNat + 1 ≤ spaceWords 5 ∧
        inOwned l.ownedW ((g.r.getX 1).toNat + 0))] = true := by decide +kernel

/-- A lane with words stored in its SRAM. -/
def setWords (ws : List (Nat × Word)) (l : Lane) : Lane := ws.foldl (fun l p => l.setWord p.1 p.2) l

def wTimer (kind : Nat) : State := wLane {} (setWords [(0x028C0000 + 16 * 8191 + 4, (tmWords { kind := kind, stamped := true } 0).getD 1 0),
  (0x028C0000 + 16 * 8191 + 8, (tmWords { kind := kind, stamped := true } 0).getD 2 0)])

/-- `c` stands in the module `s`, whose lanes are as `p` says. -/
def clauseAt (s : State) (c : Instr) (p : Lane → Eng → Bool) : Bool := here (wAt s c) c && every (wAt s c) p

theorem wit_TimersAndCounters : hyps [okC .timer oTM, okC .counter oCT, okC .blockAcc oTM, okC .blockAcc oCT,
    clause {} (.ton 0 oTM) (fun _ g => opIndex oTM g.r < 8192), clause {} (.ctd 0 oCT) (fun _ g => opIndex oCT g.r < 8192),
    clause { ba := true } (.rstb 0 oTM) (fun _ g => opIndex oTM g.r < 8192), clause {} (.ldtc 0 oCT) (fun _ g => opIndex oCT g.r < 8192),
    ([(1, .ton 0 oTM), (2, .tof 0 oTM), (3, .tp 0 oTM), (4, .tonr 0 oTM)] : List (Nat × Instr)).all fun k =>
      clauseAt (wTimer k.1) k.2 fun l g => let b := tmOf ([0, 4, 8, 12].map fun i => memWord l.mem (0x028C0000 + 16 * 8191 + i))
        decide (b.kind = k.1 ∧ b.stamped ∧ b.last ≤ g.act.start / 1000)] = true := by decide +kernel

theorem wit_SignalAgeAndStamps : hyps [okC .signal oS, okC .signal oW,
    clauseAt wOwned (.sigv 0 oS) (fun l g => opIndex oS g.r < smElems spS && l.mapOf spS (opIndex oS g.r) == none),
    clauseAt wOwned (.sigv 0 oW) (fun _ g => opIndex oW g.r < smElems spW), clauseAt wOwned (.stmpCyc 0 0) (fun _ _ => true)]
    = true := by decide +kernel

/-- A lane whose tables hold PD entries 5 (publish) and 6 (subscribe), MD session 3 (a caller), CAN buffer 63 of controller 0 to
send, and 0 of controller 3 to receive. -/
def objects : Lane → Lane := setWords [
  (0x033600A0, 25), (0x033600A8, 8), (0x033600AC, 1000), (0x033600B4, 500),
  (0x033600C0, 26), (0x033600C8, 8), (0x033600CC, 1),
  (0x03370060, 0x119), (0x03370068, 16), (0x03370070, 1), (0x03370074, 50),
  (0x033810C0, 2), (0x03386100, 1)]

/-- A lane whose PD entry 7 carries the safe channel 0, to publish; one whose PD entry 8 carries channel 1, to subscribe. -/
def safeOut : Lane → Lane := setWords [
  (0x033600E0, 29), (0x033600E8, 24), (0x033600EC, 1000), (0x033600F4, 500), (0x03372000, 7), (0x03372004, 1)]
def safeIn : Lane → Lane := setWords [
  (0x03360100, 30), (0x03360104, 1), (0x03360108, 24), (0x0336010C, 1),
  (0x03372020, 8), (0x03372024, 1), (0x0337202C, 0x10001), (0x03372030, 1000)]

/-- A module in SIMPLEX-DIAG, lane A voting alone, with the objects of `f`, X7 = `k`. -/
def wWith (f : Lane → Lane) (k : Nat) : State := ((((w0.wr R.VT_STATE_VOTING 1).wr R.VT_STATE_STATE 1).wr R.VT_LANE_STAT_ROLE 2 1).wr R.VT_LANE_STAT_ROLE 2 2).onLanes
  fun l => f (l.setEngine 0 { st := .run, task := 1, r := { x := [(7, BitVec.ofNat 32 k)], acc2 := 0x12FFFC } })

def wObj (k : Nat) : State := wWith objects k

/-- The low bits of a service word: the index register of the data and the object. -/
def sv (n : Nat) : BitVec 20 := BitVec.ofNat 20 (131072 * 7 + n)

theorem wit_ServicesSendAndReceive_sends : hyps [
    clauseAt (wObj 2097150) (.txpd 0 (sv 5)) fun l g => decide (l.pdUsed 5 ∧ l.pdDir 5 = 1 ∧ l.pdSdt 5 = false ∧ l.leasePd 5 = false ∧
      (g.r.getX 7).toNat + (l.pdLen 5 + 3) / 4 ≤ 2097152),
    clauseAt (wWith safeOut 2097150) (.txsdt 0 (sv 0)) fun l g => decide (l.sdtUsed 0 ∧ l.pdDir (l.sdtPd 0) = 1 ∧ (g.r.getX 7).toNat + (l.sdtLen 0 + 3) / 4 ≤ 2097152),
    clauseAt (wObj 2097148) (.txmd 0 (sv 3)) fun l g => decide (l.mdUsed 3 ∧ l.mdRole 3 ≠ mdListener ∧ g.r.acc1.toNat ≤ l.mdMax 3 ∧
      (g.r.getX 7).toNat + (l.mdMax 3 + 3) / 4 ≤ 2097152),
    ([.ctx 0 (sv 63), .ctxt 0 (sv (16384 + 63))] : List Instr).all fun c => clauseAt (wObj 2097134) c fun l g =>
      decide (l.canUsed 0 63 ∧ l.canDir 0 63 = 2 ∧ (g.r.getX 7).toNat + 18 ≤ 2097152 ∧
      descOk (memWord l.mem (0x02000000 + 4 * (g.r.getX 7).toNat)) (memWord l.mem (0x02000000 + 4 * ((g.r.getX 7).toNat + 1)))),
    clauseAt (wObj 2097148) (.arm 0 (sv 63)) fun _ g => decide ((g.r.getX 7).toNat + 4 ≤ 2097152 ∧ armOk (wObj 0).isHwt 0 0 0 0),
    clauseAt (wObj 0) (.disarm 0 63) (fun _ _ => true), clauseAt (wObj 0) (.ecls 0 255) (fun _ _ => true),
    clauseAt (wObj 0) (.pwr 0 0) fun _ g => decide (g.r.acc2.toNat % 4 = 0 ∧ periphAddr g.r.acc2.toNat),
    clauseAt (wObj 2096144) (.recEntry 0 (BitVec.ofNat 26 (131072 * 7 + 0x8000)) 4032) fun _ g =>
      decide ((g.r.getX 7).toNat + (4032 + 3) / 4 ≤ 2097152)] = true := by decide +kernel

theorem wit_ServicesSendAndReceive_receives : hyps [
    clauseAt (wObj 2097150) (.rxpd 0 (sv 6)) fun l g => decide (l.pdUsed 6 ∧ l.pdDir 6 = 2 ∧ l.pdSdt 6 = false ∧ l.leasePd 6 = false ∧
      (g.r.getX 7).toNat + (l.pdLen 6 + 3) / 4 ≤ 2097152),
    clauseAt (wWith safeIn 2097150) (.rxsdt 0 (sv 1)) fun l g => decide (l.sdtUsed 1 ∧ l.pdDir (l.sdtPd 1) = 2 ∧ (g.r.getX 7).toNat + (l.sdtLen 1 + 3) / 4 ≤ 2097152),
    clauseAt (wWith safeOut 0) (.tstat 0 7) fun l _ => decide (l.pdUsed 7 ∧ l.leasePd 7 = false ∧ l.pdSdt 7 ∧ (l.channelOf 7).isSome),
    clauseAt (wObj 0) (.tstat 0 6) fun l _ => decide (l.pdUsed 6 ∧ l.leasePd 6 = false ∧ l.pdSdt 6 = false),
    clauseAt (wObj 0) (.tstat 0 (32768 + 3)) (fun l _ => l.mdUsed 3), clauseAt (wWith safeOut 0) (.tstat 0 65536) (fun l _ => l.sdtUsed 0),
    clauseAt (wObj 2097134) (.crxb 0 (sv (32768 * 3))) fun l g => decide (l.canUsed 3 0 ∧ l.canDir 3 0 = 1 ∧ (g.r.getX 7).toNat + 18 ≤ 2097152)] = true := by
  decide +kernel

def wBus : State := { wLane { acc2 := 12 } id with br := { w0.br with sizes := [0, 0, 0, 0, 0, 0, 0, 16] } }

def wAnswered : State := w0.onLanes fun l => { l.setEngine 0 { st := .wait, wait := some { kind := rkPrd } } with
  results := [{ engine := 0, acc1 := some 5 }] }

theorem wit_WaitingServicesComplete : hyps [
    clauseAt (wObj 2097148) (.rxmd 0 (sv 3)) fun l g => decide (l.mdUsed 3 ∧ l.mdRole 3 ≠ mdNotifier ∧ wordsOf (l.mdMax 3) = 4 ∧ (g.r.getX 7).toNat + 4 ≤ 2097152),
    clauseAt (wObj 2097134) (.crxf 0 (sv (32768 * 3))) fun _ g => (g.r.getX 7).toNat + 18 ≤ 2097152,
    ([.brd 0 23, .bwr 0 23] : List Instr).all fun c => clauseAt wBus c fun _ g =>
      g.r.acc2.toNat % 2 ^ 2 = 0 ∧ g.r.acc2.toNat + 2 ^ 2 ≤ wBus.br.sizes.getD 7 0,
    clauseAt (wObj 0) (.prd 0 0) fun _ g => decide (g.r.acc2.toNat % 4 = 0 ∧ periphAddr g.r.acc2.toNat),
    wAnswered.live, every (wAnswered.now 9) fun l g => l.clean ∧ l.results.head? = some { engine := 0, acc1 := some 5 } ∧
      g.wait = some { kind := rkPrd } ∧ g.pair = none ∧ g.next = none ∧ g.act.cancel = none] = true := by decide +kernel


/-! Host access -/

def wKey : List Byte := List.replicate 32 7

/-- A handshake of slot 0 on port A, number 1, and the credential that proves it. -/
def wHands : Session := { number := 1, port := 0, slot := 0, hostNonce := List.replicate 16 1, modNonce := List.replicate 16 2 }

def wHost : State := { w0 with hp := { w0.hp with sessions := [wHands], creds := [{ key := wKey, role := 2 }] } }

def wOpen : Frame := { port := .a, command := 1, count := 4, payload := [1, 2, 3, 4], mac := List.replicate 16 0, len := 52, t := 9 }

def wProof (k : List Byte) : Frame :=
  { port := .a, command := 2, count := 8, payload := wordsFromBytes (proofOf k wHands), mac := List.replicate 16 0, len := 68, t := 9 }

theorem wit_HandshakeOpensSession : hyps [wHost.live, frameTaken wOpen, frameOk wOpen, wOpen.tie = false, wHost.pw.armed = false, frameTaken (wProof wKey),
    (wProof wKey).command = 0x02,
    wHost.hp.sessions.all fun x => x.number ≠ 2, wHost.hp.sessions.any fun x => x.number = 1, wHands.slot = (wProof wKey).arg.toNat,
    (wHost.hp.sessions.filter fun x => x.port == portNo wOpen.port).length < 4,
    frameOk (wProof wKey), wHost.verifying 9 = false, wHost.cred 0 = some { key := wKey, role := 2 },
    (wHost.hp.sessions.filter fun y => y.port == 0 && !y.isOpen && y.slot == 0) = [wHands], wHost.proves wHands (wProof wKey)] = true := by
  decide +kernel

theorem wit_ProofAttemptsAreSerialised : hyps [
    let s : State := { wHost with hp := { wHost.hp with verifyUntil := some 20009 } }
    s.live && s.verifying 9 && !s.verifying 20009,
    ([wHands].find? fun y => wHost.proves y (wProof wKey)) = some wHands, frameTaken (wProof []), frameOk (wProof []), wHost.proves wHands (wProof []) = false,
    [wHands].getLast? = some wHands] = true := by decide +kernel

/-- An open session of role 3 that holds quoin 2 on port A, and its request for `cmd` with the MAC it must carry. -/
def wSess : Session := { number := 1, port := 0, slot := 0, isOpen := true, key := wKey, role := 3 }

def wReq (cmd : Byte) (a arg : Word) (ws : List Word) : Frame :=
  let f : Frame := { port := .a, command := cmd, session := 1, seq := 1, count := BitVec.ofNat 16 ws.length, address := a, arg := arg,
                     payload := ws, len := 36 + 4 * ws.length, t := 9 }
  { f with mac := requestMac wKey f }

def wServed : State :=
  let s := { w0 with hp := { w0.hp with sessions := [wSess] } }
  ((s.wr R.HP_QUOIN_HELD 1 2).wr R.HP_QUOIN_PORT 0 2).wr R.HP_QUOIN_SESSION 1 2

/-- What every clause of the statement asks of a request. -/
def wAsk (f : Frame) : Bool := wServed.live && frameTaken f && !wServed.pw.armed && wServed.hp.sessions.all (fun y => y.serving.isNone) && frameOk { f with mac := List.replicate 16 0 } && f.tie == false &&
  wServed.session 0 1 == some wSess && f.seq.toNat == (wSess.lastSeq + 1) % 65536 && decide ((cmdRole f.command.toNat).getD 9 ≤ wSess.role) && !wServed.hp.resetAfterReply &&
  wServed.hp.restart == none

theorem wit_SessionRequestsServed_mac (cmd : Byte) (a arg : Word) (ws : List Word) :
    requestMac wKey (wReq cmd a arg ws) = (wReq cmd a arg ws).mac ∧ (wReq cmd a arg ws).mac.length = 16 :=
  ⟨rfl, by simp [wReq, requestMac]⟩

/-- What the clauses of WRITE ask of an address. -/
def wMay (a : Nat) (v : Word) : Bool := mapped a && wServed.holdsQuoin wSess a && !hxAddr a && !wServed.inReset a 9 &&
  !wServed.modeRefuses a v && !roleRefuses 3 a v && !wServed.valueRefuses a v

theorem wit_SessionRequestsServed : hyps [wAsk (wReq 0x04 0 0 []), wAsk (wReq 0x03 0 0 []), wAsk (wReq 0x20 0 30 []),
    wServed.rd R.HP_QUOIN_HELD 30 = 0, wAsk (wReq 0x21 0 2 []), wServed.rd R.HP_QUOIN_HELD 2 = 1,
    256 * wServed.rd R.HP_QUOIN_PORT 2 + wServed.rd R.HP_QUOIN_SESSION 2 = 256 * wSess.port + wSess.number, wAsk (wReq 0x22 0 2 []),
    wAsk (wReq 0x10 0x10008 0 [0, 0]), mapped 0x10008, mapped 0x1000C, wServed.inReset 0x10008 9 = false, wServed.inReset 0x1000C 9 = false,
    wAsk (wReq 0x11 0x40400 0 [5]), wMay 0x40400 5, wAsk (wReq 0x12 0x10008 0xFF [5]), wMay 0x10008 5,
    ([(0x40400, 5), (0x10008, 5)] : List (Nat × Word)).all fun b =>
    let r := (wServed.hostStore (.host 0 1) b.1 b.2 9).scopeClamp [b.1]
    !r.hp.resetAfterReply && r.hp.restart == none,
    let x := { wSess with serving := some { seq := 1, frame := wOpen, reply := { command := 4, session := 1, seq := 1, status := 0 }, until_ := 9 } }
    let s : State := { w0 with hp := { w0.hp with sessions := [x] } }
    decide (s.hp.sessions = [x]) && (x.serving.any fun v => v.until_ ≤ 9)] = true := by decide +kernel

/-- A module whose two planes have an address. -/
def wNet : State := (((w0.wr R.NW_IP_ADDR 0x0A000001 0).wr R.NW_IP_ADDR 0x0A000001 1).wr R.NW_NET_CFG_PREFIX_A 8).wr R.NW_NET_CFG_PREFIX_B 8

theorem wit_HostSideAndRegisters : hyps [
    { wHost with hp := { wHost.hp with verifyUntil := some 9 } }.hp.verifyUntil = some 9, wHost.live, wHost.session 0 1 = some wHands,
    wHands.isOpen = false, wHands.last + 1000000000 ≤ 1000000000, wServed.session 0 1 = some wSess, wSess.isOpen,
    wSess.last + 1000000000 * wServed.rd R.HP_NET_CFG_SESS_TIMEOUT ≤ 10000000000, (0xC0A8640A#32).toNat = w0.rd R.HP_A_ADDR_ADDR,
    { w0.hp with addrCommit := true }.addrCommit, w0.rf.waits .hp = false,
    let p : PortAsk := { target := 0xC0A8640A, source := 1 }
    decide (p.target.toNat = w0.rd R.HP_A_ADDR_ADDR ∧ p.fragment = false),
    let s : State := { w0 with rf := w0.rf.go .hp, hp := { w0.hp with addrCommit := true } }
    let r := (s.now 9).repliesDue 9
    s.hp.addrCommit && !r.goInService && r.rf.waits .hp && hpSetOk (r.rf.applied .hp).word,
    let r := (({ w0 with hp := { w0.hp with addrCommit := true } } : State).now 9).repliesDue 9
    !r.goInService && !r.rf.waits .hp,
    let w : RegFile := { w0.rf with shadow := [(R.HP_A_ADDR_ADDR.base, 0)] }
    let r := (({ w0 with rf := w.go .hp, hp := { w0.hp with addrCommit := true } } : State).now 9).repliesDue 9
    !r.goInService && r.rf.waits .hp && !hpSetOk (r.rf.applied .hp).word,
    let v : Serving := { seq := 1, frame := wOpen, reply := { command := 4, session := 1, seq := 1, status := 0 }, until_ := 10 }
    let s : State := { w0 with hp := { w0.hp with sessions := [{ wSess with serving := some v }], addrCommit := true, addrBy := some (0, 1) } }
    s.hp.addrCommit && ((s.now 9).repliesDue 9).goInService, (wNet.rf.go .nw).waits .nw, w0.rf.waits .nw = false,
    ({ wNet with rf := wNet.rf.go .nw } : State).nwSetOk ((wNet.rf.go .nw).applied .nw).word,
    (w0.wr R.SYS_MODE_STAT_MODE 2).mode = mdMaint, (6#32).toNat % 8 < 7,
    Cells.wf w0.rf.eff, blockOf 0x7FFFFFFC == none, w0.mode ≠ mdStop ∧ w0.mode ≠ mdMaint] = true := by decide +kernel

/-! Lanes and voting -/

def wItem : Item := { kind := 1, engine := 0, task := 1, win := 0, pos := 0, words := [3], sig := 4 }

/-- Every lane presents `wItem`. -/
def wShow : State := w0.onLanes fun l => { l with items := [wItem] }

/-- DUPLEX-A: lanes B and C vote, A is excluded; DUPLEX since LT 0. -/
def wDup : State := ((wShow.wr R.VT_STATE_VOTING 6).wr R.VT_STATE_STATE 3).wr R.VT_LANE_STAT_ROLE 2 0

/-- SIMPLEX-DIAG: lane B votes alone; task 1 has priority 8. -/
def wSim : State := ((wShow.onLanes (setWords [(0x03300020, 0x0481)])).wr R.VT_STATE_VOTING 2).wr R.VT_STATE_STATE 1

theorem wit_VoterJudgesItems : hyps [w0.live, (w0.lane 0).items = [], (wDup.lane 0).items = [wItem], wDup.votes 0 = false,
    wShow.votes 0, wShow.owes 0 wItem = none, wShow.isTriplex, wShow.votingLanes = [0, 1, 2],
    [0, 1, 2].all fun y => !wShow.isLate y wItem && wShow.shown y wItem == some wItem, wItem.agrees wItem,
    wDup.live, wDup.votes 2, wDup.owes 2 wItem = none, wDup.isDuplex, [0, 1, 2].all fun y => !wDup.isLate y wItem,
    wDup.votingLanes.map (fun y => wDup.shown y wItem) = [some wItem, some wItem],
    let s := wDup.setLane 2 { wDup.lane 2 with items := [{ wItem with sig := 5 }] }
    decide (s.votingLanes.map (fun y => s.shown y wItem) = [some wItem, some { wItem with sig := 5 }]) &&
      wItem.agrees { wItem with sig := 5 } == false,
    wSim.live, wSim.votes 1, wSim.owes 1 wItem = none, wSim.isSimplex, 7 < (wSim.lane 1).tkPriority 1,
    ({ wItem with words := [5] } : Item).recKind ≠ rkCommit, wItem.kind ≠ 3,
    ([{ wItem with kind := 2 }].find? fun r => r.task == 1 && r.win == 0 && r.pos == 0) = some { wItem with kind := 2 }, ([wItem].find? fun r => r.task == 1 && r.win == 0 && r.pos == 0) = some wItem,
    let s := wShow.setVt { wShow.vt with owed := [(2, wItem)] }
    (s.vt.owed.find? fun q => q.1 == 2) == some (2, wItem) && s.votes 2 && s.isTriplex,
    let s := wDup.setVt { wDup.vt with owed := [(2, wItem)] }
    (s.vt.owed.find? fun q => q.1 == 2) == some (2, wItem) && s.votes 2 && s.isDuplex, wDup.votes 0 = false] = true := by decide +kernel

theorem wit_ExclusionDuplexAndSafe : hyps [w0.isTriplex, w0.votes 2, wDup.isTriplex = false, lcLate < 16,
    wDup.isDuplex, 4 * wDup.graceLimit ≤ 5 * wDup.graceNow (48 * wDup.graceLimit * 1000000000), wDup.rd R.VT_FLAGS_GRACE_WARN = 0,
    wDup.graceLimit ≤ wDup.graceNow (60 * wDup.graceLimit * 1000000000), wDup.vt.graceFlash + 10 ≤ wDup.graceNow 600000000000,
    wSim.isSimplex, wSim.vt.simplexSince + 600000000000 ≤ 600000000000, w0.isDuplex = false,
    scGrace < 16, scGrace ≠ scDuplexDis, w0.isSafe = false, (w0.wr R.VT_STATE_STATE 6).isSafe] = true := by decide +kernel

/-- As `wDup`, lane A in its self-test, not yet judged. -/
def wTest : State := wDup.setVt { wDup.vt with testing := [0] }

def wCopy (x : Nat) (c : Copy) (v : Nat) : State :=
  ((w0.wr R.VT_STATE_VOTING v).wr R.VT_STATE_STATE (3 + x)).setVt { w0.vt with copies := [(x, c)] }

theorem wit_LanesRejoinAndAreRepaired : hyps [wDup.live, wDup.pwState ≠ psSleep, wDup.laneRole 0 = lrExcluded, wDup.testOf 0 = 0,
    wDup.vt.testing.contains 0 = false, wTest.live, wTest.vt.testing.contains 0, wTest.isSafe = false, wTest.vstate ≠ vsSelftest,
    wTest.exclInWin 0 9 < wTest.rd R.VT_CFG_REJOIN_MAX,
    let n := wTest.rd R.VT_CFG_REJOIN_MAX
    let s := wTest.setVt { wTest.vt with excl := [(0, List.replicate n 9)] }
    decide (s.rd R.VT_CFG_REJOIN_MAX ≤ s.exclInWin 0 9) && s.vt.testing.contains 0,
    let s := wTest.wr R.VT_STATE_STATE 0
    decide (s.vstate = vsSelftest ∧ s.vt.testing.contains 0 ∧ s.isSafe = false) && [0, 1, 2].any fun y => y != 0 && s.testOf y != 2,
    let s := wDup.setVt { wDup.vt with test := [(0, 1)] }
    decide (s.laneRole 0 = lrExcluded ∧ s.testOf 0 = 1 ∧ s.votes 0 = false ∧ s.isDuplex ∧ s.pwState ≠ psEntering ∧ s.copySources 0 = some (1, some 2)),
    let s := wCopy 2 { primary := 1, second := some 0 } 3
    decide (NMap.look s.vt.copies 2 = some { primary := 1, second := some 0 } ∧ s.pwState ≠ psSleep) && (s.lane 0).mem == (s.lane 1).mem && s.isDuplex,
    let s := (wCopy 2 { primary := 1, second := some 0 } 3).setLane 0 ((w0.lane 0).setWord 0 1)
    (s.lane 0).mem != (s.lane 1).mem && s.isDuplex,
    let s := wCopy 0 { primary := 1, swept := true } 6
    s.maySwitch 0 && s.isDuplex && !s.graceOver 9 && s.votes 0 == false && decide (s.rd R.VT_STATE_VOTING ||| 2 ^ 0 = 7) && s.live &&
      s.vt.copies.all fun k => k.1 < 3,
    (0x03BFFFFC : Nat) % 4 = 0 ∧ 0x03BFFFFC < 0x03C00000, (w0.lane 0).ecc1.contains 0x03BFFFFC = false, (w0.lane 0).ecc2.contains 0x03BFFFFC = false,
    (({ w0.lane 0 with ecc1 := [4] }) : Lane).ecc1.contains 4, (({ w0.lane 0 with ecc2 := [4] }) : Lane).ecc2.contains 4,
    wDup.votingLanes.find? (· != (2 : Nat)) = some 1, wDup.exclInCycle 9 = false, wDup.votes 2,
    ([{ lane := 2, addr := 4, value := 0 }] : List Repair).find? (fun r => r.lane == 2 && r.addr == 4) = some { lane := 2, addr := 4, value := 0 }]
    = true := by decide +kernel

/-! Tasks and events -/

/-- Task 1 of every lane as its table entry words say, in use. -/
def wTask (ws : List (Nat × Word)) (f : Lane → Lane := id) : State :=
  w0.onLanes fun l => f { setWords ws l with used := [1] }

/-- CYCLIC, priority 1, engine 0, period 3, offset 1, budget 10. -/
def tkCyc : List (Nat × Word) := [(0x03300020, 0x0411), (0x03300028, 3), (0x0330002C, 1), (0x03300034, 10)]

theorem wit_ReleasesAndEnds : hyps [(wTask tkCyc).live, (wTask tkCyc).mode = mdRun, (wTask tkCyc).startup = false,
    (wTask tkCyc).isSafe = false, (wTask tkCyc).isSimplex = false,
    every (wTask tkCyc) fun l _ => l.used.contains 1 && decide (l.tkKind 1 ≠ kStartup ∧ l.tkKind 1 ≠ kFault ∧
      (l.task 1).cancelAt ≠ some 9) && l.enabled 1 && !l.isPending 1,
    every (wTask tkCyc fun l => l.wr R.TSK_STAT_STATE tsReady 1) fun l _ => l.used.contains 1 && l.enabled 1 && l.isPending 1 && (l.task 1).overAt == none,
    every w0 fun l _ => l.used.contains 63 = false,
    every (wTask tkCyc fun l => l.wr R.TSK_STAT_STATE tsReady 1) fun l _ => l.tskState 1 = tsReady ∧ (l.task 1).stamp ≠ 9 ∧ l.tkKind 1 ≠ kFault ∧ (l.task 1).overAt = none,
    every (wTask tkCyc fun l => l.wr R.TSK_STAT_STATE tsReady 1) fun l _ => l.tskState 1 = tsReady ∧ (l.task 1).stamp = 0 ∧ l.tkKind 1 ≠ kFault ∧ (l.task 1).overAt = none,
    every (wTask tkCyc fun l => l.setEngine 0 { st := .run, task := 1, act := { retired := 10 } }) fun l g => g.st = .run ∧ g.fresh = false ∧ g.pair = none ∧
      0 < l.tkBudget g.task ∧ l.tkBudget g.task ≤ g.act.retired,
    ((w0.lane 0).task ((w0.lane 0).engine 0).task).owed = false] = true := by decide +kernel

theorem wit_ModesAndTicks : hyps [w0.live, w0.mode = mdRun, w0.isSafe = false, (w0.wr R.SYS_MODE_STAT_MODE 1).mode = mdStop,
    (w0.wr R.SYS_MODE_STAT_MODE 2).mode = mdMaint, w0.mode ≠ mdRestarting, w0.rd R.UP_STATE_STATE ≠ usRecovery, w0.pwState ≠ psHoldup,
    (w0.wr R.SYS_MODE_STAT_MODE 3).mode = mdRestarting,
    let s := { (w0.wr R.SYS_MODE_STAT_MODE 3).wr R.SYS_MODE_STAT_STARTUP 1 with up := { w0.up with ready := true, startEnd := some 5 } }
    s.startup && s.up.ready && s.servingLanes != [] && decide (s.mode = mdRestarting) && decide (s.up.startEnd = some 5 ∧ 125000 % 125000 = 0 ∧ 5 < 125000 ∧ 125000 ≤ 5 + 125000 ∧ s.isSafe = false),
    w0.pwState ≠ psEntering, w0.front.rf.waits .tsk = false, w0.front.rf.waits .evt = false,
    ((wTask tkCyc).lane 0).used = [1], ((wTask tkCyc).lane 0).tkKind 1 = kCyclic, ((4 : Int) - ((wTask tkCyc).lane 0).tkOffset 1) % 3 = 0,
    let l := (wTask tkCyc fun l => l.wr R.TSK_STAT_STATE tsReady 1).lane 0
    decide (l.candidates = [1] ∧ l.tskState 1 = tsReady ∧ l.tkPriority 1 ≤ 7 ∧ l.chooseEngine 1 (l.engineSet 9 1) = some 0 ∧
      (l.engine 0).st = .idle ∧ (l.engine 0).next = none ∧ (l.engine 0).nextPair = none ∧ (l.task 1).ctx = none), w0.phase.simplex = false] = true := by decide +kernel

/-- A module in RUN whose PW status sample is delivered (word 0: the state RUN, no flag), before and after its tick 0. -/
def wTick (o : Option Nat) : State := { w0 with pw := { w0.pw with shown := (1, 0) }, nw := { w0.nw with tick0 := o } }

theorem wit_ModesAndTicks_tick : hyps [((wTick none).caddyTick 1 1 1 9).nw.tick0 = none, ((wTick (some 5)).caddyTick 1 1 1 9).nw.tick0 = some 5,
    ((wTick (some 5)).caddyTick 1 1 1 9).pwState ≠ psEntering, ((wTick none).caddyTick 1 1 1 9).pw.frozen = false,
    (((wTick (some 5)).wr R.PW_STATE_STATE psEntering).caddyTick 1 1 1 9).pwState = psEntering] = true := by decide +kernel

theorem wit_EventsRaiseAndComplete : hyps [w0.live,
    every (w0.onLanes fun l => ((l.wr R.EVT_SRC_CFG_EN 1 511).wr R.EVT_SRC_STAT_PEND 1 511).wr R.EVT_SRC_STAT_ACC 254 511) fun l _ =>
      l.rd R.EVT_SRC_CFG_EN 511 ≠ 0 ∧ l.rd R.EVT_SRC_STAT_PEND 511 ≠ 0 ∧ l.rd R.EVT_SRC_STAT_ACC 511 < 255,
    every (w0.onLanes fun l => l.wr R.EVT_SRC_CFG_EN 1 511) fun l _ =>
      l.rd R.EVT_SRC_CFG_EN 511 ≠ 0 ∧ l.rd R.EVT_SRC_STAT_PEND 511 = 0 ∧ l.rd R.EVT_SRC_STAT_ACC 511 = 0 ∧ Cells.wf l.rf.eff,
    every w0 fun l _ => l.rd R.EVT_SRC_CFG_EN 0 = 0, w0.front.selectEvent w0.phase 9 == none,
    let s := w0.onLanes fun l => { (l.wr R.EVT_SRC_CFG_EN 1 511).wr R.EVT_SRC_STAT_PEND 1 511 with first := [(511, 1)] }
    decide (s.pwState ≠ psEntering) && every s fun l _ => decide (l.selectEvent s.phase 9 = some 511 ∧ l.rd R.EVT_GRP_CFG_HOLDOFF 31 = 0 ∧
      l.used = [] ∧ ((l.wr R.EVT_SRC_STAT_PEND 0 511).wr R.EVT_SRC_STAT_ACC 0 511).rd R.EVT_SRC_STAT_OWED 511 = 0),
    every (w0.onLanes fun l => { l with hold := [(31, 9)] }) fun l _ => NMap.look l.hold 31 = some 9,
    every w0 fun l _ => l.rd R.EVT_SRC_STAT_OWED 511 = 0,
    every (w0.onLanes fun l => l.wr R.EVT_SRC_STAT_OWED 1 511) fun l _ => l.rd R.EVT_SRC_STAT_OWED 511 ≠ 0] = true := by decide +kernel

/-! The Line Gauge -/

theorem wit_TrainTimeAndReferences : hyps [w0.live, w0.nw.ptp.meas = [], (w0.setPtp { w0.nw.ptp with meas := [5] }).nw.ptp.meas = 5 :: [],
    w0.rd R.LG_TT_STEP_THR * 10000 ≤ (w0.rd R.LG_TT_STEP_THR * 10000 : Int).natAbs,
    let s : State := { w0.wr R.LG_TT_STEP_THR 1 with lg := { w0.lg with lastMeas := some 5 } }
    decide ((9999 : Int).natAbs < s.rd R.LG_TT_STEP_THR * 10000 ∧ s.lg.lastMeas = some 5 ∧ 5 + 4000000000 ≤ 4000000005) && !s.ttLocked,
    (w0.wr R.LG_TT_LOCKED 1).ttLocked, w0.vstate ≠ vsSelftest, (w0.wr R.VT_STATE_STATE 0).vstate = vsSelftest,
    let s : State := { w0 with rf := { w0.rf with shadow := [(R.LG_REF_TB.base, BitVec.ofNat 32 (2 ^ R.LG_REF_TB.lo))] } }
    let r : State := { s.refTake with lg := { s.lg with applyReq := false } }
    decide (r.rd R.LG_REF_TB = 1 ∧ r.ttLocked = false)] = true := by decide +kernel

/-- A module with both wheel pairs enabled. -/
def wWheel (ok : Bool) : State := (w0.wr R.LG_WS_EN 3).setBit R.LG_POS_WS_VALID 1 ok

theorem wit_WheelsAndDistance : hyps [w0.live, w0.wsUsed = 0, w0.rd R.LG_POS_SLIP = 0, (1 : Nat) ≠ w0.wsUsed,
    (wWheel false).wsBad 1 1000000000 = false, ((wWheel false).lg.pair 1).quiet 1000000000, w0.vstate ≠ vsSelftest, (wWheel false).wsUsed ≠ 1,
    let s := (wWheel true).setPw { (wWheel true).pw with off := true }
    s.pw.off && !s.live && decide (s.wsUsed = 0 ∧ (1 : Fin 2).val ≠ s.wsUsed),
    let s := (wWheel true).wr R.VT_STATE_STATE 0
    decide (s.vstate = vsSelftest ∧ s.pw.off = false ∧ s.recovering = false ∧ s.wsUsed = 0),
    let s := w0.wr R.UP_STATE_STATE usRecovery
    s.recovering && !s.live,
    let s := (wWheel true).setPw { (wWheel true).pw with frozen := true }
    !s.live && !s.pw.off && !s.recovering,
    let s := wWheel true
    let p := { s.lg.pair 1 with badAt := 5 }
    decide ((({ s with lg := s.lg.setPair 1 p } : State).lg.pair 1).badAt = 5 ∧ 1000000004 < p.badAt + 1000000000),
    (w0.wr R.LG_POS_STANDSTILL 1).rd R.LG_POS_STANDSTILL = 1, 199999999 < (w0.wr R.LG_POS_SLIP 1).lg.slipHeld + 200000000,
    let s := (w0.wr R.LG_POS_SLIP 1).wr R.LG_POS_DQ_REDUCED 1
    s.slipLong (s.lg.slipOn + 70000000000000) && decide (s.rd R.LG_POS_DQ_REDUCED = 1 ∧ s.rd R.LG_POS_SLIP = 1),
    ([0, 1, 2].all fun k => ({ w0.lg with fwd := true, heldEdges := k } : LgState).heldEdges == k),
    ((wWheel false).lg.pair 1).badAt + 1000000000 ≤ 1000000000, (wWheel false).wsValid 1 = false, (wWheel true).wsValid 1,
    let s := w0.wr R.LG_POS_STANDSTILL 0
    decide (s.rd R.LG_POS_STANDSTILL = 0 ∧ s.wsSpeed 0 9 = 0 ∧ s.wsSpeed 1 9 = 0),
    let s := w0.wr R.LG_POS_SLIP 1
    decide (s.rd R.LG_POS_SLIP = 1 ∧ s.lg.slipHeld + 200000000 ≤ 200000000 ∧
      s.lg.slipOn + s.rd R.LG_SLIP_SLIP_MAX * 1000000000 < s.rd R.LG_SLIP_SLIP_MAX * 1000000000 + 1 ),
    (w0.wr R.LG_POS_DQ_REDUCED 0).rd R.LG_POS_DQ_REDUCED = 0, w0.slipLong 9 = false, (w0.wr R.LG_POS_AO_LOST 0).rd R.LG_POS_AO_LOST = 0,
    (w0.wr R.LG_POS_AO_LOST 1).rd R.LG_POS_AO_LOST = 1, ({ w0 with pw := { w0.pw with off := true } } : State).pw.off] = true := by
  decide +kernel

/-- A comparator record with an action and its argument. -/
def wRec (action arg : Nat) : List Word := [BitVec.ofNat 32 (256 * action + 4096 * arg), 0, 0x00010000, 0]

/-- Channel `c` in the switching output mode with hardware timing. -/
def wHwt (c : Nat) : State := (w0.wr R.CH_MODE_MODE cmHs c).wr R.CH_MODE_HWT 1 c

theorem wit_PhaseAndComparators : hyps [w0.live, w0.lg.lastCross = none, w0.lg.intervals = [],
    stableFour (((20000005 - 5) :: [20000000, 20000000, 20000000]).take 8), stableFour [20000000] = false, w0.rd R.LG_PH_PRESENT = 0,
    0 < [20000000, 20000000, 20000000, 20000000].sum / 4,
    let s : State := { w0.wr R.LG_PH_PRESENT 1 with lg := { w0.lg with lastCross := some 5, intervals := [20000000] } }
    decide (s.lg.lastCross = some 5 ∧ s.rd R.LG_PH_PRESENT = 1 ∧ 2 * 5 + 3 * s.lg.period ≤ 2 * 30000005),
    let s := w0.wr R.LG_PH_CONFIRM 2
    decide (lineClass 0 0 0 (s.rd R.LG_PH_FREQ) = s.rd R.LG_PH_EVAL ∧ s.lg.classRun + 1 < s.rd R.LG_PH_CONFIRM),
    w0.lg.arms = [], ({ w0.lg with arms := [(0, 127, some (wRec 0 0))] } : LgState).arms = [(0, 127, some (wRec 0 0))], 0 + 1000 ≤ 1000,
    let h : HitCmp := { words := wRec 2 127, due := some (2, true, 5) }
    decide (h.due = some (2, true, 5) ∧ NMap.look [(0, h)] 0 = some h ∧ recAction (wRec 3 127) = 3),
    let s := (wHwt 127).onLanes (setWords [(0x03391010, 0x00800000)])
    s.fieldLeased 7 && !s.acting, (wHwt 127).acting = false ∨ (wHwt 127).fieldLeased 7 = false,
    (wHwt 127).isHwt 126 = false,
    let h : HitCmp := { words := wRec 2 127, due := some (1, false, 5) }
    decide (NMap.look [(127, h)] 127 = some h ∧ recAction h.words = 2), recAction (wRec 0 63) = 0, recAction (wRec 1 511) = 1,
    w0.lg.switches = [], (wHwt 127).isHwt 127, (wHwt 127).fieldLeased 7 = false, ((wHwt 127).ch 127).pulseEnd = none, (wHwt 127).live,
    (((wHwt 127).setCh 127 { (wHwt 127).ch 127 with pulseEnd := some 9 }).ch 127).pulseEnd = some 9] = true := by decide +kernel

/-! The Safety Chase -/

/-- A Chase table with these words and zeros elsewhere. -/
def wTab (ws : List (Nat × Word)) : List Word := (List.range 144).map fun k => NMap.get ws 0 k

/-- A module whose terminal 31 has role `role`, its word `w` and its time word 1, and is in state `x`. -/
def wTerm (role : Nat) (w : Word) (x : ScTerm) : State :=
  let s := w0.wr R.SC_TERM_STAT_ROLE role 31
  { s with sc := { s.sc with table := wTab [(140, w), (141, 1)], terms := [(31, x)] } }

theorem wit_ChaseInputsAndPulses : hyps [w0.live, (wTerm srIn 0 {}).scRoleOf 31 = srIn, scLevel 24000 24000 = some true,
    (wTerm srIn 0 {}).scFrozen 31 9 = false, true ≠ ((wTerm srIn 0 {}).scTerm 31).filt, w0.pwState ≠ psSleep,
    let s := wTerm srIn 0x0F00 {}
    ({ s with sc := { s.sc with cycles := [(7, 0, 5)] } } : State).scFrozen 31 9, scFilter (wTerm srIn 0 {}).sc.table 31 ≤ 0 + 1,
    0 + 1 < scFilter (wTerm srIn 0x10 {}).sc.table 31,
    let s := wTerm srIn 0 { filt := true }
    decide (0 < scStuck s.sc.table 31 ∧ (s.scTerm 31).filt = true ∧ (s.scTerm 31).oneAt + scStuck s.sc.table 31 * 1000000000 ≤ 1000000000 ∧
      s.scFaultOf 31 = 0),
    [0, 1, 2, 3].all fun k => scTpEn w0.sc.table (4 * 7 + k) = false,
    [(1, 7), (2, 6)].all fun (kind, slot) =>
      let s := wTerm srIn 0x0F00 { filt := true, foundBefore := [(kind, slot)] }
      let x := s.scTerm 31
      scTpEn s.sc.table 31 && x.filt && x.foundBefore.contains (kind, slot) && decide (s.scFaultOf 31 = 0) &&
        (scSlot s.sc.table 31 == slot) == (kind == 1)]
    = true := by decide +kernel

theorem wit_ChaseCycleAndTests : hyps [w0.live,
    let s := ((((wTerm srOut 0x00010000 {}).wr R.CH_MODE_MODE cmHs 115).wr R.SC_STATE_STATE 1).wr R.SC_CHASE_CMD_CMD (2 ^ 31) 0).wr R.CH_STAT_ON 1 115
    decide (s.scRoleOf 31 = srOut ∧ 0 < scDarkPeriod s.sc.table 31 ∧ (s.scTerm 31).dark = none) && s.scClosed 31 && s.scLaneOn 31,
    (wTerm srOut 0 { dark := some true }).scTerm 31 = { dark := some true }, scLevel 0 24000 = some false, scLevel 12000 24000 ≠ some false,
    let x : ScTerm := { openAt := some 1, level := some true }
    let s := wTerm srOut 0 x
    decide (s.scRoleOf 31 = srOut ∧ x.openAt = some 1 ∧ 1 + 1000000 ≤ 1000001 ∧ x.level = some true ∧ x.levelAt + 1000000 ≤ 1000001 ∧
      s.scFaultOf 31 = 0),
    50 ≤ ({ discRun := 50 } : ScTerm).discRun, ({ discRun := 50 } : ScTerm).discSet = false, ({ discRun := 49 } : ScTerm).discRun < 50,
    (w0.wr R.SC_STATE_STATE 1).scState = csNormal] = true := by decide +kernel

theorem wit_ChaseStatesAndFaults : hyps [w0.live, (w0.wr R.SC_STATE_STATE 0).scState = csTest, w0.sc.misses < 2,
    ({ w0.sc with misses := 2 } : ScState).misses = 2, (w0.wr R.SYS_MODE_STAT_MODE 1).stopped, w0.stopped = false,
    let s := (w0.wr R.SC_STATE_STATE 2).wr R.SC_DEGR_LIMIT 1
    decide (s.scState = csDegraded ∧ s.scLimit ≤ s.scElapsed 60000000000 ∧ s.scElapsed 59999999999 < s.scLimit ∧
      4 * s.scLimit ≤ 5 * s.scElapsed 48000000000),
    1 ≤ scComparator ∧ scComparator < 8, (w0.wr R.SC_STATE_STATE 1).scState = csNormal, w0.isTriplex, wDup.isTriplex = false,
    (w0.wr R.SC_STATE_STATE 3).scState = csHeld] = true := by decide +kernel

/-! Field channels -/

/-- Channel 127 in mode `m` of a powered group. -/
def wCh (m : Nat) (x : FdChan := {}) : State := ((w0.wr R.CH_MODE_MODE m 127).wr R.CH_GRP_STAT_POWERED 1 7).setCh 127 x

theorem wit_GroupsAndOutputs : hyps [w0.live,
    let s := w0.wr R.CH_GRP_CFG_EN 1 7
    decide (s.rd R.CH_GRP_CFG_EN 7 ≠ 0 ∧ s.rd R.CH_GRP_STAT_POWERED 7 = 0 ∧ s.rd R.CH_GRP_STAT_REVERSED 7 = 0),
    w0.rd R.CH_GRP_CFG_EN 0 = 0, (wCh 0).rd R.CH_GRP_STAT_POWERED 7 ≠ 0, w0.rd R.CH_GRP_STAT_POWERED 7 = 0,
    w0.powered 127 = false, (w0.wr R.VT_STATE_STATE 6).isSafe, (wCh 8 { transEnd := some 9 }).inTransition 127, (wCh cmDi).chMode 127 ≠ cmTp,
    isHs ((wCh cmDi).chMode 127) = false, isAo ((wCh cmDi).chMode 127) = false, isHs ((wCh cmPulse).chMode 127), (wCh cmPulse).chMode 127 ≠ cmTp,
    ((wCh cmPulse).wr R.CH_STAT_TRIPPED 1 127).tripped 127, ((wCh cmPulse).ch ((wCh cmPulse).parLeader 127)).commits = false] = true := by
  decide +kernel

theorem wit_GroupsAndOutputs_switch : hyps [
    let s0 := (wCh cmTp).wr R.CH_MODE_MODE cmTp 123
    let s : State := { s0 with sc := { s0.sc with table := wTab [(15, 0x00C80050), (140, 0x0F00)], cycles := [(7, 0, 5)] } }
    decide (s.chMode 123 = cmTp) && s.scSourceOff (123 / 16) (123 % 16 - 4) 70000000,
    let s := wCh cmPwm { on := true, pwmRun := true, period := 100, duty := 32768, periodAt := 1 }
    decide (s.chMode 127 = cmPwm) && !((s.ch (s.parLeader 127)).pwmHigh 900001),
    let s := wCh cmHs { commits := true, on := true }
    s.chOnNow 127 && decide (s.chMode 127 ≠ cmTp ∧ s.chMode 127 ≠ cmPwm ∧ isHs (s.chMode 127)),
    let s := (wTerm srOut 0 { dark := some true }).wr R.CH_MODE_MODE cmHs 115
    isHs (s.chMode 115) && s.scOpens 115] = true := by
  decide +kernel

theorem wit_DigitalChannels_sink : hyps [isDin ((wCh cmHs).chMode 127) = false,
    let s := (wCh cmDi { raw := some true, changedAt := 9 }).wr R.CH_CFG_WET 1 127
    isDin (s.chMode 127) && s.powered 127 && !s.inTransition 127 && s.chWetting 127 9 && !s.chWetting 127 1000009 &&
      decide (s.rd R.CH_CFG_WET 127 ≠ 0 ∧ (s.ch 127).raw = some true)] = true := by decide +kernel

theorem wit_SamplesAndFrames : hyps [w0.live, (w0.wr R.PW_STATE_STATE 4).pwState = psSleep, (w0.rd R.PW_WAKE_GRP).testBit 7 = false,
    w0.pwState ≠ psSleep, (wCh 1).rd R.CH_GRP_STAT_POWERED 7 ≠ 0, (0 : Int) ≤ 65535,
    let s := wCh cmDi { raw := some true, run := 9 }
    decide (chLevel (s.rd R.CH_CFG_UN 127) 24000 24000 = some true ∧ (s.ch 127).raw = some true ∧ (s.ch 127).run < chFilter (s.rd R.CH_MODE_FILTER 127) ∧
      (s.ch 127).run + 1 = chFilter (s.rd R.CH_MODE_FILTER 127)),
    let s := wCh cmDi { raw := some true, run := 8 }
    decide ((s.ch 127).run + 1 < chFilter (s.rd R.CH_MODE_FILTER 127)),
    (w0.group 7).frameAt = none, 5 + 100000 ≤ 100005, NMap.look w0.maps 14 = none,
    NMap.look ({ w0 with maps := [(14, 100)] } : State).maps (2 * 7) = some 100] = true := by decide +kernel

theorem wit_DigitalChannels_inputs : hyps [w0.live, w0.pwState ≠ psSleep,
    ({ transEnd := some 9 } : FdChan).transEnd = some 9, isDin ((wCh cmFreq).chMode 127), isAi ((wCh cmTc).chMode 127),
    isDin ((wCh cmHs).chMode 127) = false, isAi ((wCh cmHs).chMode 127) = false,
    let s := (wCh cmFreq { undetAt := 1 }).wr R.CH_STAT_UNDET 1 127
    decide (isDin (s.chMode 127) ∧ s.powered 127 ∧ (s.ch 127).transEnd = none ∧ s.rd R.CH_STAT_UNDET 127 = 1 ∧
      1 + 3000 * chFilter (s.rd R.CH_MODE_FILTER 127) ≤ 30001),
    let s := (wCh cmDi { filt := some true, oneAt := 1 }).wr R.CH_CFG_STUCK 1 127
    decide (0 < s.rd R.CH_CFG_STUCK 127 ∧ (s.ch 127).filt = some true ∧ (s.ch 127).oneAt + s.rd R.CH_CFG_STUCK 127 * 1000000000 ≤ 1000000001 ∧
      s.rd R.CH_STAT_STUCK 127 = 0),
    let s := wCh cmDi { acceptAt := 1, changedAt := 2 }
    decide (s.chMode 127 = cmDi ∧ s.powered 127 ∧ (s.ch 127).acceptAt < (s.ch 127).changedAt ∧
      (s.ch 127).acceptAt + 16000 * chFilter (s.rd R.CH_MODE_FILTER 127) ≤ 160001),
    let s := (wCh cmUp).wr R.CH_CFG_EDGE 2 127
    decide (s.chMode 127 = cmUp ∧ s.powered 127 ∧ (s.ch 127).transEnd = none ∧ s.rd R.CH_CFG_EDGE 127 = 2),
    ((wCh cmUp).wr R.CH_CFG_EDGE 0 127).rd R.CH_CFG_EDGE 127 = 0, (wCh cmFreq).chMode 127 = cmFreq, (wCh cmFreq).powered 127] = true := by
  decide +kernel

theorem wit_DigitalChannels_outputs : hyps [
    let s := (wCh cmPwm { on := true }).wr R.CH_STAT_ON 1 127
    decide (isHs (s.chMode 127) ∧ s.rd R.CH_STAT_ON 127 = 1 ∧ s.chMode 127 = cmPwm ∧ (s.ch 127).on = true),
    let s := w0.wr R.CH_GRP_CFG_PAR 4 7
    decide (1 < (s.parMembers 127).length), ((wCh cmHs).wr R.CH_CFG_OPEN_DET 1 127).rd R.CH_CFG_OPEN_DET 127 = 1,
    let s := wCh cmHs
    decide (s.rd R.CH_STAT_ON 127 = 0 ∧ isHs (s.chMode 127) ∧ s.powered 127 ∧ (s.ch 127).transEnd = none),
    [fcOpenWire, fcShort, fcStuck, fcFeedLow, fcOpenLoad, fcGroupOff, fcOverrange, fcBackfeed, fcOvertemp, fcGroupOverload, fcPar, fcOverload].all fun f => ((wCh cmHs).wr R.CH_STAT_FAULT f 127).chFault 127 = f,
    ({ dopEnd := some 9 } : FdChan).dopEnd = some 9, (wCh cmTp).chMode 127 = cmTp, ((wCh cmTp).wr R.CH_STAT_TRIPPED 1 127).tripped 127] = true := by
  decide +kernel

theorem wit_AnalogueChannels : hyps [w0.live, (wCh cmAoI).feedLow 127 = false, ((wCh cmAoI).ch 127).heatTo = none, isAo ((wCh cmAoI).chMode 127), (wCh cmAoI).powered 127, ((wCh cmAoI).ch 127).transEnd = none,
    isDin ((wCh cmDi).chMode 127), (wCh cmAiI).chMode 127 = cmAiI, ({ shuntOff := true } : FdChan).shuntOff,
    let s := ((w0.wr R.CH_MODE_MODE cmTc 126).wr R.CH_GRP_STAT_POWERED 1 7).wr R.CH_STAT_FAULT fcOpenWire 126
    decide (s.chMode 126 = cmTc ∧ 126 % 2 = 0 ∧ s.powered 126 ∧ s.chFault 126 = fcOpenWire),
    ((wCh cmAoU).wr R.CH_STAT_ON 1 127).rd R.CH_STAT_ON 127 = 1, w0.rd R.CH_FEED_STAT_FEED_LOW 7 = 0,
    (w0.wr R.CH_FEED_STAT_FEED_LOW 1 7).rd R.CH_FEED_STAT_FEED_LOW 7 = 1, ((wCh cmAiU { full := true }).ch 127).full, w0.mode ≠ mdMaint,
    let s := (((((wCh cmAoI).wr R.SYS_MODE_STAT_MODE 2).wr R.CH_TRIM_S1 0 127).wr R.CH_TRIM_S2 24000000 127).wr R.CH_TRIM_M1 0 127).wr
      R.CH_TRIM_M2 24000000 127
    let l := aoLimits (s.chMode 127) (s.chRange 127)
    let v := fun f : Fld => toSigned 32 (s.rd f 127)
    decide (s.mode = mdMaint) && isAo (s.chMode 127) && trimOk l.1 l.2 (v R.CH_TRIM_S1) (v R.CH_TRIM_S2) (v R.CH_TRIM_M1) (v R.CH_TRIM_M2),
    let s := (wCh cmAoI).wr R.SYS_MODE_STAT_MODE 2
    let l := aoLimits (s.chMode 127) (s.chRange 127)
    let v := fun f : Fld => toSigned 32 (s.rd f 127)
    trimOk l.1 l.2 (v R.CH_TRIM_S1) (v R.CH_TRIM_S2) (v R.CH_TRIM_M1) (v R.CH_TRIM_M2) == false] = true := by decide +kernel

/-! The Forme bus -/

/-- Schedule 0 with two static slots of 10 µs, slot 1 for branch 7 with frame entry 3, of 8 bytes, `tx` to send; all branches active. -/
def wForme (tx : Bool) : State :=
  ((w0.onLanes (setWords [(0x03310000, 1000), (0x03310004, 0x000A0002), (0x03310008, 0x00010000), (0x0331000C, 0x00010505),
    (0x03310044, 0x00030007), (0x03308118, if tx then 0x10080000 else 0x00080000)])).wr R.FB_STATE_STATE 2).wr R.FB_BR_STAT_STATE 1 7

def wFrame : FbFrame := { start := 10400, stop := 19599, kind := 0, id := 1, len := 8, payload := [0, 0], null := true }

theorem wit_FormeControllerRuns : hyps [w0.live, w0.pwState ≠ psSleep,
    ([false, true].all fun p =>
      let s : State := { w0.wr R.FB_STATE_STATE 1 with fb := { w0.fb with started := true, park := p } }
      decide (s.rf.waits .fb = false ∧ s.fb.started = true ∧ s.fb.park = p ∧ s.fbState = fsLockup)),
    (let s := w0.wr R.FB_STATE_STATE 1
     decide (s.fb.started = false ∧ s.fb.park = false ∧ s.fbState = fsLockup)), (w0.wr R.FB_BR_EN_EN 128).fbEnabled 7, (w0.wr R.FB_BR_EN_EN 0).fbEnabled 7 = false,
    let s : State := { w0.wr R.FB_STATE_STATE 1 with fb := { w0.fb with started := true } }
    decide (s.pwDown = false ∧ s.rf.waits .fb = false ∧ s.fb.started = true ∧ s.fbState = fsLockup),
    let s := (w0.wr R.FB_STATE_STATE 1).wr R.FB_STATE_LOCKUP_LEFT 0
    decide (s.fbState = fsLockup ∧ s.rd R.FB_STATE_LOCKUP_LEFT = 0), (wForme true).fbState = fsPress, w0.fbState ≠ fsPress,
    (wForme true).rd R.FB_SCHED_STAT_PENDING = 0, (wForme true).fbIsUsable 7 = false,
    let s := (wForme true).setBit R.FB_SCHED_STAT_USABLE 7 true
    decide (s.fbIsUsable 7 = true ∧ 7 ≠ s.fbSched),
    let s := ((wForme true).wr R.FB_SCHED_STAT_PENDING 1).wr R.FB_SWITCH_AT_CYCLE 1
    decide (s.fbCycle + 1 = s.rd R.FB_SWITCH_AT_CYCLE ∧ s.fbReq (s.rd R.FB_SCHED_STAT_TARGET) &&& s.rd R.FB_SCHED_STAT_ACKED =
      s.fbReq (s.rd R.FB_SCHED_STAT_TARGET)),
    let s := (((w0.onLanes (setWords [(0x03310010, 1)])).wr R.FB_SCHED_STAT_PENDING 1).wr R.FB_SWITCH_AT_CYCLE 1)
    decide (s.fbReq (s.rd R.FB_SCHED_STAT_TARGET) &&& s.rd R.FB_SCHED_STAT_ACKED ≠ s.fbReq (s.rd R.FB_SCHED_STAT_TARGET)),
    let s : State := { (wForme true).wr R.FB_SCHED_STAT_PENDING 1 with fb := { w0.fb with passed := true } }
    decide (s.rd R.FB_SCHED_STAT_PENDING = 1 ∧ s.fb.passed = true ∧ s.fbCycle = s.rd R.FB_SWITCH_AT_CYCLE),
    (wForme true).rd R.FB_BR_STAT_STATE 7 ≠ bsDisabled, w0.rd R.FB_BR_STAT_LINK 7 = 0] = true := by decide +kernel

theorem wit_FormeFramesPass : hyps [w0.starCheck 7 wFrame = .quarBlock, (wForme false).starCheck 7 { wFrame with start := 10399 } = .outOfSlot,
    (wForme false).starCheck 7 { wFrame with id := 2 } = .header, (wForme false).starCheck 7 { wFrame with stop := 19600 } = .overlong,
    (wForme false).starCheck 7 wFrame = .forwarded, wFrame.switchAck = false, wFrame.kind ≠ 1,
    (wForme false).rd R.FB_BR_STAT_STATE 7 = bsActive, (wForme false).fbWindow 7 10600 = none, (wForme false).fbState = fsPress,
    (let s0 := wForme false
     let s : State := { s0 with fb := { s0.fb with fwd := [{ branch := 7, frame := wFrame, whole := true, win := (true, 1) }] } }
     ((s.fb.fwd.find? fun x => x.branch == 7 && x.frame == wFrame).map (·.whole)) == some true &&
       s.fbByWin (true, 1) == some (true, 1, 0x00030007)), ((wForme false).fbWindow 7 10400).isSome,
    (wForme false).fb.fwd.find? (fun x => x.branch == 7 && x.frame == wFrame) == none, (wForme false).fbIsTx 3 = false, wFrame.fcs, wFrame.len = (wForme false).fbBytes 3,
    wFrame.sched = (wForme false).fbSched, wFrame.null, (wForme false).fbEvEn 3 = false, w0.fbState ≠ fsPress,
    (((wForme false).fbWords (wForme false).fbSched).find? fun x => x.1 && x.2.1 == 1) = some (true, 1, 0x00030007),
    (wForme false).fb.accepted.contains 3 = false, (wForme false).fb.bad.contains 3 = false, ([3] : List Nat).contains 3,
    (wForme true).fbNamed (wForme true).fbSched 3 = some (true, 1, 0x00030007), (wForme true).fbIsTx 3, (wForme true).fb.own = [],
    w0.fbState = fsOff ∨ w0.fbState = fsParked] = true := by decide +kernel

/-! The consist network -/

/-- Plane B's VLAN entry 0 is VID 5 with both external ports and the internal one; ports 2 and 3 have PVID 5; link of port 3 up. -/
def wVlan (w : Word) : State :=
  { w0 with nw := { w0.nw with links := [(3, 2)], vlan := List.replicate 64 0 ++ w :: List.replicate 63 0 ++ [0, 0, 5, 5] } }

def wEth : EthFrame := { src := 0x020000000001, dst := 0x020000000002, len := 1522 }

def wFdb : State := { wVlan 0x7005 with nw := { (wVlan 0x7005).nw with fdb := [{ plane := 1, mac := 0x020000000002, port := 3, at_ := 0 }] } }

theorem wit_ConsistNetworkForwards_time : hyps [
    let e : EthFrame := { wEth with ptp := some { type := 1, correction := 65536 } }
    let f : QFrame := { pcp := 7, bytes := 64, frame := some e, vid := 5, inPort := 2, inAt := 9 }
    decide (e.ptp = some { type := 1, correction := 65536 } ∧ f.inPort < 4 ∧ f.frame = some e ∧ f.inAt ≤ 10), w0.ttLocked = false,
    (w0.wr R.LG_TT_LOCKED 1).ttLocked, (9 : Nat) ≤ 10, ((wVlan 0x77005).vlanUntag (3 / 2) 5).testBit (3 % 2),
    ((wVlan 0x7005).vlanUntag (3 / 2) 5).testBit (3 % 2) = false, (2 : Nat) ≠ 1, wEth.ptp = none] = true := by decide +kernel

theorem wit_ConsistNetworkForwards : hyps [wFdb.live, (wFdb.wr R.SYS_MODE_STAT_MODE mdMaint).mode = mdMaint, wEth.fcs, wEth.len ≤ 1522, 1522 < ({ wEth with len := 1523 } : EthFrame).len,
    ({ wEth with pause := true } : EthFrame).pause, wEth.pause = false, wEth.dst.toNat / 16 ≠ 0x0180C200000, wFdb.vlanMembers 1 (wFdb.frameVid 2 { wEth with tag := some (7, 1) }) = none,
    wFdb.vlanMembers 1 (wFdb.frameVid 2 wEth) = some 7, wFdb.vlanMembers 1 (wFdb.frameVid 2 { wEth with tag := some (0, 1) }) = some 7,
    (2 : Nat).testBit 0 = false, (7 : Nat).testBit 0, isGroup wEth.dst = false,
    (wFdb.learn 1 wEth.src 2 9).learned 1 wEth.dst = some 3, (7 : Nat).testBit (3 % 2), (wFdb.learn 1 wEth.src 2 9).linkUp 3,
    (0xFFFFFFFF#32) ≠ w0.nwIp 0,
    let e : ArpEntry := { plane := 0, ip := 5, asked := 1 }
    let s := w0.putArp e
    decide (s.arpEntry 0 5 = some e ∧ e.asked + 60000000000 ≤ 60000000001 ∧ e.mac = none ∧ e.asked + 1000000000 ≤ 1000000001),
    ({ plane := 0, ip := 5, mac := some 7 } : ArpEntry).mac ≠ none, w0.queue 6 = [],
    let g : QFrame := { pcp := 0, bytes := 64, frame := some wEth }
    decide (([g].find? fun x => x.pcp == topPcp [g]) = some g ∧ g.own = none ∧ g.frame = some wEth ∧ (4 = 4 ∨ 4 = 5)),
    let e : ArpEntry := { plane := 0, ip := 5, asked := 1 }
    decide ((w0.putArp e).arpEntry 0 5 = some e ∧ e.mac = none ∧ 5 < e.asked + 1000000000),
    let o : OwnCopy := { obj := 0, tp := 1, deadline := 50 }
    let g : QFrame := { pcp := 7, bytes := 64, own := some o }
    let s := w0.setQueue 6 [g]
    decide (s.queue 6 = [g] ∧ ((s.queue 6).find? fun g => g.pcp == topPcp (s.queue 6)) = some g ∧ o.tp + 2000 * o.deadline ≤ 100001),
    let g : QFrame := { pcp := 0, bytes := 64 }
    decide (([g].find? fun x => x.pcp == topPcp [g]) = some g ∧ g.own = none ∧ 4 ≤ 4)] = true := by decide +kernel

/-- The tables of `objects`, and of PD entry 6 alone with COMID 9. -/
def wData : State := w0.onLanes objects
def wOne : State := w0.onLanes (setWords [(0x033600C0, 26), (0x033600C4, 9), (0x033600C8, 8), (0x033600CC, 1)])

def wPdCopy : PdCopy := { udpLen := 48, dsLen := 8, comId := 9, src := 7, dst := BitVec.ofNat 32 0, counter := 1, data := [0, 0] }

/-- The tables of `safeIn`. -/
def wSafe : State := w0.onLanes safeIn

theorem wit_TrainDataIsExchanged_publishes : hyps [wData.live, wData.pwDown = false, wData.tab.pdUsed 5, wData.tab.pdDir 5 = 1,
    wData.tab.leasePd 5 = false, wData.tab.pdSdt 5 = false, wData.tab.pdLease 5 = false, wData.pdDue 5 1000000 = some (0, false),
    wData.pdDue 0 0 = none] = true := by decide +kernel

theorem wit_TrainDataIsExchanged_receives : hyps [wOne.live, ({ wPdCopy with udpLen := 39 } : PdCopy).udpLen < 40, wPdCopy.hdrOk, wPdCopy.version = 1,
    wPdCopy.isPd, wPdCopy.dsLen + 40 = wPdCopy.udpLen, wPdCopy.dsLen ≤ 1432, (wOne.wr R.NW_TOPO_CNT 6 0).topoOk 5 0 = false,
    wOne.topoOk wPdCopy.etb wPdCopy.optrn, ((List.range 2048).filter fun j => wOne.pdMatches j 1 wPdCopy) = [6],
    wPdCopy.dsLen = wOne.tab.pdLen 6, wOne.tab.pdSdt 6 = false, (wOne.nwPd 6).last = none, wOne.wakesOn 6 = false,
    ({ last := some 5 } : NwPd).last = some 5, ({ last := some 5 } : NwPd).status.getLsbD 1 = false] = true := by decide +kernel

theorem wit_TrainDataIsExchanged_ends : hyps [wData.tmoBase (some 5) = some 5, wData.tab.pdUsed 6, wData.tab.pdDir 6 = 2,
    (wData.nwPd 6).tmoDone = false, 5 + wData.tab.pdTimeout 6 * 1000000 ≤ 1000005, wData.tab.pdZero 6 = false,
    wSafe.tab.sdtUsed 1, wSafe.tab.pdDir (wSafe.tab.sdtPd 1) = 2, (wSafe.nwSdt 1).tmoDone = false, 5 + wSafe.tab.sdtTmo 1 * 1000000 ≤ 1000005,
    wSafe.tab.pdZero (wSafe.tab.sdtPd 1) = false, ((wSafe.onLanes (setWords [(0x03360100, 0x41E)])).tab.pdZero 8),
    ((wData.onLanes (setWords [(0x033600C0, 0x41A)])).tab.pdZero 6), ((wData.onLanes (setWords [(0x033600C0, 0x41A)])).tab.pdUsed 6),
    ([{ c := 1, t1 := 5, plane := 0, data := [] }] : List SdtWin).find? (fun w => decide (w.t1 + wSafe.tab.sdtCmpWin 1 * 1000000 ≤ 5)) =
      some { c := 1, t1 := 5, plane := 0, data := [] }, wSafe.tab.sdtSingleOk 1 = false,
    (setWords [(0x03372020, 0x1008)] {}).sdtSingleOk 1, wData.topoOk 0 0,
    let s := w0.onLanes (setWords [(0x03370060, 0x11C), (0x03370064, 9), (0x03370068, 16), (0x03370074, 50)])
    decide (s.tab.mdUsed 3 ∧ s.tab.mdComId 3 = 9 ∧ s.tab.mdRole 3 = mdListener ∧ s.tab.mdPeer 3 = 0 ∧ (s.nwMd 3).queue.length < s.tab.mdDepth 3 ∧
      16 ≤ s.tab.mdMax 3 ∧ s.tab.mdEvRx 3 = false ∧ s.mdPlaneNow 3 = (1 : Fin 2).val),
    w0.nw.frags.length < 8, NMap.look w0.nw.frags 4 = none, 5 + wData.tab.mdReplyTmo 3 * 1000000 ≤ 1000005,
    NMap.look [(4, 5)] 4 = some 5, 5 + 100000000 ≤ 100000005] = true := by decide +kernel

/-- An Announce of sender 3, and a module that has chosen it on plane A. -/
def wAnn : Announce := { sender := 3, prio1 := 1, cls := 2, accuracy := 3, variance := 4, prio2 := 5, gm := 6, steps := 0, logSync := 1, logAnn := -3, domain := w0.rd R.NW_PTP_CFG_DOMAIN, transport := w0.rd R.NW_PTP_CFG_TRANSPORT }

def wPtp : State := (w0.setPtp { w0.nw.ptp with sel := some wAnn, syncWait := some (5, 1), t3 := some 2, fwd := some 4 }).wr R.NW_PTP_STAT_STATE 3

/-- A message of sender 3 in the domain and over the transport of the configuration. -/
def wFrom : PtpFrom := { sender := 3, domain := w0.rd R.NW_PTP_CFG_DOMAIN, transport := w0.rd R.NW_PTP_CFG_TRANSPORT }

theorem dreqInterval_pos (s : State) : 0 < s.dreqInterval := by
  have h := Nat.two_pow_pos (toSigned 4 (s.rd R.NW_PTP_CFG_LOG_DREQ) + 4).toNat
  unfold State.dreqInterval
  simp only
  omega

theorem wit_ClockFollowsItsMaster_apart : (wPtp.setPtp { wPtp.nw.ptp with reqAt := some 9 }).nw.ptp.reqAt = some 9 ∧
    9 < 9 + (wPtp.setPtp { wPtp.nw.ptp with reqAt := some 9 }).dreqInterval :=
  ⟨rfl, Nat.lt_add_of_pos_right (dreqInterval_pos _)⟩

theorem wit_ClockFollowsItsMaster : hyps [wPtp.live, wPtp.fromMaster (0 : Fin 2) wFrom, wPtp.fromMaster (1 : Fin 2) wFrom = false, w0.nw.ptp.reqAt = none, wPtp.nw.ptp.kept = [],
    (wPtp.setPtp { wPtp.nw.ptp with kept := [1] }).nw.ptp.kept ≠ [], wPtp.nw.ptp.syncWait = some (5, 1), wPtp.ptpState = pcSlave,
    (w0.wr R.NW_PTP_STAT_STATE 1).ptpState = pcListening, wPtp.nw.ptp.t3 = some 2, wPtp.nw.ptp.fwd = some 4, w0.qualified wAnn,
    w0.qualified { wAnn with logSync := 2 } = false,
    [(0, wAnn, 5)].all fun a => decide (375000004 < a.2.2 + annTimeout a.2.1 ∧ a.1 = wPtp.ptpPlane),
    decide (375000004 < 5 + annTimeout wAnn ∧ 1 - wPtp.ptpPlane ≠ wPtp.ptpPlane ∧ wPtp.nw.ptp.useAt + annTimeout wAnn ≤ 375000004)] = true := by decide +kernel

/-! CAN and the rack bridge -/

/-- Controller 3 in state `st`, with buffer 63 in state `x`. -/
def wCan (st : Nat) (x : CanBuf := {}) : State := (w0.wr R.CN_STAT_STATE st 3).setCbuf 3 63 x

def wTx (held : Option (Bool × Nat)) : TxFrame := { desc := List.replicate 18 0, held := held, target := some (false, 5) }

theorem wit_CanControllersWork : hyps [w0.live, (wCan 1).canSt 3 = ceDetect, ((wCan 1).onLanes (setWords [(0x03386018, 7)])).candidate 3 0 ≠ 0,
    ((wCan 1).can 3).candStart + 100000000 ≤ 100000000, (wCan 2).canSt 3 = ceActive, ((wCan 2).can 3).integrating = false,
    (List.range 64).all fun j => (wCan 2).tab.canUsed 3 j = false, (wCan 2).rd R.CN_CTRL_FIFO_EN 3 = 0, (wCan 3).canSt 3 = cePassive,
    let s := (wCan 2).wr R.CN_CTRL_FIFO_EN 1 3
    decide (s.rd R.CN_CTRL_FIFO_EN 3 = 1 ∧ (s.can 3).fifo = [] ∧ idMatch ((s.tab.canWord 3 4).getLsbD 29) (fieldOf (s.tab.canWord 3 4) 28 0)
      (fieldOf (s.tab.canWord 3 5) 28 0) ((rxDesc (0 :: 1 :: List.replicate 16 0)).getD 0 0)),
    let s := (wCan 2).setCan 3 { (wCan 2).can 3 with fifo := List.replicate 32 [] }
    32 ≤ (s.can 3).fifo.length,
    let l := ((wCan 2).onLanes (setWords [(0x033870C0, 1)])).tab
    l.canUsed 3 63 && l.canDir 3 63 == 1 && idMatch (l.canIde 3 63) (l.canId 3 63) (l.canMask 3 63)
      ((rxDesc (0 :: 1 :: List.replicate 16 0)).getD 0 0) && (List.range 63).all fun j => !l.canUsed 3 j,
    ((wCan 2 { lockedAt := some 5 }).cbuf 3 63).lockedAt = some 5, 5 + 10000000 ≤ 10000005, ((wCan 2).cbuf 3 63).lockedAt = none,
    ((wCan 2).wr R.CN_BUF_STAT_IN_PROGRESS 1 3 63).inProgress 3 63, ((wCan 2).cbuf 3 63).next = none, (wCan 2).canSt 3 ≠ ceBusOff,
    (wCan 4).canSt 3 = ceBusOff, ((wCan 4).can 3).boUntil ≤ 9, (wCan 5).canSt 3 = ceRecovering, (wCan 0).canSt 3 = ceOff,
    let s := (wCan 2 { tx := some (wTx none) }).wr R.CN_STAT_LISTEN_ONLY 0 3
    s.canMaySend 3 && !s.canBusy 3 && decide (s.canNext 3 = some (some 63)),
    let s := ((wCan 2).wr R.CN_STAT_LISTEN_ONLY 0 3).setCan 3 { (wCan 2).can 3 with syncTx := true }
    s.canMaySend 3 && !s.canBusy 3 && decide (s.canNext 3 = some none),
    let s := (wCan 2).setCan 3 { (wCan 2).can 3 with syncProg := true }
    s.canBusy 3 && (s.can 3).syncProg && !s.canGated 3 && decide (s.canSt 3 ≠ ceOff ∧ s.pwState ≠ psSleep),
    let s := (((w0.onLanes (setWords [(0x03386000 + 0x18, 7)])).wr R.CN_BUF_STAT_IN_PROGRESS 1 3 63))
    s.inProgress 3 63 && !s.canGated 3,
    let s := ((wCan 2).wr R.CN_BUF_STAT_IN_PROGRESS 1 3 63).wr R.SYS_MODE_STAT_MODE 1
    s.inProgress 3 63 && s.canGated 3,
    let s := wCan 2 { tx := some (wTx (some (false, 5))) }
    decide ((s.cbuf 3 63).tx = some (wTx (some (false, 5))) ∧ s.baseUs false 5000 = some 5 ∧ (wTx (some (false, 5))).held = some (false, 5)) &&
      reached 5 5 32,
    let s := (wCan 2 { tx := some (wTx none) }).wr R.CN_CTRL_LATE_LIM 1 3
    decide (0 < s.rd R.CN_CTRL_LATE_LIM 3 ∧ s.inProgress 3 63 = false ∧ (wTx none).target = some (false, 5)) &&
      reached 6 (5 + s.rd R.CN_CTRL_LATE_LIM 3 : Nat) 32,
    ((wCan 2).cbuf 3 63).tx = none] = true := by decide +kernel

theorem wit_CanControllersWork_objects : hyps [
    let s := (wCan 2 { lastRx := some 1 }).onLanes (setWords [(0x033870C0, 5), (0x033870D0, 0x10000)])
    decide (s.tab.canUsed 3 63 ∧ s.tab.canDir 3 63 = 1 ∧ s.tab.canPdo 3 63 ∧ 0 < s.tab.canTmr 3 63 ∧ s.tmoBase (s.cbuf 3 63).lastRx = some 1 ∧
      1 + s.tab.canTmr 3 63 * 1000000 ≤ 1000001 ∧ (s.cbuf 3 63).pdoStatus.getLsbD 1 = false ∧ s.maps = []),
    let s := (wCan 2).onLanes (setWords [(0x033870C0, 6), (0x033870CC, 0x00200000), (0x033870D0, 0x10000)])
    decide (s.txPdo 3 63 2 ∧ 0 < s.tab.canTmr 3 63 ∧ (s.cbuf 3 63).lastQueue = none ∧ (s.cbuf 3 63).deferred = false),
    ((wCan 2 { deferred := true }).cbuf 3 63).deferred, (wCan 1).wakesOn 7 = false, (wCan 2).wakesOn 7 = false,
    ({ wTx none with begun := true } : TxFrame).begun, (wTx none).begun = false,
    let s := ((wCan 2).wr R.CN_SYNC_SYNC_PERIOD 1 3).wr R.CN_STAT_LISTEN_ONLY 0 3
    decide (0 < s.rd R.CN_SYNC_SYNC_PERIOD 3 ∧ (s.can 3).lastSync + s.rd R.CN_SYNC_SYNC_PERIOD 3 * 1000000 ≤ 1000000 ∧ s.canGated 3 = false) &&
      s.canMaySend 3] = true := by decide +kernel

def wBr : BrReq := { write := false, win := 7, wid := 2, ofs := 12, engine := 0 }

/-- The bridge in state `st`, ready, its window 7 of 16 bytes. -/
def wBridge (st : Nat) (b : BrState) : State :=
  (((w0.wr R.BR_STAT_STATE st).wr R.BR_WIN_CFG_EN 1 7).wr R.BR_WIN_SIZE_SIZE 16 7).setBr { b with clk := true }

theorem wit_BridgeServesRequests : hyps [w0.live, (wBridge 2 { queue := [wBr] }).br.queue = [wBr], (wBridge 2 { queue := [wBr] }).br.opn = none,
    (wBridge 2 { queue := [wBr] }).brReady, (wBridge 2 {}).brSize 7 < 13 + brWidth 2, wBr.ofs + brWidth wBr.wid ≤ (wBridge 2 {}).brSize 7,
    (wBridge 2 {}).br.queue = [], (wBridge 2 {}).brState = bsIdle,
    brGrantee (wBridge 2 {}).br.last (15#4 &&& ~~~(1#4 <<< ((wBridge 2 {}).slotCode % 4))) = some (if w0.slotCode % 4 = 0 then 1 else 0),
    (wBridge 3 { opn := some wBr }).brState = bsArb, (wBridge 3 { opn := some wBr }).br.opn = some wBr,
    brGrantee ((3 + (w0.slotCode % 4)) % 4) (0#4 ||| 1#4 <<< (w0.slotCode % 4)) = some (w0.slotCode % 4),
    let s := wBridge 4 { opn := some wBr, clock0 := some 5 }
    decide (s.br.opn = some wBr ∧ s.br.clock0 = some 5 ∧ 5 + 1000 * s.rd R.BR_WIN_CFG_TMO 7 ≤ 5 + 1000 * 65535),
    fieldOf 0x000000FE#32 7 0 = 0xFE, fieldOf 0x00000001#32 7 0 ≠ 0xFE, (wBridge 2 {}).br.opn = none,
    (wBridge 3 { opn := some wBr }).br.reqAt + 1000 * (wBridge 3 {}).rd R.BR_CFG_ARB_TMO ≤ 1000 * 65535, (wBridge 2 {}).br.clk, w0.br.clk = false,
    ((wBridge 1 {}).setBr { (wBridge 1 {}).br with rst := true }).br.rst, (w0.setBit R.BR_CFG_IRQ_EN 3 true).bit R.BR_CFG_IRQ_EN 3,
    w0.bit R.BR_CFG_IRQ_EN 3 = false, (3 : Nat) % 4 + 1 ≤ 4] = true := by decide +kernel

/-! Module redundancy and the recorder -/

/-- A member of group 7 in slot 2 with a steep of 400 ms, in role `role`. -/
def wRd (role : Nat) : State :=
  ((((w0.wr R.RD_CFG_EN 1).wr R.RD_CFG_SLOT_ID 2).wr R.RD_TIMING_STEEP 400).wr R.RD_GROUP_ID 7).wr R.RD_STATE_ROLE role

def wMsg : LeaseMsg := { type := 1, slot := 1, rank := 0, flags := 0, group := 7, epoch := 0, seq := 1, ref := 5, steep := 400, serial := 0 }

/-- `m` with the CRC of its bytes. -/
def sealed (m : LeaseMsg) : LeaseMsg := { m with crc := crc32 (leaseBody m) }

def wGood : LeaseMsg := sealed wMsg

theorem wit_LeaseMessagesAreServed : hyps [(wRd 2).live, (wRd 2).pwState ≠ psSleep, w0.rdEn = false, (wRd 4).rdEn, (wRd 4).rd_.periodAt = none,
    (wRd 4).role = rrHolder, (wRd 4).aliveSlots = [], (wRd 2).role ≠ rrHolder,
    let s := (wRd 2).setRd { w0.rd_ with periodAt := some 5 }
    decide (s.rd_.periodAt = some 5 ∧ 5 + s.steep / 4 ≤ 100000005 ∧ 100000004 < 5 + s.steep / 4),
    leaseCrcOk { wGood with rank := 1 } = false, (sealed { wMsg with group := 8 }).group.toNat ≠ (wRd 2).rd R.RD_GROUP_ID,
    leaseCrcOk wGood, wGood.group.toNat = (wRd 2).rd R.RD_GROUP_ID,
    let m := sealed { wMsg with steep := 401 }
    decide (leaseCrcOk m ∧ m.group.toNat = (wRd 2).rd R.RD_GROUP_ID ∧ m.steep ≠ (wRd 2).rd R.RD_TIMING_STEEP),
    wGood.steep = (wRd 2).rd R.RD_TIMING_STEEP, wGood.slot ≠ (wRd 2).ownSlot,
    (wRd 2).rd_.members = [], wGood.rank = (wRd 2).rd R.RD_MEMBER_RANK 0, wGood.slot < (wRd 4).ownSlot, (wRd 4).ownSlot ≤ (sealed { wMsg with slot := 2 }).slot,
    let x : RdRenew := { n := 5, at_ := 1, alive := [1] }
    let s := (wRd 4).setRd { w0.rd_ with renews := [x] }
    decide (s.role = rrHolder ∧ s.rd_.renews = [x] ∧ x.n = wGood.ref.toNat ∧ 100000000 < x.at_ + s.steep / 4 ∧ x.alive = [wGood.slot])]
    = true := by decide +kernel

theorem wit_LeaseMessagesAreServed_samples : hyps [
    let x : RdMember := { slot := 1, at_ := 5 }
    let s := ((wRd 2).setRd { w0.rd_ with members := [x, x, x] }).wr R.RD_MEMBER_ALIVE 1 2
    decide (s.rd_.members[2]? = some x ∧ s.rd R.RD_MEMBER_ALIVE 2 = 1 ∧ x.at_ + s.steep / 2 ≤ 200000005 ∧ 200000004 < x.at_ + s.steep / 2),
    9999999 < w0.rd_.sampleAt + 10000000, w0.rd_.sampleAt + 10000000 ≤ 10000000,
    let s := { calmed w0 with maps := [(0x2000, 9)] }
    decide (NMap.look s.maps 0x2000 = some 9 ∧ s.rdWords = s.rd_.status), NMap.look (calmed w0).maps 0x2000 = none] = true := by decide +kernel

/-- A message of the own slot with the serial number `x` and the CRC of its bytes. -/
def ownMsg (x : Word) : LeaseMsg := sealed { wMsg with slot := 2, serial := x }

theorem ownMsg_ok (x : Word) : leaseCrcOk (ownMsg x) = true := by
  have h : leaseBody (ownMsg x) = leaseBody { wMsg with slot := 2, serial := x } := rfl
  rw [leaseCrcOk, h]; exact beq_self_eq_true _

theorem wit_LeaseMessagesAreServed_serial : (∀ x, leaseCrcOk (ownMsg x) = true ∧ (ownMsg x).group.toNat = (wRd 2).rd R.RD_GROUP_ID ∧
      (ownMsg x).steep = (wRd 2).rd R.RD_TIMING_STEEP ∧ (ownMsg x).slot = (wRd 2).ownSlot) ∧
    (ownMsg (BitVec.ofNat 32 Config.serial + 1)).serial ≠ BitVec.ofNat 32 Config.serial ∧
    (ownMsg (BitVec.ofNat 32 Config.serial)).serial = BitVec.ofNat 32 Config.serial := by
  have k : wMsg.group.toNat = (wRd 2).rd R.RD_GROUP_ID ∧ wMsg.steep = (wRd 2).rd R.RD_TIMING_STEEP ∧ 2 = (wRd 2).ownSlot := by decide +kernel
  refine ⟨fun x => ⟨ownMsg_ok x, k⟩, fun h => ?_, rfl⟩
  have h' : BitVec.ofNat 32 Config.serial + 1#32 = BitVec.ofNat 32 Config.serial := h
  generalize BitVec.ofNat 32 Config.serial = x at h'
  bv_omega

theorem wit_LeaseChangesHands : hyps [(wRd 4).live, (wRd 4).pwState ≠ psSleep, (wRd 4).role = rrHolder, (wRd 4).rd_.ackAt + (wRd 4).steep ≤ (wRd 4).steep - (wRd 4).rdGuard + (wRd 4).rdGuard,
    ((wRd 4).steep - (wRd 4).rdGuard - 1) + (wRd 4).rdGuard < (wRd 4).rd_.ackAt + (wRd 4).steep, (wRd 2).role = rrFollower, (wRd 2).rdEn,
    (wRd 2).mayClaim ((wRd 2).steep + (wRd 2).rdGuard), (wRd 2).rd_.base + (wRd 2).steep + (wRd 2).rdGuard ≤ (wRd 2).steep + (wRd 2).rdGuard,
    (wRd 3).role = rrClaiming, (wRd 3).mayClaim 100000000, (wRd 3).rd_.claimAt + (wRd 3).steep / 4 ≤ 100000000,
    (w0.cmpFault = false ∨ w0.barred = false),
    let s := (w0.wr R.RD_STATE_CMP_FAULT 1).setRd { w0.rd_ with bar := true }
    s.cmpFault && s.barred, (w0.rdPair 63).opn = [],
    let s := (w0.onLanes (setWords [(0x03391218, 0x80060005), (0x033600A0, 25), (0x033600A8, 8), (0x033600AC, 1000), (0x033600B4, 500),
      (0x033600C0, 0x81A), (0x033600C8, 8), (0x033600CC, 1)])).setPair 63 { opn := [{ counter := 1, at_ := 7, ok := true, data := [] }] }
    let n := s.now 1000007
    decide (n.pairPub 63 = 5 ∧ 63 ∈ n.pairs) && ((s.rdPair 63).opn.find? fun u => decide (u.at_ + 1000 * n.tab.pdCycle (n.pairPub 63) ≤ 1000007)).isSome]
      = true := by
  decide +kernel

def wLog : LogRec := { type := 0x8000, writer := 0, source := 0 }

theorem wit_RecorderWorks : hyps [w0.live, w0.pwState ≠ psSleep, w0.mode ≠ mdMaint, (w0.wr R.SYS_MODE_STAT_MODE 2).mode = mdMaint, (w0.now 9).stagedRecs = [],
    let s : State := ({ w0.wr R.ER_STATE_STATE 1 with er := { w0.er with free := 524224 } } : State).setStaged [wLog]
    decide ((s.now 9).stagedRecs = [wLog] ∧ s.rd R.ER_STATE_STATE ≠ erRecovering ∧ s.er.free + wLog.size ≤ erBlockBytes),
    (w0.wr R.ER_RD_STAT_STAT 1 1).rd R.ER_RD_STAT_STAT 1 = fsBusy, w0.validRecs = [],
    let s : State := { (w0.wr R.ER_RD_STAT_STAT 1 1).wr R.ER_NEXT_SEQ_SEQ 6 0 with er := { w0.er with log := [{ seq := 5, block := 0, ofs := 0, valid := true, entry := wLog }] } }
    decide (s.validRecs.length = 1 ∧ max (s.rd R.ER_RD_SEQ_SEQ 1 0 + s.rd R.ER_RD_SEQ_SEQ 1 1 * 2 ^ 32) s.firstSeq ≤ 5 ∧ 5 < s.nextSeq),
    w0.rd R.ER_RD_STAT_STAT 1 ≠ fsBusy, w0.er.challenge = none, ({ w0.er with challenge := some ([], 5) } : ErState).challenge = some ([], 5),
    (w0.wr R.ER_STATE_STATE 0).rd R.ER_STATE_STATE = erRecovering, w0.er.log = [], w0.er.eraseBelow = none,
    ({ w0.er with eraseBelow := some 5 } : ErState).eraseBelow = some 5, w0.er.blocks = []] = true := by decide +kernel

/-- Sixteen bytes as the four words of a response. -/
def asResponse : List Byte → List (Nat × Word)
  | [a, b, c, d, e, f, g, h, i, j, k, l, m, n, o, p] =>
    [(0, bytesWord a b c d), (1, bytesWord e f g h), (2, bytesWord i j k l), (3, bytesWord m n o p)]
  | _ => []

theorem wordBytes_bytesWord (a b c d : Byte) : wordBytes (bytesWord a b c d) = [a, b, c, d] := by
  simp only [wordBytes, bytesWord, List.cons.injEq, and_true]
  refine ⟨?_, ?_, ?_, ?_⟩ <;> ext i hi <;>
    simp only [BitVec.getElem_extractLsb', BitVec.getLsbD_append] <;> (repeat' split) <;> first
      | omega
      | (rw [BitVec.getLsbD_eq_getElem (by omega)]; congr 1; omega)

theorem asResponse_bytes (bs : List Byte) (h : bs.length = 16) :
    ((List.range 4).flatMap fun k => wordBytes (NMap.get (asResponse bs) 0 k)) = bs := by
  match bs, h with
  | [a, b, c, d, e, f, g, h, i, j, k, l, m, n, o, p], _ =>
    simp [asResponse, NMap.get, NMap.look, List.range, List.range.loop, wordBytes_bytesWord]

/-- The right response to the empty challenge with the scope in `s`. -/
def rightResponse (s : State) : List Byte :=
  (hmac s.er.clrKey ([] ++ wordBytes (s.rf.word (R.ER_CLR_SCOPE_UPTO_LO.addr 0)) ++ wordBytes (s.rf.word (R.ER_CLR_SCOPE_UPTO_HI.addr 0)) ++
    leBytes (Config.serial % 2 ^ 32) 4)).take 16

/-- `s` with an open challenge and the right response to it. -/
def clearing (s : State) : State := { s with er := { s.er with challenge := some ([], 6), response := asResponse (rightResponse s) } }

theorem clearing_response (s : State) :
    ((List.range 4).flatMap fun k => wordBytes (NMap.get (clearing s).er.response 0 k)) = rightResponse (clearing s) := by
  exact asResponse_bytes (rightResponse s) (by simp [rightResponse])

theorem wit_RecorderWorks_clear : ∃ s : State, s.live = true ∧ s.pwState ≠ psSleep ∧ s.mode = mdMaint ∧ s.er.challenge = some ([], 6) ∧
    (s.rf.word (R.ER_CLR_SCOPE_UPTO_HI.addr 0)).getLsbD 31 = true ∧
    ((List.range 4).flatMap fun k => wordBytes (NMap.get s.er.response 0 k)) = rightResponse s :=
  ⟨clearing ((w0.wr R.SYS_MODE_STAT_MODE 2).wr R.ER_CLR_SCOPE_ALL 1), by decide +kernel, by decide +kernel, by decide +kernel, rfl,
    by decide +kernel, clearing_response _⟩

/-! Power, ageing, boot and update -/

def wPw (p : PwState) : State := { w0 with pw := p }

theorem wit_SupplyComesAndGoes : hyps [(wPw { w0.pw with off := true }).pw.off, (wPw { w0.pw with lostAt := some 5 }).live,
    (wPw { w0.pw with lostAt := some 5 }).pw.lostAt = some 5, w0.pwState ≠ psHoldup, w0.pw.lostAt = none, w0.pwState = psRun,
    (w0.wr R.PW_STATE_SUPPLY_OK 0).rd R.PW_STATE_SUPPLY_OK = 0, (w0.wr R.PW_STATE_SUPPLY_OK 1).rd R.PW_STATE_SUPPLY_OK = 1,
    0 < (w0.wr R.PW_STATE_RIDE 1).rd R.PW_STATE_RIDE, (w0.wr R.PW_STATE_RIDE 0).rd R.PW_STATE_RIDE = 0,
    100004 < 5 + 100000 * (w0.wr R.PW_STATE_RIDE 1).rd R.PW_STATE_RIDE, 5 + 100000 * (w0.wr R.PW_STATE_RIDE 1).rd R.PW_STATE_RIDE ≤ 100005,
    w0.pw.off = false, w0.pw.saving = none, w0.pw.back = none, Cells.wf (w0.wr R.PW_STATE_SUPPLY_OK 1).rf.eff,
    (w0.wr R.PW_STATE_STATE psHoldup).pwState = psHoldup] = true := by decide +kernel

theorem wit_SupplyComesAndGoes_save : hyps [
    let r : SaveRegion := { count := 1 }
    let s := (wPw { w0.pw with saving := some 1, saves := [(1, r)] }).wr R.PW_STATE_STATE psHoldup
    decide (s.pw.off = false ∧ s.pw.saving = some 1 ∧ NMap.look s.pw.saves 1 = some r ∧ s.pw.back = none ∧ s.pwState = psHoldup ∧
      s.latestSave = some (1, r) ∧ r.ended = false),
    let r : SaveRegion := { count := 1, ended := true }
    let s := ((wPw { w0.pw with saves := [(0, r)] }).wr R.PW_STATE_STATE psHoldup).wr R.PW_STATE_SUPPLY_OK 0
    decide (s.pw.off = false ∧ s.pwState = psHoldup ∧ s.rd R.PW_STATE_SUPPLY_OK = 0 ∧ s.latestSave = some (0, r) ∧ r.ended),
    w0.latestSave = none] = true := by decide +kernel

/-- ENTERING from RUN since LT 5, or SLEEP. -/
def wSleep (st : Nat) (p : PwState) : State := (wPw { p with before := 1, entryAt := 5 }).wr R.PW_STATE_STATE st

theorem wit_BalanceAndSleep : hyps [w0.live, (wSleep 2 {}).pwState ≠ psRun, w0.pwState = psRun, w0.pwState ≠ psStabled, (wSleep 2 {}).pwState = psStabled,
    (w0.wr R.SYS_MODE_STAT_MODE 2).mode ≠ mdRun, (w0.wr R.SYS_MODE_STAT_MODE 2).mode ≠ mdStop, w0.vstate = vsTriplex, w0.vt.copies = [],
    w0.mode = mdRun ∨ w0.mode = mdStop, (wSleep 3 {}).live, (wSleep 3 {}).pwState = psEntering, ((wSleep 3 {}).now 9).front.quiet,
    20000005 ≤ (wSleep 3 {}).pw.entryAt + 20000000, ((wEng {}).now 9).front.quiet = false, 20000004 < (wSleep 3 {}).pw.entryAt + 20000000, (wSleep 3 { quiet := true }).pw.quiet,
    (wSleep 3 { quiet := true }).pw.abort = false, (wSleep 3 { quiet := true }).pw.latch = none, (wSleep 3 {}).pw.quiet = false,
    (wSleep 3 { abort := true }).pw.abort, (wSleep 3 { abort := true }).pw.before = psRun, w0.pwState ≠ psEntering, w0.pw.balZero = false,
    (wPw { balZero := true }).pw.balZero, (w0.wr R.PW_CFG_ON_EMPTY 1).rd R.PW_CFG_ON_EMPTY = 1, w0.rd R.PW_CFG_ON_EMPTY = 0, w0.pw.heatZero = false,
    (wPw { heatZero := true }).pw.heatZero] = true := by decide +kernel

theorem wit_BalanceAndSleep_wake : hyps [
    let s := wSleep 4 { frozen := true, armed := true }
    decide (s.pw.off = false ∧ s.recovering = false ∧ Cells.wf s.rf.eff ∧ s.pwState = psSleep ∧ s.pw.armed ∧ s.pw.latch = none ∧ s.pw.before = psRun) &&
      (List.range 10).all fun c => !(s.now 9).wakeOccurs 0 0 0 0 9 c,
    let s := (((wSleep 4 { frozen := true, armed := true }).setBit R.PW_SRC 0 true).setKey { w0.key with pressedAt := some 0 }).now 100000000
    s.wakeOccurs 1 0 0 0 100000000 1,
    let s := ((wSleep 4 { frozen := true, armed := true }).setBit R.PW_SRC 3 true).now 9
    s.wakeOccurs 8 0 0 0 9 4 && [1, 2, 3].all fun c => !s.wakeOccurs 8 0 0 0 9 c,
    let s := ((((wSleep 4 { frozen := true, armed := true }).setBit R.PW_WAKE_GRP 7 true).wr R.CH_MODE_MODE cmDi 127).wr R.CH_MODE_EVT 1 127).now 9
    s.wakeOccurs 256 0 0 127 9 9 && [1, 2, 3, 4, 5, 6, 7, 8].all fun c => !s.wakeOccurs 256 0 0 127 9 c] = true := by decide +kernel

theorem wit_AgeingIsWatched : hyps [w0.live, w0.pwState ≠ psSleep, (w0.now 9).slackLo ≤ 0, 0 < ((w0.onLanes (setWords [(0x0339301C, 1)])).now 9).slackLo, ({} : StepBus).vout < 2, (w0.vcore 2).low < 9,
    ({ low := 9 } : Vcore).low ≥ 9 ∧ ({ low := 9 } : Vcore).stepAt = none, w0.rd R.PW_VCORE_STEPS 2 < 20, 20 ≤ (w0.wr R.PW_VCORE_STEPS 20 2).rd R.PW_VCORE_STEPS 2,
    (w0.vcore 2).wanted = false, ({ wanted := true } : Vcore).wanted, w0.rd R.CH_GRP_STAT_POWERED 7 = 0,
    (w0.wr R.CH_GRP_STAT_POWERED 1 7).rd R.CH_GRP_STAT_POWERED 7 ≠ 0, (w0.wr R.UP_STATE_LOCK 1).rd R.UP_STATE_LOCK = 1,
    (w0.wr R.PW_STATE_HOLD_READY 1).rd R.PW_STATE_HOLD_READY = 1, w0.rd R.PW_STATE_HOLD_READY = 0, 0 < (w0.wr R.PW_POWER 1).rd R.PW_POWER] = true := by
  decide +kernel

/-- A module that boots, its lanes tested, no image in its slots. -/
def wBoot : State :=
  let s := (w0.wr R.VT_STATE_STATE 0).wr R.UP_STATE_STATE 0
  { s.setVt { s.vt with test := [(0, 1), (1, 1), (2, 1)] } with up := { w0.up with sys := some 0, ready := false, ackWait := false } }

def wAck (p : Nat) (k : KeyState) : State := { (w0.wr R.SYS_KEY_STAT_PRESSED p).wr R.SYS_KEY_STAT_STUCK 0 with key := k }

/-- A container header of the spec's layout, signed with the key whose hash `wKeys` holds: PROGRAM; TABLES; a delta TABLES container with
a body of 4 bytes. -/
def wHdrProgram : List Byte := beBytes 0x55424e5801000000010000000000c0000000c0000000000000000000000000000000000000000000000000000000000000000000000000000000000000000000000000000000000000000000000000000000000000000000000000000000000000000000000000000000000000000000000000000000000000000000000000000000000000000000000000000000000000000000088bb9ff22ab291a74c86fc677ba897baadee370cc6129b82d170ba3fc26415c442da9a716067956d91eaa02b93ad409490e87cd5e758ea6a331a1deb75ba84652cd59a8672f02b116a84d8399762627ac61bf906e6517bc55590695e6e813b1ec529a455f1dc190e58b454ccf0107d9b14fd5e2d6b99f52fcf134473aeae843000000000000000000000000 288

def wHdrTables : List Byte := beBytes 0x55424e5801010000010000000000e0000000e0000000000000000000000000000000000000000000000000000000000000000000000000000000000000000000000000000000000000000000000000000000000000000000000000000000000000000000000000000000000000000000000000000000000000000000000000000000000000000000000000000000000000000000088bb9ff22ab291a74c86fc677ba897baadee370cc6129b82d170ba3fc26415c442da9a716067956d91eaa02b93ad409490e87cd5e758ea6a331a1deb75ba84652cd59a8672f02b116a84d8399762627ac61bf906e6517bc55590695e6e813b11113730bfab78741815f0178916d9643337dd04ab073758edf544047fffb216c000000000000000000000000 288

def wHdrDelta : List Byte := beBytes 0x55424e580101010001000000040000000000e00000000000000000000000000000000000000000000000000000000000000000000101010101010101010101010101010101010101010101010101010101010101df3f619804a92fdb4057192dc43dd748ea778adc52bc498ce80524c014b811190000000000000000000000000000000000000000000000000000000000000000088bb9ff22ab291a74c86fc677ba897baadee370cc6129b82d170ba3fc26415c442da9a716067956d91eaa02b93ad409490e87cd5e758ea6a331a1deb75ba84652cd59a8672f02b116a84d8399762627ac61bf906e6517bc55590695e6e813b1da4f77029f778744fd18a476c6178bdd778c2819aea48fc5936606bb3ed501c3000000000000000000000000 288

/-- `s` with customer key 3. -/
def wKeys (s : State) : State :=
  { s.setBit R.UP_KEY_STAT_PRESENT 3 true with up := { s.up with keys := [(3, sha256 (hPubkey wHdrProgram))] } }

/-- Both kinds have a CANDIDATE in slot 1. -/
def wImages : State :=
  let s := wKeys ((wBoot.wr R.UP_SLOT_STATE slCandidate ikProgram 1).wr R.UP_SLOT_STATE slCandidate ikTables 1)
  (s.setUpSlot ikProgram 1 { header := wHdrProgram }).setUpSlot ikTables 1 { header := wHdrTables }

theorem wit_BootAndPanel_images : ((wImages.now 9).selectImages.up.sel = some (1, 1)) = true := by decide +kernel

theorem wit_BootAndPanel : hyps [w0.live, (w0.wr R.UP_STATE_STATE 1).rd R.UP_STATE_STATE ≠ usBooting, wBoot.rd R.UP_STATE_STATE = usBooting,
    wBoot.vstate = vsSelftest, wBoot.up.sys.isSome, wBoot.up.ready = false, wBoot.up.ackWait = false, [0, 1, 2].all fun x => wBoot.testOf x = 1,
    wImages.live, wImages.rd R.UP_STATE_STATE = usBooting, wImages.vstate = vsSelftest, wImages.up.sys.isSome, wImages.up.ready = false,
    wImages.up.ackWait = false, [0, 1, 2].all fun x => wImages.testOf x = 1, { w0.up with attempts := 1 }.attempts = 1,
    (wBoot.now 9).selectImages.up.sel = none,
    let s := { wAck 1 { sincePower := true } with up := { w0.up with ackWait := true, por := true } }
    s.up.ackWait && s.ackHeld && s.pw.upAt == 0,
    5000000000 ≤ w0.pw.upAt + 5000000000, 4999999999 < w0.pw.upAt + 5000000000,
    (wAck 1 {}).rd R.SYS_KEY_STAT_PRESSED = 1, (wAck 0 {}).rd R.SYS_KEY_STAT_PRESSED = 0, ((wAck 1 {}).wr R.SYS_KEY_STAT_STUCK 1).rd R.SYS_KEY_STAT_STUCK = 1,
    (((wAck 1 {}).setKey { w0.key with pressedAt := none, sincePower := false }).wr R.SYS_KEY_STAT_PRESSED 0).rd R.SYS_KEY_STAT_STUCK = 0,
    (wAck 1 { pressedAt := some 5 }).key.pressedAt = some 5, 5 + 100000000 ≤ 100000005, 100000004 < 5 + 100000000, 5 + 60000000000 ≤ 60000000005, (wAck 1 {}).up.ackWait = false, w0.key.lamp, w0.key.lampAt + 600000000 ≤ 600000000,
    (wAck 0 { lamp := false }).key.lamp = false] = true := by decide +kernel

/-- The store in state `st`, `len` bytes of it there, holding `bytes`. -/
def wStored (st len : Nat) (x : UpStore) : State :=
  { ((w0.wr R.UP_STATE_STORE st).wr R.UP_STORE_LEN len).wr R.UP_STATE_LOCK 0 with up := { w0.up with store := x } }

theorem wit_ContainersArriveAndPassOn : hyps [w0.live,
    let s := (wStored 1 8 { source := 1 }).wr R.UP_HX_OFS 4
    decide (s.rd R.UP_STATE_LOCK = 0 ∧ s.store = ssReceiving ∧ s.up.store.source = 1 ∧ s.rd R.UP_HX_OFS + 4 * 1 ≤ s.prefixLen ∧
      max s.prefixLen (s.rd R.UP_HX_OFS + 4 * 1 + 4) < 16 ∧ s.prefixLen < s.rd R.UP_HX_OFS + 4 * 2),
    let s := (wStored 1 284 { source := 1 }).wr R.UP_HX_OFS 284
    decide (s.store = ssReceiving ∧ s.up.store.source = 1 ∧ 284 ≤ s.prefixLen ∧
      284 + 4 ≤ 288 + hBodyLen (cellBytes (s.storeWith 284 [1, 2, 3, 4]) 0 288) ∧
      288 + hBodyLen (cellBytes (s.storeWith 284 [1, 2, 3, 4, 5, 6, 7, 8]) 0 288) < 284 + 8),
    (wStored 3 0 {}).store = ssApplying, (wStored 0 0 {}).store = ssEmpty, (wStored 3 0 {}).rd R.UP_STATE_LOCK = 0,
    (wStored 0 0 {}).rd R.UP_STATE_LOCK = 0, ((wStored 0 0 {}).wr R.UP_HX_OFS 0).rd R.UP_HX_OFS + 4 * 0 = 0, (wStored 0 0 {}).appPaused = false,
    ((wStored 0 0 {}).wr R.UP_STATE_STATE 2).relayRuns = false, ((wStored 0 0 {}).wr R.UP_STATE_STATE 1).relayRuns,
    (7 : Nat) ≠ w0.rd R.UP_ADDR_ADDR 0,
    let s := ((wStored 0 0 {}).wr R.UP_STATE_STATE 1).wr R.UP_ADDR_ADDR 7 0
    decide (s.rd R.UP_ADDR_ADDR 0 ≠ 0 ∧ (7#32).toNat = s.rd R.UP_ADDR_ADDR 0 ∧ 0 + 4080 ≤ 4080 ∧ s.rd R.UP_STATE_LOCK = 0 ∧ s.relayRuns ∧
      s.store = ssEmpty),
    let s := (((wStored 0 0 {}).wr R.UP_STATE_STATE 1).wr R.UP_ADDR_ADDR 7 0).wr R.UP_STATE_LOCK 1
    decide (s.rd R.UP_STATE_LOCK = 1 ∧ s.relayRuns), w0.rd R.UP_RELAY_STAT_STATE 3 ≠ rsSending,
    let c : UpChunk := { ofs := 4080, len := 16, at_ := 5 }
    let s0 := ((wStored 2 16 { source := 1 }).wr R.UP_STATE_STATE 1).wr R.UP_RELAY_STAT_STATE 1 3
    let s := s0.setRelay 3 { wait := [c], next := 288 }
    decide (s.rd R.UP_RELAY_STAT_STATE 3 = rsSending ∧ s.relayRuns ∧ (0#32).toNat = s.rd R.UP_STORE_CID ∧ (1#32).toNat ≠ s.rd R.UP_STORE_CID ∧
      (s.relay 3).wait = [c] ∧ (s.relay 3).kib < 1 ∧ s.storeTotal = some (s.relay 3).next ∧
      (s.relay 3).grownAt + 600000000000 ≤ 600000000000 ∧ 599999999999 < (s.relay 3).grownAt + 600000000000),
    ((wStored 2 16 {}).wr R.UP_STATE_STATE 2).relayRuns = false ∧ ((wStored 2 16 {}).wr R.UP_RELAY_STAT_STATE 1 3).rd R.UP_RELAY_STAT_STATE 3 =
      rsSending] = true := by decide +kernel

/-- A received delta container that is whole and right, of a module that holds its key. -/
def wWhole : State := wKeys (wStored 2 292 { bytes := wHdrDelta.zipIdx.filterMap fun p => if p.1 = 0 then none else some (p.2, p.1) })

theorem wit_ContainersAreApplied_whole : decide (wWhole.live ∧ wWhole.store = ssReceived ∧ wWhole.up.store.passed = false ∧
    (let h := wWhole.storeHeader
     (wWhole.trusts h && ecdsaOk (hPubkey h) (h.take 212) (hSig h) && sha256 wWhole.storeBody == hBodyHash h) = true)) = true := by
  decide +kernel

theorem wit_ContainersAreApplied : hyps [w0.live, (wStored 0 0 {}).store ≠ ssReceived,
    let s := wStored 2 288 {}
    decide (s.store = ssReceived ∧ s.up.store.passed = false) &&
      (s.trusts s.storeHeader && ecdsaOk (hPubkey s.storeHeader) (s.storeHeader.take 212) (hSig s.storeHeader)) == false,
    let s := (wStored 2 288 { passed := true }).wr R.UP_STATE_STATE 1
    decide (s.store = ssReceived ∧ s.up.store.passed ∧ s.rd R.UP_STATE_LOCK = 0 ∧ s.appPaused = false ∧ s.rd R.UP_STATE_STATE ≠ usRecovery ∧
      hDelta s.storeHeader = false),
    let s := wStored 2 288 { passed := true, bytes := [(6, 1)] }
    decide (hDelta s.storeHeader ∧ s.bootedSlot (hKind s.storeHeader) = none ∧ hBaseHash s.storeHeader ≠ []), (wStored 2 0 {}).store ≠ ssApplying,
    let s := wStored 3 288 { target := some (2, 1), bytes := [(5, 2), (14, 0x80)] }
    decide (s.store = ssApplying ∧ s.rd R.UP_STATE_LOCK = 0 ∧ s.appPaused = false ∧ s.up.store.target = some (2, 1)) && (s.applied 2).isSome,
    ((wStored 3 288 { target := some (2, 1) }).applied 2).isNone, (wStored 2 0 {}).up.store.target = none,
    w0.mode ≠ mdMaint,
    let s := w0.wr R.SYS_MODE_STAT_MODE 2
    decide ((s.setBit R.UP_KEY_STAT_PRESENT 3 true).keyPresent 3 ∧ (s.setBit R.UP_KEY_STAT_PRESENT 3 true).mode = mdMaint ∧ s.keyPresent 3 = false)] = true := by decide +kernel

/-! Worked examples of the spec -/

/-- What a step leaves, or reset where it stops. -/
def left : Host.Outcome State Fault Refusal → State
  | .next t => t
  | _ => State.reset

def eng0 (s : State) : Eng := (s.lane 0).engine 0

/-- What `c` leaves on engine 0 with registers `r`, in a lane as `f` says, its code words standing at PC. -/
def ran (r : Regs) (c : Instr) (f : Lane → Lane := id) : State := left (exec c (calmed (wAt (wLane r f) c)))

/-- Spec/03, the branch stack: push 15 spills eight entries and costs 10 extra cycles. -/
theorem test_spill : let g := eng0 (ran { hw := List.replicate 14 0 } (.bor 0 0))
    hyps [g.r.hw.length = 7, g.r.m = 8, g.r.depth = 15, g.act.cycles = 11] = true := by decide +kernel

/-- Spec/03, the branch stack: pop 7 leaves H = 1 and fills eight entries. -/
theorem test_fill : let g := eng0 (ran { hw := [0, 0], m := 8 } (.bend 0 0))
    hyps [g.r.hw.length = 9, g.r.m = 0, g.r.depth = 9, g.act.cycles = 11] = true := by decide +kernel

/-- Spec/04: CALL lamp_test at code index 0x001200 with DEPTH 1 records return 0x001201 and depth 1. -/
theorem test_call : let s := ran { hw := [0], pc := 0x1200 } (.call 0 0 0x3000)
    hyps [(eng0 s).r.pc = 0x3000, (eng0 s).r.frames = 1, (s.lane 0).word (frameAddr 1 0) = 0x1201, (s.lane 0).word (frameAddr 1 0 + 4) = 1]
      = true := by decide +kernel

/-- Spec/04: RST M X3+99 with X3 = 8 clears M 107 and no other marker. -/
theorem test_rst : let s := ran { ba := true, x := [(3, 8)] } (.rstBit 0 { sp := 2, x := true, low := 0xC0063 }) (setWords [(0x0288000C, 0xFF0)])
    (s.lane 0).word 0x0288000C = 0x7F0 := by decide +kernel

/-- Spec/05, scaling: MUL K 100 takes 2 cycles; −5 in units of 0.1 mA is −500 µA. -/
theorem test_scale : let g := eng0 (ran { acc1 := 0xFFFFFFFB } (.mul 0 { sp := 9, low := 100 }))
    hyps [g.r.acc1 = 0xFFFFFE0C, g.r.acc2 = 0xFFFFFFFF, g.r.v = false, g.act.cycles = 2] = true := by decide +kernel

/-- Spec/05: BMOV D X6 Q X7 N 4 (0xA803_1DC0) copies D 4096 to 4099 into Q words 10 to 13 in 7 cycles. -/
theorem test_bmov : let s := ran { x := [(6, 4096), (7, 10)] } (.bmov 0 0x0031DC0 4) (setWords [(0x02004000, 1), (0x0200400C, 4)])
    hyps [(s.lane 0).word 0x02840028 = 1, (s.lane 0).word 0x02840034 = 4, (eng0 s).act.cycles = 7] = true := by decide +kernel

/-- Spec/03: a division by a D word of 0 faults with DIV_ZERO: code 5, flag bit 5, the count, the engine idle. -/
theorem test_div_zero : let s := ran { pc := 7 } (.div 0 { sp := 3 })
    let l := s.lane 0
    hyps [l.rd R.LE_FAULT_REC_CODE 1 = 5, l.rd R.LE_FAULT_REC_PC 1 = 7, (l.rf.word R.LE_FAULT_FLAGS_CODE_SEEN.base).getLsbD 5,
      l.rd R.LE_FAULT_CNT_COUNT = 1, (l.engine 0).st = .idle] = true := by decide +kernel

/-- Spec/04, the examples' words: bit reads and writes, the one with an extension word, an indexed one, RISE, and Format J. -/
theorem test_decode_bits : hyps [decodeCode 0 0x04000014 0 = some (.ldb 0 { sp := 0, low := 20 }), decodeCode 0 0x0CA40010 0 = some (.andBit 0 { sp := 2, x := true, low := 0x40010 }),
    decodeCode 0 0x11000000 0x00100001 = some (.andnBit 0 { sp := 4, ext := 1048577 }), decodeCode 0 0x24400025 0 = some (.st 0 { sp := 1, low := 37 }),
    decodeCode 0 0x34400000 0 = some (.rise 0 { sp := 1 }), decodeCode 0 0x4430000A 0 = some (.ldc 0 10), decodeCode 0 0x3C000000 0 = some (.band 0 0),
    decodeCode 0 0x4AC00400 0 = some (.jmp 0 11 0x400), decodeCode 0 0x58200000 0 = some (.endNba 0 0)] = true := by decide +kernel

/-- Spec/05, the examples' words: words, K and KL operands, division, registers, shifts, conversions, BMOV. -/
theorem test_decode_words : hyps [decodeCode 0 0x625FFFF9 0 = some (.ld 0 { sp := 9, low := 0x1FFFF9 }),
    decodeCode 0 0x62800000 0x00010000 = some (.ld 0 { sp := 10, ext := 0x10000 }), decodeCode 0 0x64E40004 0 = some (.stw 0 { sp := 3, x := true, low := 0x40004 }),
    decodeCode 0 0x68C000C8 0 = some (.ldd 0 { sp := 3, low := 200 }), decodeCode 0 0x82400E10 0 = some (.div 0 { sp := 9, low := 3600 }),
    decodeCode 0 0x9C410FFF 0 = some (.addi 0 0x10FFF), decodeCode 0 0xA0280000 0 = some (.sar 0 0x80000), decodeCode 0 0xA4600000 0 = some (.sx48 0 0),
    decodeCode 0 0xA8031DC0 4 = some (.bmov 0 0x31DC0 4)] = true := by decide +kernel

/-- Spec/05, the examples' words of the services, and words no chapter assigns: all zeros and all ones. -/
theorem test_decode_services : hyps [decodeCode 0 0xD40A0078 0 = some (.txpd 0 0xA0078), decodeCode 0 0xD4610007 0 = some (.tstat 0 0x10007),
    decodeCode 0 0xD81CC00B 0 = some (.ctxt 0 0xCC00B), decodeCode 0 0xD83D0000 0 = some (.crxf 0 0xD0000), decodeCode 0 0 0 = none,
    decodeCode 0 0xFFFFFFFF 0 = none] = true := by decide +kernel

theorem wit_CodeWordsDecodeToTheirInstruction : hyps [(Instr.ldb 0 oS).wellFormed, (Instr.bmov 0 0 4).wellFormed,
    (engineCode (.ldb 0 oS)).length = 2, decodeCode 3 0x3FFFFFFF 7 = none, decodeCode 3 0x5C000000 7 = some (.nop 3 0)] = true := by decide +kernel

end Sys2Proof.Tests
end

section
/-! Proof attempts on the host ports (spec/02_host_access.md, R46 and R47): what an AUTH leaves when Q31 is held, when its proof
verifies and when it does not, and what the end of the verification leaves. -/

namespace Sys2Proof.Machine

/-! ### Register fields that do not hold 0

The laws of Laws/Registers.lean ask for a canonical store. A value that is not 0 reads back from any store, and R46 and R47 write
no other. -/

/-- Read after write of a value that is not 0; it needs no canonical form. -/
theorem Cells.get_set_of_ne_zero {w : Nat} (m : Cells w) (a : Nat) (v : BitVec w) (hv : v ≠ 0) :
    Cells.get (Cells.set m a v) a = v := by
  induction m with
  | nil => rw [Cells.set, if_neg hv, Cells.get_cons, if_pos rfl]
  | cons c t ih =>
    obtain ⟨k, x⟩ := c
    simp only [Cells.set, if_neg hv]
    split
    · rw [Cells.get_cons, if_pos rfl]
    · split
      · rw [Cells.get_cons, if_pos rfl]
      · next _ hne => rw [Cells.get_cons, if_neg (Ne.symm hne), ih]

@[simp] theorem Fld.ext_zero (f : Fld) : f.ext 0 = 0 := by simp [Fld.ext]

theorem Fld.ne_zero_of_ext_ne_zero (f : Fld) (w : Word) (h : f.ext w ≠ 0) : w ≠ 0 := by
  rintro rfl
  exact h f.ext_zero

/-- A field reads back what is written to it if that is not 0, in any store. -/
theorem State.rd_wr_of_ne_zero (s : State) (f : Fld) (v i j : Nat) (hf : f.lo + f.width ≤ 32) (hv : v % 2 ^ f.width ≠ 0) :
    (s.wr f v i j).rd f i j = v % 2 ^ f.width := by
  have hx : f.ext (f.ins (Cells.get s.rf.eff (f.addr i j)) v) = v % 2 ^ f.width := Fld.ext_ins f _ v hf
  show f.ext (Cells.get (Cells.set s.rf.eff (f.addr i j) _) (f.addr i j)) = _
  rw [Cells.get_set_of_ne_zero _ _ _ (f.ne_zero_of_ext_ne_zero _ (hx ▸ hv)), hx]

/-- A field that does not hold 0 reads the same after a write to another field of its register, in any store. -/
theorem State.rd_wr_disjoint_of_ne_zero (s : State) (f g : Fld) (v i j : Nat) (ha : f.addr i j = g.addr i j)
    (hf : f.lo + f.width ≤ 32) (hg : g.lo + g.width ≤ 32) (h : f.lo + f.width ≤ g.lo ∨ g.lo + g.width ≤ f.lo)
    (hr : s.rd f i j ≠ 0) : (s.wr g v i j).rd f i j = s.rd f i j := by
  have hx : f.ext (g.ins (Cells.get s.rf.eff (g.addr i j)) v) = s.rd f i j := by
    rw [Fld.ext_ins_disjoint f g _ v hf hg h, ← ha]
    rfl
  show f.ext (Cells.get (Cells.set s.rf.eff (g.addr i j) _) (f.addr i j)) = _
  rw [ha, Cells.get_set_of_ne_zero _ _ _ (f.ne_zero_of_ext_ne_zero _ (hx ▸ hr)), hx]

/-- A counter that is counted up by one holds at its all-ones value (R56), in any store. -/
theorem State.rd_bump_self (s : State) (f : Fld) (i j : Nat) (hf : f.lo + f.width ≤ 32) :
    (s.bump f i j).rd f i j = min (2 ^ f.width - 1) (s.rd f i j + 1) := by
  have hp : 2 ≤ 2 ^ f.width := Nat.le_self_pow (by simp [Fld.width]) 2
  have hlt : satNat f.width (s.rd f i j + 1) < 2 ^ f.width := by
    unfold satNat
    omega
  have hne : satNat f.width (s.rd f i j + 1) ≠ 0 := by
    unfold satNat
    omega
  have hw : (s.bump f i j).rd f i j = satNat f.width (s.rd f i j + 1) % 2 ^ f.width :=
    State.rd_wr_of_ne_zero s f _ i j hf ((Nat.mod_eq_of_lt hlt).symm ▸ hne)
  rw [hw, Nat.mod_eq_of_lt hlt, satNat, Nat.min_comm]

/-- A field reads the same after a counter at another address is counted up. -/
theorem State.rd_bump_ne (s : State) (f g : Fld) (i j i' j' n : Nat) (h : f.addr i' j' ≠ g.addr i j) :
    (s.bump g i j n).rd f i' j' = s.rd f i' j' := Cells.rd_wr_ne _ f g _ i j i' j' h

/-- A field reads the same after a whole register at another address is set. -/
theorem State.rd_wrWord_ne (s : State) (f : Fld) (a i j : Nat) (w : Word) (h : f.addr i j ≠ a) :
    (s.wrWord a w).rd f i j = s.rd f i j := congrArg f.ext (Cells.get_set_ne _ _ _ _ h)

@[simp] theorem State.rd_now (s : State) (t : Nat) (f : Fld) (i j : Nat) : (s.now t).rd f i j = s.rd f i j :=
  congrArg (fun r => r.rd f i j) (State.now_rf s t)
@[simp] theorem State.rd_onLanes (s : State) (g : Lane → Lane) (f : Fld) (i j : Nat) : (s.onLanes g).rd f i j = s.rd f i j :=
  congrArg (fun r => r.rd f i j) (State.onLanes_rf s g)

/-! ### A record leaves the host ports as they are -/

/-- A state that differs from another in nothing the host ports hold: their sessions and replies, and every register below the
recorder's. -/
def State.HostSame (s u : State) : Prop :=
  u.hp = s.hp ∧ ∀ (f : Fld) (i j : Nat), f.addr i j < blockBase .er → u.rd f i j = s.rd f i j

theorem State.HostSame.refl (s : State) : State.HostSame s s := ⟨rfl, fun _ _ _ _ => rfl⟩

theorem State.HostSame.trans {a b c : State} (h : State.HostSame a b) (g : State.HostSame b c) : State.HostSame a c :=
  ⟨g.1.trans h.1, fun f i j ha => (g.2 f i j ha).trans (h.2 f i j ha)⟩

/-- What the recorder itself keeps is none of the host ports' business. -/
theorem State.HostSame.er (s : State) (e : ErState) : State.HostSame s { s with er := e } := ⟨rfl, fun _ _ _ _ => rfl⟩

theorem State.HostSame.onLanes (s : State) (g : Lane → Lane) : State.HostSame s (s.onLanes g) :=
  ⟨State.onLanes_hp s g, fun f i j _ => State.rd_onLanes s g f i j⟩

theorem State.HostSame.wr (s : State) (g : Fld) (v : Nat) (hg : blockBase .er ≤ g.addr) : State.HostSame s (s.wr g v) :=
  ⟨rfl, fun f i j h => State.rd_wr_ne s f g v 0 0 i j (by omega)⟩

theorem State.HostSame.bump (s : State) (g : Fld) (hg : blockBase .er ≤ g.addr) : State.HostSame s (s.bump g) :=
  ⟨rfl, fun f i j h => State.rd_bump_ne s f g 0 0 i j 1 (by omega)⟩

theorem State.HostSame.ite {s a b : State} {c : Prop} [Decidable c] (ha : State.HostSame s a) (hb : State.HostSame s b) :
    State.HostSame s (if c then a else b) := by
  split
  · exact ha
  · exact hb

theorem State.HostSame.raise (s : State) (n t : Nat) : State.HostSame s (s.raise n t) := .ite (.refl s) (.onLanes s _)

theorem State.HostSame.setStaged (s : State) (rs : List LogRec) : State.HostSame s (s.setStaged rs) :=
  (State.HostSame.ite (.er s _) (.onLanes s _)).trans (.wr _ R.ER_STAGE_BYTES _ (by decide))

/-- A record that staging has no room for is counted, flagged and raised (R453). -/
theorem State.HostSame.drop (s : State) (e : ErState) (c g : Fld) (n t : Nat) (hc : blockBase .er ≤ c.addr)
    (hg : blockBase .er ≤ g.addr) :
    State.HostSame s (((({ s with er := e } : State).bump c).wr g 1).raise n t) :=
  (((State.HostSame.er s e).trans (.bump _ c hc)).trans (.wr _ g 1 hg)).trans (.raise _ n t)

/-- A record that enters staging or is dropped there (R452, R453, R455). -/
theorem State.HostSame.stage (s : State) (r : LogRec) : State.HostSame s (s.stage r) := by
  have afterDrops (rs : List LogRec) := (State.HostSame.er s { s.er with dropProg := 0, dropHw := 0 }).trans (.setStaged _ rs)
  exact .ite (.refl s) (.ite (.ite (afterDrops _) (.setStaged s _))
    (.ite (.drop s _ R.ER_DROP_CNT_PROG R.ER_FLAGS_DROP_PROG _ _ (by decide) (by decide))
      (.drop s _ R.ER_DROP_CNT_HW R.ER_FLAGS_DROP_HW _ _ (by decide) (by decide))))

theorem State.HostSame.record (s : State) (b : Block) (type : Nat) (d : List Byte) (t : Nat) :
    State.HostSame s (s.record b type d t) := .stage s _

/-! ### The end of a session (R49) -/

/-- The session goes and no other. -/
theorem State.closeSession_sessions (s : State) (p n : Nat) :
    (s.closeSession p n).hp.sessions = s.hp.sessions.filter fun x => !(x.port == p && x.number == n) := by
  unfold State.closeSession
  rw [foldl_keeps (fun s => s.hp.sessions) _ (fun s q => by split <;> rfl)]
  split <;> rfl

/-- A register that is no quoin's and does not count late replies reads the same. -/
theorem State.rd_closeSession (s : State) (p n : Nat) (f : Fld) (i j : Nat)
    (hq : ∀ q, f.addr i j ≠ R.HP_QUOIN_HELD.addr q) (hl : f.addr i j ≠ (R.BLK_LATE_REPLY_CNT_COUNT.at .hp).addr) :
    (s.closeSession p n).rd f i j = s.rd f i j := by
  unfold State.closeSession
  rw [foldl_keeps (fun s => s.rd f i j)]
  · split
    · exact State.rd_bump_ne _ _ _ _ _ _ _ _ hl
    · rfl
  · intro s q
    split
    · exact State.rd_wrWord_ne s f _ i j 0 (hq q)
    · rfl

/-! ### The verification (R46) -/

/-- Q31 is held. -/
theorem State.rd_verifyStart_held (s : State) (x : Session) (t : Nat) : (s.verifyStart x t).rd R.HP_QUOIN_HELD 31 = 1 := by
  have hheld (u : State) : (u.wr R.HP_QUOIN_HELD 1 31).rd R.HP_QUOIN_HELD 31 = 1 :=
    State.rd_wr_of_ne_zero u R.HP_QUOIN_HELD 1 31 0 (by decide) (by decide)
  have hport (u : State) (h : u.rd R.HP_QUOIN_HELD 31 = 1) : (u.wr R.HP_QUOIN_PORT x.port 31).rd R.HP_QUOIN_HELD 31 = 1 :=
    (State.rd_wr_disjoint_of_ne_zero u _ _ _ 31 0 (by decide) (by decide) (by decide) (by decide) (by omega)).trans h
  have hsess (u : State) (h : u.rd R.HP_QUOIN_HELD 31 = 1) : (u.wr R.HP_QUOIN_SESSION x.number 31).rd R.HP_QUOIN_HELD 31 = 1 :=
    (State.rd_wr_disjoint_of_ne_zero u _ _ _ 31 0 (by decide) (by decide) (by decide) (by decide) (by omega)).trans h
  exact hsess _ (hport _ (hheld _))

/-- A register other than Q31's reads the same. -/
theorem State.rd_verifyStart_ne (s : State) (x : Session) (t : Nat) (f : Fld) (i j : Nat) (h : f.addr i j ≠ R.HP_QUOIN_HELD.addr 31) :
    (s.verifyStart x t).rd f i j = s.rd f i j :=
  (State.rd_wr_ne _ f R.HP_QUOIN_SESSION _ 31 0 i j h).trans <|
    (State.rd_wr_ne _ f R.HP_QUOIN_PORT _ 31 0 i j h).trans (State.rd_wr_ne _ f R.HP_QUOIN_HELD _ 31 0 i j h)

theorem State.verifyEnd_before (s : State) (t e : Nat) (h : s.hp.verifyUntil = some e) (ht : t < e) : s.verifyEnd t = s := by
  simp [State.verifyEnd, h, Nat.not_le.mpr ht]

theorem State.verifyEnd_after (s : State) (t e : Nat) (h : s.hp.verifyUntil = some e) (ht : e ≤ t) :
    s.verifyEnd t = (s.setHp { s.hp with verifyUntil := none }).wrWord (R.HP_QUOIN_HELD.addr 31) 0 := by
  simp [State.verifyEnd, h, ht]

/-- PROOF_VERIFY_END of a module that takes commands. -/
theorem State.leaves_proofVerifyEnd (s : State) (t : Nat) (hl : s.live = true) :
    s.leaves (.proofVerifyEnd t) t ((s.now t).verifyEnd t) :=
  congrArg Host.Outcome.next (State.runHost_live s t _ hl)

/-! ### AUTH (R44, R46, R47) -/

@[simp] theorem State.verifying_now (s : State) (t u : Nat) : (s.now t).verifying u = s.verifying u := by
  simp only [State.verifying, State.now_hp]

@[simp] theorem State.proves_now (s : State) (t : Nat) (x : Session) (f : Frame) : (s.now t).proves x f = s.proves x f := by
  simp only [State.proves, State.cred, State.now_hp]

@[simp] theorem State.quoinOwner_now (s : State) (t q : Nat) : (s.now t).quoinOwner q = s.quoinOwner q := by
  simp only [State.quoinOwner, State.rd_now]

/-- An AUTH frame that the ports take and that neither ties nor wakes the module is served as one. -/
theorem State.hostCommand_auth (s : State) (f : Frame) (ht : frameTaken f = true) (hok : frameOk f = true) (htie : f.tie = false)
    (ha : s.pw.armed = false) (hc : f.command = 0x02) : s.hostCommand 0x02 f = s.hpAuth f := by
  have hcmd : frameCmd f = 0x02 := by
    rw [frameCmd, hc]
    rfl
  have hgo : s.hostGo f = s.hpAuth f := by
    simp [State.hostGo, hok, State.wakesOn, ha, hcmd]
  rw [State.hostCommand, if_pos (.inl hcmd), State.hostFrame]
  simpa [ht, htie] using hgo

/-- AUTH of a module that takes commands. -/
theorem State.leaves_auth (s : State) (f : Frame) (hl : s.live = true) (ht : frameTaken f = true) (hok : frameOk f = true)
    (htie : f.tie = false) (ha : s.pw.armed = false) (hc : f.command = 0x02) : s.leaves (.auth f) f.t ((s.now f.t).hpAuth f) := by
  have harm : (s.now f.t).pw.armed = false := by rw [State.now_pw, ha]
  rw [← State.hostCommand_auth _ f ht hok htie harm hc]
  exact congrArg Host.Outcome.next (State.runHost_live s f.t _ hl)

/-- The handshakes an AUTH can prove: those of its port and slot (the model's choice, log entry 36). -/
def State.handshakes (s : State) (f : Frame) : List Session :=
  s.hp.sessions.filter fun x => x.port == framePort f && !x.isOpen && x.slot == f.arg.toNat

@[simp] theorem State.handshakes_now (s : State) (t : Nat) (f : Frame) : (s.now t).handshakes f = s.handshakes f := by
  simp only [State.handshakes, State.now_hp]

/-- The half of HP_AUTH_FAIL_CNT in which a port counts its failed proofs (R47). -/
def authFailCnt : Port → Fld
  | .a => R.HP_AUTH_FAIL_CNT_PORT_A
  | .b => R.HP_AUTH_FAIL_CNT_PORT_B

/-- The flag a failed proof sets for its port (R47). -/
def authFailFlag : Port → Fld
  | .a => R.HP_FLAGS_AUTH_FAIL_A
  | .b => R.HP_FLAGS_AUTH_FAIL_B

/-- What a proof that does not verify leaves before its record: the handshake has ended, Q31 is held, the port has counted and
flagged it (R46, R47). -/
def State.authFailed (s : State) (f : Frame) (x : Session) : State :=
  (((s.closeSession (framePort f) x.number).verifyStart x f.t).bump (authFailCnt f.port)).wr (authFailFlag f.port) 1

/-- Count and flag are those of the frame's port. -/
theorem State.authFail_marks (s : State) (f : Frame) :
    (if framePort f = 0 then (s.bump R.HP_AUTH_FAIL_CNT_PORT_A).wr R.HP_FLAGS_AUTH_FAIL_A 1
      else (s.bump R.HP_AUTH_FAIL_CNT_PORT_B).wr R.HP_FLAGS_AUTH_FAIL_B 1)
      = (s.bump (authFailCnt f.port)).wr (authFailFlag f.port) 1 := by
  unfold framePort
  cases f.port <;> rfl

theorem State.hpAuth_busy (s : State) (f : Frame) (h : s.verifying f.t = true) :
    s.hpAuth f = s.send (framePort f) (replyTo f 0 none { status := stBusy, arg := s.quoinOwner 31 }) := by
  simp [State.hpAuth, h]

/-- A proof that verifies: the handshake becomes a session `y`, the verification holds Q31, the answer is OK. -/
theorem State.hpAuth_proved (s : State) (f : Frame) (x : Session) (h : s.verifying f.t = false)
    (hx : (s.handshakes f).find? (fun y => s.proves y f) = some x) :
    ∃ y, s.hpAuth f = ((s.putSession y).verifyStart x f.t).send (framePort f) (replyTo f x.number none { status := stOk }) := by
  simp only [State.handshakes] at hx
  simp only [State.hpAuth, h, hx]
  exact ⟨_, rfl⟩

/-- A proof that verifies for no handshake of its port and slot: the latest of them ends. -/
theorem State.hpAuth_failed (s : State) (f : Frame) (x : Session) (h : s.verifying f.t = false)
    (hn : ∀ y ∈ s.handshakes f, s.proves y f = false) (hx : (s.handshakes f).getLast? = some x) :
    s.hpAuth f = ((s.authFailed f x).record .hp 0x0101 [byte (framePort f), byte f.arg.toNat] f.t).send (framePort f)
      (replyTo f x.number none { status := stAuthFail }) := by
  have hnone : (s.handshakes f).find? (fun y => s.proves y f) = none := by simpa using hn
  simp only [State.handshakes] at hnone hx
  simp only [State.hpAuth, h, hnone, hx, State.authFail_marks]
  rfl

theorem State.authFailed_sessions (s : State) (f : Frame) (x : Session) :
    (s.authFailed f x).hp.sessions = s.hp.sessions.filter fun y => !(y.port == framePort f && y.number == x.number) :=
  State.closeSession_sessions s _ _

theorem State.authFailed_verifyUntil (s : State) (f : Frame) (x : Session) :
    (s.authFailed f x).hp.verifyUntil = some (f.t + 20000) := rfl

theorem State.rd_authFailed_held (s : State) (f : Frame) (x : Session) : (s.authFailed f x).rd R.HP_QUOIN_HELD 31 = 1 := by
  rw [State.authFailed, State.rd_wr_ne, State.rd_bump_ne, State.rd_verifyStart_held] <;> cases f.port <;> decide

theorem State.rd_authFailed_flag (s : State) (f : Frame) (x : Session) : (s.authFailed f x).rd (authFailFlag f.port) = 1 := by
  unfold State.authFailed
  cases f.port <;> exact State.rd_wr_of_ne_zero _ _ 1 0 0 (by decide) (by decide)

/-- The two halves share one register. -/
theorem authFailCnt_addr (p : Port) : (authFailCnt p).addr = 0x10014 := by
  cases p <;> rfl

theorem State.rd_authFailed_cnt (s : State) (f : Frame) (x : Session) :
    (s.authFailed f x).rd (authFailCnt f.port) = min 65535 (s.rd (authFailCnt f.port) + 1) := by
  have hquoin (q : Nat) : (authFailCnt f.port).addr ≠ R.HP_QUOIN_HELD.addr q := by
    rw [authFailCnt_addr]
    simp only [Fld.addr, R.HP_QUOIN_HELD]
    omega
  have hlate : (authFailCnt f.port).addr ≠ (R.BLK_LATE_REPLY_CNT_COUNT.at .hp).addr := by
    rw [authFailCnt_addr]
    decide
  have hflag : (authFailCnt f.port).addr ≠ (authFailFlag f.port).addr := by cases f.port <;> decide
  have hlo : (authFailCnt f.port).lo + (authFailCnt f.port).width ≤ 32 := by cases f.port <;> decide
  have hwidth : 2 ^ (authFailCnt f.port).width - 1 = 65535 := by cases f.port <;> rfl
  rw [State.authFailed, State.rd_wr_ne _ _ _ _ _ _ _ _ hflag, State.rd_bump_self _ _ _ _ hlo, hwidth,
    State.rd_verifyStart_ne _ _ _ _ _ _ (hquoin 31), State.rd_closeSession _ _ _ _ _ _ hquoin hlate]

/-- What a state shows of a verification begun at `t` and its answer on port `p`: Q31 is held until 20 µs later, and the reply there
has status `st` and names session `n`. -/
def State.verifiesAndAnswers (u : State) (t p st n : Nat) : Prop :=
  (u.hp.verifyUntil = some (t + 20000) ∧ u.rd R.HP_QUOIN_HELD 31 = 1) ∧
    ∃ r, NMap.look u.hp.sent p = some r ∧ r.status = st ∧ r.session = n

/-- A reply to a frame keeps the verification that goes on, and is the answer. -/
theorem State.verifiesAndAnswers_send (u : State) (f : Frame) (t p n : Nat) (key : Option (List Byte)) (a : Answer)
    (hu : u.hp.verifyUntil = some (t + 20000)) (hq : u.rd R.HP_QUOIN_HELD 31 = 1) :
    (u.send p (replyTo f n key a)).verifiesAndAnswers t p a.status n :=
  ⟨⟨hu, hq⟩, _, NMap.look_put_self _ _ _, rfl, rfl⟩

/-- An AUTH whose proof verifies, of a module that takes commands. -/
theorem State.auth_proved (s : State) (f : Frame) (x : Session) (hleaves : s.leaves (.auth f) f.t ((s.now f.t).hpAuth f))
    (hv : s.verifying f.t = false) (hx : (s.handshakes f).find? (fun y => s.proves y f) = some x) :
    s.leavesSome (.auth f) f.t fun u => u.verifiesAndAnswers f.t (framePort f) stOk x.number := by
  obtain ⟨y, hy⟩ := State.hpAuth_proved (s.now f.t) f x (by rwa [State.verifying_now]) (by simpa using hx)
  exact ⟨_, hy ▸ hleaves, State.verifiesAndAnswers_send _ _ _ _ _ _ _ rfl (State.rd_verifyStart_held _ _ _)⟩

/-- An AUTH whose proof does not verify, of a module that takes commands: Q31 is held and the answer is AUTH_FAIL as well, one
handshake has ended, and its port has counted, flagged and recorded it. -/
theorem State.auth_failed (s : State) (f : Frame) (x : Session) (hleaves : s.leaves (.auth f) f.t ((s.now f.t).hpAuth f))
    (hv : s.verifying f.t = false) (hn : ∀ y ∈ s.handshakes f, s.proves y f = false) (hx : (s.handshakes f).getLast? = some x) :
    s.leavesSome (.auth f) f.t fun u => u.verifiesAndAnswers f.t (framePort f) stAuthFail x.number ∧
      u.hp.sessions = (s.hp.sessions.filter fun y => !(y.port == framePort f && y.number == x.number)) ∧
      u.rd (authFailCnt f.port) = min 65535 (s.rd (authFailCnt f.port) + 1) ∧ u.rd (authFailFlag f.port) = 1 ∧
      ∃ (s1 : State) (r : Reply),
        u = (s1.record .hp 0x0101 [byte (framePort f), byte f.arg.toNat] f.t).send (framePort f) r := by
  have hu := State.hpAuth_failed (s.now f.t) f x (by rwa [State.verifying_now]) (by simpa using hn) (by simpa using hx)
  obtain ⟨hhp, hrd⟩ := State.HostSame.record ((s.now f.t).authFailed f x) .hp 0x0101 [byte (framePort f), byte f.arg.toNat] f.t
  have hcnt : (authFailCnt f.port).addr < blockBase .er := by cases f.port <;> decide
  have hflag : (authFailFlag f.port).addr < blockBase .er := by cases f.port <;> decide
  refine ⟨_, hu ▸ hleaves, State.verifiesAndAnswers_send _ _ _ _ _ _ _ ?window ?held, ?sessions, ?count, ?flag, _, _, rfl⟩
  case window => rw [hhp, State.authFailed_verifyUntil]
  case held => rw [hrd _ _ _ (by decide), State.rd_authFailed_held]
  case sessions => exact (congrArg HostState.sessions hhp).trans (by rw [State.authFailed_sessions, State.now_hp])
  case count => exact (hrd _ 0 0 hcnt).trans (by rw [State.rd_authFailed_cnt, State.rd_now])
  case flag => exact (hrd _ 0 0 hflag).trans (State.rd_authFailed_flag _ _ _)

end Sys2Proof.Machine

open Sys2Proof Sys2Proof.Machine

/-- Settles O28: from the branches of AUTH (busy, proved, failed) and of the end of the verification. -/
theorem proofAttemptsAreSerialised : Obligations.ProofAttemptsAreSerialised := by
  intro s f t hl
  refine ⟨fun ht hok htie harm hc => ?auth, fun e he => ⟨fun hlt => ?running, fun hle => ?ended⟩⟩
  case auth =>
    have hleaves := s.leaves_auth f hl ht hok htie harm hc
    refine ⟨fun hv => ?busy, fun hv => ⟨fun x hx => s.auth_proved f x hleaves hv hx, fun x hn hx => ?failed⟩⟩
    case busy =>
      rw [State.hpAuth_busy _ f (by rwa [State.verifying_now]), State.quoinOwner_now] at hleaves
      exact hleaves
    case failed =>
      obtain ⟨u, hu, ⟨hholds, hanswers⟩, hsessions, hcnt, hflag, hrecord⟩ := s.auth_failed f x hleaves hv hn hx
      have hmarks (p : Port) (hp : f.port = p) :
          u.rd (authFailCnt p) = min 65535 (s.rd (authFailCnt p) + 1) ∧ u.rd (authFailFlag p) = 1 := hp ▸ ⟨hcnt, hflag⟩
      exact ⟨u, hu, hholds, hanswers, hsessions, hmarks .a, hmarks .b, hrecord⟩
  case running =>
    have hleaves := s.leaves_proofVerifyEnd t hl
    rwa [State.verifyEnd_before _ t e (by rwa [State.now_hp]) hlt] at hleaves
  case ended =>
    have hleaves := s.leaves_proofVerifyEnd t hl
    rwa [State.verifyEnd_after _ t e (by rwa [State.now_hp]) hle, State.now_hp] at hleaves

end

section
/-! Add, subtract, the bitwise words, the compares, the products and the quotients (spec/05_word_time_comm.md, R121 to R123): every
word-read instruction runs through one lemma, and each operation is put in the terms of its rule. -/

namespace Sys2Proof.Machine

/-! ### The word operand (R117, R120) -/

/-- The word operand: the short immediate sign-extended, the extension word, or the word element. -/
def wordOperand (o : MOp) (l : Lane) (g : Eng) : Word :=
  if o.sp.toNat = spK then o.low.signExtend 32
  else if o.sp.toNat = spKL then o.ext
  else memWord l.mem (wordAddr o.sp.toNat g.task (opIndex o g.r))

/-- In a lane without memory errors an immediate operand, and an element in range, is read and nothing is counted. -/
theorem readOperand_clean (l : Lane) (g : Eng) (o : MOp) (hc : l.clean = true)
    (hin : o.sp.toNat = spK ∨ o.sp.toNat = spKL ∨ opIndex o g.r < spaceWords o.sp.toNat) :
    readOperand l g.task g.r o = .ok (wordOperand o l g, l) := by
  by_cases hK : o.sp.toNat = spK
  · simp [readOperand, wordOperand, hK]
  · by_cases hKL : o.sp.toNat = spKL
    · simp [readOperand, wordOperand, hKL, spK, spKL]
    · have hlt : opIndex o g.r < spaceWords o.sp.toNat := (hin.resolve_left hK).resolve_left hKL
      simp [readOperand, wordOperand, hK, hKL, Nat.not_le.mpr hlt, Lane.readW_clean l _ hc, Lane.word]

/-- The body of a word-read instruction whose operand is read and whose operation answers. -/
theorem wordReadBody_ok (o : MOp) (f : Word → Regs → Except Flt Regs) (l : Lane) (g : Eng) (v : Word) (r : Regs)
    (hok : opCheck .wordRead o = .ok ()) (hv : readOperand l g.task g.r o = .ok (v, l)) (hf : f v g.r = .ok r) :
    wordReadBody o f l g = .ok (l, g.past r (opLen o)) := by
  simp only [wordReadBody, hok, hv, hf, bind, Except.bind]
  rfl

theorem Lane.clean_of_ready (l : Lane) (e len : Nat) (h : l.ready e len = true) : l.clean = true :=
  (Bool.and_eq_true_iff.mp h).2

/-- A word-read instruction in range whose operation answers `res` in every serving lane. -/
theorem State.wordRead_does (s : State) (c : Instr) (e : EngId) (o : MOp) (cyc : Nat) (f : Word → Regs → Except Flt Regs)
    (res : Word → Regs → Regs) (hexec : exec c s = .next (s.memOp c e o cyc (wordReadBody o f)))
    (hr : s.ready e (opLen o) = true) (hok : opCheck .wordRead o = .ok ())
    (hin : o.sp.toNat = spK ∨ o.sp.toNat = spKL ∨
      ∀ x ∈ s.servingLanes, opIndex o ((s.lane x).engine e).r < spaceWords o.sp.toNat)
    (hf : ∀ x ∈ s.servingLanes, ∀ r, let v := wordOperand o (s.lane x) ((s.lane x).engine e)
      f v r = .ok (res v r))
    (hm : ∀ v r, (res v r).m = r.m) :
    s.does e c (.next (s.did e (cyc + (opLen o - 1)) fun l g => (l, g.past (res (wordOperand o l g) g.r) (opLen o)))) := by
  intro hstands
  rw [hexec]
  refine congrArg Host.Outcome.next (State.instr_does s c e _ _ _ _ hr hstands fun x hx w => ⟨?_, hm _ _⟩)
  have hready : (s.lane x).ready e (opLen o) = true := List.all_eq_true.mp (Bool.and_eq_true_iff.mp hr).2 x hx
  exact wordReadBody_ok o f _ _ _ _ hok
    (readOperand_clean _ _ o (Lane.clean_of_ready _ _ _ hready) (hin.imp_right (Or.imp_right fun h => h x hx))) (hf x hx _)

/-- An operation that always answers. -/
theorem State.wordRead_does_total (s : State) (c : Instr) (e : EngId) (o : MOp) (cyc : Nat) (f : Word → Regs → Regs)
    (hexec : exec c s = .next (s.memOp c e o cyc (wordReadBody o fun v r => .ok (f v r))))
    (hr : s.ready e (opLen o) = true) (hok : opCheck .wordRead o = .ok ())
    (hin : o.sp.toNat = spK ∨ o.sp.toNat = spKL ∨
      ∀ x ∈ s.servingLanes, opIndex o ((s.lane x).engine e).r < spaceWords o.sp.toNat)
    (hm : ∀ v r, (f v r).m = r.m) :
    s.does e c (.next (s.did e (cyc + (opLen o - 1)) fun l g => (l, g.past (f (wordOperand o l g) g.r) (opLen o)))) :=
  s.wordRead_does c e o cyc _ f hexec hr hok hin (fun _ _ _ => rfl) hm

/-- A word instruction of one cycle takes one for each of its code words (R82). -/
theorem one_add_opLen_sub_one (o : MOp) : 1 + (opLen o - 1) = opLen o := by
  unfold opLen
  split <;> rfl

/-! ### The operations in the terms of their rules -/

theorem aluAdd_eq (v : Word) (r : Regs) : aluAdd v r = ({ r with acc1 := r.acc1 + v } : Regs).flags
    (decide (4294967296 ≤ r.acc1.toNat + v.toNat))
    (decide (r.acc1.toInt + v.toInt < -2147483648 ∨ 2147483648 ≤ r.acc1.toInt + v.toInt))
    (r.acc1 + v == 0) (r.acc1 + v).msb := by
  simp [aluAdd, Regs.flags32, addCarry, addOverflow]

theorem aluSub_eq (v : Word) (r : Regs) : aluSub v r = ({ r with acc1 := r.acc1 - v } : Regs).flags
    (decide (r.acc1.toNat < v.toNat))
    (decide (r.acc1.toInt - v.toInt < -2147483648 ∨ 2147483648 ≤ r.acc1.toInt - v.toInt))
    (r.acc1 - v == 0) (r.acc1 - v).msb := by
  simp [aluSub, Regs.flags32, subOverflow, BitVec.ult]

/-- Whether an integer is the value of an INT32. -/
def fitsInt32 (q : Int) : Bool := decide (-2147483648 ≤ q ∧ q < 2147483648)

theorem aluMul_eq (v : Word) (r : Regs) : aluMul v r =
    mulResult (BitVec.ofInt 64 (r.acc1.toInt * v.toInt)) (!fitsInt32 (r.acc1.toInt * v.toInt)) r := by
  have hbeyond (p : Int) : decide (p < -2 ^ 31 ∨ 2 ^ 31 ≤ p) = !fitsInt32 p := by
    rw [fitsInt32, ← decide_not, decide_eq_decide]
    omega
  rw [aluMul, hbeyond]

/-- What DIV leaves with the divisor `v` that is not 0. -/
def divSigned (v : Word) (r : Regs) : Regs :=
  let d := (r.acc2 ++ r.acc1).toInt
  let q := d.tdiv v.toInt
  divResult (if fitsInt32 q then BitVec.ofInt 32 q else if 0 < q then 0x7FFFFFFF#32 else 0x80000000#32)
    (if fitsInt32 q then BitVec.ofInt 32 (d.tmod v.toInt) else 0) (!fitsInt32 q) r

/-- What DIVU leaves with the divisor `v` that is not 0. -/
def divUnsigned (v : Word) (r : Regs) : Regs :=
  let d := (r.acc2 ++ r.acc1).toNat
  let q := d / v.toNat
  divResult (if q < 4294967296 then BitVec.ofNat 32 q else 0xFFFFFFFF#32)
    (if q < 4294967296 then BitVec.ofNat 32 (d % v.toNat) else 0) (decide (4294967296 ≤ q)) r

theorem aluDiv_of_ne_zero (v : Word) (r : Regs) (hv : v ≠ 0) : aluDiv v r = .ok (divSigned v r) := by
  rw [aluDiv, if_neg hv]
  by_cases hfit : -2147483648 ≤ (r.acc2 ++ r.acc1).toInt.tdiv v.toInt ∧ (r.acc2 ++ r.acc1).toInt.tdiv v.toInt < 2147483648
  · simp [divSigned, fitsInt32, hfit]
  · simp [divSigned, fitsInt32, hfit]

theorem aluDivu_of_ne_zero (v : Word) (r : Regs) (hv : v ≠ 0) : aluDivu v r = .ok (divUnsigned v r) := by
  rw [aluDivu, if_neg hv]
  by_cases hfit : (r.acc2 ++ r.acc1).toNat / v.toNat < 4294967296
  · simp [divUnsigned, hfit, Nat.not_le.mpr hfit]
  · simp [divUnsigned, hfit, Nat.not_lt.mp hfit]

end Sys2Proof.Machine

open Sys2Proof Sys2Proof.Machine

/-- Settles O16: each instruction is the word-read lemma with its operation, in the terms of R121. -/
theorem wordArithmetic : Obligations.WordArithmetic := by
  intro s e o hr hok hin val ans off
  have does (c : Instr) (f : Word → Regs → Regs) (hm : ∀ v r, (f v r).m = r.m)
      (hexec : exec c s = .next (s.memOp c e o 1 (wordReadBody o fun v r => .ok (f v r)))) :
      s.does e c (.next (s.did e (opLen o) fun l g => (l, g.past (f (wordOperand o l g) g.r) (opLen o)))) := by
    simpa only [one_add_opLen_sub_one] using s.wordRead_does_total c e o 1 f hexec hr hok hin hm
  refine ⟨?add, ?sub, ?aw, ?ow, ?xw, ?cmp, ?cmpu⟩
  case add =>
    have h := does (.add e o) aluAdd (fun _ _ => rfl) rfl
    simp only [aluAdd_eq] at h
    exact h
  case sub =>
    have h := does (.sub e o) aluSub (fun _ _ => rfl) rfl
    simp only [aluSub_eq] at h
    exact h
  case aw => exact does (.aw e o) (fun v r => aluLogic (r.acc1 &&& v) r) (fun _ _ => rfl) rfl
  case ow => exact does (.ow e o) (fun v r => aluLogic (r.acc1 ||| v) r) (fun _ _ => rfl) rfl
  case xw => exact does (.xw e o) (fun v r => aluLogic (r.acc1 ^^^ v) r) (fun _ _ => rfl) rfl
  case cmp => exact does (.cmp e o) aluCmp (fun _ _ => rfl) rfl
  case cmpu => exact does (.cmpu e o) aluCmpu (fun _ _ => rfl) rfl

/-- Settles O17: the word-read lemma with the products and, where no serving lane's divisor is 0, with the quotients. -/
theorem multiplyAndDivide : Obligations.MultiplyAndDivide := by
  intro s e o hr hok hin val ans sp up sd ud sfit sq uq
  refine ⟨?mul, ?mulu, fun hne => ⟨?div, ?divu⟩⟩
  case mul =>
    have h := s.wordRead_does_total (.mul e o) e o 2 aluMul rfl hr hok hin fun _ _ => rfl
    simp only [aluMul_eq] at h
    exact h
  case mulu => exact s.wordRead_does_total (.mulu e o) e o 2 aluMulu rfl hr hok hin fun _ _ => rfl
  case div =>
    exact s.wordRead_does (.div e o) e o 19 aluDiv divSigned rfl hr hok hin
      (fun x hx r => aluDiv_of_ne_zero _ r (hne x hx)) fun _ _ => rfl
  case divu =>
    exact s.wordRead_does (.divu e o) e o 19 aluDivu divUnsigned rfl hr hok hin
      (fun x hx r => aluDivu_of_ne_zero _ r (hne x hx)) fun _ _ => rfl

end

section
/-! What a command of the module runs as (spec/00_scope.md, log entries 2, 3 and 65): the one form each of the commands has, and the
statements that need no more of it. -/

namespace Sys2Proof.Machine

/-- Two choices whose conditions say the same and whose branches are the same. -/
theorem ite_eq_of_iff {α : Type} {p q : Prop} [Decidable p] [Decidable q] {a b c d : α} (h : p ↔ q) (ha : a = c) (hb : b = d) :
    (if p then a else b) = if q then c else d := by
  by_cases hp : p
  · rw [if_pos hp, if_pos (h.mp hp), ha]
  · rw [if_neg hp, if_neg fun hq => hp (h.mpr hq), hb]

/-- What command `c` can make of the state `s`: it runs through the host side or through another block, it is an operation of the
lanes in lockstep, the supply's return, a happening of the always-on section, or a memory error's arising or correction. -/
inductive State.Ran (c : Instr) (s : State) : State → Prop
  | host (t : Nat) (f : State → State) : State.Ran c s (s.runHost t f)
  | run (t : Nat) (f : State → State) : State.Ran c s (s.run t f)
  | engine (g : Lane → Lane) : State.Ran c s (s.engineDo g)
  | supply (slot : Fin 4) (key : Bool) (sysOk : BitVec 2) (t : Nat) (hc : c = .supplyPresent slot key sysOk t) :
      State.Ran c s (State.keepQueue s (((s.now t).supplyPresent slot key sysOk t).settle t))
  | wheel (k : Fin 2) (lead both : Bool) (t : Nat) (hc : c = .wheelEdge k lead both t) :
      State.Ran c s (s.runAlways t fun s => s.wheelEdge k lead both t)
  | aoLost (t : Nat) (hc : c = .aoSupplyLost t) : State.Ran c s (s.runAlways t State.aoLost)
  | memory (x : LaneId) (g : Lane → Lane) (hg : ∀ l, (g l).items = l.items) :
      State.Ran c s (if s.pw.off then s else s.setLane x (g (s.lane x)))

@[simp] theorem Lane.memError_items (l : Lane) (a : Nat) (uncorr : Bool) : (l.memError a uncorr).items = l.items := by
  unfold Lane.memError
  dsimp only
  split
  · rfl
  · split
    · rfl
    · split <;> rfl

@[simp] theorem Lane.scrubOne_items (l : Lane) (a : Nat) : (l.scrubOne a).items = l.items := by
  unfold Lane.scrubOne
  split <;> rfl

/-- Every command answers a next state, in one of these forms. -/
theorem exec_ran (c : Instr) (s : State) : ∃ u, exec c s = .next u ∧ s.Ran c u := by
  cases c
  case supplyPresent slot key sysOk t => exact ⟨_, rfl, .supply slot key sysOk t rfl⟩
  case wheelEdge k lead both t => exact ⟨_, rfl, .wheel k lead both t rfl⟩
  case aoSupplyLost t => exact ⟨_, rfl, .aoLost t rfl⟩
  case sramError x a uncorr => exact ⟨_, rfl, .memory x (fun l => l.memError a uncorr) fun l => l.memError_items a uncorr⟩
  case scrubCorrection x a => exact ⟨_, rfl, .memory x (fun l => l.scrubOne a) fun l => l.scrubOne_items a⟩
  case hpOpen | auth | proofVerifyEnd | close | keepalive | read | write | writeMasked | qlock | qrelease | qbreak | hostArpRequest |
      hostIcmpEcho | handshakeLapse | sessionTimeout | hostAddressChange | commitGo | commitDiscard | pendingSetApply | softReset |
      cntClear | registerWrite | inputSample | supplyLost | holdupEntry | retainedSaveEnd | holdupBankEnd | modeReqRunWarm |
      modeReqRunCold | modeReqMaint | modeReqStop | imageCopyCheck | ackHoldMaint | hostContainerWrite | relayChunkReceived |
      relayReplyReceived | relayChunkRetry | relayFailTimeout | receiptCheck | containerApply | applyComplete | upDiscard |
      upNextMaint | keyAdd | keyRevoke | ackKeyPress | ackKeyRelease | ackKeyStuck | lampTestEnd => exact ⟨_, rfl, .host _ _⟩
  case ldb | ldbn | andBit | andnBit | orBit | ornBit | xorBit | xornBit | st | stn | setBit | rstBit | rise | fall | band | bandn |
      bor | born | bxor | bxorn | bend | clrb | setb | notBa | ldc | ldsv | jmp | call | ret | rept | endAct | endBa | endNba | nop |
      unassignedOpFetch | txpd | rxpd | txsdt | rxsdt | txmd | rxmd | tstat | ctx | ctxt | crxb | crxf | brd | bwr | recEntry | pwr |
      prd | arm | disarm | ecls | ld | stw | ldd | stwd | add | sub | aw | ow | xw | cmp | cmpu | mul | mulu | div | divu | mov |
      swap | neg | inv | addi | abs | sext | shl | shr | sar | rol | ror | shl64 | shr64 | sar64 | sx8 | sx16 | zx8 | zx16 | sat16 |
      satu16 | sx48 | bsw32 | bsw16 | sat64 | bmov | ton | tof | tp | tonr | ctu | ctd | rstb | ldtc | sigv | stmpLt | stmpTt |
      stmpP | stmpD | stmpPh | stmpSpd | stmpCyc => exact ⟨_, rfl, .engine _⟩
  all_goals exact ⟨_, rfl, .run _ _⟩

theorem State.Ran.pending {c : Instr} {s u : State} (h : s.Ran c u) : u.pending = s.pending := by
  cases h
  case host t f => exact s.runHost_pending t f
  case run t f => exact s.run_pending t f
  case engine g => exact s.engineDo_pending g
  case supply => rfl
  case wheel | aoLost => exact s.runAlways_pending _ _
  case memory x g _ =>
    split
    · rfl
    · exact s.setLane_pending x _

/-- A module without power takes no command but the supply's return and the always-on section's (R198, R463). -/
theorem State.Ran.off {c : Instr} {s u : State} (h : s.Ran c u) (hoff : s.pw.off = true)
    (hsupply : ∀ slot key sysOk t, c ≠ .supplyPresent slot key sysOk t) (hwheel : ∀ k lead both t, c ≠ .wheelEdge k lead both t)
    (hlost : ∀ t, c ≠ .aoSupplyLost t) : u = s := by
  cases h
  case host t f => exact s.runHost_off t f hoff
  case run t f => exact s.run_off t f hoff
  case engine g => exact s.engineDo_off g (by simp [State.live, hoff])
  case supply slot key sysOk t hc => exact absurd hc (hsupply slot key sysOk t)
  case wheel k lead both t hc => exact absurd hc (hwheel k lead both t)
  case aoLost t hc => exact absurd hc (hlost t)
  case memory x g _ => exact if_pos hoff

end Sys2Proof.Machine

open Sys2Proof Sys2Proof.Machine

/-- Settles O1: the two branches of the step. -/
theorem stepTakesFrontCommand : Obligations.StepTakesFrontCommand := by
  refine ⟨fun c rest s h => ?_, fun s h => ?_⟩
  · rw [step, h]
  · rw [step, h]

/-- Settles O2: by the forms a command runs in. -/
theorem everyCommandAnswersAndKeepsQueue : Obligations.EveryCommandAnswersAndKeepsQueue := by
  intro c s
  obtain ⟨u, hu, hran⟩ := exec_ran c s
  exact ⟨u, hu, hran.pending⟩

/-- Settles O3: by the forms a command runs in. -/
theorem noPowerNoEffect : Obligations.NoPowerNoEffect := by
  intro c s hoff hsupply hwheel hlost
  obtain ⟨u, hu, hran⟩ := exec_ran c s
  rw [hu, hran.off hoff hsupply hwheel hlost]

end

section
/-! Where nothing is left to what follows every command (the model's order, log entry 3), and the state after a POR (R8, R251). -/

namespace Sys2Proof.Machine

theorem State.lift_calm (s : State) (h : ∀ x ∈ s.servingLanes, (s.lane x).stopReq = false ∧ (s.lane x).unpaired = false) :
    s.lift = s := by
  have hstop : ((s.servingLanes.map s.lane).any fun l => l.stopReq) = false := by simpa using fun x hx => (h x hx).1
  have hun : ((s.servingLanes.map s.lane).any fun l => l.unpaired) = false := by simpa using fun x hx => (h x hx).2
  simp [State.lift, hstop, hun]

theorem State.noteStart_calm (s : State) (t : Nat) (h : (s.startup && s.up.ready && s.up.startEnd.isNone) = false) :
    s.noteStart t = s := by
  simp [State.noteStart, h]

theorem State.replyDue_calm (s : State) (x : Session) (t : Nat) (h : ∀ v, x.serving = some v → t < v.until_) : s.replyDue x t = s := by
  unfold State.replyDue
  cases hv : x.serving with
  | none => rfl
  | some v => exact if_neg (Nat.not_le.mpr (h v hv))

theorem State.repliesDue_calm (s : State) (t : Nat) (h : ∀ x ∈ s.hp.sessions, ∀ v, x.serving = some v → t < v.until_) :
    s.repliesDue t = s := by
  unfold State.repliesDue
  generalize s.hp.sessions = xs at h ⊢
  induction xs with
  | nil => rfl
  | cons x xs ih =>
    rw [List.foldl_cons, s.replyDue_calm x t (h x (by simp))]
    exact ih fun y hy => h y (by simp [hy])

theorem State.rdFollow_calm (s : State) (t : Nat)
    (hEn : s.rdEn = true → ¬(s.role = rrHolder ∧ (s.stopped || s.isSafe) = true) ∧ ¬(s.role = rrClaiming ∧ (!s.mayClaim t) = true))
    (hDis : s.rdEn = false → s.mayClaim t = s.acting) (hrank : s.rd_.rank = s.ownRank) (hwords : s.rdWords = s.rd_.status) :
    s.rdFollow t = s := by
  have hrest : (if s.rd_.rank = s.ownRank then s else (s.setRd { s.rd_ with rank := s.ownRank }).rdRanks t).rdSample t = s := by
    rw [if_pos hrank, State.rdSample, if_pos hwords]
  unfold State.rdFollow
  cases hen : s.rdEn
  · cases hact : s.acting
    · simpa [hDis hen, hact, State.stopActing] using hrest
    · simpa [hDis hen, hact, State.startActing] using hrest
  · obtain ⟨hholder, hclaiming⟩ := hEn hen
    simp only [Bool.not_true, Bool.false_eq_true, ↓reduceIte, if_neg hholder, if_neg hclaiming]
    exact hrest

/-- A hold store within its bounds whose registers show it. -/
theorem State.holdCheck_calm (s : State) (t : Nat) (hfit : s.holdBytes ≤ 8388608) (hnow : s.rd R.VT_HOLD_NOW = s.holdBytes)
    (hpeak : s.holdBytes ≤ s.rd R.VT_HOLD_PEAK) : s.holdCheck t = s := by
  simp [State.holdCheck, Nat.not_lt.mpr hfit, hnow, Nat.not_lt.mpr hpeak]

theorem State.fbReady_calm (s : State) (t : Nat) (h : s.fb.waits = false) : s.fbReady t = s := by
  simp [State.fbReady, h]

theorem State.pwChanged_calm (s : State) (t : Nat)
    (h : s.pw.frozen = true ∨ s.pw.shown = (s.pwWords.getD 0 0, s.pwWords.getD 3 0)) : s.pwChanged t = s := by
  unfold State.pwChanged
  rcases h with h | h <;> simp [h]

theorem State.settle_calm (s : State) (t : Nat) (h : s.calm t = true) : s.settle t = s := by
  simp only [State.calm, Bool.and_eq_true, List.all_eq_true, Bool.not_eq_true', decide_eq_true_eq] at h
  obtain ⟨⟨⟨⟨⟨⟨⟨⟨⟨⟨hlanes, hstart⟩, hreplies⟩, hwaits⟩, hpw⟩, hrd⟩, hrank⟩, hwords⟩, hfit⟩, hnow⟩, hpeak⟩ := h
  have hreplies' : ∀ x ∈ s.hp.sessions, ∀ v, x.serving = some v → t < v.until_ := by
    intro x hx v hv
    simpa [hv] using hreplies x hx
  have hfollow : s.rdFollow t = s := by
    refine s.rdFollow_calm t (fun hen => ?_) (fun hen => ?_) hrank hwords
    · have hbusy : (¬s.role = rrHolder ∨ s.stopped = false ∧ s.isSafe = false) ∧ (¬s.role = rrClaiming ∨ s.mayClaim t = true) := by
        simpa [hen] using hrd
      refine ⟨fun h => ?_, fun h => ?_⟩
      · obtain ⟨hrun, hsafe⟩ := hbusy.1.resolve_left (not_not_intro h.1)
        rw [hrun, hsafe] at h
        exact Bool.false_ne_true h.2
      · rw [hbusy.2.resolve_left (not_not_intro h.1)] at h
        exact Bool.false_ne_true h.2
    · simpa [hen] using hrd
  rw [State.settle, s.lift_calm hlanes, s.noteStart_calm t hstart, s.repliesDue_calm t hreplies', hfollow,
    s.holdCheck_calm t hfit hnow hpeak, s.fbReady_calm t hwaits, s.pwChanged_calm t (by simpa using hpw)]

end Sys2Proof.Machine

open Sys2Proof Sys2Proof.Machine

/-- Settles O4: part by part of what follows a command. -/
theorem calmStateStays : Obligations.CalmStateStays := fun s t h => s.settle_calm t h

/-- Settles O6: the state after a POR is closed, and each value of it is read off. -/
theorem resetState : Obligations.ResetState := by
  unfold Obligations.ResetState
  decide +kernel

end

section
/-! What the shared operations leave as it was: a register at an address they do not write, the voter's records, and the items the
lanes present. -/

namespace Sys2Proof.Machine

/-! ### Lists and lanes -/

/-- What no step of a fold touches, the fold leaves. -/
theorem foldl_same {σ α β : Type} (p : σ → β) (f : σ → α → σ) (h : ∀ s a, p (f s a) = p s) (xs : List α) (s : σ) :
    p (xs.foldl f s) = p s := by
  induction xs generalizing s with
  | nil => rfl
  | cons x t ih => rw [List.foldl_cons, ih, h]

theorem State.lane_setLane (s : State) (x y : Nat) (l : Lane) :
    (s.setLane x l).lane y = if (x = y ∨ (2 ≤ x ∧ 2 ≤ y)) then l else s.lane y := by
  unfold State.setLane State.lane
  by_cases hx0 : x = 0
  · subst hx0
    by_cases hy0 : y = 0
    · simp [hy0]
    · simp [hy0, Ne.symm hy0]
  · by_cases hx1 : x = 1
    · subst hx1
      by_cases hy0 : y = 0
      · simp [hy0]
      · by_cases hy1 : y = 1
        · simp [hy1]
        · simp [hy0, hy1, Ne.symm hy1]
    · by_cases hy0 : y = 0
      · simp [hx0, hx1, hy0]
      · by_cases hy1 : y = 1
        · simp [hx0, hx1, hy1]
        · simp [hx0, hx1, hy0, hy1, show 2 ≤ x by omega, show 2 ≤ y by omega]

/-- A part of the lanes that no replaced lane differs in stays in every lane. -/
theorem State.lane_setLane_same {α : Type} (p : Lane → α) (s : State) (x y : Nat) (l : Lane) (h : p l = p (s.lane x)) :
    p ((s.setLane x l).lane y) = p (s.lane y) := by
  rw [State.lane_setLane]
  split
  · next hxy =>
    rw [h]
    rcases hxy with rfl | ⟨hx, hy⟩
    · rfl
    · simp [State.lane, show x ≠ 0 by omega, show x ≠ 1 by omega, show y ≠ 0 by omega, show y ≠ 1 by omega]
  · rfl

/-- A part of the lanes that is no memory, no error list and no watch list, and that an operation leaves in a lane, it leaves in
every lane of the module. -/
theorem State.onLanes_lane_same {α : Type} (p : Lane → α) (s : State) (g : Lane → Lane) (hg : ∀ l, p (g l) = p l)
    (hmem : ∀ l m e1 e2, p { l with mem := m, ecc1 := e1, ecc2 := e2 } = p l) (hwatch : ∀ l w, p { l with watch := w } = p l)
    (y : Nat) : p ((s.onLanes g).lane y) = p (s.lane y) := by
  unfold State.onLanes State.mirror
  rw [foldl_same (fun s : State => p (s.lane y)), foldl_same (fun s : State => p (s.lane y)), State.watchCopies,
    foldl_same (fun s : State => p (s.lane y))]
  · exact fun s c => State.lane_setLane_same p _ _ _ _ (hwatch _ _)
  · exact fun s x => State.lane_setLane_same p _ _ _ _ (hg _)
  · intro s c
    dsimp only
    rw [State.lane_setLane_same p _ _ _ _ (hwatch _ _), State.lane_setLane_same p _ _ _ _ (hmem _ _ _ _)]

/-! ### Registers by address -/

/-- The register at an address of the module-level blocks. -/
def State.regAt (s : State) (a : Nat) : Word := Cells.get s.rf.eff a

/-- A field is read from the register at its address. -/
theorem State.rd_regAt (s : State) (f : Fld) (i j : Nat) : s.rd f i j = f.ext (s.regAt (f.addr i j)) := rfl

theorem State.rd_of_regAt {s u : State} (f : Fld) (i j : Nat) (h : u.regAt (f.addr i j) = s.regAt (f.addr i j)) :
    u.rd f i j = s.rd f i j := by
  rw [State.rd_regAt, h, State.rd_regAt]

/-- No field of a family lies below its base. -/
theorem Fld.addr_ge (f : Fld) (i j : Nat) : f.base ≤ f.addr i j := by
  unfold Fld.addr
  omega

theorem State.regAt_wr (s : State) (f : Fld) (v i j a : Nat) (h : a ≠ f.addr i j) : (s.wr f v i j).regAt a = s.regAt a :=
  Cells.get_set_ne _ _ _ _ h

theorem State.regAt_bump (s : State) (f : Fld) (i j n a : Nat) (h : a ≠ f.addr i j) : (s.bump f i j n).regAt a = s.regAt a :=
  Cells.get_set_ne _ _ _ _ h

theorem State.regAt_wrWord (s : State) (b a : Nat) (w : Word) (h : a ≠ b) : (s.wrWord b w).regAt a = s.regAt a :=
  Cells.get_set_ne _ _ _ _ h

@[simp] theorem State.regAt_setLane (s : State) (x : Nat) (l : Lane) (a : Nat) : (s.setLane x l).regAt a = s.regAt a :=
  congrArg (fun r : RegFile => Cells.get r.eff a) (s.setLane_rf x l)

@[simp] theorem State.regAt_onLanes (s : State) (g : Lane → Lane) (a : Nat) : (s.onLanes g).regAt a = s.regAt a :=
  congrArg (fun r : RegFile => Cells.get r.eff a) (s.onLanes_rf g)

@[simp] theorem State.regAt_now (s : State) (t a : Nat) : (s.now t).regAt a = s.regAt a :=
  congrArg (fun r : RegFile => Cells.get r.eff a) (s.now_rf t)

@[simp] theorem State.regAt_raise (s : State) (n t a : Nat) : (s.raise n t).regAt a = s.regAt a := by
  unfold State.raise
  split
  · rfl
  · exact s.regAt_onLanes _ a

@[simp] theorem State.raise_vt (s : State) (n t : Nat) : (s.raise n t).vt = s.vt := by
  unfold State.raise
  split
  · rfl
  · exact s.onLanes_vt _

@[simp] theorem State.regAt_flagIf (s : State) (c : Bool) (f : Fld) (i a : Nat) (h : a ≠ f.addr i) :
    (s.flagIf c f i).regAt a = s.regAt a := by
  unfold State.flagIf
  split
  · exact s.regAt_wr f 1 i 0 a h
  · rfl

/-! ### Records -/

theorem ite_same {σ β : Type} (p : σ → β) {c : Prop} [Decidable c] {a b : σ} {x : β} (ha : p a = x) (hb : p b = x) :
    p (if c then a else b) = x := by
  split
  · exact ha
  · exact hb

/-- What a part of the state must be no part of for a record's entry into staging to leave it (R452, R453): the recorder's own state
and registers, the lanes' staging, and what a raise touches. -/
structure State.OutsideRecorder {α : Type} (p : State → α) : Prop where
  er (s : State) (e : ErState) : p { s with er := e } = p s
  staging (s : State) (rs : List LogRec) : p (s.onLanes fun l => { l with staging := rs }) = p s
  raise (s : State) (n t : Nat) : p (s.raise n t) = p s
  wr (s : State) (f : Fld) (v : Nat) (h : 0x170000 ≤ f.base) : p (s.wr f v) = p s

namespace State.OutsideRecorder
variable {α : Type} {p : State → α} (h : State.OutsideRecorder p)
include h

theorem setStaged (s : State) (rs : List LogRec) : p (s.setStaged rs) = p s :=
  (h.wr _ R.ER_STAGE_BYTES _ (by decide)).trans (ite_same p (h.er s _) (h.staging s rs))

/-- A record that staging has no room for. -/
theorem drop (s : State) (e : ErState) (c f : Fld) (n t : Nat) (hc : 0x170000 ≤ c.base) (hf : 0x170000 ≤ f.base) :
    p (((({ s with er := e } : State).bump c).wr f 1).raise n t) = p s :=
  (h.raise _ n t).trans ((h.wr _ f 1 hf).trans ((h.wr _ c _ hc).trans (h.er s e)))

theorem stage (s : State) (r : LogRec) : p (s.stage r) = p s :=
  ite_same p rfl (ite_same p (ite_same p ((h.setStaged _ _).trans (h.er s _)) (h.setStaged s _))
    (ite_same p (h.drop s _ R.ER_DROP_CNT_PROG R.ER_FLAGS_DROP_PROG _ _ (by decide) (by decide))
      (h.drop s _ R.ER_DROP_CNT_HW R.ER_FLAGS_DROP_HW _ _ (by decide) (by decide))))

theorem record (s : State) (b : Block) (type : Nat) (d : List Byte) (t : Nat) : p (s.record b type d t) = p s := h.stage s _

end State.OutsideRecorder

theorem State.outsideRecorder_regAt (a : Nat) (h : a < 0x170000) : State.OutsideRecorder fun s => s.regAt a where
  er _ _ := rfl
  staging s _ := s.regAt_onLanes _ a
  raise s n t := s.regAt_raise n t a
  wr s f v hf := s.regAt_wr f v 0 0 a (by have := f.addr_ge 0 0; omega)

theorem State.regAt_record (s : State) (b : Block) (type : Nat) (d : List Byte) (t a : Nat) (h : a < 0x170000) :
    (s.record b type d t).regAt a = s.regAt a := (State.outsideRecorder_regAt a h).record s b type d t

theorem State.outsideRecorder_vt : State.OutsideRecorder State.vt where
  er _ _ := rfl
  staging s _ := s.onLanes_vt _
  raise s n t := s.raise_vt n t
  wr _ _ _ _ := rfl

@[simp] theorem State.record_vt (s : State) (b : Block) (type : Nat) (d : List Byte) (t : Nat) : (s.record b type d t).vt = s.vt :=
  State.outsideRecorder_vt.record s b type d t

/-! ### The items the lanes present -/

@[simp] theorem Lane.store_items (l : Lane) (a : Nat) (w : Word) : (l.store a w).items = l.items := by
  unfold Lane.store
  dsimp only
  split
  · split <;> rfl
  · rfl

@[simp] theorem Lane.storeWords_items (l : Lane) (a : Nat) (ws : List Word) : (l.storeWords a ws).items = l.items := by
  induction ws generalizing l a with
  | nil => rfl
  | cons w ws ih => rw [Lane.storeWords, ih, Lane.store_items]

@[simp] theorem Lane.latchRange_items (l : Lane) (t first n : Nat) : (l.latchRange t first n).items = l.items := by
  induction n generalizing l first with
  | zero => rfl
  | succ n ih => exact ih _ _

@[simp] theorem Lane.writeRecords_items (l : Lane) (n : Nat) : (l.writeRecords n).items = l.items := by
  unfold Lane.writeRecords
  dsimp only
  split
  · exact Lane.storeWords_items _ _ _
  · split
    · split <;> rfl
    · rfl

/-- An input latch presents nothing to the voter. -/
@[simp] theorem Lane.takeInputs_items (l : Lane) (e : Nat) : (l.takeInputs e).items = l.items := by
  have hlatch (n t : Nat) : (l.latch n t).items = l.items := foldl_same Lane.items _ (fun l r => l.latchRange_items _ _ _) _ _
  unfold Lane.takeInputs
  dsimp only
  split
  · rfl
  · split
    · exact (Lane.writeRecords_items _ _).trans (hlatch _ _)
    · exact (Lane.writeRecords_items _ _).trans (hlatch _ _)

@[simp] theorem Lane.latchDue_items (l : Lane) (t : Nat) : (l.latchDue t).items = l.items := by
  refine foldl_same Lane.items _ (fun l e => ?_) _ _
  split
  · exact l.takeInputs_items e
  · rfl

theorem State.onLanes_items (s : State) (g : Lane → Lane) (hg : ∀ l, (g l).items = l.items) (y : Nat) :
    ((s.onLanes g).lane y).items = (s.lane y).items :=
  s.onLanes_lane_same Lane.items g hg (fun _ _ _ _ => rfl) (fun _ _ => rfl) y

@[simp] theorem State.now_items (s : State) (t y : Nat) : ((s.now t).lane y).items = (s.lane y).items :=
  s.onLanes_items _ (fun l => l.latchDue_items t) y

@[simp] theorem Lane.evRaise_items (l : Lane) (n t : Nat) : (l.evRaise n t).items = l.items := by
  unfold Lane.evRaise
  split
  · rfl
  · dsimp only
    split <;> split <;> rfl

@[simp] theorem State.raise_items (s : State) (n t y : Nat) : ((s.raise n t).lane y).items = (s.lane y).items := by
  unfold State.raise
  split
  · rfl
  · exact s.onLanes_items _ (fun l => l.evRaise_items n t) y

theorem State.deliverWords_items (s : State) (w : Nat) (ws : List Word) (t y : Nat) :
    ((s.deliverWords w ws t).lane y).items = (s.lane y).items :=
  s.onLanes_items _ (fun l => foldl_same (fun q : Lane × Nat => q.1.items)
    (fun q v => (q.1.sample q.2 v t, q.2 + 1)) (fun _ _ => rfl) ws (l, w)) y

end Sys2Proof.Machine

end

section
/-! The hold store (R244) and the entry into SAFE (R265). -/

namespace Sys2Proof.Machine

/-! ### Fields of one register

A register of which some field is not 0 reads back whole whatever another field is given, in any store. -/

/-- After a write beside a field `g` that is not 0 the register holds what was written. -/
theorem State.regAt_wr_beside (s : State) (f g : Fld) (v i j : Nat) (ha : g.addr i j = f.addr i j) (hf : f.lo + f.width ≤ 32)
    (hg : g.lo + g.width ≤ 32) (h : g.lo + g.width ≤ f.lo ∨ f.lo + f.width ≤ g.lo) (hr : s.rd g i j ≠ 0) :
    (s.wr f v i j).regAt (f.addr i j) = f.ins (s.regAt (f.addr i j)) v := by
  refine Cells.get_set_of_ne_zero _ _ _ (g.ne_zero_of_ext_ne_zero _ ?_)
  rw [Fld.ext_ins_disjoint g f _ v hg hf h, ← ha]
  exact hr

/-- What is written beside a field that is not 0 reads back. -/
theorem State.rd_wr_beside (s : State) (f g : Fld) (v i j : Nat) (ha : g.addr i j = f.addr i j) (hf : f.lo + f.width ≤ 32)
    (hg : g.lo + g.width ≤ 32) (h : g.lo + g.width ≤ f.lo ∨ f.lo + f.width ≤ g.lo) (hr : s.rd g i j ≠ 0) :
    (s.wr f v i j).rd f i j = v % 2 ^ f.width := by
  rw [State.rd_regAt, s.regAt_wr_beside f g v i j ha hf hg h hr, Fld.ext_ins f _ v hf]

/-- A third field of the register reads the same. -/
theorem State.rd_wr_beside_disjoint (s : State) (f g k : Fld) (v i j : Nat) (ha : g.addr i j = f.addr i j)
    (hk : k.addr i j = f.addr i j) (hf : f.lo + f.width ≤ 32) (hg : g.lo + g.width ≤ 32) (hkw : k.lo + k.width ≤ 32)
    (h : g.lo + g.width ≤ f.lo ∨ f.lo + f.width ≤ g.lo) (hkf : k.lo + k.width ≤ f.lo ∨ f.lo + f.width ≤ k.lo)
    (hr : s.rd g i j ≠ 0) : (s.wr f v i j).rd k i j = s.rd k i j := by
  rw [State.rd_regAt, hk, s.regAt_wr_beside f g v i j ha hf hg h hr, Fld.ext_ins_disjoint k f _ v hkw hf hkf, ← hk]
  rfl

/-! ### What SAFE does to the blocks beyond the voter -/

theorem State.regAt_scBypass (s : State) (a : Nat) (h : a < 0x90000) : s.scBypass.regAt a = s.regAt a :=
  s.regAt_wr _ _ _ _ _ (by simp only [Fld.addr, R.SC_STATE_BYPASS]; omega)

theorem State.regAt_scEnter (s : State) (st t a : Nat) (h : a < 0x90000) : (s.scEnter st t).regAt a = s.regAt a := by
  have hsc (f : Fld) (hf : 0x90000 ≤ f.base) : a ≠ f.addr 0 0 := by
    have := f.addr_ge 0 0
    omega
  have hdegr (u : State) (e1 e2 e3 : Nat) :
      (if st = csDegraded then { u with sc := { u.sc with degrAt := e1, degrBase := e2, degrFlash := e3 } } else u).regAt a
        = u.regAt a := ite_same (fun s : State => s.regAt a) rfl rfl
  unfold State.scEnter
  dsimp only
  split
  · rfl
  · rw [State.regAt_record _ _ _ _ _ _ (by omega), State.regAt_scBypass _ _ h, State.regAt_flagIf _ _ _ _ _ (hsc _ (by decide))]
    refine (ite_same (fun s : State => s.regAt a) rfl (State.regAt_wr _ _ _ _ _ _ (hsc _ (by decide)))).trans ?_
    rw [hdegr, State.regAt_wr _ _ _ _ _ _ (hsc _ (by decide)), State.regAt_wr _ _ _ _ _ _ (hsc _ (by decide))]

@[simp] theorem State.scEnter_vt (s : State) (st t : Nat) : (s.scEnter st t).vt = s.vt := by
  unfold State.scEnter State.flagIf
  dsimp only
  split
  · rfl
  · rw [State.record_vt]
    split <;> split <;> split <;> rfl

/-- The Chase follows the lane state without a word of the voter. -/
theorem State.regAt_scLaneState (s : State) (t a : Nat) (h : a < 0x90000) : (s.scLaneState t).regAt a = s.regAt a := by
  unfold State.scLaneState
  rw [State.regAt_scBypass _ _ h]
  exact ite_same (fun s : State => s.regAt a) (s.regAt_scEnter _ _ _ h)
    (ite_same (fun s : State => s.regAt a) (s.regAt_scEnter _ _ _ h) rfl)

@[simp] theorem State.scLaneState_vt (s : State) (t : Nat) : (s.scLaneState t).vt = s.vt :=
  ite_same State.vt (s.scEnter_vt _ _) (ite_same State.vt (s.scEnter_vt _ _) rfl)

theorem State.regAt_canFlush (s : State) (c a : Nat) (h : a < 0x140000) : (s.canFlush c).regAt a = s.regAt a := by
  have hpending (u : State) (b : Nat) : (u.txPending c b).regAt a = u.regAt a :=
    u.regAt_wr _ _ _ _ _ (by simp only [Fld.addr, R.CN_BUF_STAT_PENDING]; omega)
  unfold State.canFlush
  refine (foldl_same (fun s : State => s.regAt a) _ (fun u b => ?_) _ _).trans rfl
  exact ite_same (fun s : State => s.regAt a) rfl (ite_same (fun s : State => s.regAt a) (hpending _ b) rfl)

@[simp] theorem State.canFlush_vt (s : State) (c : Nat) : (s.canFlush c).vt = s.vt := by
  unfold State.canFlush
  refine (foldl_same State.vt _ (fun u b => ?_) _ _).trans rfl
  exact ite_same State.vt rfl (ite_same State.vt rfl rfl)

theorem State.regAt_canFlushAll (s : State) (a : Nat) (h : a < 0x140000) : s.canFlushAll.regAt a = s.regAt a :=
  foldl_same (fun s : State => s.regAt a) State.canFlush (fun s c => s.regAt_canFlush c a h) (List.range 4) s

@[simp] theorem State.canFlushAll_vt (s : State) : s.canFlushAll.vt = s.vt :=
  foldl_same State.vt State.canFlush (fun s c => s.canFlush_vt c) (List.range 4) s

theorem State.regAt_chOut (s : State) (c a : Nat) (h : a < 0xA0000) : (s.chOut c).regAt a = s.regAt a :=
  (State.regAt_wr _ _ _ _ _ _ (by simp only [Fld.addr, R.CH_STAT_TIMED]; omega)).trans
    (State.regAt_wr _ _ _ _ _ _ (by simp only [Fld.addr, R.CH_STAT_ON]; omega))

theorem State.regAt_grpOut (s : State) (g a : Nat) (h : a < 0xA0000) : (s.grpOut g).regAt a = s.regAt a :=
  foldl_same (fun s : State => s.regAt a) State.chOut (fun s c => s.regAt_chOut c a h) (chansOf g) s

theorem State.regAt_allOut (s : State) (a : Nat) (h : a < 0xA0000) : s.allOut.regAt a = s.regAt a :=
  foldl_same (fun s : State => s.regAt a) State.grpOut (fun s g => s.regAt_grpOut g a h) (List.range 8) s

@[simp] theorem State.grpOut_vt (s : State) (g : Nat) : (s.grpOut g).vt = s.vt :=
  foldl_same State.vt State.chOut (fun _ _ => rfl) (chansOf g) s

@[simp] theorem State.allOut_vt (s : State) : s.allOut.vt = s.vt :=
  foldl_same State.vt State.grpOut (fun s g => s.grpOut_vt g) (List.range 8) s

/-! ### The entry into SAFE (R265) -/

/-- What ends the entry into SAFE beyond the voter. -/
theorem State.regAt_safeEnd (s : State) (d : List Byte) (t a : Nat) (h : a < 0x90000) :
    (s.chEndTimed.canFlushAll.allOut.record .vt 0x0304 d t).regAt a = s.regAt a := by
  rw [State.regAt_record _ _ _ _ _ _ (by omega), State.regAt_allOut _ _ (by omega), State.regAt_canFlushAll _ _ (by omega)]
  rfl

/-- The state the module shows once the lane state is SAFE. -/
def State.showsSafe (s : State) : Prop :=
  s.rd R.VT_STATE_STATE = 6 ∧ s.rd R.VT_STATE_RANK = 4

theorem State.showsSafe_of_regAt {s u : State} (hs : s.showsSafe) (h : u.regAt 0x80000 = s.regAt 0x80000) : u.showsSafe := by
  obtain ⟨hstate, hrank⟩ := hs
  exact ⟨(State.rd_of_regAt R.VT_STATE_STATE 0 0 h).trans hstate, (State.rd_of_regAt R.VT_STATE_RANK 0 0 h).trans hrank⟩

theorem State.isSafe_of_showsSafe {s : State} (hs : s.showsSafe) : s.isSafe = true := by
  simp [State.isSafe, State.vstate, hs.1, vsSafe]

theorem State.vtEnter_safe (s : State) (t : Nat) : (s.vtEnter vsSafe t).showsSafe := by
  have hstate (u : State) : (u.wr R.VT_STATE_STATE 6).rd R.VT_STATE_STATE = 6 :=
    State.rd_wr_of_ne_zero u R.VT_STATE_STATE 6 0 0 (by decide) (by decide)
  have hboth (u : State) : ((u.wr R.VT_STATE_STATE 6).wr R.VT_STATE_RANK 4).showsSafe := by
    refine ⟨?_, State.rd_wr_of_ne_zero _ R.VT_STATE_RANK 4 0 0 (by decide) (by decide)⟩
    rw [State.rd_wr_disjoint_of_ne_zero _ R.VT_STATE_STATE R.VT_STATE_RANK 4 0 0 rfl (by decide) (by decide) (by decide)
      (by rw [hstate]; decide), hstate]
  exact State.showsSafe_of_regAt (hboth _) (State.regAt_scLaneState _ _ _ (by decide))

/-- A further field of VT_STATE that is written while the module shows SAFE. -/
theorem State.showsSafe_wr (s : State) (f : Fld) (v : Nat) (hs : s.showsSafe) (ha : f.addr = 0x80000)
    (hlo : 3 ≤ f.lo) (hhi : f.lo + f.width ≤ 10 ∨ 13 ≤ f.lo) (hf : f.lo + f.width ≤ 32) :
    (s.wr f v).showsSafe ∧ (s.wr f v).rd f = v % 2 ^ f.width := by
  obtain ⟨hstate, hrank⟩ := hs
  have hne : s.rd R.VT_STATE_STATE ≠ 0 := by rw [hstate]; decide
  refine ⟨⟨?_, ?_⟩, ?_⟩
  · rw [State.rd_wr_disjoint_of_ne_zero s R.VT_STATE_STATE f v 0 0 ha.symm (by decide) hf (.inl hlo) hne, hstate]
  · rw [State.rd_wr_disjoint_of_ne_zero s R.VT_STATE_RANK f v 0 0 ha.symm (by decide) hf hhi.symm (by rw [hrank]; decide), hrank]
  · exact State.rd_wr_beside s f R.VT_STATE_STATE v 0 0 ha.symm hf (by decide) (.inl hlo) hne

/-- The voter's marks of SAFE beside the lane state: no lane votes, the cause and that SAFE was entered show. -/
def State.markSafe (s : State) (cause : Nat) : State :=
  ((s.setVoting 0).wr R.VT_STATE_SAFE_CAUSE cause).wr R.VT_FLAGS_SAFE_SEEN 1

/-- The cause of SAFE: two findings of one voter cycle are a three-way disagreement (R249). -/
def State.safeCause (s : State) (cause t : Nat) : Nat := if cause = scDuplexDis && s.exclInCycle t then scThreeWay else cause

theorem State.enterSafe_of_safe (s : State) (cause t : Nat) (h : s.isSafe = true) : s.enterSafe cause t = s := by
  simp [State.enterSafe, h]

/-- The entry into SAFE, put together: what the lanes and the voter held is gone, the lane state and the marks show, and the outputs
end. -/
theorem State.enterSafe_eq (s : State) (cause t : Nat) (h : s.isSafe = false) :
    ∃ v : State, (v.vt.held = [] ∧ v.vt.safeServing = s.votingLanes) ∧
      s.enterSafe cause t = ((v.vtEnter vsSafe t).markSafe (s.safeCause cause t)).chEndTimed.canFlushAll.allOut.record .vt 0x0304
        [byte (s.safeCause cause t)] t := by
  simp only [State.enterSafe, h, Bool.false_eq_true, ↓reduceIte]
  exact ⟨_, ⟨rfl, rfl⟩, rfl⟩

theorem State.markSafe_shows (s : State) (cause : Nat) (hs : s.showsSafe) :
    (s.markSafe cause).showsSafe ∧ (s.markSafe cause).rd R.VT_STATE_VOTING = 0 ∧
      (s.markSafe cause).rd R.VT_STATE_SAFE_CAUSE = cause % 16 ∧ (s.markSafe cause).rd R.VT_FLAGS_SAFE_SEEN = 1 := by
  have hvoting (u : State) (f : Fld) (v : Nat) (hu : u.showsSafe ∧ u.rd R.VT_STATE_VOTING = 0) (ha : f.addr = 0x80000)
      (hlo : 7 ≤ f.lo) (hhi : f.lo + f.width ≤ 10 ∨ 13 ≤ f.lo) (hf : f.lo + f.width ≤ 32) :
      (u.wr f v).showsSafe ∧ (u.wr f v).rd R.VT_STATE_VOTING = 0 := by
    refine ⟨(u.showsSafe_wr f v hu.1 ha (by omega) hhi hf).1, ?_⟩
    rw [State.rd_wr_beside_disjoint u f R.VT_STATE_STATE R.VT_STATE_VOTING v 0 0 ha.symm ha.symm hf (by decide) (by decide)
      (.inl (show 3 ≤ f.lo by omega)) (.inl hlo) (by rw [hu.1.1]; decide), hu.2]
  have hnone := s.showsSafe_wr R.VT_STATE_VOTING 0 hs rfl (by decide) (by decide) (by decide)
  have hlead := hvoting _ R.VT_STATE_LEAD 0 hnone rfl (by decide) (by decide) (by decide)
  have hcause := hvoting _ R.VT_STATE_SAFE_CAUSE cause hlead rfl (by decide) (by decide) (by decide)
  have hshown := (State.showsSafe_wr _ R.VT_STATE_SAFE_CAUSE cause hlead.1 rfl (by decide) (by decide) (by decide)).2
  have hflag (u : State) (a : Nat) (ha : a = 0x80000) : (u.wr R.VT_FLAGS_SAFE_SEEN 1).regAt a = u.regAt a :=
    u.regAt_wr _ _ _ _ _ (by subst ha; decide)
  exact ⟨State.showsSafe_of_regAt hcause.1 (hflag _ _ rfl), (State.rd_of_regAt R.VT_STATE_VOTING 0 0 (hflag _ _ rfl)).trans hcause.2,
    (State.rd_of_regAt R.VT_STATE_SAFE_CAUSE 0 0 (hflag _ _ rfl)).trans hshown,
    State.rd_wr_of_ne_zero _ R.VT_FLAGS_SAFE_SEEN 1 0 0 (by decide) (by decide)⟩

/-- What SAFE shows in the voter's registers, and what the entry leaves of the voter's records. -/
theorem State.enterSafe_marks (s : State) (cause t : Nat) (h : s.isSafe = false) :
    (s.enterSafe cause t).showsSafe ∧ (s.enterSafe cause t).rd R.VT_STATE_VOTING = 0 ∧
      (s.enterSafe cause t).rd R.VT_STATE_SAFE_CAUSE = s.safeCause cause t % 16 ∧
      (s.enterSafe cause t).rd R.VT_FLAGS_SAFE_SEEN = 1 ∧ (s.enterSafe cause t).vt.held = [] ∧
      (s.enterSafe cause t).vt.safeServing = s.votingLanes := by
  obtain ⟨v, hv, heq⟩ := s.enterSafe_eq cause t h
  obtain ⟨hsafe, hvoting, hcause, hseen⟩ := (v.vtEnter vsSafe t).markSafe_shows (s.safeCause cause t) (v.vtEnter_safe t)
  have hend (a : Nat) (ha : a < 0x90000) := State.regAt_safeEnd ((v.vtEnter vsSafe t).markSafe (s.safeCause cause t))
    [byte (s.safeCause cause t)] t a ha
  have hvt : (((v.vtEnter vsSafe t).markSafe (s.safeCause cause t)).chEndTimed.canFlushAll.allOut.record .vt 0x0304
      [byte (s.safeCause cause t)] t).vt = (v.vtEnter vsSafe t).vt := by
    rw [State.record_vt, State.allOut_vt, State.canFlushAll_vt]
    rfl
  have hkept : (v.vtEnter vsSafe t).vt.held = v.vt.held ∧ (v.vtEnter vsSafe t).vt.safeServing = v.vt.safeServing := by
    simp [State.vtEnter]
  rw [heq]
  exact ⟨State.showsSafe_of_regAt hsafe (hend _ (by decide)), (State.rd_of_regAt _ 0 0 (hend _ (by decide))).trans hvoting,
    (State.rd_of_regAt _ 0 0 (hend _ (by decide))).trans hcause, (State.rd_of_regAt _ 0 0 (hend _ (by decide))).trans hseen,
    by rw [hvt, hkept.1, hv.1], by rw [hvt, hkept.2, hv.2]⟩

theorem State.enterSafe_isSafe (s : State) (cause t : Nat) : (s.enterSafe cause t).isSafe = true := by
  by_cases h : s.isSafe = true
  · rw [s.enterSafe_of_safe cause t h, h]
  · exact State.isSafe_of_showsSafe (s.enterSafe_marks cause t (by simpa using h)).1

/-! ### The occupancy of the hold store (R244) -/

/-- A state in which the voter and the lanes hold what they hold in another. -/
def State.HoldSame (s u : State) : Prop :=
  u.vt = s.vt ∧ (∀ y, (u.lane y).items = (s.lane y).items) ∧ u.regAt 0x80000 = s.regAt 0x80000

theorem State.HoldSame.refl (s : State) : State.HoldSame s s := ⟨rfl, fun _ => rfl, rfl⟩

theorem State.HoldSame.trans {a b c : State} (h : State.HoldSame a b) (g : State.HoldSame b c) : State.HoldSame a c :=
  ⟨g.1.trans h.1, fun y => (g.2.1 y).trans (h.2.1 y), g.2.2.trans h.2.2⟩

theorem State.HoldSame.isSafe {s u : State} (h : State.HoldSame s u) : u.isSafe = s.isSafe := by
  rw [State.isSafe, State.vstate, State.rd_of_regAt R.VT_STATE_STATE 0 0 h.2.2]
  rfl

theorem State.HoldSame.holdBytes {s u : State} (h : State.HoldSame s u) : u.holdBytes = s.holdBytes := by
  obtain ⟨hvt, hitems, hreg⟩ := h
  have hvoting : u.rd R.VT_STATE_VOTING = s.rd R.VT_STATE_VOTING := State.rd_of_regAt R.VT_STATE_VOTING 0 0 hreg
  simp only [State.holdBytes, State.presented, State.votingLanes, State.votes, State.owes, hvt, hitems, hvoting]

theorem State.HoldSame.wr (s : State) (f : Fld) (v : Nat) (h : 0x80000 < f.base) : State.HoldSame s (s.wr f v) :=
  ⟨rfl, fun _ => rfl, s.regAt_wr f v 0 0 _ (by have := f.addr_ge 0 0; omega)⟩

theorem State.HoldSame.raise (s : State) (n t : Nat) : State.HoldSame s (s.raise n t) :=
  ⟨s.raise_vt n t, s.raise_items n t, s.regAt_raise n t _⟩

theorem State.HoldSame.now (s : State) (t : Nat) : State.HoldSame s (s.now t) :=
  ⟨s.now_vt t, s.now_items t, s.regAt_now t _⟩

theorem State.HoldSame.deliverWords (s : State) (w : Nat) (ws : List Word) (t : Nat) : State.HoldSame s (s.deliverWords w ws t) :=
  ⟨s.onLanes_vt _, s.deliverWords_items w ws t, s.regAt_onLanes _ _⟩

theorem State.HoldSame.fbReady (s : State) (t : Nat) : State.HoldSame s (s.fbReady t) := by
  unfold State.fbReady
  split
  · unfold State.fbLockup State.fbEnter
    have hregs (u : State) : State.HoldSame u ((u.wr R.FB_CYCLE_CYCLE 0).wr R.FB_STATE_LOCKUP_LEFT 8) :=
      (State.HoldSame.wr u _ 0 (by decide)).trans (.wr _ _ 8 (by decide))
    dsimp only
    split
    · exact hregs _
    · exact (hregs _).trans ((State.HoldSame.wr _ _ _ (by decide)).trans (.raise _ _ _))
  · exact .refl s

theorem State.HoldSame.pwChanged (s : State) (t : Nat) : State.HoldSame s (s.pwChanged t) := by
  unfold State.pwChanged State.pwDeliver
  dsimp only
  split
  · split
    · exact .refl s
    · exact State.HoldSame.deliverWords _ _ _ _
  · exact .refl s

/-- After the check the store is within its bounds, or the module is in SAFE. -/
theorem State.holdCheck_bounds (s : State) (t : Nat) :
    (s.holdCheck t).isSafe = true ∨ (s.holdCheck t).holdBytes ≤ 8388608 := by
  unfold State.holdCheck
  dsimp only
  split
  · refine .inl ?_
    rw [(State.HoldSame.wr _ R.VT_HOLD_NOW 0 (by decide)).isSafe]
    exact State.enterSafe_isSafe _ _ _
  · next hfit =>
    generalize hs1 : (if s.rd R.VT_HOLD_NOW = s.holdBytes then s else s.wr R.VT_HOLD_NOW s.holdBytes) = s1
    have h1 : State.HoldSame s s1 := by
      rw [← hs1]
      split
      · exact .refl s
      · exact .wr s _ _ (by decide)
    have h2 : State.HoldSame s (if s1.rd R.VT_HOLD_PEAK < s.holdBytes then s1.wr R.VT_HOLD_PEAK s.holdBytes else s1) := by
      split
      · exact h1.trans (.wr s1 _ _ (by decide))
      · exact h1
    rw [h2.isSafe, h2.holdBytes]
    cases hsafe : s.isSafe
    · exact .inr (Nat.not_lt.mp fun hlt => hfit ⟨hlt, hsafe⟩)
    · exact .inl rfl

/-- The hold store is within its bounds, or the module is in SAFE (R244). -/
def State.holdBounded (s : State) : Prop := s.isSafe = true ∨ s.holdBytes ≤ 8388608

theorem State.HoldSame.holdBounded {s u : State} (h : State.HoldSame s u) (hs : s.holdBounded) : u.holdBounded := by
  rwa [State.holdBounded, h.isSafe, h.holdBytes]

/-- Whatever a command leaves, what follows it leaves the hold store within its bounds. -/
theorem State.settle_holdBounded (s : State) (t : Nat) : (s.settle t).holdBounded := by
  have hlast (u : State) : (((u.holdCheck t).fbReady t).pwChanged t).holdBounded :=
    ((State.HoldSame.fbReady (u.holdCheck t) t).trans (.pwChanged _ t)).holdBounded (u.holdCheck_bounds t)
  unfold State.settle
  exact hlast _

/-- The queue of the commands that wait is none of the voter's. -/
theorem State.HoldSame.keepQueue (s0 s : State) : State.HoldSame s (State.keepQueue s0 s) := ⟨rfl, fun _ => rfl, rfl⟩

theorem State.settled_holdBounded (s0 s : State) (t : Nat) : (State.keepQueue s0 (s.settle t)).holdBounded :=
  (State.HoldSame.keepQueue s0 _).holdBounded (s.settle_holdBounded t)

/-- Where only the always-on section works, its happenings are none of the voter's (R198). -/
theorem State.HoldSame.wheelEdge (s : State) (k : Nat) (lead both : Bool) (t : Nat) (h : s.lgMain = false) :
    State.HoldSame s (s.wheelEdge k lead both t) := by
  unfold State.wheelEdge State.aoEdge
  simp only [h, Bool.not_false, ↓reduceIte]
  split
  · exact .refl s
  · split <;> exact .refl s

theorem State.runHost_holdBounded (s : State) (t : Nat) (f : State → State) (hs : s.holdBounded) : (s.runHost t f).holdBounded := by
  unfold State.runHost
  split
  · exact hs
  · exact State.settled_holdBounded _ _ t

theorem State.run_holdBounded (s : State) (t : Nat) (f : State → State) (hs : s.holdBounded) : (s.run t f).holdBounded := by
  unfold State.run
  split
  · exact hs
  · exact s.runHost_holdBounded t f hs

theorem State.runAlways_holdBounded (s : State) (t : Nat) (f : State → State) (hs : s.holdBounded)
    (hf : (s.now t).lgMain = false → State.HoldSame (s.now t) (f (s.now t))) : (s.runAlways t f).holdBounded := by
  unfold State.runAlways
  split
  · next h =>
    have hmain : (s.now t).lgMain = false := by
      simp only [State.lgMain, State.recovering, State.rd_now, State.now_pw]
      rcases Bool.or_eq_true_iff.mp h with hoff | hrec
      · simp [hoff]
      · simp only [State.recovering] at hrec
        simp [hrec]
    exact ((State.HoldSame.now s t).trans (hf hmain)).holdBounded hs
  · exact s.run_holdBounded t f hs

theorem State.Ran.holdBounded {c : Instr} {s u : State} (h : s.Ran c u) (hs : s.holdBounded) : u.holdBounded := by
  cases h
  case host t f => exact s.runHost_holdBounded t f hs
  case run t f => exact s.run_holdBounded t f hs
  case engine g =>
    unfold State.engineDo
    split
    · exact hs
    · exact State.settled_holdBounded _ _ _
  case supply => exact State.settled_holdBounded _ _ _
  case wheel k lead both t _ => exact s.runAlways_holdBounded t _ hs (State.HoldSame.wheelEdge _ _ _ _ _)
  case aoLost t _ => exact s.runAlways_holdBounded t _ hs fun _ => .refl _
  case memory x g hg =>
    split
    · exact hs
    · exact State.HoldSame.holdBounded ⟨s.setLane_vt _ _, fun y => State.lane_setLane_same Lane.items _ _ _ _ (hg _),
        s.regAt_setLane _ _ _⟩ hs

end Sys2Proof.Machine

open Sys2Proof Sys2Proof.Machine

/-- Settles O5: whatever form a command runs in, the check of the hold store follows it, or nothing the voter holds has changed. -/
theorem holdStoreWithinBounds : Obligations.HoldStoreWithinBounds := by
  intro s s' hs hstep
  unfold step at hstep
  split at hstep
  · cases hstep
    exact hs
  · next c rest _ =>
    obtain ⟨u, hu, hran⟩ := exec_ran c { s with pending := rest }
    cases hu.symm.trans hstep
    exact hran.holdBounded hs

end

section
/-! Code words and their decoding (R76, R77, R79, R93, R114): the fields of a word in each format read back, a word is put together
again from its fields, and both directions of the decoding follow format by format. -/

namespace Sys2Proof

/-! ### The fields of a code word (R77) -/

theorem extract_beyond {v w : Nat} (hi : BitVec v) (lo : BitVec w) (start len : Nat) (h : w ≤ start) :
    (hi ++ lo).extractLsb' start len = hi.extractLsb' (start - w) len := by
  apply BitVec.eq_of_getLsbD_eq
  intro k hk
  simp [BitVec.getLsbD_append, hk, show ¬ start + k < w by omega, show start + k - w = start - w + k by omega]

theorem extract_within {v w : Nat} (hi : BitVec v) (lo : BitVec w) (start len : Nat) (h : start + len ≤ w) :
    (hi ++ lo).extractLsb' start len = lo.extractLsb' start len := BitVec.extractLsb'_append_eq_of_add_le h

/-- The first code word of each format. -/
def wordM (op : Nat) (o : MOp) : Word := BitVec.ofNat 6 op ++ o.sp ++ BitVec.ofBool o.x ++ o.low
def wordJ (op : Nat) (c : BitVec 4) (target : BitVec 22) : Word := BitVec.ofNat 6 op ++ c ++ target
def wordR (op func : Nat) (low : BitVec 20) : Word := BitVec.ofNat 6 op ++ BitVec.ofNat 6 func ++ low
def wordF (op : Nat) (rest : BitVec 26) : Word := BitVec.ofNat 6 op ++ rest

@[simp] theorem wordM_op (op : Nat) (o : MOp) : (wordM op o).extractLsb' 26 6 = BitVec.ofNat 6 op := by
  rw [wordM, extract_beyond _ _ 26 6 (by decide), extract_beyond _ _ 5 6 (by decide), extract_beyond _ _ 4 6 (by decide)]
  exact BitVec.extractLsb'_eq_self

@[simp] theorem wordM_sp (op : Nat) (o : MOp) : (wordM op o).extractLsb' 22 4 = o.sp := by
  rw [wordM, extract_beyond _ _ 22 4 (by decide), extract_beyond _ _ 1 4 (by decide), extract_within _ _ 0 4 (by decide)]
  exact BitVec.extractLsb'_eq_self

@[simp] theorem wordM_x (op : Nat) (o : MOp) : (wordM op o).getLsbD 21 = o.x := by
  rw [wordM, BitVec.getLsbD_append, if_neg (by decide), BitVec.getLsbD_append, if_pos (by decide)]
  cases o.x <;> rfl

@[simp] theorem wordM_low (op : Nat) (o : MOp) : (wordM op o).extractLsb' 0 21 = o.low := by
  rw [wordM, extract_within _ _ 0 21 (by decide)]
  exact BitVec.extractLsb'_eq_self

@[simp] theorem wordJ_op (op : Nat) (c : BitVec 4) (target : BitVec 22) : (wordJ op c target).extractLsb' 26 6 = BitVec.ofNat 6 op := by
  rw [wordJ, extract_beyond _ _ 26 6 (by decide), extract_beyond _ _ 4 6 (by decide)]
  exact BitVec.extractLsb'_eq_self

@[simp] theorem wordJ_cond (op : Nat) (c : BitVec 4) (target : BitVec 22) : (wordJ op c target).extractLsb' 22 4 = c := by
  rw [wordJ, extract_beyond _ _ 22 4 (by decide), extract_within _ _ 0 4 (by decide)]
  exact BitVec.extractLsb'_eq_self

@[simp] theorem wordJ_target (op : Nat) (c : BitVec 4) (target : BitVec 22) : (wordJ op c target).extractLsb' 0 22 = target := by
  rw [wordJ, extract_within _ _ 0 22 (by decide)]
  exact BitVec.extractLsb'_eq_self

@[simp] theorem wordR_op (op func : Nat) (low : BitVec 20) : (wordR op func low).extractLsb' 26 6 = BitVec.ofNat 6 op := by
  rw [wordR, extract_beyond _ _ 26 6 (by decide), extract_beyond _ _ 6 6 (by decide)]
  exact BitVec.extractLsb'_eq_self

@[simp] theorem wordR_func (op func : Nat) (low : BitVec 20) : (wordR op func low).extractLsb' 20 6 = BitVec.ofNat 6 func := by
  rw [wordR, extract_beyond _ _ 20 6 (by decide), extract_within _ _ 0 6 (by decide)]
  exact BitVec.extractLsb'_eq_self

@[simp] theorem wordR_low (op func : Nat) (low : BitVec 20) : (wordR op func low).extractLsb' 0 20 = low := by
  rw [wordR, extract_within _ _ 0 20 (by decide)]
  exact BitVec.extractLsb'_eq_self

@[simp] theorem wordF_op (op : Nat) (rest : BitVec 26) : (wordF op rest).extractLsb' 26 6 = BitVec.ofNat 6 op := by
  rw [wordF, extract_beyond _ _ 26 6 (by decide)]
  exact BitVec.extractLsb'_eq_self

@[simp] theorem wordF_rest (op : Nat) (rest : BitVec 26) : (wordF op rest).extractLsb' 0 26 = rest := by
  rw [wordF, extract_within _ _ 0 26 (by decide)]
  exact BitVec.extractLsb'_eq_self

/-! ### A word from its fields -/

theorem wordF_fields (w : Word) : wordF (w.extractLsb' 26 6).toNat (w.extractLsb' 0 26) = w := by
  rw [wordF, BitVec.ofNat_toNat, BitVec.setWidth_eq, BitVec.extractLsb'_append_extractLsb'_eq_extractLsb' (by rfl)]
  exact BitVec.extractLsb'_eq_self

theorem wordR_fields (w : Word) : wordR (w.extractLsb' 26 6).toNat (w.extractLsb' 20 6).toNat (w.extractLsb' 0 20) = w := by
  rw [wordR, BitVec.ofNat_toNat, BitVec.setWidth_eq, BitVec.ofNat_toNat, BitVec.setWidth_eq,
    BitVec.extractLsb'_append_extractLsb'_eq_extractLsb' (by rfl), BitVec.extractLsb'_append_extractLsb'_eq_extractLsb' (by rfl)]
  exact BitVec.extractLsb'_eq_self

theorem wordJ_fields (w : Word) : wordJ (w.extractLsb' 26 6).toNat (w.extractLsb' 22 4) (w.extractLsb' 0 22) = w := by
  rw [wordJ, BitVec.ofNat_toNat, BitVec.setWidth_eq, BitVec.extractLsb'_append_extractLsb'_eq_extractLsb' (by rfl),
    BitVec.extractLsb'_append_extractLsb'_eq_extractLsb' (by rfl)]
  exact BitVec.extractLsb'_eq_self

/-- One bit of a word as a field of width 1. -/
theorem ofBool_getLsbD (w : Word) (k : Nat) : BitVec.ofBool (w.getLsbD k) = w.extractLsb' k 1 := by
  apply BitVec.eq_of_getLsbD_eq
  intro i hi
  simp [show i = 0 by omega]

/-- The operand of a word, whatever follows the word, has its SP, X and low bits. -/
theorem mopOf_fields (w ext : Word) :
    (mopOf w ext).sp = w.extractLsb' 22 4 ∧ (mopOf w ext).x = w.getLsbD 21 ∧ (mopOf w ext).low = w.extractLsb' 0 21 := by
  unfold mopOf
  dsimp only
  split <;> exact ⟨rfl, rfl, rfl⟩

theorem wordM_fields (w ext : Word) : wordM (w.extractLsb' 26 6).toNat (mopOf w ext) = w := by
  obtain ⟨hsp, hx, hlow⟩ := mopOf_fields w ext
  rw [wordM, hsp, hx, hlow, ofBool_getLsbD, BitVec.ofNat_toNat, BitVec.setWidth_eq,
    BitVec.extractLsb'_append_extractLsb'_eq_extractLsb' (by rfl), BitVec.extractLsb'_append_extractLsb'_eq_extractLsb' (by rfl),
    BitVec.extractLsb'_append_extractLsb'_eq_extractLsb' (by rfl)]
  exact BitVec.extractLsb'_eq_self

/-! ### Operands (R93, R114) -/

theorem codeM_op (op : Nat) (o : MOp) : ((codeM op o).getD 0 0).extractLsb' 26 6 = BitVec.ofNat 6 op := wordM_op op o

/-- The operand that a word and its extension word spell is the one they were made of. -/
theorem mopOf_code (op : Nat) (o : MOp) (next : Word) (h : o.spelt = true) :
    mopOf ((codeM op o).getD 0 0) ((codeM op o).getD 1 next) = o := by
  have hfirst : (codeM op o).getD 0 0 = wordM op o := rfl
  obtain ⟨sp, x, low, ext⟩ := o
  rw [hfirst, mopOf, wordM_sp, wordM_x, wordM_low]
  dsimp only
  have hsame : (MOp.mk sp x low 0).hasExt = (MOp.mk sp x low ext).hasExt := rfl
  cases hext : (MOp.mk sp x low ext).hasExt
  · have hzero : ext = 0 := by simpa [MOp.spelt, hext] using h
    rw [hsame, hext, hzero]
    rfl
  · rw [hsame, hext, codeM, hext]
    rfl

theorem mopOf_hasExt (w ext : Word) : (mopOf w ext).spelt = true ∧ ((mopOf w ext).hasExt = true → (mopOf w ext).ext = ext) := by
  unfold mopOf
  dsimp only
  split
  · next h => exact ⟨Bool.or_eq_true_iff.mpr (.inl h), fun _ => rfl⟩
  · next h => exact ⟨Bool.or_eq_true_iff.mpr (.inr rfl), fun h' => absurd h' h⟩

/-- A Format M word and its follower, or the word alone, are the code words of the operand they spell. -/
theorem codeM_mopOf (w ext : Word) :
    codeM (w.extractLsb' 26 6).toNat (mopOf w ext) = [w] ∨ codeM (w.extractLsb' 26 6).toNat (mopOf w ext) = [w, ext] := by
  have hcode : codeM (w.extractLsb' 26 6).toNat (mopOf w ext)
      = wordM (w.extractLsb' 26 6).toNat (mopOf w ext) :: (if (mopOf w ext).hasExt then [(mopOf w ext).ext] else []) := rfl
  rw [hcode, wordM_fields]
  cases h : (mopOf w ext).hasExt
  · exact .inl rfl
  · rw [(mopOf_hasExt w ext).2 h]
    exact .inr rfl

/-! ### The FUNC tables -/

/-- What a FUNC table must be to decode Format R words of OP `op`: an instruction of the table has that OP, the FUNC and the low bits
as its code word and is well formed, and whether there is one does not depend on the engine. -/
structure FuncTable (op : Nat) (table : EngId → Nat → BitVec 20 → Option Instr) : Prop where
  code (e : EngId) (func : Nat) (low : BitVec 20) (i : Instr) (h : table e func low = some i) :
    i.wellFormed = true ∧ engineCode i = [wordR op func low]
  engine (e f : EngId) (func : Nat) (low : BitVec 20) : (table e func low).isSome = (table f func low).isSome

theorem funcTable_0F : FuncTable 0x0F decode0F where
  code e func low i h := by unfold decode0F at h; split at h <;> cases h <;> exact ⟨rfl, rfl⟩
  engine e f func low := by unfold decode0F; split <;> rfl
theorem funcTable_11 : FuncTable 0x11 decode11 where
  code e func low i h := by unfold decode11 at h; split at h <;> cases h <;> exact ⟨rfl, rfl⟩
  engine e f func low := by unfold decode11; split <;> rfl
theorem funcTable_16 : FuncTable 0x16 decode16 where
  code e func low i h := by unfold decode16 at h; split at h <;> cases h <;> exact ⟨rfl, rfl⟩
  engine e f func low := by unfold decode16; split <;> rfl
theorem funcTable_27 : FuncTable 0x27 decode27 where
  code e func low i h := by unfold decode27 at h; split at h <;> cases h <;> exact ⟨rfl, rfl⟩
  engine e f func low := by unfold decode27; split <;> rfl
theorem funcTable_28 : FuncTable 0x28 decode28 where
  code e func low i h := by unfold decode28 at h; split at h <;> cases h <;> exact ⟨rfl, rfl⟩
  engine e f func low := by unfold decode28; split <;> rfl
theorem funcTable_29 : FuncTable 0x29 decode29 where
  code e func low i h := by unfold decode29 at h; split at h <;> cases h <;> exact ⟨rfl, rfl⟩
  engine e f func low := by unfold decode29; split <;> rfl
theorem funcTable_34 : FuncTable 0x34 decode34 where
  code e func low i h := by unfold decode34 at h; split at h <;> cases h <;> exact ⟨rfl, rfl⟩
  engine e f func low := by unfold decode34; split <;> rfl
theorem funcTable_35 : FuncTable 0x35 decode35 where
  code e func low i h := by unfold decode35 at h; split at h <;> cases h <;> exact ⟨rfl, rfl⟩
  engine e f func low := by unfold decode35; split <;> rfl
theorem funcTable_36 : FuncTable 0x36 decode36 where
  code e func low i h := by unfold decode36 at h; split at h <;> cases h <;> exact ⟨rfl, rfl⟩
  engine e f func low := by unfold decode36; split <;> rfl
theorem funcTable_37 : FuncTable 0x37 decode37 where
  code e func low i h := by unfold decode37 at h; split at h <;> cases h <;> exact ⟨rfl, rfl⟩
  engine e f func low := by unfold decode37; split <;> rfl
theorem funcTable_39 : FuncTable 0x39 decode39 where
  code e func low i h := by unfold decode39 at h; split at h <;> cases h <;> exact ⟨rfl, rfl⟩
  engine e f func low := by unfold decode39; split <;> rfl
theorem funcTable_3A : FuncTable 0x3A decode3A where
  code e func low i h := by unfold decode3A at h; split at h <;> cases h <;> exact ⟨rfl, rfl⟩
  engine e f func low := by unfold decode3A; split <;> rfl

/-! ### Both directions -/

/-- Instruction `i` is well formed and its code words are `w`, or `w` and `ext`. -/
def Instr.spells (i : Instr) (w ext : Word) : Prop := i.wellFormed = true ∧ (engineCode i = [w] ∨ engineCode i = [w, ext])

theorem spells_of_table {op : Nat} {table : EngId → Nat → BitVec 20 → Option Instr} (ht : FuncTable op table) (e : EngId)
    (w ext : Word) (i : Instr) (hop : (w.extractLsb' 26 6).toNat = op)
    (h : table e (w.extractLsb' 20 6).toNat (w.extractLsb' 0 20) = some i) : i.spells w ext := by
  obtain ⟨hwf, hcode⟩ := ht.code e _ _ i h
  rw [← hop, wordR_fields] at hcode
  exact ⟨hwf, .inl hcode⟩

theorem spells_of_mop (op : Nat) (w ext : Word) (i : Instr) (hop : (w.extractLsb' 26 6).toNat = op)
    (hwf : i.wellFormed = (mopOf w ext).spelt) (hcode : engineCode i = codeM op (mopOf w ext)) : i.spells w ext := by
  subst hop
  exact ⟨hwf ▸ (mopOf_hasExt w ext).1, hcode ▸ codeM_mopOf w ext⟩

theorem spells_of_jump (op : Nat) (w ext : Word) (i : Instr) (hop : (w.extractLsb' 26 6).toNat = op) (hwf : i.wellFormed = true)
    (hcode : engineCode i = [wordJ op (w.extractLsb' 22 4) (w.extractLsb' 0 22)]) : i.spells w ext := by
  subst hop
  rw [wordJ_fields] at hcode
  exact ⟨hwf, .inl hcode⟩

theorem spells_of_rest (op : Nat) (w ext : Word) (i : Instr) (hop : (w.extractLsb' 26 6).toNat = op) (hwf : i.wellFormed = true)
    (hcode : engineCode i = [wordF op (w.extractLsb' 0 26)] ∨ engineCode i = [wordF op (w.extractLsb' 0 26), ext]) :
    i.spells w ext := by
  subst hop
  rw [wordF_fields] at hcode
  exact ⟨hwf, hcode⟩

/-- What decodes from a word and its follower has them as its code words. -/
theorem decode_spells (e : EngId) (w ext : Word) (i : Instr) (h : decodeCode e w ext = some i) : i.spells w ext := by
  unfold decodeCode at h
  dsimp only at h
  split at h
  case h_15 hop => exact spells_of_table funcTable_0F e w ext i hop h
  case h_17 hop => exact spells_of_table funcTable_11 e w ext i hop h
  case h_22 hop => exact spells_of_table funcTable_16 e w ext i hop h
  case h_39 hop => exact spells_of_table funcTable_27 e w ext i hop h
  case h_40 hop => exact spells_of_table funcTable_28 e w ext i hop h
  case h_41 hop => exact spells_of_table funcTable_29 e w ext i hop h
  case h_52 hop => exact spells_of_table funcTable_34 e w ext i hop h
  case h_53 hop => exact spells_of_table funcTable_35 e w ext i hop h
  case h_54 hop => exact spells_of_table funcTable_36 e w ext i hop h
  case h_55 hop => exact spells_of_table funcTable_37 e w ext i hop h
  case h_57 hop => exact spells_of_table funcTable_39 e w ext i hop h
  case h_58 hop => exact spells_of_table funcTable_3A e w ext i hop h
  case h_18 hop | h_19 hop | h_21 hop => cases h; exact spells_of_jump _ w ext _ hop rfl rfl
  case h_16 hop | h_20 hop | h_23 hop | h_59 hop => cases h; exact spells_of_rest _ w ext _ hop rfl (.inl rfl)
  case h_42 hop | h_56 hop => cases h; exact spells_of_rest _ w ext _ hop rfl (.inr rfl)
  case h_60 => cases h
  all_goals next hop => cases h; exact spells_of_mop _ w ext _ hop rfl rfl

theorem decode_engine (e f : EngId) (w ext : Word) : (decodeCode e w ext).isSome = (decodeCode f w ext).isSome := by
  unfold decodeCode
  dsimp only
  split
  case h_15 => exact funcTable_0F.engine e f _ _
  case h_17 => exact funcTable_11.engine e f _ _
  case h_22 => exact funcTable_16.engine e f _ _
  case h_39 => exact funcTable_27.engine e f _ _
  case h_40 => exact funcTable_28.engine e f _ _
  case h_41 => exact funcTable_29.engine e f _ _
  case h_52 => exact funcTable_34.engine e f _ _
  case h_53 => exact funcTable_35.engine e f _ _
  case h_54 => exact funcTable_36.engine e f _ _
  case h_55 => exact funcTable_37.engine e f _ _
  case h_57 => exact funcTable_39.engine e f _ _
  case h_58 => exact funcTable_3A.engine e f _ _
  all_goals rfl

/-- The code words of a well-formed engine instruction decode to it. -/
theorem decode_code (i : Instr) (next : Word) (hwf : i.wellFormed = true) (hcode : engineCode i ≠ []) :
    ∃ e : EngId, decodeCode e ((engineCode i).getD 0 0) ((engineCode i).getD 1 next) = some i := by
  cases i
  case ldb e o | ldbn e o | andBit e o | andnBit e o | orBit e o | ornBit e o | xorBit e o | xornBit e o | st e o | stn e o |
      setBit e o | rstBit e o | rise e o | fall e o | ld e o | stw e o | ldd e o | stwd e o | add e o | sub e o | mul e o |
      mulu e o | div e o | divu e o | aw e o | ow e o | xw e o | cmp e o | cmpu e o | ton e o | tof e o | tp e o | tonr e o |
      ctu e o | ctd e o | rstb e o | ldtc e o | sigv e o =>
    refine ⟨e, ?_⟩
    change decodeCode e ((codeM _ o).getD 0 0) ((codeM _ o).getD 1 next) = _
    unfold decodeCode
    rw [mopOf_code _ o next hwf, codeM_op]
    rfl
  case jmp e c target | call e c target | rept e c target =>
    refine ⟨e, ?_⟩
    change decodeCode e (wordJ _ c target) _ = _
    unfold decodeCode
    rw [wordJ_op, wordJ_cond, wordJ_target]
    rfl
  case bend e rest | ret e rest | nop e rest | ecls e rest | bmov e rest ext | recEntry e rest ext =>
    refine ⟨e, ?_⟩
    change decodeCode e (wordF _ rest) _ = _
    unfold decodeCode
    rw [wordF_op, wordF_rest]
    rfl
  case band e low | bandn e low | bor e low | born e low | bxor e low | bxorn e low | clrb e low | setb e low | notBa e low |
      ldc e low | ldsv e low | endAct e low | endBa e low | endNba e low | mov e low | swap e low | neg e low | inv e low |
      addi e low | abs e low | sext e low | shl e low | shr e low | sar e low | rol e low | ror e low | shl64 e low | shr64 e low |
      sar64 e low | sx8 e low | sx16 e low | zx8 e low | zx16 e low | sat16 e low | satu16 e low | sx48 e low | bsw32 e low |
      bsw16 e low | sat64 e low | stmpLt e low | stmpTt e low | stmpP e low | stmpD e low | stmpPh e low | stmpSpd e low |
      stmpCyc e low | txpd e low | rxpd e low | txsdt e low | rxsdt e low | txmd e low | rxmd e low | tstat e low | ctx e low |
      ctxt e low | crxb e low | crxf e low | brd e low | bwr e low | pwr e low | prd e low | arm e low | disarm e low =>
    refine ⟨e, ?_⟩
    change decodeCode e (wordR _ _ low) _ = _
    unfold decodeCode
    rw [wordR_op, wordR_func, wordR_low]
    rfl
  all_goals exact absurd rfl hcode

end Sys2Proof

open Sys2Proof Sys2Proof.Machine

/-- Settles O7: both directions of the decoding, and its independence of the engine. -/
theorem codeWordsDecodeToTheirInstruction : Obligations.CodeWordsDecodeToTheirInstruction :=
  ⟨decode_code, decode_spells, decode_engine⟩

end

section
/-! One engine instruction in every serving lane (R76, R82, R84): what its body answers is what it does. Rules of the bodies of the
bit, word, flow and register instructions, in a lane without memory errors. -/

namespace Sys2Proof.Machine

/-! ### An instruction whose body answers -/

theorem State.lane_ready (s : State) (e len x : Nat) (hr : s.ready e len = true) (hx : x ∈ s.servingLanes) :
    (s.lane x).ready e len = true :=
  List.all_eq_true.mp (Bool.and_eq_true_iff.mp hr).2 x hx

theorem State.lane_clean (s : State) (e len x : Nat) (hr : s.ready e len = true) (hx : x ∈ s.servingLanes) :
    (s.lane x).clean = true := Lane.clean_of_ready _ _ _ (s.lane_ready e len x hr hx)

/-- What every serving lane's engine is given: its lane, whatever it watches, and its engine satisfy `p`. -/
def State.inEach (s : State) (e : Nat) (p : Lane → Eng → Prop) : Prop :=
  ∀ x ∈ s.servingLanes, ∀ w, p { s.lane x with watch := w } ((s.lane x).engine e)

/-- An instruction of one code word whose body answers `h` in every serving lane, and neither spills nor fills. -/
theorem State.regOp_does (s : State) (c : Instr) (e : EngId) (cyc : Nat) (body : Body) (h : Lane → Eng → Lane × Eng)
    (hexec : exec c s = .next (s.regOp c e cyc body)) (hr : s.ready e 1 = true)
    (hb : s.inEach e fun l g => body l g = .ok (h l g)) (hm : ∀ l g, (h l g).2.r.m = g.r.m) :
    s.does e c (.next (s.did e cyc h)) := by
  intro hstands
  rw [hexec]
  exact congrArg Host.Outcome.next (State.instr_does s c e _ _ _ _ hr hstands fun x hx w => ⟨hb x hx w, hm _ _⟩)

/-- A Format M instruction whose body answers `h` in every serving lane. -/
theorem State.memOp_does (s : State) (c : Instr) (e : EngId) (o : MOp) (cyc : Nat) (body : Body) (h : Lane → Eng → Lane × Eng)
    (hexec : exec c s = .next (s.memOp c e o cyc body)) (hr : s.ready e (opLen o) = true)
    (hb : s.inEach e fun l g => body l g = .ok (h l g)) (hm : ∀ l g, (h l g).2.r.m = g.r.m) :
    s.does e c (.next (s.did e (cyc + (opLen o - 1)) h)) := by
  intro hstands
  rw [hexec]
  exact congrArg Host.Outcome.next (State.instr_does s c e _ _ _ _ hr hstands fun x hx w => ⟨hb x hx w, hm _ _⟩)

/-- A Format M instruction of one cycle retires with the cycles of its code words (R82). -/
theorem State.memOp_does_one (s : State) (c : Instr) (e : EngId) (o : MOp) (body : Body) (h : Lane → Eng → Lane × Eng)
    (hexec : exec c s = .next (s.memOp c e o 1 body)) (hr : s.ready e (opLen o) = true)
    (hb : s.inEach e fun l g => body l g = .ok (h l g)) (hm : ∀ l g, (h l g).2.r.m = g.r.m) :
    s.does e c (.next (s.did e (opLen o) h)) := by
  simpa only [one_add_opLen_sub_one] using s.memOp_does c e o 1 body h hexec hr hb hm

/-! ### Bits (R99, R103 to R105) -/

theorem readBit_clean (l : Lane) (task sp k : Nat) (hc : l.clean = true) (hk : k < spaceBits sp) :
    readBit l task sp k = .ok ((memWord l.mem (wordAddr sp task (k / 32))).getLsbD (k % 32), l) := by
  rw [readBit, if_neg (Nat.not_le.mpr hk), Lane.readW_clean l _ hc]
  rfl

theorem writeBit_clean (l : Lane) (task sp k : Nat) (b : Bool) (hc : l.clean = true) :
    writeBit l task sp k b = .ok (l.store (wordAddr sp task (k / 32))
      (setBitOf (memWord l.mem (wordAddr sp task (k / 32))) (k % 32) b)) := by
  rw [writeBit, Lane.bitWrite, Lane.readW_clean l _ hc]
  rfl

/-- The word that holds a bit operand, and the operand's bit. -/
def bitAddr (o : MOp) (g : Eng) : Nat := wordAddr o.sp.toNat g.task (opIndex o g.r / 32)
def bitOperand (o : MOp) (l : Lane) (g : Eng) : Bool := (memWord l.mem (bitAddr o g)).getLsbD (opIndex o g.r % 32)

/-- The lane with the bit operand written. -/
def putBit (o : MOp) (l : Lane) (g : Eng) (b : Bool) : Lane :=
  l.store (bitAddr o g) (setBitOf (memWord l.mem (bitAddr o g)) (opIndex o g.r % 32) b)

theorem bitReadBody_ok (o : MOp) (f : Bool → Bool → Bool) (l : Lane) (g : Eng) (hok : opCheck .bitRead o = .ok ())
    (hc : l.clean = true) (hk : opIndex o g.r < spaceBits o.sp.toNat) :
    bitReadBody o f l g = .ok (l, g.past { g.r with ba := f g.r.ba (bitOperand o l g) } (opLen o)) := by
  simp only [bitReadBody, hok, readBit_clean l _ _ _ hc hk, bind, Except.bind]
  rfl

/-- A bit-write instruction: the operand's bit where it writes one, and PC past it. -/
theorem bitWriteBody_ok (o : MOp) (f : Bool → Option Bool) (l : Lane) (g : Eng) (hok : opCheck .bitWrite o = .ok ())
    (hc : l.clean = true) (hk : opIndex o g.r < spaceBits o.sp.toNat)
    (how : o.sp.toNat = spS → inOwned l.ownedS (opIndex o g.r) = true) :
    bitWriteBody o f l g = .ok (((f g.r.ba).map (putBit o l g)).getD l, g.past g.r (opLen o)) := by
  have howned : (o.sp.toNat == spS && !inOwned l.ownedS (opIndex o g.r)) = false := by
    by_cases hsp : o.sp.toNat = spS
    · simp [how hsp]
    · simp [hsp]
  simp only [bitWriteBody, hok, bind, Except.bind, if_neg (Nat.not_le.mpr hk), howned, Bool.false_eq_true, ↓reduceIte,
    writeBit_clean l _ _ _ _ hc]
  cases f g.r.ba <;> rfl

theorem edgeBody_ok (o : MOp) (f : Bool → Bool → Bool) (l : Lane) (g : Eng) (hok : opCheck .edge o = .ok ())
    (hc : l.clean = true) (hk : opIndex o g.r < spaceBits o.sp.toNat) :
    edgeBody o f l g = .ok (putBit o l g g.r.ba, g.past { g.r with ba := f g.r.ba (bitOperand o l g) } (opLen o)) := by
  simp only [edgeBody, hok, readBit_clean l _ _ _ hc hk, writeBit_clean l _ _ _ _ hc, bind, Except.bind]
  rfl

/-- A bit-read instruction in range. -/
theorem State.bitRead_does (s : State) (c : Instr) (e : EngId) (o : MOp) (f : Bool → Bool → Bool)
    (hexec : exec c s = .next (s.memOp c e o 1 (bitReadBody o f))) (hr : s.ready e (opLen o) = true)
    (hok : opCheck .bitRead o = .ok ()) (hin : ∀ x ∈ s.servingLanes, opIndex o ((s.lane x).engine e).r < spaceBits o.sp.toNat) :
    s.does e c (.next (s.did e (opLen o) fun l g => (l, g.past { g.r with ba := f g.r.ba (bitOperand o l g) } (opLen o)))) :=
  s.memOp_does_one c e o _ _ hexec hr
    (fun x hx _ => bitReadBody_ok o f _ _ hok (s.lane_clean e _ x hr hx) (hin x hx)) fun _ _ => rfl

/-- A bit-write instruction in range and owned. -/
theorem State.bitWrite_does (s : State) (c : Instr) (e : EngId) (o : MOp) (f : Bool → Option Bool)
    (hexec : exec c s = .next (s.memOp c e o 1 (bitWriteBody o f))) (hr : s.ready e (opLen o) = true)
    (hok : opCheck .bitWrite o = .ok ()) (hin : ∀ x ∈ s.servingLanes, opIndex o ((s.lane x).engine e).r < spaceBits o.sp.toNat)
    (how : ∀ x ∈ s.servingLanes, o.sp.toNat = spS → inOwned (s.lane x).ownedS (opIndex o ((s.lane x).engine e).r) = true) :
    s.does e c (.next (s.did e (opLen o) fun l g => (((f g.r.ba).map (putBit o l g)).getD l, g.past g.r (opLen o)))) :=
  s.memOp_does_one c e o _ _ hexec hr
    (fun x hx _ => bitWriteBody_ok o f _ _ hok (s.lane_clean e _ x hr hx) (hin x hx) (how x hx)) fun _ _ => rfl

/-- An edge instruction in range. -/
theorem State.edge_does (s : State) (c : Instr) (e : EngId) (o : MOp) (f : Bool → Bool → Bool)
    (hexec : exec c s = .next (s.memOp c e o 1 (edgeBody o f))) (hr : s.ready e (opLen o) = true)
    (hok : opCheck .edge o = .ok ()) (hin : ∀ x ∈ s.servingLanes, opIndex o ((s.lane x).engine e).r < spaceBits o.sp.toNat) :
    s.does e c (.next (s.did e (opLen o) fun l g =>
      (putBit o l g g.r.ba, g.past { g.r with ba := f g.r.ba (bitOperand o l g) } (opLen o)))) :=
  s.memOp_does_one c e o _ _ hexec hr
    (fun x hx _ => edgeBody_ok o f _ _ hok (s.lane_clean e _ x hr hx) (hin x hx)) fun _ _ => rfl

/-! ### Words (R120) -/

/-- The address of a word operand. -/
def wordOperandAddr (o : MOp) (g : Eng) : Nat := wordAddr o.sp.toNat g.task (opIndex o g.r)

theorem ownedWords_true (l : Lane) (sp k n : Nat) (h : ∀ i < n, sp = spW → inOwned l.ownedW (k + i) = true) :
    ownedWords l sp k n = true := by
  by_cases hsp : sp = spW
  · simpa [ownedWords, hsp] using fun i hi => h i hi hsp
  · simp [ownedWords, hsp]

theorem wordWriteBody_ok (cls : OpClass) (n : Nat) (o : MOp) (l : Lane) (g : Eng) (hok : opCheck cls o = .ok ())
    (hk : opIndex o g.r + n ≤ spaceWords o.sp.toNat)
    (how : ∀ i < n, o.sp.toNat = spW → inOwned l.ownedW (opIndex o g.r + i) = true) :
    wordWriteBody cls n o l g = .ok (l.storeWords (wordOperandAddr o g) ([g.r.acc1, g.r.acc2].take n), g.past g.r (opLen o)) := by
  simp only [wordWriteBody, hok, bind, Except.bind, if_neg (Nat.not_lt.mpr hk), ownedWords_true l _ _ _ how, Bool.not_true,
    Bool.false_eq_true, ↓reduceIte]
  rfl

theorem State.wordWrite_does (s : State) (c : Instr) (e : EngId) (cls : OpClass) (n : Nat) (o : MOp)
    (hexec : exec c s = .next (s.memOp c e o 1 (wordWriteBody cls n o))) (hr : s.ready e (opLen o) = true)
    (hok : opCheck cls o = .ok ()) (hin : ∀ x ∈ s.servingLanes, opIndex o ((s.lane x).engine e).r + n ≤ spaceWords o.sp.toNat)
    (how : ∀ x ∈ s.servingLanes, ∀ k < n, o.sp.toNat = spW →
      inOwned (s.lane x).ownedW (opIndex o ((s.lane x).engine e).r + k) = true) :
    s.does e c (.next (s.did e (opLen o) fun l g =>
      (l.storeWords (wordOperandAddr o g) ([g.r.acc1, g.r.acc2].take n), g.past g.r (opLen o)))) :=
  s.memOp_does_one c e o _ _ hexec hr (fun x hx _ => wordWriteBody_ok cls n o _ _ hok (hin x hx) (how x hx)) fun _ _ => rfl

theorem lddBody_ok (o : MOp) (l : Lane) (g : Eng) (hok : opCheck .doubleRead o = .ok ()) (hc : l.clean = true)
    (hk : opIndex o g.r + 2 ≤ spaceWords o.sp.toNat) :
    lddBody o l g = .ok (l, g.past
      { g.r with acc1 := memWord l.mem (wordOperandAddr o g), acc2 := memWord l.mem (wordAddr o.sp.toNat g.task (opIndex o g.r + 1)) }
      (opLen o)) := by
  simp only [lddBody, hok, bind, Except.bind, if_neg (Nat.not_lt.mpr hk), Lane.readW_clean l _ hc]
  rfl

/-! ### Registers (R124 to R126) -/

/-- An instruction that computes on the registers, in a legal encoding. -/
theorem State.regBody_does (s : State) (c : Instr) (e : EngId) (ok : Bool) (f : Regs → Regs)
    (hexec : exec c s = .next (s.regOp c e 1 (regBody ok f))) (hr : s.ready e 1 = true) (hok : ok = true)
    (hm : ∀ r, (f r).m = r.m) : s.does e c (.next (s.did e 1 fun l g => (l, g.past (f g.r) 1))) :=
  s.regOp_does c e 1 _ _ hexec hr (fun _ _ _ => if_pos hok) fun _ _ => hm _

end Sys2Proof.Machine

open Sys2Proof Sys2Proof.Machine

/-- Settles O8: each instruction is the bit-read rule with its function. -/
theorem bitReadSetsBa : Obligations.BitReadSetsBa := by
  intro s e o hr hok hin bit ans
  have does (c : Instr) (f : Bool → Bool → Bool) (hexec : exec c s = .next (s.memOp c e o 1 (bitReadBody o f))) :
      s.does e c (ans f) := s.bitRead_does c e o f hexec hr hok hin
  refine ⟨?_, ?_, ?_, ?_, ?_, ?_, ?_, ?_⟩
  · exact does (.ldb e o) (fun _ v => v) rfl
  · exact does (.ldbn e o) (fun _ v => !v) rfl
  · exact does (.andBit e o) (fun ba v => ba && v) rfl
  · exact does (.andnBit e o) (fun ba v => ba && !v) rfl
  · exact does (.orBit e o) (fun ba v => ba || v) rfl
  · exact does (.ornBit e o) (fun ba v => ba || !v) rfl
  · exact does (.xorBit e o) (fun ba v => xor ba v) rfl
  · exact does (.xornBit e o) (fun ba v => xor ba (!v)) rfl

/-- Settles O9: each instruction is the bit-write or the edge rule with its function. -/
theorem bitWriteStoresBit : Obligations.BitWriteStoresBit := by
  intro s e o hr hin adr put ans
  refine ⟨fun hok how => ?_, fun hok => ?_⟩
  · have writes (c : Instr) (f : Bool → Option Bool) (h : Lane → Eng → Lane)
        (hexec : exec c s = .next (s.memOp c e o 1 (bitWriteBody o f)))
        (hf : ∀ l g, ((f g.r.ba).map (put l g)).getD l = h l g) : s.does e c (ans fun l g => (h l g, g.past g.r (opLen o))) := by
      simp only [← hf]
      exact s.bitWrite_does c e o f hexec hr hok hin how
    exact ⟨writes _ _ _ rfl fun _ _ => rfl, writes _ _ _ rfl fun _ _ => rfl,
      writes _ _ _ rfl fun _ g => by cases g.r.ba <;> rfl, writes _ _ _ rfl fun _ g => by cases g.r.ba <;> rfl⟩
  · exact ⟨s.edge_does _ e o (fun ba m => ba && !m) rfl hr hok hin, s.edge_does _ e o (fun ba m => !ba && m) rfl hr hok hin⟩

/-- Settles O15: the word-read rule for LD, two reads for LDD, the word-write rule for STW and STWD. -/
theorem loadsAndStores : Obligations.LoadsAndStores := by
  intro s e o hr sp adr fits owned ans
  refine ⟨fun hok hin => ?ld, fun hok hin => ?ldd, fun hok hin how => ?stw, fun hok hin how => ?stwd⟩
  case ld =>
    have h := s.wordRead_does_total (.ld e o) e o 1 (fun v r => { r with acc1 := v }) rfl hr hok hin fun _ _ => rfl
    rw [one_add_opLen_sub_one] at h
    exact h
  case ldd =>
    exact s.memOp_does_one (.ldd e o) e o (lddBody o) _ rfl hr
      (fun x hx _ => lddBody_ok o _ _ hok (s.lane_clean e _ x hr hx) (hin x hx)) fun _ _ => rfl
  case stw => exact s.wordWrite_does (.stw e o) e .wordWrite 1 o rfl hr hok hin how
  case stwd => exact s.wordWrite_does (.stwd e o) e .doubleWrite 2 o rfl hr hok hin how

end

section
/-! The register operations, the conversions and the shifts (R124 to R126), and the block move (R127). -/

namespace Sys2Proof.Machine

/-! ### Register codes (R124) -/

theorem getReg_eq (r : Regs) (k : Nat) (h : k < 10) :
    r.getReg k = if k = 8 then r.acc1 else if k = 9 then r.acc2 else r.getX k := by
  unfold Regs.getReg
  split
  · rw [if_neg (by omega), if_neg (by omega)]
  · split
    · rfl
    · rw [if_pos (by omega)]

theorem setReg_eq (r : Regs) (k : Nat) (w : Word) (h : k < 10) :
    r.setReg k w = if k = 8 then { r with acc1 := w } else if k = 9 then { r with acc2 := w } else r.setX k w := by
  unfold Regs.setReg
  split
  · rw [if_neg (by omega), if_neg (by omega)]
  · split
    · rfl
    · rw [if_pos (by omega)]

theorem setReg_m (r : Regs) (k : Nat) (w : Word) : (r.setReg k w).m = r.m := by
  unfold Regs.setReg
  split
  · rfl
  · split <;> rfl

/-- The fields of a register operation that names `dst`, and has `low` below it. -/
theorem regFields (dst low : Nat) (hd : dst < 10) (hl : low < 65536) :
    dstOf (BitVec.ofNat 20 (65536 * dst + low)) = dst ∧ srcOf (BitVec.ofNat 20 (65536 * dst + low)) = low / 4096 ∧
      immOf (BitVec.ofNat 20 (65536 * dst + low)) = BitVec.ofNat 12 low := by
  have hnat : (BitVec.ofNat 20 (65536 * dst + low)).toNat = 65536 * dst + low := by
    rw [BitVec.toNat_ofNat, Nat.mod_eq_of_lt (by omega)]
  refine ⟨?_, ?_, ?_⟩
  · rw [dstOf, hnat]
    omega
  · rw [srcOf, hnat]
    omega
  · apply BitVec.eq_of_toNat_eq
    rw [immOf, BitVec.extractLsb'_toNat, hnat, BitVec.toNat_ofNat, Nat.shiftRight_zero]
    omega

theorem aluInv_eq (r : Regs) :
    aluInv r = { r with acc1 := ~~~r.acc1, c := false, v := false, z := ~~~r.acc1 == 0, n := (~~~r.acc1).msb } := by
  simp [aluInv, aluLogic, Regs.flags32, Regs.flags]

/-! ### Conversions (R126) -/

/-- The low bits of a word by a mask. -/
theorem and_lowBits (w : Word) (k : Nat) (h : k ≤ 32 := by decide) :
    w &&& BitVec.ofNat 32 (2 ^ k - 1) = BitVec.ofNat 32 (w.toNat % 2 ^ k) := by
  have hk : 2 ^ k - 1 < 2 ^ 32 := Nat.sub_one_lt_of_le (Nat.two_pow_pos k) (Nat.pow_le_pow_right (by decide) h)
  apply BitVec.eq_of_toNat_eq
  rw [BitVec.toNat_and, BitVec.toNat_ofNat, Nat.mod_eq_of_lt hk, Nat.and_two_pow_sub_one_eq_mod, BitVec.toNat_ofNat,
    Nat.mod_eq_of_lt (Nat.lt_of_le_of_lt (Nat.mod_le _ _) w.isLt)]

theorem extractLsb'_zero_eq {n : Nat} (w : BitVec n) (k : Nat) : w.extractLsb' 0 k = w.setWidth k := by
  apply BitVec.eq_of_toNat_eq
  simp

theorem bytesWord_low (a b : Byte) : bytesWord a b 0 0 = (b ++ a).setWidth 32 := by
  apply BitVec.eq_of_toNat_eq
  have hlt : (b ++ a).toNat < 2 ^ 32 := Nat.lt_trans (b ++ a).isLt (by decide)
  rw [BitVec.toNat_setWidth, Nat.mod_eq_of_lt hlt]
  rw [bytesWord, BitVec.toNat_append, BitVec.toNat_append]
  simpa using (BitVec.toNat_append b a).symm

theorem convZx8_eq (r : Regs) : convZx8 r = convResult (BitVec.ofNat 32 (r.acc1.toNat % 256)) false r :=
  congrArg (convResult · false r) (and_lowBits r.acc1 8)

theorem convZx16_eq (r : Regs) : convZx16 r = convResult (BitVec.ofNat 32 (r.acc1.toNat % 65536)) false r :=
  congrArg (convResult · false r) (and_lowBits r.acc1 16)

theorem convBsw32_eq (r : Regs) :
    convBsw32 r = convResult (r.acc1.setWidth 8 ++ r.acc1.extractLsb' 8 8 ++ r.acc1.extractLsb' 16 8 ++ r.acc1.extractLsb' 24 8)
      false r := by
  rw [convBsw32, byteSwap, bytesWord, extractLsb'_zero_eq]

theorem convBsw16_eq (r : Regs) :
    convBsw16 r = convResult ((r.acc1.setWidth 8 ++ r.acc1.extractLsb' 8 8).setWidth 32) false r := by
  rw [convBsw16, bytesWord_low, extractLsb'_zero_eq]

/-! ### Shifts (R125) -/

theorem flags32_m (r : Regs) (c v : Bool) (x : Word) : (r.flags32 c v x).m = r.m := rfl

/-- The flags of a shift: V is 0, and SV stays. -/
theorem flags_shift (r : Regs) (c z n : Bool) : r.flags c false z n = { r with c := c, v := false, z := z, n := n } := by
  simp [Regs.flags]

/-- The last bit out, and none for a count of 0. -/
theorem bne_zero_and (n : Nat) (b : Bool) : (n != 0 && b) = if n = 0 then false else b := by
  by_cases h : n = 0 <;> simp [h]

/-! ### The block move (R127) -/

/-- A store keeps a lane without memory errors. -/
theorem Lane.clean_store (l : Lane) (a : Nat) (w : Word) (hc : l.clean = true) : (l.store a w).clean = true := by
  have hset (m : Lane) (b : Nat) (hm : m.clean = true) : (m.setWord b w).clean = true := by
    simp only [Lane.clean, Bool.and_eq_true, List.isEmpty_iff] at hm ⊢
    simp [Lane.setWord, hm.1, hm.2]
  unfold Lane.store
  dsimp only
  split
  · split
    · exact hset _ _ (hset _ _ hc)
    · exact hset _ _ hc
  · exact hset _ _ hc

/-- The words of a block move in a lane without memory errors. -/
theorem bmovWords_clean (task ssp dsp s d n : Nat) (l : Lane) (hc : l.clean = true) :
    bmovWords task ssp dsp l s d n = .ok ((List.range n).foldl
      (fun m k => m.store (wordAddr dsp task (d + k)) (memWord m.mem (wordAddr ssp task (s + k)))) l) := by
  induction n generalizing l s d with
  | zero => rfl
  | succ n ih =>
    rw [bmovWords, Lane.readW_clean l _ hc]
    dsimp only
    rw [ih (s + 1) (d + 1) _ (Lane.clean_store l _ _ hc), List.range_succ_eq_map, List.foldl_cons, List.foldl_map]
    simp only [Nat.add_zero, Nat.succ_eq_add_one, Nat.add_assoc, Nat.add_comm 1, Lane.word]

/-- The operands of a block move in its first code word. -/
theorem bmovFields (ssp dsp xs xd : Nat) (hs : ssp < 16) (hd : dsp < 16) (hxs : xs < 8) (hxd : xd < 8) :
    (BitVec.ofNat 26 (65536 * ssp + 4096 * dsp + 512 * xs + 64 * xd)).toNat = 65536 * ssp + 4096 * dsp + 512 * xs + 64 * xd := by
  rw [BitVec.toNat_ofNat, Nat.mod_eq_of_lt (by omega)]

theorem bmovBody_ok (ssp dsp xs xd n : Nat) (l : Lane) (g : Eng) (hs : ssp ∈ [0, 1, 2, 3, 5, 8]) (hd : dsp ∈ [1, 2, 3, 5, 8])
    (hxs : xs < 8) (hxd : xd < 8) (hn : 1 ≤ n) (hn' : n ≤ 256) (hc : l.clean = true)
    (hin : (g.r.getX xs).toNat + n ≤ spaceWords ssp ∧ (g.r.getX xd).toNat + n ≤ spaceWords dsp)
    (how : dsp = spW → ∀ k < n, inOwned l.ownedW ((g.r.getX xd).toNat + k) = true) :
    bmovBody (BitVec.ofNat 26 (65536 * ssp + 4096 * dsp + 512 * xs + 64 * xd)) (BitVec.ofNat 32 n) l g
      = .ok ((List.range n).foldl (fun m k => m.store (wordAddr dsp g.task ((g.r.getX xd).toNat + k))
          (memWord m.mem (wordAddr ssp g.task ((g.r.getX xs).toNat + k)))) l, (g.past g.r 2).extra (3 + n)) := by
  have hssp : ssp < 16 := by simp at hs; omega
  have hdsp : dsp < 16 := by simp at hd; omega
  have hdst : dsp ∈ [1, 2, 3, 5, 8, 0, 9, 10] ∧ dsp ∉ [0, 9, 10] := by simp at hd ⊢; omega
  have hext : (BitVec.ofNat 32 n).toNat = n := by rw [BitVec.toNat_ofNat, Nat.mod_eq_of_lt (by omega)]
  have hwords := bmovFields ssp dsp xs xd hssp hdsp hxs hxd
  generalize hw : 65536 * ssp + 4096 * dsp + 512 * xs + 64 * xd = w at hwords ⊢
  obtain ⟨h1, h2, h3, h4, h5, h6⟩ : w / 2 ^ 20 = 0 ∧ w / 2 ^ 16 % 16 = ssp ∧ w / 2 ^ 12 % 16 = dsp ∧ w / 2 ^ 9 % 8 = xs ∧
      w / 2 ^ 6 % 8 = xd ∧ w % 64 = 0 := by omega
  have hlegal : ¬((0 : Nat) ≠ 0 ∨ (0 : Nat) ≠ 0 ∨ n = 0 ∨ 256 < n) := by omega
  have hrange : ¬(spaceWords ssp < (g.r.getX xs).toNat + n ∨ spaceWords dsp < (g.r.getX xd).toNat + n) := by omega
  have howned : ownedWords l dsp (g.r.getX xd).toNat n = true := ownedWords_true l _ _ _ fun i hi hsp => how hsp i hi
  simp only [bmovBody, hwords, hext, h1, h2, h3, h4, h5, h6, if_neg hlegal, if_neg hrange, howned, List.contains_iff_mem.mpr hs,
    List.contains_iff_mem.mpr hdst.1, List.contains_eq_mem, hdst.2, decide_false, Bool.not_true, Bool.false_eq_true, ↓reduceIte,
    bmovWords_clean _ _ _ _ _ _ l hc, bind, Except.bind]
  rfl

end Sys2Proof.Machine

open Sys2Proof Sys2Proof.Machine

/-- Settles O18: each instruction computes on the registers in a legal encoding; its fields and flags are those of R124 and R126. -/
theorem registersAndConversions : Obligations.RegistersAndConversions := by
  refine ⟨fun s e hr => ?regs, fun s e hr => ?convs⟩
  case regs =>
    intro ans get set most
    have does (c : Instr) (ok : Bool) (f : Regs → Regs) (hexec : exec c s = .next (s.regOp c e 1 (regBody ok f))) (hok : ok = true)
        (hm : ∀ r, (f r).m = r.m) : s.does e c (ans f) := s.regBody_does c e ok f hexec hr hok hm
    refine ⟨fun dst src => ?mov, fun dst imm => ?addi, ?swap, ?neg, ?inv, ?abs, ?sext⟩
    case mov =>
      obtain ⟨hd, hs, hi⟩ := regFields dst.val (4096 * src.val) dst.isLt (by omega)
      have hsrc : 4096 * src.val / 4096 = src.val := by omega
      have himm : BitVec.ofNat 12 (4096 * src.val) = 0 := by
        apply BitVec.eq_of_toNat_eq
        simp
      have h := does (.mov e (BitVec.ofNat 20 (65536 * dst.val + 4096 * src.val))) _ _ rfl
        (by rw [hd, hs, hi, himm, hsrc]; simp; omega) (fun r => setReg_m _ _ _)
      simpa only [hd, hs, hsrc, setReg_eq _ _ _ dst.isLt, getReg_eq _ _ src.isLt] using h
    case addi =>
      obtain ⟨hd, hs, hi⟩ := regFields dst.val imm.toNat dst.isLt (by omega)
      have hsrc : imm.toNat / 4096 = 0 := by omega
      have himm : BitVec.ofNat 12 imm.toNat = imm := by simp
      have h := does (.addi e (BitVec.ofNat 20 (65536 * dst.val + imm.toNat))) _ _ rfl
        (by rw [hd, hs, hsrc]; simp; omega) (fun r => setReg_m _ _ _)
      simpa only [hd, hi, himm, setReg_eq _ _ _ dst.isLt, getReg_eq _ _ dst.isLt] using h
    case swap => exact does (.swap e 0) _ (fun r => { r with acc1 := r.acc2, acc2 := r.acc1 }) rfl rfl fun _ => rfl
    case neg => exact does (.neg e 0) _ aluNeg rfl rfl fun _ => rfl
    case inv =>
      have h := does (.inv e 0) _ aluInv rfl rfl fun _ => rfl
      rwa [show aluInv = _ from funext aluInv_eq] at h
    case abs => exact does (.abs e 0) _ aluAbs rfl rfl fun _ => rfl
    case sext => exact does (.sext e 0) _ aluSext rfl rfl fun _ => rfl
  case convs =>
    intro ans no sat cut d
    have does (c : Instr) (g : Regs → Regs) (f : Regs → Word) (v : Regs → Bool)
        (hexec : exec c s = .next (s.regOp c e 1 (convBody 0 g))) (hg : ∀ r, g r = convResult (f r) (v r) r) : s.does e c (ans f v) := by
      obtain rfl : g = fun r => convResult (f r) (v r) r := funext hg
      exact s.regBody_does c e ((0 : BitVec 20) == 0) (fun r => convResult (f r) (v r) r) hexec hr rfl fun _ => rfl
    refine ⟨?sx8, ?sx16, ?zx8, ?zx16, ?sat16, ?satu16, ?sat64, ?bsw32, ?bsw16, ?sx48⟩
    case sx8 => exact does (.sx8 e 0) convSx8 (fun r => (r.acc1.setWidth 8).signExtend 32) no rfl fun _ => rfl
    case sx16 => exact does (.sx16 e 0) convSx16 (fun r => (r.acc1.setWidth 16).signExtend 32) no rfl fun _ => rfl
    case zx8 => exact does (.zx8 e 0) convZx8 (fun r => BitVec.ofNat 32 (r.acc1.toNat % 256)) no rfl convZx8_eq
    case zx16 => exact does (.zx16 e 0) convZx16 (fun r => BitVec.ofNat 32 (r.acc1.toNat % 65536)) no rfl convZx16_eq
    case sat16 =>
      exact does (.sat16 e 0) convSat16 (fun r => sat (-32768) 32767 r.acc1.toInt)
        (fun r => cut (-32768) 32767 r.acc1.toInt) rfl fun _ => rfl
    case satu16 =>
      exact does (.satu16 e 0) convSatu16 (fun r => sat 0 65535 r.acc1.toInt)
        (fun r => cut 0 65535 r.acc1.toInt) rfl fun _ => rfl
    case sat64 =>
      exact does (.sat64 e 0) convSat64 (fun r => sat (-2147483648) 2147483647 (d r))
        (fun r => cut (-2147483648) 2147483647 (d r)) rfl fun _ => rfl
    case bsw32 =>
      exact does (.bsw32 e 0) convBsw32 (fun r => r.acc1.setWidth 8 ++ r.acc1.extractLsb' 8 8 ++
        r.acc1.extractLsb' 16 8 ++ r.acc1.extractLsb' 24 8) no rfl convBsw32_eq
    case bsw16 =>
      exact does (.bsw16 e 0) convBsw16 (fun r => (r.acc1.setWidth 8 ++ r.acc1.extractLsb' 8 8).setWidth 32) no rfl convBsw16_eq
    case sx48 => exact s.regBody_does (.sx48 e 0) e _ convSx48 rfl hr rfl fun _ => rfl

/-- Settles O19: the shift bodies in a legal encoding, with the flags of R125. -/
theorem shifts : Obligations.Shifts := by
  intro s e low hr hzero rc cnt ans ans64
  refine ⟨fun hcnt hrc => ?_, fun hrc => ?_⟩
  · have hok : shift32Ok low = true := by
      have hcount : (!rcOf low || cntOf low == 0) = true := by
        cases h : rcOf low
        · rfl
        · simpa [cntOf] using hrc h
      have hlow : cntOf low < 32 := hcnt
      simp [shift32Ok, hzero, hlow, hcount]
    have does (c : Instr) (f : Word → Nat → Word) (out : Word → Nat → Bool)
        (hexec : exec c s = .next (s.regOp c e 1 (shift32Body low f out))) : s.does e c (ans f out) := by
      have h := s.regBody_does c e _ _ hexec hr hok fun r => rfl
      simp only [Regs.flags32, flags_shift, bne_zero_and] at h
      exact h
    exact ⟨does (.shl e low) (fun w n => w <<< n) outLeft rfl, does (.shr e low) (fun w n => w >>> n) outRight rfl,
      does (.sar e low) (fun w n => w.sshiftRight n) outRight rfl, does (.rol e low) (fun w n => w.rotateLeft n) outLeft rfl,
      does (.ror e low) (fun w n => w.rotateRight n) outRight rfl⟩
  · have hok : shift64Ok low = true := by
      have hrc' : rcOf low = false := hrc
      simp [shift64Ok, hzero, hrc']
    have does (c : Instr) (f : BitVec 64 → Nat → BitVec 64) (out : BitVec 64 → Nat → Bool)
        (hexec : exec c s = .next (s.regOp c e 1 (shift64Body low f out))) :
        s.does e c (ans64 (fun d => f d cnt) (fun d => out d cnt)) := by
      have h := s.regBody_does c e _ _ hexec hr hok fun r => rfl
      simp only [flags_shift, bne_zero_and, extractLsb'_zero_eq] at h
      exact h
    exact ⟨does (.shl64 e low) (fun d n => d <<< n) outLeft rfl, does (.shr64 e low) (fun d n => d >>> n) outRight rfl,
      does (.sar64 e low) (fun d n => d.sshiftRight n) outRight rfl⟩

/-- Settles O20: the words of the body, one after the other. -/
theorem blockMove : Obligations.BlockMove := by
  intro s e ssp dsp xs xd n hr hs hd hxs hxd hn hn' hin hstands
  refine congrArg Host.Outcome.next (State.instr_does s _ e 2 0 _ _ hr hstands fun x hx w => ⟨?_, rfl⟩)
  obtain ⟨hsrc, hdst, how⟩ := hin x hx
  exact bmovBody_ok ssp dsp xs xd n _ _ hs hd hxs hxd hn hn' (s.lane_clean e 2 x hr hx) ⟨hsrc, hdst⟩ how

end

section
/-! The branch stack (R63 to R65, R100, R101), program flow (R108 to R111) and the end of an activation (R112). -/

namespace Sys2Proof.Machine

/-! ### Instructions that spill or fill -/

/-- An instruction on an engine that is ready for it, whose body answers: a spill or a fill shows TRAP for its cycles. -/
theorem Lane.instr_ready_trapped (l : Lane) (ph : Phase) (e t len cyc : Nat) (body : Body) (l1 : Lane) (g1 : Eng)
    (h : l.ready e len = true) (hb : body l (l.engine e) = .ok (l1, g1)) :
    l.instr ph e t len cyc body = l1.setEngine e ((g1.trapped (l.engine e) t).retire cyc) := by
  simp only [Lane.ready, Bool.and_eq_true, Bool.not_eq_true', decide_eq_true_eq, beq_iff_eq] at h
  obtain ⟨⟨⟨⟨⟨hr, hf⟩, hp⟩, h0⟩, h1⟩, hc⟩ := h
  unfold Lane.instr
  simp only [Lane.takeInputs_taken l e hf, hr, bne_self_eq_false, Bool.false_eq_true, ↓reduceIte,
    Lane.fetch_ready l _ len hc h0 h1, hb]
  simp [Lane.mirrorPair, hp]

/-- An operation on the lanes that have come to `c` is, where every serving lane has, that operation on every one. -/
theorem State.codeOp_live (s : State) (c : Instr) (e : EngId) (g h : Lane → Lane) (hlive : s.live = true)
    (hs : ∀ x ∈ s.servingLanes, (s.lane x).stands e c = true)
    (hg : ∀ x ∈ s.servingLanes, ∀ w, g { s.lane x with watch := w } = h { s.lane x with watch := w }) :
    s.codeOp c e g = s.after (s.onLanes h) s.lt := by
  unfold State.codeOp
  rw [State.engineDo_live _ _ hlive]
  congr 1
  refine State.onLanes_congr _ _ _ fun x hx w => ?_
  have hs' : ({ s.lane x with watch := w } : Lane).stands e c = true := hs x hx
  rw [if_pos hs', hg x hx w]

theorem State.codeOp_stands (s : State) (c : Instr) (e : EngId) (g h : Lane → Lane) (len : Nat) (hr : s.ready e len = true)
    (hs : ∀ x ∈ s.servingLanes, (s.lane x).stands e c = true)
    (hg : ∀ x ∈ s.servingLanes, ∀ w, g { s.lane x with watch := w } = h { s.lane x with watch := w }) :
    s.codeOp c e g = s.after (s.onLanes h) s.lt :=
  s.codeOp_live c e g h (Bool.and_eq_true_iff.mp hr).1 hs hg

/-- An instruction of one code word whose body answers in every serving lane, with the mark of its spill or fill. -/
theorem State.regOp_traps (s : State) (c : Instr) (e : EngId) (cyc : Nat) (body : Body) (h : Lane → Eng → Lane × Eng)
    (hexec : exec c s = .next (s.regOp c e cyc body)) (hr : s.ready e 1 = true)
    (hb : s.inEach e fun l g => ∃ l1 g1, body l g = .ok (l1, g1) ∧ h l g = (l1, g1.trapped g s.lt)) :
    s.does e c (.next (s.did e cyc h)) := by
  intro hs
  rw [hexec]
  refine congrArg Host.Outcome.next (s.codeOp_stands c e _ _ 1 hr hs fun x hx w => ?_)
  obtain ⟨l1, g1, hbody, hh⟩ := hb x hx w
  have hready : ({ s.lane x with watch := w } : Lane).ready e 1 = true := s.lane_ready e 1 x hr hx
  exact (Lane.instr_ready_trapped _ _ _ _ _ _ _ l1 g1 hready hbody).trans
    (congrArg (fun p : Lane × Eng => p.1.setEngine e (p.2.retire cyc)) hh).symm

/-! ### The branch stack -/

/-- What the body of an instruction does with the hardware entries alone shows no TRAP. -/
theorem Eng.trapped_same (g g0 : Eng) (t : Nat) (h : g.r.m = g0.r.m) : g.trapped g0 t = g := if_pos h

theorem readWords_clean (l : Lane) (a n : Nat) (hc : l.clean = true) :
    l.readWords a n = .ok ((List.range n).map fun k => memWord l.mem (a + 4 * k), l) := by
  induction n generalizing a with
  | zero => rfl
  | succ n ih =>
    rw [Lane.readWords, Lane.readW_clean l _ hc]
    dsimp only
    rw [ih (a + 4), List.range_succ_eq_map, List.map_cons, List.map_map]
    simp only [Function.comp_def, Nat.mul_zero, Nat.add_zero, Nat.succ_eq_add_one, Nat.mul_add, Nat.mul_one, Lane.word,
      Nat.add_assoc, Nat.add_comm 4]

/-- The entry a branch leaves. -/
theorem branchEntry_eq (op : Nat) (ba : Bool) : branchEntry op ba = BitVec.ofNat 4 (2 * op + ba.toNat) := by
  cases ba <;> simp [branchEntry, Nat.mul_comm]

theorem branchEntry_fields (op : Nat) (ba : Bool) (h : op < 6) :
    (BitVec.ofNat 4 (2 * op + ba.toNat)).toNat / 2 = op ∧ (BitVec.ofNat 4 (2 * op + ba.toNat)).getLsbD 0 = ba := by
  have hall : ∀ op < 6, ∀ ba : Bool, (BitVec.ofNat 4 (2 * op + ba.toNat)).toNat / 2 = op ∧
      (BitVec.ofNat 4 (2 * op + ba.toNat)).getLsbD 0 = ba := by decide
  exact hall op h ba

/-- A branch that opens with room in the hardware entries. -/
theorem branchOpenBody_room (op : Nat) (l : Lane) (g : Eng) (hroom : g.r.hw.length < 14) (hdepth : g.r.depth < 255) :
    branchOpenBody op 0 l g
      = .ok (l, g.past { g.r with hw := g.r.hw ++ [BitVec.ofNat 4 (2 * op + g.r.ba.toNat)], ba := false } 1) := by
  have hlen : ¬(g.r.hw ++ [branchEntry op g.r.ba]).length = 15 := by simp; omega
  simp only [branchOpenBody, pushEntry, if_neg (Nat.ne_of_lt hdepth), if_neg hlen, ← branchEntry_eq]
  rfl

/-- A branch that opens at hardware entry 15: the eight oldest go to the spill area in 10 cycles. -/
theorem branchOpenBody_spill (op : Nat) (l : Lane) (g : Eng) (hfull : g.r.hw.length = 14) (hdepth : g.r.depth < 255) :
    branchOpenBody op 0 l g
      = .ok (l.storeWords (stackBase g.task + 4 * g.r.m) ((g.r.hw.take 8).map (·.setWidth 32)),
          (g.past { g.r with hw := g.r.hw.drop 8 ++ [BitVec.ofNat 4 (2 * op + g.r.ba.toNat)], m := g.r.m + 8, ba := false } 1).extra 10) := by
  have hlen : (g.r.hw ++ [branchEntry op g.r.ba]).length = 15 := by simp [hfull]
  have htake : (g.r.hw ++ [branchEntry op g.r.ba]).take 8 = g.r.hw.take 8 := List.take_append_of_le_length (by omega)
  have hdrop : (g.r.hw ++ [branchEntry op g.r.ba]).drop 8 = g.r.hw.drop 8 ++ [branchEntry op g.r.ba] :=
    List.drop_append_of_le_length (by omega)
  simp only [branchOpenBody, pushEntry, if_neg (Nat.ne_of_lt hdepth), if_pos hlen, htake, hdrop, ← branchEntry_eq]
  rfl

/-- BA after a branch closes: the pending operation of the saved BA and BA (R101). -/
def closedBa (op : Nat) (saved ba : Bool) : Bool :=
  [saved && ba, saved && !ba, saved || ba, saved || !ba, xor saved ba, xor saved (!ba)].getD op false

theorem applyPending_eq (op : Nat) (saved ba : Bool) (h : op < 6) : applyPending op saved ba = some (closedBa op saved ba) := by
  obtain rfl | rfl | rfl | rfl | rfl | rfl : op = 0 ∨ op = 1 ∨ op = 2 ∨ op = 3 ∨ op = 4 ∨ op = 5 := by omega
  all_goals rfl

/-- BEND in a lane, as far as the pop decides it. -/
theorem bendBody_pop (op : Nat) (saved : Bool) (hop : op < 6) (l : Lane) (g : Eng) (hw : List (BitVec 4))
    (htop : g.r.hw = hw ++ [BitVec.ofNat 4 (2 * op + saved.toNat)]) (l1 : Lane) (g1 : Eng) (hpop : popEntry l g = .ok (l1, g1)) :
    bendBody 0 l g = .ok (l1, g1.past { g1.r with ba := closedBa op saved g.r.ba } 1) := by
  have hdepth : ¬g.r.depth = 0 := by simp [Regs.depth, htop]
  have hlast : g.r.hw.getLastD 0 = BitVec.ofNat 4 (2 * op + saved.toNat) := by rw [htop]; simp
  obtain ⟨h1, h2⟩ := branchEntry_fields op saved hop
  simp only [bendBody, topEntry, if_neg hdepth, hlast, bind, Except.bind, h1, h2, applyPending_eq op saved _ hop, hpop]
  rfl

/-- A pop that leaves two hardware entries, or has none to fill. -/
theorem popEntry_kept (l : Lane) (g : Eng) (hdepth : g.r.depth ≠ 0) (h : 2 ≤ g.r.hw.dropLast.length ∨ g.r.m = 0) :
    popEntry l g = .ok (l, { g with r := { g.r with hw := g.r.hw.dropLast } }) := by
  unfold popEntry
  rw [if_neg hdepth, if_neg (by omega)]

/-- A pop that leaves fewer than two hardware entries fills up to eight spilled ones back, in 2 + n cycles. -/
theorem popEntry_fills (l : Lane) (g : Eng) (hc : l.clean = true) (hdepth : g.r.depth ≠ 0) (h : g.r.hw.dropLast.length < 2)
    (hm : g.r.m ≠ 0) :
    popEntry l g = .ok (l, { g with
      r := { g.r with
        hw := ((List.range (min 8 g.r.m)).map fun k => (memWord l.mem (stackBase g.task + 4 * (g.r.m - min 8 g.r.m + k))).setWidth 4)
          ++ g.r.hw.dropLast,
        m := g.r.m - min 8 g.r.m },
      act := { g.act with cycles := g.act.cycles + 2 + min 8 g.r.m } }) := by
  unfold popEntry
  rw [if_neg hdepth, if_pos ⟨h, Nat.pos_of_ne_zero hm⟩]
  dsimp only
  rw [readWords_clean l _ _ hc]
  simp only [List.map_map, Function.comp_def, Nat.mul_add, Nat.add_assoc]

/-! ### Conditions, loops (R97, R108, R111) -/

/-- The truth of the condition codes that are not reserved. -/
def condTruth (c : Nat) (r : Regs) : Bool :=
  [true, r.ba, !r.ba, r.z, !r.z, r.n, !r.n, r.c, !r.c, r.v, !r.z && !r.n, r.z || r.n].getD c false

theorem condHolds_eq (c : Nat) (r : Regs) (h : c < 12) : condHolds c r = some (condTruth c r) := by
  obtain rfl | rfl | rfl | rfl | rfl | rfl | rfl | rfl | rfl | rfl | rfl | rfl : c = 0 ∨ c = 1 ∨ c = 2 ∨ c = 3 ∨ c = 4 ∨ c = 5 ∨
      c = 6 ∨ c = 7 ∨ c = 8 ∨ c = 9 ∨ c = 10 ∨ c = 11 := by omega
  all_goals rfl

theorem ldcBody_ok (c : Nat) (hc : c < 12) (l : Lane) (g : Eng) :
    ldcBody (BitVec.ofNat 20 c) l g = .ok (l, g.past { g.r with ba := condTruth c g.r } 1) := by
  have hnat : (BitVec.ofNat 20 c).toNat = c := by rw [BitVec.toNat_ofNat, Nat.mod_eq_of_lt (by omega)]
  rw [ldcBody, hnat, if_neg (by omega), condHolds_eq _ _ hc]
  rfl

end Sys2Proof.Machine

open Sys2Proof Sys2Proof.Machine

/-- Settles O10: a branch opens with a push and closes with a pop of its entry; the others compute on BA and SV. -/
theorem branchStackAndStatus : Obligations.BranchStackAndStatus := by
  refine ⟨fun s e hr => ⟨fun hroom => ?_, fun hfull => ?_, fun op saved hop hin => ?_, fun op saved hop hin => ?_⟩, fun s e hr => ?_⟩
  · intro ans
    have opens (c : Instr) (op : Nat) (hexec : exec c s = .next (s.regOp c e 1 (branchOpenBody op 0))) : s.does e c (ans op) :=
      s.regOp_does c e 1 _ _ hexec hr (fun x hx _ => branchOpenBody_room op _ _ (hroom x hx).1 (hroom x hx).2) fun _ _ => rfl
    exact ⟨opens (.band e 0) 0 rfl, opens (.bandn e 0) 1 rfl, opens (.bor e 0) 2 rfl, opens (.born e 0) 3 rfl,
      opens (.bxor e 0) 4 rfl, opens (.bxorn e 0) 5 rfl⟩
  · intro ans
    have opens (c : Instr) (op : Nat) (hexec : exec c s = .next (s.regOp c e 1 (branchOpenBody op 0))) : s.does e c (ans op) := by
      refine s.regOp_traps c e 1 _ _ hexec hr fun x hx w =>
        ⟨_, _, branchOpenBody_spill op _ _ (hfull x hx).1 (hfull x hx).2, Prod.ext rfl ?_⟩
      rw [Eng.trapped, if_neg (by simp [Eng.past, Eng.extra])]
      simp [Eng.past, Eng.extra]
    exact ⟨opens (.band e 0) 0 rfl, opens (.bandn e 0) 1 rfl, opens (.bor e 0) 2 rfl, opens (.born e 0) 3 rfl,
      opens (.bxor e 0) 4 rfl, opens (.bxorn e 0) 5 rfl⟩
  · refine s.regOp_traps (.bend e 0) e 1 (bendBody 0) _ rfl hr fun x hx w => ?_
    obtain ⟨hw, htop, hlen, hm⟩ := hin x hx
    have hdepth : ((s.lane x).engine e).r.depth ≠ 0 := by simp [Regs.depth, htop]
    refine ⟨_, _, bendBody_pop op saved hop _ _ hw htop _ _
      (popEntry_fills _ _ (s.lane_clean e 1 x hr hx) hdepth (by simpa [htop] using hlen) hm), Prod.ext rfl ?_⟩
    rw [Eng.trapped, if_neg (by simp [Eng.past]; omega)]
    simp [Eng.past, Eng.extra, Nat.add_assoc, closedBa]
  · refine s.regOp_traps (.bend e 0) e 1 (bendBody 0) _ rfl hr fun x hx w => ?_
    obtain ⟨hw, htop, hlen⟩ := hin x hx
    have hdepth : ((s.lane x).engine e).r.depth ≠ 0 := by simp [Regs.depth, htop]
    exact ⟨_, _, bendBody_pop op saved hop _ _ hw htop _ _ (popEntry_kept _ _ hdepth (by simpa [htop] using hlen)),
      Prod.ext rfl (Eng.trapped_same _ _ _ rfl).symm⟩
  · intro ans
    have does (c : Instr) (f : Regs → Regs) (hexec : exec c s = .next (s.regOp c e 1 (regBody true f))) (hm : ∀ r, (f r).m = r.m) :
        s.does e c (ans f) := s.regBody_does c e true f hexec hr rfl hm
    refine ⟨does (.clrb e 0) (fun r => { r with ba := false }) rfl fun _ => rfl,
      does (.setb e 0) (fun r => { r with ba := true }) rfl fun _ => rfl,
      does (.notBa e 0) (fun r => { r with ba := !r.ba }) rfl fun _ => rfl,
      does (.ldsv e 0) (fun r => { r with ba := r.sv, sv := false }) rfl fun _ => rfl,
      does (.nop e 0) (fun r => r) rfl fun _ => rfl, fun c => ?_⟩
    exact s.regOp_does (.ldc e (BitVec.ofNat 20 c.val)) e 1 (ldcBody (BitVec.ofNat 20 c.val)) _ rfl hr
      (fun _ _ _ => ldcBody_ok c.val c.isLt _ _) fun _ _ => rfl

end

section
/-! Program flow (R108 to R111) and the end of an activation (R112). -/

namespace Sys2Proof.Machine

theorem jmpBody_ok (c : Nat) (hc : c < 12) (target : BitVec 22) (l : Lane) (g : Eng)
    (hin : condTruth c g.r = true → target.toNat < codeWords) :
    jmpBody (BitVec.ofNat 4 c) target l g = .ok (l, if condTruth c g.r then (g.goto target).extra 1 else g.past g.r 1) := by
  have hnat : (BitVec.ofNat 4 c).toNat = c := by rw [BitVec.toNat_ofNat, Nat.mod_eq_of_lt (by omega)]
  rw [jmpBody, hnat, condHolds_eq c _ hc]
  cases h : condTruth c g.r
  · rfl
  · exact if_neg (Nat.not_le.mpr (hin h))

theorem callBody_ok (target : BitVec 22) (l : Lane) (g : Eng) (hin : target.toNat < codeWords) (hf : g.r.frames ≠ 1920) :
    callBody 0 target l g = .ok ((l.store (frameAddr g.task g.r.frames) (BitVec.ofNat 32 (g.r.pc.toNat + 1))).store
      (frameAddr g.task g.r.frames + 4) (BitVec.ofNat 32 g.r.depth),
      { g with r := { g.r with frames := g.r.frames + 1, pc := target } }) := by
  have hf' : ¬g.r.frames = maxFrames := hf
  simp only [callBody, if_neg (Nat.not_le.mpr hin), if_neg hf']
  rfl

theorem retBody_ok (l : Lane) (g : Eng) (hc : l.clean = true) (hf : g.r.frames ≠ 0)
    (hd : (memWord l.mem (frameAddr g.task (g.r.frames - 1) + 4)).toNat % 256 = g.r.depth)
    (hin : (memWord l.mem (frameAddr g.task (g.r.frames - 1))).toNat % 4194304 < codeWords) :
    retBody 0 l g = .ok (l, { g with r := { g.r with frames := g.r.frames - 1,
                                                     pc := (memWord l.mem (frameAddr g.task (g.r.frames - 1))).setWidth 22 } }) := by
  have hd' : ¬fieldOf (memWord l.mem (frameAddr g.task (g.r.frames - 1) + 4)) 7 0 ≠ g.r.depth := by simpa [fieldOf] using hd
  have hin' : ¬codeWords ≤ fieldOf (memWord l.mem (frameAddr g.task (g.r.frames - 1))) 21 0 := by simpa [fieldOf] using hin
  simp only [retBody, if_neg hf, Lane.readW_clean l _ hc, Lane.word, bind, Except.bind, if_neg hd', if_neg hin']
  rfl

theorem reptBody_ok (n : Nat) (hn : n < 8) (target : BitVec 22) (l : Lane) (g : Eng)
    (hin : 1 < (g.r.getX n).toNat → target.toNat < codeWords) :
    reptBody (BitVec.ofNat 4 n) target l g = .ok (l, if g.r.getX n = 0 then g.past g.r 1
      else if g.r.getX n = 1 then g.past (g.r.setX n 0) 1
      else ({ g with r := g.r.setX n (g.r.getX n - 1) }.goto target).extra 1) := by
  have hnat : (BitVec.ofNat 4 n).toNat = n := by rw [BitVec.toNat_ofNat, Nat.mod_eq_of_lt (by omega)]
  rw [reptBody, hnat, if_neg (by omega)]
  dsimp only
  by_cases h0 : g.r.getX n = 0
  · rw [if_pos h0, if_pos h0]
    rfl
  rw [if_neg h0, if_neg h0]
  by_cases h1 : g.r.getX n = 1
  · rw [if_pos h1, if_neg (by simp [h1])]
    rfl
  have hlast : g.r.getX n - 1 ≠ 0 := by bv_omega
  rw [if_neg h1, if_pos hlast, if_neg (Nat.not_le.mpr (hin (by bv_omega)))]

/-- The end of an activation in a lane that is ready for it. -/
theorem Lane.endInstr_ready (l : Lane) (ph : Phase) (e t : Nat) (taken : Bool → Bool) (h : l.ready e 1 = true)
    (hopen : taken (l.engine e).r.ba = true → (l.engine e).r.depth = 0 ∧ (l.engine e).r.frames = 0) :
    l.endInstr ph e t 0 taken = if taken (l.engine e).r.ba then
        ((l.setEngine e ((l.engine e).retire (1 + rangeCycles (l.outRanges (l.engine e).task)))).outputCommit e).endActivation e crEnd leEnd
      else l.setEngine e (((l.engine e).past (l.engine e).r 1).retire 1) := by
  have hclean := Lane.clean_of_ready _ _ _ h
  simp only [Lane.ready, Bool.and_eq_true, Bool.not_eq_true', decide_eq_true_eq, beq_iff_eq] at h
  obtain ⟨⟨⟨⟨⟨hr, hf⟩, hp⟩, h0⟩, h1⟩, hc⟩ := h
  have hecc (rs : List (Nat × Nat × Nat)) : l.commitEcc rs = false := by
    simp only [Lane.clean, Bool.and_eq_true, List.isEmpty_iff] at hclean
    simp [Lane.commitEcc, hclean.2]
  unfold Lane.endInstr
  simp only [Lane.takeInputs_taken l e hf, hr, bne_self_eq_false, Bool.false_eq_true, ↓reduceIte,
    Lane.fetch_ready l _ 1 hc h0 h1, Lane.mirrorPair, hp]
  cases htaken : taken (l.engine e).r.ba
  · rfl
  · obtain ⟨hd, hfr⟩ := hopen htaken
    simp [hd, hfr, hecc]

end Sys2Proof.Machine

open Sys2Proof Sys2Proof.Machine

/-- Settles O11: the bodies of the flow instructions in the forms that do not fault, and the end of an activation by its form. -/
theorem flowAndEnd : Obligations.FlowAndEnd := by
  refine ⟨fun s e target hr => ?_, fun s e hr => ?_⟩
  · intro jumps holds
    refine ⟨fun c hin => ?_, fun hf hin => ?_, fun hin => ?_, fun n hin => ?_⟩
    · refine s.regOp_does (.jmp e (BitVec.ofNat 4 c.val) target) e 1 (jmpBody (BitVec.ofNat 4 c.val) target) _ rfl hr
        (fun x hx w => jmpBody_ok c.val c.isLt target _ _ (hin x hx)) fun l g => ?_
      split <;> rfl
    · exact s.regOp_does (.call e 0 target) e 2 (callBody 0 target) _ rfl hr
        (fun x hx w => callBody_ok target _ _ hin (hf x hx)) fun _ _ => rfl
    · refine s.regOp_does (.ret e 0) e 2 (retBody 0) _ rfl hr (fun x hx w => ?_) fun _ _ => rfl
      obtain ⟨hf, hd, hpc⟩ := hin x hx
      exact retBody_ok _ _ (s.lane_clean e 1 x hr hx) hf hd hpc
    · refine s.regOp_does (.rept e (BitVec.ofNat 4 n.val) target) e 1 (reptBody (BitVec.ofNat 4 n.val) target) _ rfl hr
        (fun x hx w => reptBody_ok n.val n.isLt target _ _ (hin x hx)) fun l g => ?_
      dsimp only
      split
      · rfl
      · split <;> rfl
  · intro ends
    have does (c : Instr) (taken : Bool → Bool)
        (hexec : exec c s = .next (s.codeOp c e fun l => l.endInstr s.phase e s.lt 0 taken)) : ends c taken := by
      intro hopen hs
      rw [hexec]
      refine congrArg Host.Outcome.next (s.codeOp_stands c e _ _ 1 hr hs fun x hx w => ?_)
      have hready : ({ s.lane x with watch := w } : Lane).ready e 1 = true := s.lane_ready e 1 x hr hx
      exact Lane.endInstr_ready _ _ _ _ taken hready (hopen x hx)
    exact ⟨does (.endAct e 0) (fun _ => true) rfl, does (.endBa e 0) (fun ba => ba) rfl, does (.endNba e 0) (fun ba => !ba) rfl⟩

end

section
/-! The frame of the instructions on memory (R87, R99, R103, R120): in a calm state a command leaves its own effect, and that is in
the serving lanes alone. -/

namespace Sys2Proof.Machine

/-! ### Operations of the lanes that ask for nothing -/

/-- What a lane asks of the module after a command: a STOP, UNPAIRED, the items it presents. -/
def Lane.marks (l : Lane) : Bool × Bool × List Item := (l.stopReq, l.unpaired, l.items)

/-- An operation of the lanes changes nothing but the lanes. -/
theorem State.onLanes_rest (s : State) (g : Lane → Lane) (a b c : Lane) :
    ({ s.onLanes g with la := a, lb := b, lc := c } : State) = { s with la := a, lb := b, lc := c } := by
  have hset (s : State) (x : Nat) (l : Lane) :
      ({ s.setLane x l with la := a, lb := b, lc := c } : State) = { s with la := a, lb := b, lc := c } := by
    unfold State.setLane
    split
    · rfl
    · split <;> rfl
  unfold State.onLanes State.mirror State.watchCopies
  rw [foldl_same (fun s : State => ({ s with la := a, lb := b, lc := c } : State)),
    foldl_same (fun s : State => ({ s with la := a, lb := b, lc := c } : State)),
    foldl_same (fun s : State => ({ s with la := a, lb := b, lc := c } : State))]
  · exact fun s c => hset _ _ _
  · exact fun s x => hset _ _ _
  · exact fun s c => (hset _ _ _).trans (hset _ _ _)

/-- Lanes that ask for what they asked for keep a module calm or not as it was. -/
theorem State.calm_lanes (s : State) (a b c : Lane) (t : Nat) (ha : a.marks = s.la.marks) (hb : b.marks = s.lb.marks)
    (hc : c.marks = s.lc.marks) : ({ s with la := a, lb := b, lc := c } : State).calm t = s.calm t := by
  have hlane (x : Nat) : (({ s with la := a, lb := b, lc := c } : State).lane x).marks = (s.lane x).marks := by
    unfold State.lane
    split
    · exact ha
    · split
      · exact hb
      · exact hc
  have hitems (x : Nat) : (({ s with la := a, lb := b, lc := c } : State).lane x).items = (s.lane x).items :=
    congrArg (fun m => m.2.2) (hlane x)
  have hserving : ({ s with la := a, lb := b, lc := c } : State).servingLanes.all
      (fun x => !(({ s with la := a, lb := b, lc := c } : State).lane x).stopReq &&
        !(({ s with la := a, lb := b, lc := c } : State).lane x).unpaired) =
      s.servingLanes.all (fun x => !(s.lane x).stopReq && !(s.lane x).unpaired) :=
    congrArg _ (funext fun x => congrArg (fun m : Bool × Bool × List Item => !m.1 && !m.2.1) (hlane x))
  have hhold : ({ s with la := a, lb := b, lc := c } : State).holdBytes = s.holdBytes := by
    unfold State.holdBytes State.presented
    simp only [hitems]
    rfl
  unfold State.calm
  rw [hserving, hhold]
  rfl

/-- In a calm module an operation of the lanes that asks for nothing is followed by nothing. -/
theorem State.after_onLanes_calm (s : State) (g : Lane → Lane) (t : Nat) (hcalm : s.calm t = true) (hg : ∀ l, (g l).marks = l.marks) :
    s.after (s.onLanes g) t = s.onLanes g := by
  have hmarks (y : Nat) : ((s.onLanes g).lane y).marks = (s.lane y).marks :=
    s.onLanes_lane_same Lane.marks g hg (fun _ _ _ _ => rfl) (fun _ _ => rfl) y
  have hrest := s.onLanes_rest g (s.onLanes g).la (s.onLanes g).lb (s.onLanes g).lc
  have hcalm' : (s.onLanes g).calm t = true := by
    rw [show s.onLanes g = _ from hrest]
    exact (s.calm_lanes _ _ _ t (hmarks 0) (hmarks 1) (hmarks 2)).trans hcalm
  rw [State.after, State.settle_calm _ t hcalm']
  exact congrArg (fun p => { s.onLanes g with pending := p }) (congrArg State.pending hrest).symm

/-- An operation of the lanes while no lane is copied. -/
theorem State.lane_onLanes_uncopied (s : State) (g : Lane → Lane) (h : s.vt.copies = []) (x : Nat) (hx : x < 3) :
    (s.onLanes g).lane x = if x ∈ s.servingLanes then g (s.lane x) else s.lane x := by
  have hfold : s.onLanes g = s.servingLanes.foldl (fun s x => s.setLane x (g (s.lane x))) s := by
    have hcopies : (s.servingLanes.foldl (fun s x => s.setLane x (g (s.lane x))) s).vt.copies = [] := by
      rw [foldl_same State.vt _ (fun s x => s.setLane_vt x _), h]
    simp only [State.onLanes, State.mirror, State.watchCopies, h, List.foldl_nil, hcopies]
  have hmem (x : Nat) (hx : x < 3) : x ∈ s.servingLanes ↔ s.serves x = true := by
    simp [State.servingLanes]
    omega
  rw [hfold]
  simp only [hmem x hx]
  unfold State.servingLanes
  obtain rfl | rfl | rfl : x = 0 ∨ x = 1 ∨ x = 2 := by omega
  all_goals cases h0 : s.serves 0 <;> cases h1 : s.serves 1 <;> cases h2 : s.serves 2 <;>
    simp [h0, h1, h2, State.setLane, State.lane]

/-! ### A memory instruction, wherever it stands -/

/-- The lanes that have come to `c` carry it out. -/
def Lane.carriesOut (c : Instr) (e : EngId) (n : Nat) (h : Lane → Eng → Lane × Eng) (l : Lane) : Lane :=
  if l.stands e c then (h l (l.engine e)).1.setEngine e ((h l (l.engine e)).2.retire n) else l

theorem carriesOut_marks (c : Instr) (e : EngId) (n : Nat) (h : Lane → Eng → Lane × Eng) (hh : ∀ l g, (h l g).1.marks = l.marks)
    (l : Lane) : (Lane.carriesOut c e n h l).marks = l.marks := by
  unfold Lane.carriesOut
  split
  · exact hh _ _
  · rfl

theorem State.memOp_carried (s : State) (c : Instr) (e : EngId) (o : MOp) (cyc : Nat) (body : Body) (h : Lane → Eng → Lane × Eng)
    (hr : s.ready e (opLen o) = true) (hb : s.inEach e fun l g => body l g = .ok (h l g)) (hm : ∀ l g, (h l g).2.r.m = g.r.m) :
    s.memOp c e o cyc body = s.after (s.onLanes (Lane.carriesOut c e (cyc + (opLen o - 1)) h)) s.lt := by
  unfold State.memOp State.codeOp
  rw [State.engineDo_live _ _ (Bool.and_eq_true_iff.mp hr).1]
  congr 1
  refine State.onLanes_congr _ _ _ fun x hx w => ?_
  have hready : ({ s.lane x with watch := w } : Lane).ready e (opLen o) = true := s.lane_ready e _ x hr hx
  unfold Lane.carriesOut
  split
  · exact Lane.instr_ready _ _ _ _ _ _ _ _ _ hready (hb x hx w) (hm _ _)
  · rfl

/-- In a calm module a memory instruction whose body asks for nothing leaves the lanes that carried it out. -/
theorem State.memOp_calm (s u : State) (c : Instr) (e : EngId) (o : MOp) (cyc : Nat) (body : Body) (h : Lane → Eng → Lane × Eng)
    (hr : s.ready e (opLen o) = true) (hcalm : s.calm s.lt = true) (hb : s.inEach e fun l g => body l g = .ok (h l g))
    (hm : ∀ l g, (h l g).2.r.m = g.r.m) (hmarks : ∀ l g, (h l g).1.marks = l.marks)
    (hu : (.next (s.memOp c e o cyc body) : Host.Outcome State Fault Refusal) = .next u) :
    u = s.onLanes (Lane.carriesOut c e (cyc + (opLen o - 1)) h) := by
  rw [← Host.Outcome.next.inj hu, s.memOp_carried c e o cyc body h hr hb hm,
    s.after_onLanes_calm _ _ hcalm (carriesOut_marks c e _ h hmarks)]

/-! ### What a store leaves -/

@[simp] theorem Lane.marks_setWord (l : Lane) (a : Nat) (w : Word) : (l.setWord a w).marks = l.marks := rfl

@[simp] theorem Lane.marks_store (l : Lane) (a : Nat) (w : Word) : (l.store a w).marks = l.marks := by
  unfold Lane.store
  split
  · split <;> rfl
  · rfl

@[simp] theorem Lane.marks_storeWords (l : Lane) (a : Nat) (ws : List Word) : (l.storeWords a ws).marks = l.marks := by
  induction ws generalizing l a with
  | nil => rfl
  | cons w t ih => rw [Lane.storeWords, ih, Lane.marks_store]

@[simp] theorem marks_putBit (o : MOp) (l : Lane) (g : Eng) (b : Bool) : (putBit o l g b).marks = l.marks := Lane.marks_store _ _ _

/-- A byte outside the word that is stored and outside its retained slot is read as before. -/
theorem get_store_ne (l : Lane) (a b : Nat) (w : Word) (hout : ¬(a ≤ b ∧ b < a + 4))
    (hslot : ∀ k, dBase ≤ a → a < dBase + 4 * dWords → retainSlot l.retain 0 ((a - dBase) / 4) = some k →
      ¬(retBase + 4 * k ≤ b ∧ b < retBase + 4 * k + 4)) : Cells.get (l.store a w).mem b = Cells.get l.mem b := by
  have hword (m : List Host.Cell) (c : Nat) (h : ¬(c ≤ b ∧ b < c + 4)) : Cells.get (memSetWord m c w) b = Cells.get m b :=
    get_memSetWord_ne m c b w (by omega)
  unfold Lane.store
  dsimp only
  split
  · next hd =>
    obtain ⟨hlo, hhi⟩ := Bool.and_eq_true_iff.mp hd
    split
    · next k hk =>
      exact (hword _ _ (hslot k (of_decide_eq_true hlo) (of_decide_eq_true hhi) hk)).trans (hword _ _ hout)
    · exact hword _ _ hout
  · exact hword _ _ hout

/-- The bytes of a lane that carried an instruction out, where the instruction keeps them. -/
theorem get_carriesOut (c : Instr) (e : EngId) (n : Nat) (h : Lane → Eng → Lane × Eng) (l : Lane) (b : Nat)
    (hb : Cells.get (h l (l.engine e)).1.mem b = Cells.get l.mem b) : Cells.get (Lane.carriesOut c e n h l).mem b = Cells.get l.mem b := by
  unfold Lane.carriesOut
  split
  · exact hb
  · rfl

/-! ### The canonical form -/

/-- What a word store accepts, a double-word store accepts (R117). -/
theorem opCheck_doubleWrite (o : MOp) (h : opCheck .wordWrite o = .ok ()) : opCheck .doubleWrite o = .ok () := by
  unfold opCheck at h ⊢
  dsimp only at h ⊢
  generalize o.sp.toNat = sp at h ⊢
  split at h
  · cases h
  next hindexed =>
  split at h
  · cases h
  next hclass =>
  split at h
  · cases h
  next hreserved =>
  split at h
  · cases h
  next hprotected =>
  have haccepts : OpClass.wordWrite.accepts.contains sp = true := by
    simpa only [Bool.not_eq_true', Bool.or_eq_false_iff, not_and, hprotected, Bool.or_false, Bool.not_eq_false] using hclass
  have hclass' : ¬(!(OpClass.doubleWrite.accepts.contains sp || OpClass.doubleWrite.protects.contains sp)) = true := by
    rw [show OpClass.doubleWrite.accepts = OpClass.wordWrite.accepts from rfl, haccepts]
    simp
  have hprotected' : ¬OpClass.doubleWrite.protects.contains sp = true := by
    simp only [OpClass.protects, List.contains_eq_mem, List.mem_cons, decide_eq_true_eq] at hprotected ⊢
    exact fun h => hprotected (h.imp_right fun h => .inr (.inr h))
  rw [if_neg hindexed, if_neg hclass', if_neg hreserved, if_neg hprotected']

/-- What a lane keeps under an operation of the lanes and under the mirror of a copy, every lane of the module keeps. -/
theorem State.onLanes_lane_keeps (p : Lane → Prop) (s : State) (g : Lane → Lane) (hg : ∀ l, p l → p (g l))
    (hmem : ∀ l old new e1 e2, p l → p { l with mem := mirrorCells old new l.mem, ecc1 := e1, ecc2 := e2 })
    (hwatch : ∀ l w, p l → p { l with watch := w }) (hs : ∀ y, p (s.lane y)) (y : Nat) : p ((s.onLanes g).lane y) := by
  have hset (s : State) (x : Nat) (l : Lane) (hs : ∀ y, p (s.lane y)) (hl : p l) (y : Nat) : p ((s.setLane x l).lane y) := by
    rw [State.lane_setLane]
    split
    · exact hl
    · exact hs y
  have hfold {α : Type} (f : State → α → State) (hf : ∀ s a, (∀ y, p (s.lane y)) → ∀ y, p ((f s a).lane y)) (xs : List α) (s : State)
      (hs : ∀ y, p (s.lane y)) : ∀ y, p ((xs.foldl f s).lane y) := by
    induction xs generalizing s with
    | nil => exact hs
    | cons x t ih => exact ih _ (hf s x hs)
  have hwatched : ∀ y, p (s.watchCopies.lane y) := hfold _ (fun s c hs => hset _ _ _ hs (hwatch _ _ (hs _))) _ _ hs
  have hdone := hfold _ (fun s x hs => hset s x _ hs (hg _ (hs x))) s.servingLanes _ hwatched
  refine hfold _ (fun s1 c hs => ?_) _ _ hdone y
  have hone := hset s1 c.1 _ hs (hmem (s1.lane c.1) (s.lane c.2.primary).mem (s1.lane c.2.primary).mem
    ((s1.lane c.1).ecc1.filter (s1.lane c.2.primary).watch.contains) ((s1.lane c.1).ecc2.filter (s1.lane c.2.primary).watch.contains)
    (hs c.1))
  exact hset _ _ _ hone (hwatch _ _ (hone c.2.primary))

end Sys2Proof.Machine

open Sys2Proof Sys2Proof.Machine

/-- Settles O13: in a calm module what a memory instruction leaves is the serving lanes that carried it out, and each of those keeps
every byte outside the word it stores. -/
theorem memoryFrame : Obligations.MemoryFrame := by
  intro s u e o hr hcalm hcopies _ sp rest all none_ only word bit
  -- What an instruction leaves whose bodies answer `h`: nothing but the serving lanes, and in those the bytes that `h` keeps.
  have frame (c : Instr) (body : Body) (h : Lane → Eng → Lane × Eng) (hb : s.inEach e fun l g => body l g = .ok (h l g))
      (hm : ∀ l g, (h l g).2.r.m = g.r.m) (hmarks : ∀ l g, (h l g).1.marks = l.marks)
      (hu : (.next (s.memOp c e o 1 body) : Host.Outcome State Fault Refusal) = .next u) :
      rest ∧ ∀ x ∈ s.servingLanes, ∀ b,
        Cells.get (h (s.lane x) ((s.lane x).engine e)).1.mem b = Cells.get (s.lane x).mem b →
        Cells.get (u.lane x).mem b = Cells.get (s.lane x).mem b := by
    obtain rfl := s.memOp_calm u c e o 1 body h hr hcalm hb hm hmarks hu
    refine ⟨⟨s.onLanes_rest _ _ _ _, fun x hx hs => ?_⟩, fun x hs b hb => ?_⟩
    · rw [s.lane_onLanes_uncopied _ hcopies x hx, if_neg hs]
    · rw [s.lane_onLanes_uncopied _ hcopies x (s.servingLanes_lt x hs), if_pos hs]
      exact get_carriesOut _ _ _ _ _ _ hb
  have keeps (c : Instr) (body : Body) (f : Lane → Eng → Eng) (hb : s.inEach e fun l g => body l g = .ok (l, f l g))
      (hm : ∀ l g, (f l g).r.m = g.r.m) (hu : (.next (s.memOp c e o 1 body) : Host.Outcome State Fault Refusal) = .next u) : none_ := by
    obtain ⟨hrest, hbytes⟩ := frame c body (fun l g => (l, f l g)) hb hm (fun _ _ => rfl) hu
    refine ⟨hrest, fun x hx b => ?_⟩
    by_cases hs : x ∈ s.servingLanes
    · exact hbytes x hs b rfl
    · rw [hrest.2 x hx hs]
  refine ⟨fun hok hin hu => ?_, fun hok hin hu => ?_, fun hok hin hu => ?_, fun hok hin hu => ?_, fun hok hin hu => ?_⟩
  · have reads (c : Instr) (f : Word → Regs → Regs) (hm : ∀ v r, (f v r).m = r.m)
        (hu : (.next (s.memOp c e o 1 (wordReadBody o fun v r => .ok (f v r))) : Host.Outcome State Fault Refusal) = .next u) : none_ := by
      refine keeps c _ (fun l g => g.past (f (wordOperand o l g) g.r) (opLen o)) (fun x hx w => ?_) (fun _ _ => hm _ _) hu
      refine wordReadBody_ok o _ _ _ _ _ hok (readOperand_clean _ _ o (s.lane_clean e _ x hr hx) ?_) rfl
      exact hin.imp_right (Or.imp_right fun h => h x hx)
    rcases hu with hu | hu
    · exact reads (.ld e o) (fun v r => { r with acc1 := v }) (fun _ _ => rfl) hu
    · exact reads (.add e o) aluAdd (fun _ _ => rfl) hu
  · have reads (c : Instr) (f : Bool → Bool → Bool)
        (hu : (.next (s.memOp c e o 1 (bitReadBody o f)) : Host.Outcome State Fault Refusal) = .next u) : none_ :=
      keeps c _ (fun l g => g.past { g.r with ba := f g.r.ba (bitOperand o l g) } (opLen o))
        (fun x hx w => bitReadBody_ok o f _ _ hok (s.lane_clean e _ x hr hx) (hin x hx)) (fun _ _ => rfl) hu
    rcases hu with hu | hu
    · exact reads (.ldb e o) (fun _ v => v) hu
    · exact reads (.andBit e o) (fun ba v => ba && v) hu
  · obtain ⟨hrest, hbytes⟩ := frame (.stw e o) (wordWriteBody .wordWrite 1 o)
      (fun l g => (l.storeWords (wordOperandAddr o g) ([g.r.acc1, g.r.acc2].take 1), g.past g.r (opLen o)))
      (fun x hx w => wordWriteBody_ok .wordWrite 1 o _ _ hok (hin x hx).1 fun i hi hsp => by
        obtain rfl : i = 0 := by omega
        exact (hin x hx).2 hsp) (fun _ _ => rfl) (fun _ _ => Lane.marks_storeWords _ _ _) hu
    exact ⟨hrest, fun x hx b hout hslot => hbytes x hx b (get_store_ne _ _ _ _ hout hslot)⟩
  · have writes (c : Instr) (f : Bool → Option Bool)
        (hu : (.next (s.memOp c e o 1 (bitWriteBody o f)) : Host.Outcome State Fault Refusal) = .next u) : only bit := by
      obtain ⟨hrest, hbytes⟩ := frame c _ (fun l g => (((f g.r.ba).map (putBit o l g)).getD l, g.past g.r (opLen o)))
        (fun x hx w => bitWriteBody_ok o f _ _ hok (s.lane_clean e _ x hr hx) (hin x hx).1 (hin x hx).2) (fun _ _ => rfl)
        (fun l g => by cases f g.r.ba <;> simp) hu
      refine ⟨hrest, fun x hx b hout hslot => hbytes x hx b ?_⟩
      cases f ((s.lane x).engine e).r.ba
      · rfl
      · exact get_store_ne _ _ _ _ hout hslot
    rcases hu with hu | hu | hu | hu
    · exact writes (.st e o) (fun ba => some ba) hu
    · exact writes (.stn e o) (fun ba => some (!ba)) hu
    · exact writes (.setBit e o) (fun ba => if ba then some true else none) hu
    · exact writes (.rstBit e o) (fun ba => if ba then some false else none) hu
  · have edges (c : Instr) (f : Bool → Bool → Bool)
        (hu : (.next (s.memOp c e o 1 (edgeBody o f)) : Host.Outcome State Fault Refusal) = .next u) : only bit := by
      obtain ⟨hrest, hbytes⟩ := frame c _
        (fun l g => (putBit o l g g.r.ba, g.past { g.r with ba := f g.r.ba (bitOperand o l g) } (opLen o)))
        (fun x hx w => edgeBody_ok o f _ _ hok (s.lane_clean e _ x hr hx) (hin x hx)) (fun _ _ => rfl)
        (fun l g => marks_putBit _ _ _ _) hu
      exact ⟨hrest, fun x hx b hout hslot => hbytes x hx b (get_store_ne _ _ _ _ hout hslot)⟩
    rcases hu with hu | hu
    · exact edges (.rise e o) (fun ba m => ba && !m) hu
    · exact edges (.fall e o) (fun ba m => !ba && m) hu

/-- Settles O14: the store of the body keeps the canonical form, and so do the mirrors of the copies. -/
theorem storesKeepMemoryCanonical : Obligations.StoresKeepMemoryCanonical := by
  intro s u e o hr hcalm hwf hstore x hx
  have hwf' (y : Nat) : Cells.wf (s.lane y).mem = true := by
    by_cases h : y < 3
    · exact hwf y h
    · have : s.lane y = s.lane 2 := by simp [State.lane, show y ≠ 0 by omega, show y ≠ 1 by omega]
      exact this ▸ hwf 2 (by decide)
  have keeps (c : Instr) (body : Body) (h : Lane → Eng → Lane × Eng) (hb : s.inEach e fun l g => body l g = .ok (h l g))
      (hm : ∀ l g, (h l g).2.r.m = g.r.m) (hmarks : ∀ l g, (h l g).1.marks = l.marks)
      (hkeep : ∀ l g, Cells.wf l.mem = true → Cells.wf (h l g).1.mem = true)
      (hu : (.next (s.memOp c e o 1 body) : Host.Outcome State Fault Refusal) = .next u) : Cells.wf (u.lane x).mem = true := by
    obtain rfl := s.memOp_calm u c e o 1 body h hr hcalm hb hm hmarks hu
    refine s.onLanes_lane_keeps (fun l => Cells.wf l.mem = true) _ (fun l hl => ?_) (fun l old new _ _ hl => wf_mirrorCells _ _ _ hl)
      (fun _ _ hl => hl) hwf' x
    unfold Lane.carriesOut
    split
    · exact hkeep _ _ hl
    · exact hl
  rcases hstore with ⟨hok, hin, hu⟩ | ⟨hok, hin, hu⟩
  · have writes (c : Instr) (cls : OpClass) (n : Nat) (hn : n ≤ 2) (hcls : opCheck cls o = .ok ())
        (hu : (.next (s.memOp c e o 1 (wordWriteBody cls n o)) : Host.Outcome State Fault Refusal) = .next u) :
        Cells.wf (u.lane x).mem = true := by
      refine keeps c _ (fun l g => (l.storeWords (wordOperandAddr o g) ([g.r.acc1, g.r.acc2].take n), g.past g.r (opLen o)))
        (fun x hx w => wordWriteBody_ok cls n o _ _ hcls (by have := (hin x hx).1; omega) fun i hi hsp => ?_) (fun _ _ => rfl)
        (fun _ _ => Lane.marks_storeWords _ _ _) (fun _ _ h => wf_storeWords _ _ _ h) hu
      obtain ⟨h0, h1⟩ := (hin x hx).2 hsp
      obtain rfl | rfl : i = 0 ∨ i = 1 := by omega
      · exact h0
      · exact h1
    rcases hu with hu | hu
    · exact writes (.stw e o) .wordWrite 1 (by decide) hok hu
    · exact writes (.stwd e o) .doubleWrite 2 (by decide) (opCheck_doubleWrite o hok) hu
  · have writes (c : Instr) (f : Bool → Option Bool)
        (hu : (.next (s.memOp c e o 1 (bitWriteBody o f)) : Host.Outcome State Fault Refusal) = .next u) :
        Cells.wf (u.lane x).mem = true := by
      refine keeps c _ (fun l g => (((f g.r.ba).map (putBit o l g)).getD l, g.past g.r (opLen o)))
        (fun x hx w => bitWriteBody_ok o f _ _ hok (s.lane_clean e _ x hr hx) (hin x hx).1 (hin x hx).2) (fun _ _ => rfl)
        (fun l g => by cases f g.r.ba <;> simp) (fun l g h => ?_) hu
      cases f g.r.ba
      · exact h
      · exact wf_store _ _ _ h
    rcases hu with hu | hu | hu | hu
    · exact writes (.st e o) (fun ba => some ba) hu
    · exact writes (.stn e o) (fun ba => some (!ba)) hu
    · exact writes (.setBit e o) (fun ba => if ba then some true else none) hu
    · exact writes (.rstBit e o) (fun ba => if ba then some false else none) hu

end

section
/-! The engine faults (R86, R87, R137): where the body of an instruction, its fetch or its end faults, the lane takes the fault. -/

namespace Sys2Proof.Machine

/-! ### A fault in every serving lane -/

/-- What a command answers where the instruction faults with `code` in every serving lane. -/
def State.faults (s : State) (e : EngId) (code : Nat) : Host.Outcome State Fault Refusal :=
  .next (s.after (s.onLanes fun l => l.faultEngine s.phase e s.lt code) s.lt)

theorem State.codeOp_faults (s : State) (c : Instr) (e : EngId) (len cyc code : Nat) (body : Body)
    (hexec : exec c s = .next (s.codeOp c e fun l => l.instr s.phase e s.lt len cyc body)) (hr : s.ready e len = true)
    (hb : s.inEach e fun l g => body l g = .error (flt code)) : s.does e c (s.faults e code) := by
  intro hs
  rw [hexec]
  refine congrArg Host.Outcome.next (s.codeOp_stands c e _ _ len hr hs fun x hx w => ?_)
  have hready : ({ s.lane x with watch := w } : Lane).ready e len = true := s.lane_ready e len x hr hx
  exact Lane.instr_faults _ _ _ _ _ _ _ _ hready (hb x hx w)

/-- A Format M instruction whose body faults. -/
theorem State.memOp_faults (s : State) (c : Instr) (e : EngId) (o : MOp) (cyc code : Nat) (body : Body)
    (hexec : exec c s = .next (s.memOp c e o cyc body)) (hr : s.ready e (opLen o) = true)
    (hb : s.inEach e fun l g => body l g = .error (flt code)) : s.does e c (s.faults e code) :=
  s.codeOp_faults c e (opLen o) _ code body hexec hr hb

/-- An instruction of one code word whose body faults. -/
theorem State.regOp_faults (s : State) (c : Instr) (e : EngId) (cyc code : Nat) (body : Body)
    (hexec : exec c s = .next (s.regOp c e cyc body)) (hr : s.ready e 1 = true)
    (hb : s.inEach e fun l g => body l g = .error (flt code)) : s.does e c (s.faults e code) :=
  s.codeOp_faults c e 1 _ code body hexec hr hb

theorem NMap.put_put {α : Type} (m : NMap α) (k : Nat) (v w : α) : NMap.put (NMap.put m k v) k w = NMap.put m k w := by
  induction m with
  | nil => simp [NMap.put]
  | cons p t ih =>
    obtain ⟨j, x⟩ := p
    by_cases hlt : k < j
    · simp [NMap.put, hlt]
    · by_cases heq : k = j
      · simp [NMap.put, heq]
      · simp [NMap.put, hlt, heq, ih]

/-- A fault replaces its engine: it does not matter that the engine was put back before. -/
theorem Lane.faultEngine_setEngine (l : Lane) (ph : Phase) (e t code : Nat) :
    (l.setEngine e (l.engine e)).faultEngine ph e t code = l.faultEngine ph e t code := by
  have hself : (l.setEngine e (l.engine e)).engine e = l.engine e := l.engine_setEngine_self e _
  have hclose (r : RegFile) (reason : Nat) : ({ l.setEngine e (l.engine e) with rf := r } : Lane).closeWindow e reason
      = ({ l with rf := r } : Lane).closeWindow e reason := by
    have hself' : ({ l.setEngine e (l.engine e) with rf := r } : Lane).engine e = l.engine e := hself
    unfold Lane.closeWindow
    rw [hself']
    simp only [Lane.setEngine, NMap.put_put]
    rfl
  have hself' (r : RegFile) : ({ l.setEngine e (l.engine e) with rf := r } : Lane).engine e = l.engine e := hself
  have hrf : (l.setEngine e (l.engine e)).rf = l.rf := rfl
  unfold Lane.faultEngine Lane.stopActivation
  simp only [hself, hself', hclose, hrf]
  rfl

/-- An instruction on an engine that is ready for it, whose body faults and keeps the lane it was given. -/
theorem Lane.instr_faults_kept (l : Lane) (ph : Phase) (e t len cyc : Nat) (body : Body) (c : Nat) (h : l.ready e len = true)
    (hb : body l (l.engine e) = .error (c, some l)) : l.instr ph e t len cyc body = l.faultEngine ph e t c := by
  simp only [Lane.ready, Bool.and_eq_true, Bool.not_eq_true', decide_eq_true_eq, beq_iff_eq] at h
  obtain ⟨⟨⟨⟨⟨hr, hf⟩, hp⟩, h0⟩, h1⟩, hc⟩ := h
  unfold Lane.instr
  simp only [Lane.takeInputs_taken l e hf, hr, bne_self_eq_false, Bool.false_eq_true, ↓reduceIte,
    Lane.fetch_ready l _ len hc h0 h1, hb]
  simpa [Lane.mirrorPair, hp] using l.faultEngine_setEngine ph e t c

theorem State.memOp_faults_kept (s : State) (c : Instr) (e : EngId) (o : MOp) (cyc code : Nat) (body : Body)
    (hexec : exec c s = .next (s.memOp c e o cyc body)) (hr : s.ready e (opLen o) = true)
    (hb : s.inEach e fun l g => body l g = .error (code, some l)) : s.does e c (s.faults e code) := by
  intro hs
  rw [hexec]
  refine congrArg Host.Outcome.next (s.codeOp_stands c e _ _ (opLen o) hr hs fun x hx w => ?_)
  have hready : ({ s.lane x with watch := w } : Lane).ready e (opLen o) = true := s.lane_ready e _ x hr hx
  exact Lane.instr_faults_kept _ _ _ _ _ _ _ _ hready (hb x hx w)

/-! ### Faults of the operand forms and of the ranges -/

section Bits
variable (o : MOp) (l : Lane) (g : Eng)

theorem bitReadBody_check (f : Bool → Bool → Bool) (c : Nat) (h : opCheck .bitRead o = .error (flt c)) :
    bitReadBody o f l g = .error (flt c) := by
  simp only [bitReadBody, h, bind, Except.bind]

theorem bitReadBody_range (f : Bool → Bool → Bool) (hok : opCheck .bitRead o = .ok ())
    (hk : spaceBits o.sp.toNat ≤ opIndex o g.r) : bitReadBody o f l g = .error (flt cAddr) := by
  simp only [bitReadBody, hok, readBit, if_pos hk, bind, Except.bind]

theorem bitWriteBody_check (f : Bool → Option Bool) (c : Nat) (h : opCheck .bitWrite o = .error (flt c)) :
    bitWriteBody o f l g = .error (flt c) := by
  simp only [bitWriteBody, h, bind, Except.bind]

theorem bitWriteBody_range (f : Bool → Option Bool) (hok : opCheck .bitWrite o = .ok ())
    (hk : spaceBits o.sp.toNat ≤ opIndex o g.r) : bitWriteBody o f l g = .error (flt cAddr) := by
  simp only [bitWriteBody, hok, if_pos hk, bind, Except.bind]
  rfl

theorem bitWriteBody_owner (f : Bool → Option Bool) (hok : opCheck .bitWrite o = .ok ()) (hsp : o.sp.toNat = spS)
    (hk : opIndex o g.r < spaceBits o.sp.toNat) (how : inOwned l.ownedS (opIndex o g.r) = false) :
    bitWriteBody o f l g = .error (flt cWriteProt) := by
  have hnot : (o.sp.toNat == spS && !inOwned l.ownedS (opIndex o g.r)) = true := by simp [hsp, how]
  simp only [bitWriteBody, hok, if_neg (Nat.not_le.mpr hk), hnot, bind, Except.bind]
  rfl

theorem edgeBody_check (f : Bool → Bool → Bool) (c : Nat) (h : opCheck .edge o = .error (flt c)) :
    edgeBody o f l g = .error (flt c) := by
  simp only [edgeBody, h, bind, Except.bind]

theorem wordReadBody_check (f : Word → Regs → Except Flt Regs) (c : Nat) (h : opCheck .wordRead o = .error (flt c)) :
    wordReadBody o f l g = .error (flt c) := by
  simp only [wordReadBody, h, bind, Except.bind]

theorem wordReadBody_range (f : Word → Regs → Except Flt Regs) (hok : opCheck .wordRead o = .ok ()) (hK : o.sp.toNat ≠ spK)
    (hKL : o.sp.toNat ≠ spKL) (hk : spaceWords o.sp.toNat ≤ opIndex o g.r) : wordReadBody o f l g = .error (flt cAddr) := by
  have hread : readOperand l g.task g.r o = .error (flt cAddr) := by simp [readOperand, hK, hKL, hk]
  simp only [wordReadBody, hok, hread, bind, Except.bind]

/-- A word operand that the operation does not take. -/
theorem wordReadBody_operation (f : Word → Regs → Except Flt Regs) (v : Word) (c : Nat) (hok : opCheck .wordRead o = .ok ())
    (hv : readOperand l g.task g.r o = .ok (v, l)) (hf : f v g.r = .error (flt c)) :
    wordReadBody o f l g = .error (c, some l) := by
  simp only [wordReadBody, hok, hv, hf, flt, bind, Except.bind]
  rfl

theorem lddBody_check (c : Nat) (h : opCheck .doubleRead o = .error (flt c)) : lddBody o l g = .error (flt c) := by
  simp only [lddBody, h, bind, Except.bind]

theorem wordWriteBody_check (cls : OpClass) (n c : Nat) (h : opCheck cls o = .error (flt c)) :
    wordWriteBody cls n o l g = .error (flt c) := by
  simp only [wordWriteBody, h, bind, Except.bind]

theorem wordWriteBody_range (cls : OpClass) (n : Nat) (hok : opCheck cls o = .ok ())
    (hk : spaceWords o.sp.toNat < opIndex o g.r + n) : wordWriteBody cls n o l g = .error (flt cAddr) := by
  simp only [wordWriteBody, hok, if_pos hk, bind, Except.bind]
  rfl

theorem wordWriteBody_owner (cls : OpClass) (hok : opCheck cls o = .ok ()) (hsp : o.sp.toNat = spW)
    (hk : opIndex o g.r < spaceWords o.sp.toNat) (how : inOwned l.ownedW (opIndex o g.r) = false) :
    wordWriteBody cls 1 o l g = .error (flt cWriteProt) := by
  have hnot : (!ownedWords l o.sp.toNat (opIndex o g.r) 1) = true := by simp [ownedWords, hsp, how]
  simp only [wordWriteBody, hok, if_neg (Nat.not_lt.mpr hk), hnot, bind, Except.bind]
  rfl

theorem blockOperand_check (cls : OpClass) (c : Nat) (h : opCheck cls o = .error (flt c)) :
    blockOperand cls o g.r = .error (flt c) := by
  simp only [blockOperand, h, bind, Except.bind]

theorem timerBody_check (kind c : Nat) (h : opCheck .timer o = .error (flt c)) : timerBody kind o l g = .error (flt c) := by
  simp only [timerBody, blockOperand_check o g .timer c h, bind, Except.bind]

theorem counterBody_check (f : Bool → Word → Word → Word → Word × Word) (c : Nat) (h : opCheck .counter o = .error (flt c)) :
    counterBody f o l g = .error (flt c) := by
  simp only [counterBody, blockOperand_check o g .counter c h, bind, Except.bind]

theorem rstbBody_check (c : Nat) (h : opCheck .blockAcc o = .error (flt c)) : rstbBody o l g = .error (flt c) := by
  simp only [rstbBody, blockOperand_check o g .blockAcc c h, bind, Except.bind]

theorem ldtcBody_check (c : Nat) (h : opCheck .blockAcc o = .error (flt c)) : ldtcBody o l g = .error (flt c) := by
  simp only [ldtcBody, blockOperand_check o g .blockAcc c h, bind, Except.bind]

theorem sigvBody_check (c : Nat) (h : opCheck .signal o = .error (flt c)) : sigvBody o l g = .error (flt c) := by
  simp only [sigvBody, h, bind, Except.bind]

end Bits

/-! ### Faults of flow and of the services -/

theorem branchOpenBody_full (op : Nat) (l : Lane) (g : Eng) (h : g.r.depth = 255) :
    branchOpenBody op 0 l g = .error (flt cStack) := by
  simp only [branchOpenBody, pushEntry, if_pos h]
  rfl

theorem bendBody_empty (l : Lane) (g : Eng) (h : g.r.depth = 0) : bendBody 0 l g = .error (flt cNest) := by
  simp only [bendBody, topEntry, if_pos h]
  rfl

theorem condHolds_reserved (c : Nat) (r : Regs) (h : 12 ≤ c) (h' : c < 16) : condHolds c r = none := by
  obtain rfl | rfl | rfl | rfl : c = 12 ∨ c = 13 ∨ c = 14 ∨ c = 15 := by omega
  all_goals rfl

theorem ldcBody_reserved (c : Nat) (h : 12 ≤ c) (h' : c < 16) (l : Lane) (g : Eng) :
    ldcBody (BitVec.ofNat 20 c) l g = .error (flt cIllegalOp) := by
  have hnat : (BitVec.ofNat 20 c).toNat = c := by rw [BitVec.toNat_ofNat, Nat.mod_eq_of_lt (by omega)]
  rw [ldcBody, hnat, if_neg (by omega), condHolds_reserved c _ h h']

theorem jmpBody_reserved (c : Nat) (h : 12 ≤ c) (h' : c < 16) (target : BitVec 22) (l : Lane) (g : Eng) :
    jmpBody (BitVec.ofNat 4 c) target l g = .error (flt cIllegalOp) := by
  have hnat : (BitVec.ofNat 4 c).toNat = c := by rw [BitVec.toNat_ofNat, Nat.mod_eq_of_lt (by omega)]
  rw [jmpBody, hnat, condHolds_reserved c _ h h']

theorem jmpBody_range (target : BitVec 22) (h : codeWords ≤ target.toNat) (l : Lane) (g : Eng) :
    jmpBody 0 target l g = .error (flt cAddr) := if_pos h

theorem callBody_range (target : BitVec 22) (h : codeWords ≤ target.toNat) (l : Lane) (g : Eng) :
    callBody 0 target l g = .error (flt cAddr) := by
  simp only [callBody, if_pos h]
  rfl

theorem callBody_full (target : BitVec 22) (h : target.toNat < codeWords) (l : Lane) (g : Eng) (hf : g.r.frames = 1920) :
    callBody 0 target l g = .error (flt cStack) := by
  have hf' : g.r.frames = maxFrames := hf
  simp only [callBody, if_neg (Nat.not_le.mpr h), if_pos hf']
  rfl

theorem retBody_empty (l : Lane) (g : Eng) (h : g.r.frames = 0) : retBody 0 l g = .error (flt cNest) := by
  simp only [retBody, if_pos h]
  rfl

/-- An END form that is taken with a branch or a frame open. -/
theorem Lane.endInstr_open (l : Lane) (ph : Phase) (e t : Nat) (taken : Bool → Bool) (h : l.ready e 1 = true)
    (htaken : taken (l.engine e).r.ba = true) (hopen : (l.engine e).r.depth ≠ 0 ∨ (l.engine e).r.frames ≠ 0) :
    l.endInstr ph e t 0 taken = l.faultEngine ph e t cNest := by
  simp only [Lane.ready, Bool.and_eq_true, Bool.not_eq_true', decide_eq_true_eq, beq_iff_eq] at h
  obtain ⟨⟨⟨⟨⟨hr, hf⟩, hp⟩, h0⟩, h1⟩, hc⟩ := h
  unfold Lane.endInstr
  simp only [Lane.takeInputs_taken l e hf, hr, bne_self_eq_false, Bool.false_eq_true, ↓reduceIte,
    Lane.fetch_ready l _ 1 hc h0 h1, Lane.mirrorPair, hp, htaken, Bool.not_true, if_pos hopen, ne_eq, not_true_eq_false]

/-- The low field of an instruction that names object `k` and nothing else. -/
theorem objFields (k : Nat) (h : k < 2048) :
    (BitVec.ofNat 20 k).toNat = k ∧ telRsv (BitVec.ofNat 20 k) = true ∧ objOf (BitVec.ofNat 20 k) = k ∧ xsOf (BitVec.ofNat 20 k) = 0 := by
  have hnat : (BitVec.ofNat 20 k).toNat = k := by rw [BitVec.toNat_ofNat, Nat.mod_eq_of_lt (by omega)]
  refine ⟨hnat, ?_, ?_, ?_⟩
  · rw [telRsv, hnat, beq_iff_eq]
    omega
  · rw [objOf, hnat]
    omega
  · rw [xsOf, hnat]
    omega

section Objects
variable (k : Nat) (l : Lane) (g : Eng)

theorem txpdBody_unused (e : Nat) (hk : k < 2048) (h : l.pdUsed k = false) :
    txpdBody e (BitVec.ofNat 20 k) l g = .error (flt cService) := by
  obtain ⟨-, hrsv, hobj, -⟩ := objFields k hk
  simp only [txpdBody, hrsv, hobj, h, Bool.false_and, Bool.not_false, Bool.true_or]
  rfl

theorem rxpdBody_unused (hk : k < 2048) (h : l.pdUsed k = false) : rxpdBody (BitVec.ofNat 20 k) l g = .error (flt cService) := by
  obtain ⟨-, hrsv, hobj, -⟩ := objFields k hk
  simp only [rxpdBody, hrsv, hobj, h, Bool.false_and, Bool.not_false, Bool.true_or]
  rfl

theorem tstatBody_unused (hk : k < 2048) (h : l.pdUsed k = false) : tstatBody (BitVec.ofNat 20 k) l g = .error (flt cService) := by
  obtain ⟨hnat, -, hobj, hxs⟩ := objFields k hk
  have hcls : k / 2 ^ 15 % 4 = 0 := by omega
  have hrsv : k / 2 ^ 11 % 16 = 0 := by omega
  simp only [tstatBody, hnat, hobj, hxs, hcls, hrsv, h, ↓reduceIte, Bool.not_false, Bool.true_or]
  rfl

theorem txsdtBody_unused (e : Nat) (hk : k < 2048) (h : l.sdtUsed k = false) :
    txsdtBody e (BitVec.ofNat 20 k) l g = .error (flt cService) := by
  obtain ⟨-, hrsv, hobj, -⟩ := objFields k hk
  simp only [txsdtBody, hrsv, hobj, h, Bool.false_and, Bool.not_false]
  rfl

theorem rxsdtBody_unused (hk : k < 2048) (h : l.sdtUsed k = false) : rxsdtBody (BitVec.ofNat 20 k) l g = .error (flt cService) := by
  obtain ⟨-, hrsv, hobj, -⟩ := objFields k hk
  simp only [rxsdtBody, hrsv, hobj, h, Bool.false_and, Bool.not_false]
  rfl

theorem txmdBody_unused (e : Nat) (hk : k < 2048) (h : l.mdUsed k = false) :
    txmdBody e (BitVec.ofNat 20 k) l g = .error (flt cService) := by
  obtain ⟨-, hrsv, hobj, -⟩ := objFields k hk
  simp only [txmdBody, hrsv, hobj, h, Bool.false_and, Bool.not_false]
  rfl

/-- The fields of a CAN instruction that names buffer `k` of controller 0 and nothing else. -/
theorem canFields (hk : k < 64) : (BitVec.ofNat 20 k).toNat = k ∧ ctrlOf (BitVec.ofNat 20 k) = 0 ∧ bufOf (BitVec.ofNat 20 k) = k ∧
    tbOf (BitVec.ofNat 20 k) = false := by
  have hnat : (BitVec.ofNat 20 k).toNat = k := by rw [BitVec.toNat_ofNat, Nat.mod_eq_of_lt (by omega)]
  refine ⟨hnat, ?_, ?_, ?_⟩
  · rw [ctrlOf, hnat]
    omega
  · rw [bufOf, hnat]
    omega
  · rw [tbOf, ← BitVec.testBit_toNat, hnat]
    exact Nat.testBit_lt_two_pow (by omega)

theorem ctxBody_unused (e : Nat) (hk : k < 64) (h : l.canUsed 0 k = false) :
    ctxBody e false (BitVec.ofNat 20 k) l g = .error (flt cService) := by
  obtain ⟨hnat, hctrl, hbuf, htb⟩ := canFields k hk
  have hrsv : k / 64 % 256 = 0 := by omega
  simp only [ctxBody, hnat, hctrl, hbuf, htb, hrsv, h, Bool.false_and, Bool.not_false]
  rfl

theorem crxbBody_unused (hk : k < 64) (h : l.canUsed 0 k = false) : crxbBody (BitVec.ofNat 20 k) l g = .error (flt cService) := by
  obtain ⟨hnat, hctrl, hbuf, -⟩ := canFields k hk
  have hrsv : k / 64 % 512 = 0 := by omega
  simp only [crxbBody, hnat, hctrl, hbuf, hrsv, h, Bool.false_and, Bool.not_false]
  rfl

theorem pwrBody_unaligned (e : Nat) (h : g.r.acc2.toNat % 4 ≠ 0) : pwrBody e 0 l g = .error (flt cService) := by
  simp only [pwrBody, h, ne_eq, not_false_eq_true, true_or, ↓reduceIte]
  rfl

end Objects

/-- An instruction whose fetch faults, in a lane whose engine runs alone. -/
theorem Lane.instr_fetch_faults (l : Lane) (ph : Phase) (e t cyc code : Nat) (body : Body) (k : Option Lane)
    (hst : (l.engine e).st = .run) (hf : (l.engine e).fresh = false) (hp : (l.engine e).pair = none)
    (hfetch : l.fetch (l.engine e).r.pc.toNat 1 = .error (code, k)) (hk : k.getD l = l) :
    l.instr ph e t 1 cyc body = l.faultEngine ph e t code := by
  unfold Lane.instr
  simp only [Lane.takeInputs_taken l e hf, hst, bne_self_eq_false, Bool.false_eq_true, ↓reduceIte, hfetch, hk, Lane.mirrorPair, hp]

theorem Lane.fetch_beyond (l : Lane) (pc : Nat) (h : codeWords ≤ pc) : l.fetch pc 1 = .error (cAddr, none) := if_pos h

theorem Lane.fetch_uncorrectable (l : Lane) (pc : Nat) (h : pc < codeWords) (hecc : l.ecc2.contains (4 * pc) = true) :
    l.fetch pc 1 = .error (cEcc, some l) := by
  rw [Lane.fetch, if_neg (Nat.not_le.mpr h), Lane.readW, if_pos hecc]

end Sys2Proof.Machine

open Sys2Proof Sys2Proof.Machine

/-- Settles O12: each faulting form by the fault of its body, of its fetch or of its end. -/
theorem engineFaultsAreTaken : Obligations.EngineFaultsAreTaken := by
  intro s e fl all
  refine ⟨fun o hr => ?mem, fun hr => ?one, fun hlive h => ?addr, fun hlive h => ?ecc⟩
  case mem =>
    intro sp bits puts words
    have mem (c : Instr) (cyc code : Nat) (body : Body) (hexec : exec c s = .next (s.memOp c e o cyc body))
        (hb : s.inEach e fun l g => body l g = .error (flt code)) : s.does e c (fl code) := s.memOp_faults c e o cyc code body hexec hr hb
    have allBits (code : Nat) (hb : ∀ f, s.inEach e fun l g => bitReadBody o f l g = .error (flt code)) : bits code :=
      ⟨mem (.ldb e o) 1 code _ rfl (hb _), mem (.ldbn e o) 1 code _ rfl (hb _), mem (.andBit e o) 1 code _ rfl (hb _),
        mem (.andnBit e o) 1 code _ rfl (hb _), mem (.orBit e o) 1 code _ rfl (hb _), mem (.ornBit e o) 1 code _ rfl (hb _),
        mem (.xorBit e o) 1 code _ rfl (hb _), mem (.xornBit e o) 1 code _ rfl (hb _)⟩
    have allPuts (code : Nat) (hb : ∀ f, s.inEach e fun l g => bitWriteBody o f l g = .error (flt code)) : puts code :=
      ⟨mem (.st e o) 1 code _ rfl (hb _), mem (.stn e o) 1 code _ rfl (hb _), mem (.setBit e o) 1 code _ rfl (hb _),
        mem (.rstBit e o) 1 code _ rfl (hb _)⟩
    have allWords (code : Nat) (hb : ∀ f, s.inEach e fun l g => wordReadBody o f l g = .error (flt code)) : words code :=
      ⟨mem (.ld e o) 1 code _ rfl (hb _), mem (.add e o) 1 code _ rfl (hb _), mem (.sub e o) 1 code _ rfl (hb _),
        mem (.mul e o) 2 code _ rfl (hb _), mem (.mulu e o) 2 code _ rfl (hb _), mem (.div e o) 19 code _ rfl (hb _),
        mem (.divu e o) 19 code _ rfl (hb _), mem (.aw e o) 1 code _ rfl (hb _), mem (.ow e o) 1 code _ rfl (hb _),
        mem (.xw e o) 1 code _ rfl (hb _), mem (.cmp e o) 1 code _ rfl (hb _), mem (.cmpu e o) 1 code _ rfl (hb _)⟩
    refine ⟨fun c h => allBits c fun f _ _ _ => bitReadBody_check o _ _ f c h,
      fun hok h => allBits cAddr fun f x hx _ => bitReadBody_range o _ _ f hok (h x hx),
      fun c h => allPuts c fun f _ _ _ => bitWriteBody_check o _ _ f c h,
      fun hok h => allPuts cAddr fun f x hx _ => bitWriteBody_range o _ _ f hok (h x hx),
      fun hok hsp h => allPuts cWriteProt fun f x hx _ => bitWriteBody_owner o _ _ f hok hsp (h x hx).1 (h x hx).2,
      fun c h => ⟨mem (.rise e o) 1 c _ rfl fun _ _ _ => edgeBody_check o _ _ _ c h,
        mem (.fall e o) 1 c _ rfl fun _ _ _ => edgeBody_check o _ _ _ c h⟩,
      fun c h => allWords c fun f _ _ _ => wordReadBody_check o _ _ f c h,
      fun hok hK hKL h => allWords cAddr fun f x hx _ => wordReadBody_range o _ _ f hok hK hKL (h x hx),
      fun hK hx hlow => ?divZero,
      fun c h => mem (.ldd e o) 1 c _ rfl fun _ _ _ => lddBody_check o _ _ c h,
      fun c h => mem (.stw e o) 1 c _ rfl fun _ _ _ => wordWriteBody_check o _ _ _ 1 c h,
      fun hok h => mem (.stw e o) 1 cAddr _ rfl fun x hx _ => wordWriteBody_range o _ _ _ 1 hok (Nat.lt_succ_of_le (h x hx)),
      fun hok hsp h => mem (.stw e o) 1 cWriteProt _ rfl fun x hx _ => wordWriteBody_owner o _ _ _ hok hsp (h x hx).1 (h x hx).2,
      fun c h => mem (.stwd e o) 1 c _ rfl fun _ _ _ => wordWriteBody_check o _ _ _ 2 c h,
      fun c h => ⟨mem (.ton e o) 2 c _ rfl fun _ _ _ => timerBody_check o _ _ _ c h,
        mem (.tof e o) 2 c _ rfl fun _ _ _ => timerBody_check o _ _ _ c h,
        mem (.tp e o) 2 c _ rfl fun _ _ _ => timerBody_check o _ _ _ c h,
        mem (.tonr e o) 2 c _ rfl fun _ _ _ => timerBody_check o _ _ _ c h⟩,
      fun c h => ⟨mem (.ctu e o) 2 c _ rfl fun _ _ _ => counterBody_check o _ _ _ c h,
        mem (.ctd e o) 2 c _ rfl fun _ _ _ => counterBody_check o _ _ _ c h⟩,
      fun c h => ⟨mem (.rstb e o) 2 c _ rfl fun _ _ _ => rstbBody_check o _ _ c h,
        mem (.ldtc e o) 1 c _ rfl fun _ _ _ => ldtcBody_check o _ _ c h⟩,
      fun c h => mem (.sigv e o) 1 c _ rfl fun _ _ _ => sigvBody_check o _ _ c h⟩
    case divZero =>
      have hK' : o.sp.toNat = 9 := hK
      have hok : opCheck .wordRead o = .ok () := by simp [opCheck, hK', hx, OpClass.accepts, OpClass.protects, opReservedOk]
      have hread (l : Lane) (g : Eng) : readOperand l g.task g.r o = .ok (0, l) := by simp [readOperand, hK', spK, hlow]
      have zero (c : Instr) (f : Word → Regs → Except Flt Regs) (hf : ∀ r, f 0 r = .error (flt cDivZero))
          (hexec : exec c s = .next (s.memOp c e o 19 (wordReadBody o f))) : s.does e c (fl cDivZero) :=
        s.memOp_faults_kept c e o 19 cDivZero _ hexec hr fun _ _ _ => wordReadBody_operation o _ _ f 0 _ hok (hread _ _) (hf _)
      exact ⟨zero (.div e o) aluDiv (fun _ => if_pos rfl) rfl, zero (.divu e o) aluDivu (fun _ => if_pos rfl) rfl⟩
  case one =>
    have one (c : Instr) (cyc code : Nat) (body : Body) (hexec : exec c s = .next (s.regOp c e cyc body))
        (hb : s.inEach e fun l g => body l g = .error (flt code)) : s.does e c (fl code) := s.regOp_faults c e cyc code body hexec hr hb
    refine ⟨fun w hw h => ?unassigned, fun h => ?branch, fun h => one (.bend e 0) 1 cNest (bendBody 0) rfl fun x hx _ => bendBody_empty _ _ (h x hx),
      fun c hc => ⟨one (.ldc e (BitVec.ofNat 20 c.val)) 1 cIllegalOp _ rfl fun _ _ _ => ldcBody_reserved c.val hc c.isLt _ _,
        fun target => one (.jmp e (BitVec.ofNat 4 c.val) target) 1 cIllegalOp _ rfl
          fun _ _ _ => jmpBody_reserved c.val hc c.isLt target _ _⟩,
      fun target h => ⟨one (.jmp e 0 target) 1 cAddr _ rfl fun _ _ _ => jmpBody_range target h _ _,
        one (.call e 0 target) 2 cAddr _ rfl fun _ _ _ => callBody_range target h _ _⟩,
      fun target hin h => one (.call e 0 target) 2 cStack _ rfl fun x hx _ => callBody_full target hin _ _ (h x hx),
      fun h => one (.ret e 0) 2 cNest _ rfl fun x hx _ => retBody_empty _ _ (h x hx), fun hopen => ?ends, fun k hk => ?objects,
      fun k hk h => ⟨one (.ctx e (BitVec.ofNat 20 k)) 20 cService _ rfl fun x hx _ => ctxBody_unused k _ _ e hk (h x hx),
        one (.crxb e (BitVec.ofNat 20 k)) 20 cService _ rfl fun x hx _ => crxbBody_unused k _ _ hk (h x hx)⟩,
      fun h => one (.pwr e 0) 1 cService _ rfl fun x hx _ => pwrBody_unaligned _ _ e (h x hx)⟩
    case unassigned =>
      refine congrArg Host.Outcome.next ((State.engineDo_live s _ (Bool.and_eq_true_iff.mp hr).1).trans ?_)
      congr 1
      refine State.onLanes_congr _ _ _ fun x hx v => ?_
      have hready : ({ s.lane x with watch := v } : Lane).ready e 1 = true := s.lane_ready e 1 x hr hx
      refine (if_pos (Or.inr ⟨h x hx, by rw [hw]; rfl⟩)).trans (Lane.instr_faults _ _ _ _ _ _ _ _ hready rfl)
    case branch =>
      have opens (c : Instr) (op : Nat) (hexec : exec c s = .next (s.regOp c e 1 (branchOpenBody op 0))) : s.does e c (fl cStack) :=
        one c 1 cStack _ hexec fun x hx _ => branchOpenBody_full op _ _ (h x hx)
      exact ⟨opens (.band e 0) 0 rfl, opens (.bandn e 0) 1 rfl, opens (.bor e 0) 2 rfl, opens (.born e 0) 3 rfl,
        opens (.bxor e 0) 4 rfl, opens (.bxorn e 0) 5 rfl⟩
    case ends =>
      have ends (c : Instr) (taken : Bool → Bool) (htaken : all fun _ g => taken g.r.ba = true)
          (hexec : exec c s = .next (s.codeOp c e fun l => l.endInstr s.phase e s.lt 0 taken)) : s.does e c (fl cNest) := by
        intro hs
        rw [hexec]
        refine congrArg Host.Outcome.next (s.codeOp_stands c e _ _ 1 hr hs fun x hx w => ?_)
        have hready : ({ s.lane x with watch := w } : Lane).ready e 1 = true := s.lane_ready e 1 x hr hx
        exact Lane.endInstr_open _ _ _ _ _ hready (htaken x hx) (hopen x hx)
      exact ⟨ends (.endAct e 0) (fun _ => true) (fun _ _ => rfl) rfl, fun h => ends (.endBa e 0) (fun ba => ba) h rfl,
        fun h => ends (.endNba e 0) (fun ba => !ba) (fun x hx => congrArg not (h x hx)) rfl⟩
    case objects =>
      exact ⟨fun h => ⟨one (.txpd e (BitVec.ofNat 20 k)) 0 cService _ rfl fun x hx _ => txpdBody_unused k _ _ e hk (h x hx),
          one (.rxpd e (BitVec.ofNat 20 k)) 0 cService _ rfl fun x hx _ => rxpdBody_unused k _ _ hk (h x hx),
          one (.tstat e (BitVec.ofNat 20 k)) 1 cService _ rfl fun x hx _ => tstatBody_unused k _ _ hk (h x hx)⟩,
        fun h => ⟨one (.txsdt e (BitVec.ofNat 20 k)) 0 cService _ rfl fun x hx _ => txsdtBody_unused k _ _ e hk (h x hx),
          one (.rxsdt e (BitVec.ofNat 20 k)) 0 cService _ rfl fun x hx _ => rxsdtBody_unused k _ _ hk (h x hx)⟩,
        fun h => one (.txmd e (BitVec.ofNat 20 k)) 0 cService _ rfl fun x hx _ => txmdBody_unused k _ _ e hk (h x hx)⟩
  case addr =>
    intro hs
    refine congrArg Host.Outcome.next (s.codeOp_live (.nop e 0) e _ _ hlive hs fun x hx w => ?_)
    obtain ⟨hst, hfresh, hpair, hpc⟩ := h x hx
    exact Lane.instr_fetch_faults _ _ _ _ _ _ _ none hst hfresh hpair (Lane.fetch_beyond _ _ hpc) rfl
  case ecc =>
    intro hs
    refine congrArg Host.Outcome.next (s.codeOp_live (.nop e 0) e _ _ hlive hs fun x hx w => ?_)
    obtain ⟨hst, hfresh, hpair, hpc, hecc⟩ := h x hx
    exact Lane.instr_fetch_faults _ _ _ _ _ _ _ (some _) hst hfresh hpair (Lane.fetch_uncorrectable _ _ hpc hecc) rfl

end

section
/-! Timers and counters (R128 to R134), signal ages and stamps (R135, R136). -/

namespace Sys2Proof.Machine

/-! ### Blocks -/

/-- A timer or counter operand lies in a space without an extension word. -/
theorem opLen_block (o : MOp) (h : o.sp.toNat = 6 ∨ o.sp.toNat = 7) : opLen o = 1 := by
  rcases h with h | h <;> simp [opLen, MOp.hasExt, h]

/-- The spaces of an accepted operand. -/
theorem sp_of_opCheck (cls : OpClass) (o : MOp) (h : opCheck cls o = .ok ()) : o.sp.toNat ∈ cls.accepts := by
  unfold opCheck at h
  dsimp only at h
  split at h
  · cases h
  split at h
  · cases h
  next hclass =>
  split at h
  · cases h
  split at h
  · cases h
  next hprotected =>
  refine Classical.byContradiction fun hnot => ?_
  simp_all

/-- An instruction on a block whose body answers `h` in every serving lane. -/
theorem State.blockOp_does (s : State) (c : Instr) (e : EngId) (o : MOp) (cyc : Nat) (body : Body) (h : Lane → Eng → Lane × Eng)
    (hlen : opLen o = 1) (hexec : exec c s = .next (s.memOp c e o cyc body)) (hr : s.ready e 1 = true)
    (hb : s.inEach e fun l g => body l g = .ok (h l g)) (hm : ∀ l g, (h l g).2.r.m = g.r.m) : s.does e c (.next (s.did e cyc h)) := by
  have hdoes := s.memOp_does c e o cyc body h hexec (by rwa [hlen]) hb hm
  rwa [hlen] at hdoes

theorem blockOperand_ok (cls : OpClass) (o : MOp) (r : Regs) (hok : opCheck cls o = .ok ()) (hk : opIndex o r < spaceWords o.sp.toNat) :
    blockOperand cls o r = .ok (blockAddr o.sp.toNat (opIndex o r)) := by
  simp only [blockOperand, hok, if_neg (Nat.not_le.mpr hk), bind, Except.bind]
  rfl

/-- The words of a timer block. -/
theorem readWords_four (l : Lane) (a : Nat) (hc : l.clean = true) :
    l.readWords a 4 = .ok ([memWord l.mem a, memWord l.mem (a + 4), memWord l.mem (a + 8), memWord l.mem (a + 12)], l) :=
  readWords_clean l a 4 hc

/-- A block as a timer of `kind` takes it up (R130): one of another kind starts again and shows it. -/
def tmTaken (kind : Nat) (old : TmBlock) : TmBlock :=
  if old.kind = kind then old else { kind := kind, kindChg := old.kindChg || old.kind != 0, last := old.last }

/-- The µs since the block's stamp, none for a block that has none. -/
def tmSince (b : TmBlock) (now : Nat) : Nat := if b.stamped && decide (b.last ≤ now) then now - b.last else 0

/-- The block that an evaluation with a timer's own ET and Q leaves. -/
def tmLeft (b : TmBlock) (inp : Bool) (now : Nat) (r : Nat × Bool) : TmBlock :=
  { b with et := r.1, q := r.2, prevIn := inp, stamped := true, last := now }

/-- ET and Q of each kind (R130, R131), from the block, its input, PT and the µs gone. -/
def tonRule (b : TmBlock) (inp : Bool) (pt d : Nat) : Nat × Bool :=
  let et := if inp && b.prevIn then min (b.et + d) pt else 0
  (et, inp && decide (pt ≤ et))

def tofRule (b : TmBlock) (inp : Bool) (pt d : Nat) : Nat × Bool :=
  if inp then (0, true) else if b.prevIn then (0, decide (0 < pt))
  else if b.q then (min (b.et + d) pt, decide (min (b.et + d) pt < pt)) else (b.et, false)

def tpRule (b : TmBlock) (inp : Bool) (pt d : Nat) : Nat × Bool :=
  if b.q then (min (b.et + d) pt, decide (min (b.et + d) pt < pt))
  else if inp && !b.prevIn then (0, decide (0 < pt)) else (if inp then b.et else 0, false)

def tonrRule (b : TmBlock) (inp : Bool) (pt d : Nat) : Nat × Bool :=
  let et := min (if inp && b.prevIn then b.et + d else b.et) pt
  (et, decide (pt ≤ et))

theorem tmSince_eq (b : TmBlock) (now : Nat) : (if (!b.stamped || decide (now < b.last)) = true then 0 else now - b.last) = tmSince b now := by
  unfold tmSince
  cases b.stamped
  · rfl
  · by_cases h : b.last ≤ now
    · simp [h, Nat.not_lt.mpr h]
    · simp [h, Nat.lt_of_not_le h]

theorem tmTaken_eq (kind : Nat) (b : TmBlock) :
    (if b.kind = kind then b
      else { b with kindChg := b.kindChg || b.kind != 0, et := 0, q := false, prevIn := false, stamped := false, kind := kind }) =
      tmTaken kind b := rfl

theorem tmEval_ton (inp : Bool) (pt now : Nat) (old : TmBlock) : tmEval 1 inp pt now old =
    tmLeft (tmTaken 1 old) inp now (tonRule (tmTaken 1 old) inp pt (tmSince (tmTaken 1 old) now)) := by
  rw [tmEval, tmTaken_eq, tmSince_eq]
  generalize tmTaken 1 old = b
  cases inp <;> cases hp : b.prevIn <;> simp [tkTon, tonRule, tmLeft, hp]

theorem tmEval_tof (inp : Bool) (pt now : Nat) (old : TmBlock) : tmEval 2 inp pt now old =
    tmLeft (tmTaken 2 old) inp now (tofRule (tmTaken 2 old) inp pt (tmSince (tmTaken 2 old) now)) := by
  rw [tmEval, tmTaken_eq, tmSince_eq]
  generalize tmTaken 2 old = b
  cases inp <;> cases hp : b.prevIn <;> cases hq : b.q <;> simp [tkTon, tkTof, tofRule, tmLeft, hp, hq]

theorem tmEval_tp (inp : Bool) (pt now : Nat) (old : TmBlock) : tmEval 3 inp pt now old =
    tmLeft (tmTaken 3 old) inp now (tpRule (tmTaken 3 old) inp pt (tmSince (tmTaken 3 old) now)) := by
  rw [tmEval, tmTaken_eq, tmSince_eq]
  generalize tmTaken 3 old = b
  cases inp <;> cases hp : b.prevIn <;> cases hq : b.q <;> simp [tkTon, tkTof, tkTp, tpRule, tmLeft, hp, hq]

theorem tmEval_tonr (inp : Bool) (pt now : Nat) (old : TmBlock) : tmEval 4 inp pt now old =
    tmLeft (tmTaken 4 old) inp now (tonrRule (tmTaken 4 old) inp pt (tmSince (tmTaken 4 old) now)) := by
  have hmin (n : Nat) : (if pt < n then pt else n) = min n pt := by
    rw [Nat.min_def]
    split <;> split <;> omega
  rw [tmEval, tmTaken_eq, tmSince_eq]
  generalize tmTaken 4 old = b
  cases inp <;> cases hp : b.prevIn <;> simp [tkTon, tkTof, tkTp, tonrRule, tmLeft, hp, hmin]

theorem timerBody_ok (kind : Nat) (o : MOp) (l : Lane) (g : Eng) (hok : opCheck .timer o = .ok ()) (hc : l.clean = true)
    (hk : opIndex o g.r < 8192) (rule : TmBlock → Bool → Nat → Nat → Nat × Bool)
    (heval : ∀ inp pt now old, tmEval kind inp pt now old =
      tmLeft (tmTaken kind old) inp now (rule (tmTaken kind old) inp pt (tmSince (tmTaken kind old) now))) :
    timerBody kind o l g = .ok (
      let a := 0x028C0000 + 16 * opIndex o g.r
      let b := tmTaken kind (tmOf [memWord l.mem a, memWord l.mem (a + 4), memWord l.mem (a + 8), memWord l.mem (a + 12)])
      let now := g.act.start / 1000
      let r := rule b g.r.ba g.r.acc1.toNat (tmSince b now)
      (l.storeWords a (tmWords (tmLeft b g.r.ba now r) (memWord l.mem (a + 4))), g.past { g.r with ba := r.2 } 1)) := by
  have hsp : o.sp.toNat = 6 := by simpa [OpClass.accepts] using sp_of_opCheck .timer o hok
  have hoperand := blockOperand_ok .timer o g.r hok (by rw [hsp]; exact hk)
  rw [hsp] at hoperand
  simp only [timerBody, hoperand, readWords_four l _ hc, heval, bind, Except.bind]
  rfl

theorem getLsbD_setBitOf_zero (w : Word) (b : Bool) : (setBitOf w 0 b).getLsbD 0 = b := by
  cases b <;> simp [setBitOf]

/-- CTU and CTD by what each counts and where it stops. -/
def counterRule (prev : Nat) (stop : Word) (step : Word → Word) (q : Word → Word → Bool) (ba : Bool) (acc1 w0 w1 : Word) : Word × Word :=
  let edge := ba && !w1.getLsbD prev
  let cv := if edge && w0 != stop then step w0 else w0
  (cv, setBitOf (setBitOf (if edge && w0 == stop then setBitOf w1 3 true else w1) prev ba) 0 (q acc1 cv))

theorem counterBody_ok (prev : Nat) (stop : Word) (step : Word → Word) (q : Word → Word → Bool) (o : MOp) (l : Lane) (g : Eng)
    (hok : opCheck .counter o = .ok ()) (hc : l.clean = true) (hk : opIndex o g.r < 8192) :
    counterBody (counterRule prev stop step q) o l g = .ok (
      let a := blockAddr o.sp.toNat (opIndex o g.r)
      let r := counterRule prev stop step q g.r.ba g.r.acc1 (memWord l.mem a) (memWord l.mem (a + 4))
      (l.storeWords a [r.1, r.2], g.past { g.r with ba := q g.r.acc1 r.1 } 1)) := by
  have hsp : o.sp.toNat = 7 := by simpa [OpClass.accepts] using sp_of_opCheck .counter o hok
  simp only [counterBody, blockOperand_ok .counter o g.r hok (by rw [hsp]; exact hk), Lane.readW_clean l _ hc, bind, Except.bind,
    counterRule, getLsbD_setBitOf_zero]
  rfl

theorem block_of_blockAcc (o : MOp) (hok : opCheck .blockAcc o = .ok ()) : o.sp.toNat = 6 ∨ o.sp.toNat = 7 := by
  simpa [OpClass.accepts] using sp_of_opCheck .blockAcc o hok

theorem blockOperand_blockAcc (o : MOp) (r : Regs) (hok : opCheck .blockAcc o = .ok ()) (hk : opIndex o r < 8192) :
    blockOperand .blockAcc o r = .ok (blockAddr o.sp.toNat (opIndex o r)) := by
  refine blockOperand_ok .blockAcc o r hok ?_
  rcases block_of_blockAcc o hok with hsp | hsp <;> rw [hsp] <;> exact hk

theorem rstbBody_ok (o : MOp) (l : Lane) (g : Eng) (hok : opCheck .blockAcc o = .ok ()) (hc : l.clean = true)
    (hk : opIndex o g.r < 8192) :
    rstbBody o l g = .ok (
      let a := blockAddr o.sp.toNat (opIndex o g.r)
      let w1 := memWord l.mem (a + 4)
      (if !g.r.ba then l
        else if o.sp.toNat = spTM then l.storeWords a [0, setBitOf w1 0 false]
        else l.storeWords a [g.r.acc1, setBitOf (setBitOf w1 0 false) 3 false], g.past g.r 1)) := by
  simp only [rstbBody, blockOperand_blockAcc o g.r hok hk, Lane.readW_clean l _ hc, bind, Except.bind]
  cases g.r.ba
  · rfl
  · by_cases hsp : o.sp.toNat = spTM
    · simp only [hsp, beq_self_eq_true]
      rfl
    · simp only [hsp, beq_iff_eq]
      rfl

theorem ldtcBody_ok (o : MOp) (l : Lane) (g : Eng) (hok : opCheck .blockAcc o = .ok ()) (hc : l.clean = true)
    (hk : opIndex o g.r < 8192) :
    ldtcBody o l g = .ok (l, g.past { g.r with acc1 := memWord l.mem (blockAddr o.sp.toNat (opIndex o g.r)) } 1) := by
  simp only [ldtcBody, blockOperand_blockAcc o g.r hok hk, Lane.readW_clean l _ hc, bind, Except.bind]
  rfl

/-! ### Signals -/

theorem opLen_signal (o : MOp) (hok : opCheck .signal o = .ok ()) : opLen o = 2 := by
  have hsp : o.sp.toNat = 4 ∨ o.sp.toNat = 5 := by simpa [OpClass.accepts] using sp_of_opCheck .signal o hok
  rcases hsp with h | h <;> simp [opLen, MOp.hasExt, h]

/-- A Format M instruction of two code words. -/
theorem State.memOp_does_two (s : State) (c : Instr) (e : EngId) (o : MOp) (cyc : Nat) (body : Body) (h : Lane → Eng → Lane × Eng)
    (hlen : opLen o = 2) (hexec : exec c s = .next (s.memOp c e o cyc body)) (hr : s.ready e 2 = true)
    (hb : s.inEach e fun l g => body l g = .ok (h l g)) (hm : ∀ l g, (h l g).2.r.m = g.r.m) :
    s.does e c (.next (s.did e (cyc + 1) h)) := by
  have hdoes := s.memOp_does c e o cyc body h hexec (by rwa [hlen]) hb hm
  rwa [hlen] at hdoes

theorem sigvBody_ok (o : MOp) (l : Lane) (g : Eng) (hok : opCheck .signal o = .ok ()) (hk : opIndex o g.r < smElems o.sp.toNat)
    (hcount : ∀ i, l.mapOf o.sp.toNat (opIndex o g.r) = some i → (g.act.obj (keyPd (l.smPd i))).count ≠ 0) :
    sigvBody o l g = .ok (
      let k := opIndex o g.r
      (l, if inOwned (if o.sp.toNat = spS then l.ownedS else l.ownedW) k then g.past { g.r with ba := true, acc1 := 0 } 2
          else match l.mapOf o.sp.toNat k with
            | none => g.past { g.r with ba := false, acc1 := 0xFFFFFFFF#32 } 2
            | some i => let c := g.act.obj (keyPd (l.smPd i))
              g.past { g.r with ba := c.status.getLsbD 0,
                                acc1 := BitVec.ofNat 32 (min (g.act.start / 1000 - c.stampUs) 0xFFFFFFFF) } 2)) := by
  have hspace : (if (o.sp.toNat == spS) = true then l.ownedS else l.ownedW) = if o.sp.toNat = spS then l.ownedS else l.ownedW := by
    simp
  simp only [sigvBody, hok, if_neg (Nat.not_le.mpr hk), bind, Except.bind, hspace]
  cases howned : inOwned (if o.sp.toNat = spS then l.ownedS else l.ownedW) (opIndex o g.r)
  · cases hmap : l.mapOf o.sp.toNat (opIndex o g.r) with
    | none => rfl
    | some i =>
      simp only [if_neg (hcount i hmap)]
      rfl
  · rfl

/-! ### Stamps -/

/-- A stamp instruction in its legal encoding. -/
theorem State.stamp_does (s : State) (c : Instr) (e : EngId) (f : Act → Nat × Bool)
    (hexec : exec c s = .next (s.regOp c e 1 (stmpBody 0 f))) (hr : s.ready e 1 = true) :
    s.does e c (.next (s.did e 1 fun l g => (l, g.past { g.r with
      acc1 := BitVec.ofNat 32 (f g.act).1, acc2 := BitVec.ofNat 32 ((f g.act).1 / 4294967296), ba := (f g.act).2 } 1))) :=
  s.regOp_does c e 1 _ _ hexec hr (fun _ _ _ => rfl) fun _ _ => rfl

end Sys2Proof.Machine

open Sys2Proof Sys2Proof.Machine

/-- Settles O21: the evaluation of each timer kind by its rule, CTU and CTD as one counter, RSTB and LDTC by their bodies. -/
theorem timersAndCounters : Obligations.TimersAndCounters := by
  refine ⟨fun s e o hr hok hin => ?timers, fun s e o hr hin => ?counters⟩
  case timers =>
    intro adr blk ans
    have hlen : opLen o = 1 := opLen_block o (Or.inl (by simpa [OpClass.accepts] using sp_of_opCheck .timer o hok))
    have timer (c : Instr) (kind : Nat) (rule : TmBlock → Bool → Nat → Nat → Nat × Bool)
        (heval : ∀ inp pt now old, tmEval kind inp pt now old =
          tmLeft (tmTaken kind old) inp now (rule (tmTaken kind old) inp pt (tmSince (tmTaken kind old) now)))
        (hexec : exec c s = .next (s.memOp c e o 2 (timerBody kind o))) : s.does e c (ans kind rule) :=
      s.blockOp_does c e o 2 _ _ hlen hexec hr
        (fun x hx w => timerBody_ok kind o { s.lane x with watch := w } _ hok (s.lane_clean e 1 x hr hx) (hin x hx) rule heval) fun _ _ => rfl
    exact ⟨timer (.ton e o) 1 tonRule tmEval_ton rfl, timer (.tof e o) 2 tofRule tmEval_tof rfl,
      timer (.tp e o) 3 tpRule tmEval_tp rfl, timer (.tonr e o) 4 tonrRule tmEval_tonr rfl⟩
  case counters =>
    intro adr w0 w1 cnt
    refine ⟨fun hok => ?_, fun hok => ?_⟩
    · have hlen : opLen o = 1 := opLen_block o (Or.inr (by simpa [OpClass.accepts] using sp_of_opCheck .counter o hok))
      have counter (c : Instr) (prev : Nat) (stop : Word) (step : Word → Word) (q : Word → Word → Bool)
          (hexec : exec c s = .next (s.memOp c e o 2 (counterBody (counterRule prev stop step q) o))) :
          s.does e c (cnt prev stop step q) :=
        s.blockOp_does c e o 2 _ _ hlen hexec hr
          (fun x hx w => counterBody_ok prev stop step q o { s.lane x with watch := w } _ hok (s.lane_clean e 1 x hr hx) (hin x hx)) fun _ _ => rfl
      exact ⟨counter (.ctu e o) 1 0xFFFFFFFF#32 (fun v => v + 1) (fun a v => decide (a.toNat ≤ v.toNat)) rfl,
        counter (.ctd e o) 2 0 (fun v => v - 1) (fun a v => decide (v.toNat ≤ a.toNat)) rfl⟩
    · have hlen : opLen o = 1 := opLen_block o (block_of_blockAcc o hok)
      exact ⟨s.blockOp_does (.rstb e o) e o 2 (rstbBody o) _ hlen rfl hr
          (fun x hx w => rstbBody_ok o { s.lane x with watch := w } _ hok (s.lane_clean e 1 x hr hx) (hin x hx)) fun _ _ => rfl,
        s.blockOp_does (.ldtc e o) e o 1 (ldtcBody o) _ hlen rfl hr
          (fun x hx w => ldtcBody_ok o { s.lane x with watch := w } _ hok (s.lane_clean e 1 x hr hx) (hin x hx)) fun _ _ => rfl⟩

/-- Settles O22: SIGV by what holds its element, and each stamp by the clock it reads. -/
theorem signalAgeAndStamps : Obligations.SignalAgeAndStamps := by
  refine fun s e => ⟨fun o hr hok hin => ?_, fun hr => ?_⟩
  · have hlen := opLen_signal o hok
    refine s.memOp_does_two (.sigv e o) e o 1 (sigvBody o) _ hlen rfl hr (fun x hx w => ?_) fun l g => ?_
    · have hmap (sp k : Nat) : ({ s.lane x with watch := w } : Lane).mapOf sp k = (s.lane x).mapOf sp k := rfl
      obtain ⟨hk, hcount⟩ := hin x hx
      refine (sigvBody_ok o { s.lane x with watch := w } _ hok hk fun i hi => hcount i (hmap _ _ ▸ hi)).trans ?_
      generalize ({ s.lane x with watch := w } : Lane) = l
      generalize (s.lane x).engine e = g
      refine congrArg (fun r => Except.ok (l, r)) (ite_eq_of_iff Iff.rfl rfl ?_)
      cases l.mapOf o.sp.toNat (opIndex o g.r) <;> rfl
    · dsimp only
      generalize (if o.sp.toNat = spS then l.ownedS else l.ownedW) = owned
      split
      · rfl
      · split <;> rfl
  · intro ans
    have stamp (c : Instr) (f : Act → Nat × Bool) (hexec : exec c s = .next (s.regOp c e 1 (stmpBody 0 f))) :
        s.does e c (ans (fun a => (f a).1) fun a => (f a).2) := s.stamp_does c e f hexec hr
    refine ⟨stamp (.stmpLt e 0) stampLt rfl, stamp (.stmpTt e 0) stampTt rfl, stamp (.stmpP e 0) stampP rfl,
      stamp (.stmpD e 0) stampD rfl, stamp (.stmpPh e 0) stampPh rfl, stamp (.stmpSpd e 0) stampSpd rfl, ?_⟩
    have h := stamp (.stmpCyc e 0) cycOf rfl
    have hval (a : Act) : (cycOf a).1 = match a.prev with
        | none => 0 | some p => min (a.start / 1000 - p / 1000) 0xFFFFFFFF := by
      unfold cycOf
      cases a.prev <;> rfl
    have hok (a : Act) : (cycOf a).2 = a.prev.isSome := by
      unfold cycOf
      cases a.prev <;> rfl
    simp only [hval, hok] at h
    exact h

end

section
/-! The services that go on (R138 to R151): effects issued from D, and objects copied to D. -/

namespace Sys2Proof.Machine

/-! ### Effects -/

@[simp] theorem Lane.closeWindow_regs (l : Lane) (e reason : Nat) : ((l.closeWindow e reason).engine e).r = (l.engine e).r := by
  simp [Lane.closeWindow]

@[simp] theorem Lane.openWindow_regs (l : Lane) (e : Nat) : ((l.openWindow e).engine e).r = (l.engine e).r := by
  simp [Lane.openWindow]

@[simp] theorem Lane.emit_regs (l : Lane) (e kind : Nat) (t0 t1 : Word) (len : Nat) (data : List Word) (ckpt : Bool) :
    ((l.emit e kind t0 t1 len data ckpt).engine e).r = (l.engine e).r := by
  unfold Lane.emit
  dsimp only
  split <;> simp

/-- An effect leaves the registers of its engine. -/
theorem emitBody_regs (e kind : Nat) (t0 t1 : Word) (len : Nat) (data : List Word) (l : Lane) (g : Eng) :
    (emitBody e kind t0 t1 len data l g).2.r = g.r := by
  simp [emitBody]

/-! ### Data in D -/

/-- The bytes of D from word `k` on that a service sends. -/
def dataAt (l : Lane) (k bytes : Nat) : List Word :=
  maskTail bytes ((List.range (wordsOf bytes)).map fun i => memWord l.mem (dBase + 4 * (k + i)))

theorem readD_clean (l : Lane) (k n : Nat) (hc : l.clean = true) : readD l k n = .ok (dataAt l k n, l) := by
  simp only [readD, readWords_clean l _ _ hc, bind, Except.bind, dataAt, Nat.mul_add, Nat.add_assoc]
  rfl

theorem dBlock_ok (r : Regs) (xs n : Nat) (h : (r.getX xs).toNat + n ≤ 2097152) : dBlock r xs n = .ok (r.getX xs).toNat := by
  have hfit : ¬(n ≠ 0 ∧ dWords < (r.getX xs).toNat + n) := fun ⟨_, hlt⟩ => absurd h (Nat.not_le.mpr hlt)
  exact if_neg hfit

/-- The copy of an object in a lane without memory errors. -/
theorem copyObj_clean (l : Lane) (key d j : Nat) (ws : List Word) (hc : l.clean = true) :
    l.copyObj key d j ws = .ok (l.storeWords (dBase + 4 * d) ws) := by
  induction ws generalizing l d j with
  | nil => rfl
  | cons w t ih =>
    have herr : l.ecc1 = [] ∧ l.ecc2 = [] := by simpa [Lane.clean] using hc
    simp only [Lane.copyObj, Lane.storeWords, herr.1, herr.2, List.contains_nil, Bool.false_eq_true, ↓reduceIte]
    rw [ih _ _ _ (l.clean_store _ _ hc), Nat.mul_add, Nat.mul_one, Nat.add_assoc]

/-! ### Operand fields -/

/-- The fields of a telegram instruction. -/
theorem telFields (xs n : Nat) (hxs : xs < 8) (hn : n < 2048) :
    telRsv (BitVec.ofNat 20 (131072 * xs + n)) = true ∧ objOf (BitVec.ofNat 20 (131072 * xs + n)) = n ∧
      xsOf (BitVec.ofNat 20 (131072 * xs + n)) = xs := by
  have hnat : (BitVec.ofNat 20 (131072 * xs + n)).toNat = 131072 * xs + n := by
    rw [BitVec.toNat_ofNat, Nat.mod_eq_of_lt (by omega)]
  refine ⟨?_, ?_, ?_⟩
  · rw [telRsv, hnat, beq_iff_eq]
    omega
  · rw [objOf, hnat]
    omega
  · rw [xsOf, hnat]
    omega

/-- The low field of a CAN instruction. -/
def canLow (xs c : Nat) (tb : Bool) (b : Nat) : Nat := 131072 * xs + 32768 * c + 16384 * tb.toNat + b

theorem canLow_fields (xs c : Nat) (tb : Bool) (b : Nat) (hxs : xs < 8) (hc : c < 4) (hb : b < 64) :
    (BitVec.ofNat 20 (canLow xs c tb b)).toNat / 64 % 256 = 0 ∧ tbOf (BitVec.ofNat 20 (canLow xs c tb b)) = tb ∧
      ctrlOf (BitVec.ofNat 20 (canLow xs c tb b)) = c ∧ bufOf (BitVec.ofNat 20 (canLow xs c tb b)) = b ∧
      xsOf (BitVec.ofNat 20 (canLow xs c tb b)) = xs := by
  have htb := Bool.toNat_le tb
  have hlow : canLow xs c tb b = 131072 * xs + 32768 * c + 16384 * tb.toNat + b := rfl
  have hnat : (BitVec.ofNat 20 (canLow xs c tb b)).toNat = canLow xs c tb b := by
    rw [BitVec.toNat_ofNat, Nat.mod_eq_of_lt (by omega)]
  refine ⟨?_, ?_, ?_, ?_, ?_⟩
  · rw [hnat]
    omega
  · rw [tbOf, ← BitVec.testBit_toNat, hnat, Nat.testBit_eq_decide_div_mod_eq, hlow,
      show (131072 * xs + 32768 * c + 16384 * tb.toNat + b) / 2 ^ 14 % 2 = tb.toNat by omega]
    cases tb <;> rfl
  · rw [ctrlOf, hnat]
    omega
  · rw [bufOf, hnat]
    omega
  · rw [xsOf, hnat]
    omega

/-! ### Sending -/

section Sending
variable (e xs n : Nat) (l : Lane) (g : Eng) (hc : l.clean = true) (hxs : xs < 8)
include hc hxs

theorem txpdBody_ok (hn : n < 2048) (hused : l.pdUsed n = true ∧ l.pdDir n = 1 ∧ l.pdSdt n = false ∧ l.leasePd n = false)
    (hk : (g.r.getX xs).toNat + (l.pdLen n + 3) / 4 ≤ 2097152) :
    txpdBody e (BitVec.ofNat 20 (131072 * xs + n)) l g = .ok (emitBody e rkPd (BitVec.ofNat 32 n) 0 (l.pdLen n)
      (dataAt l (g.r.getX xs).toNat (l.pdLen n)) l ((g.past g.r 1).extra (2 + (l.pdLen n + 3) / 4))) := by
  obtain ⟨hrsv, hobj, hx⟩ := telFields xs n hxs hn
  obtain ⟨h1, h2, h3, h4⟩ := hused
  simp only [txpdBody, hrsv, hobj, hx, h1, h2, h3, h4, dBlock_ok g.r xs _ hk, wordsOf, readD_clean l _ _ hc, bind, Except.bind]
  rfl

theorem txsdtBody_ok (hn : n < 2048) (hused : l.sdtUsed n = true ∧ l.pdDir (l.sdtPd n) = 1)
    (hk : (g.r.getX xs).toNat + (l.sdtLen n + 3) / 4 ≤ 2097152) :
    txsdtBody e (BitVec.ofNat 20 (131072 * xs + n)) l g = .ok (emitBody e rkSdt (BitVec.ofNat 32 n) 0 (l.sdtLen n)
      (dataAt l (g.r.getX xs).toNat (l.sdtLen n)) l ((g.past g.r 1).extra (2 + (l.sdtLen n + 3) / 4))) := by
  obtain ⟨hrsv, hobj, hx⟩ := telFields xs n hxs hn
  obtain ⟨h1, h2⟩ := hused
  simp only [txsdtBody, hrsv, hobj, hx, h1, h2, dBlock_ok g.r xs _ hk, wordsOf, readD_clean l _ _ hc, bind, Except.bind]
  rfl

theorem txmdBody_ok (hn : n < 2048) (hused : l.mdUsed n = true ∧ l.mdRole n ≠ mdListener ∧ g.r.acc1.toNat ≤ l.mdMax n)
    (hk : (g.r.getX xs).toNat + (l.mdMax n + 3) / 4 ≤ 2097152) :
    txmdBody e (BitVec.ofNat 20 (131072 * xs + n)) l g = .ok (emitBody e rkMd (BitVec.ofNat 32 n) 0 (4 + g.r.acc1.toNat)
      (g.r.acc1 :: dataAt l (g.r.getX xs).toNat g.r.acc1.toNat) l ((g.past g.r 1).extra (2 + (l.mdMax n + 3) / 4))) := by
  obtain ⟨hrsv, hobj, hx⟩ := telFields xs n hxs hn
  obtain ⟨h1, h2, h3⟩ := hused
  have hrole : (l.mdRole n != mdListener) = true := bne_iff_ne.mpr h2
  simp only [txmdBody, hrsv, hobj, hx, h1, hrole, if_neg (Nat.not_lt.mpr h3), dBlock_ok g.r xs _ hk, wordsOf, readD_clean l _ _ hc,
    bind, Except.bind]
  rfl

/-- CTX and CTXT up to what they emit. -/
theorem ctxBody_ok (timed tb : Bool) (c b : Nat) (htb : timed = false → tb = false) (hcan : c < 4) (hb : b < 64)
    (hused : l.canUsed c b = true ∧ l.canDir c b = 2) (hk : (g.r.getX xs).toNat + 18 ≤ 2097152)
    (hdesc : descOk (memWord l.mem (0x02000000 + 4 * (g.r.getX xs).toNat))
      (memWord l.mem (0x02000000 + 4 * ((g.r.getX xs).toNat + 1))) = true) :
    ctxBody e timed (BitVec.ofNat 20 (canLow xs c tb b)) l g = .ok (if timed then
        emitBody e rkCan (BitVec.ofNat 32 (c + 256 * b)) (BitVec.ofNat 32 (1 + 2 * tb.toNat)) 80
          (dataAt l (g.r.getX xs).toNat 72 ++ [g.r.acc1, g.r.acc2]) l (g.past g.r 1)
      else emitBody e rkCan (BitVec.ofNat 32 (c + 256 * b)) 0 72 (dataAt l (g.r.getX xs).toNat 72) l (g.past g.r 1)) := by
  obtain ⟨hrsv, htb', hctrl, hbuf, hx⟩ := canLow_fields xs c tb b hxs hcan hb
  obtain ⟨h1, h2⟩ := hused
  have hform : ¬(0 ≠ 0 ∨ (!timed && tb) = true) := by
    cases timed
    · simp [htb rfl]
    · simp
  have hdesc' : descOk ((dataAt l (g.r.getX xs).toNat 72).getD 0 0) ((dataAt l (g.r.getX xs).toNat 72).getD 1 0) = true := hdesc
  simp only [ctxBody, hrsv, htb', hctrl, hbuf, hx, h1, h2, if_neg hform, dBlock_ok g.r xs _ hk, readD_clean l _ _ hc, hdesc',
    Nat.mul_comm b, bind, Except.bind]
  cases timed <;> rfl

theorem armBody_ok (hwt : Nat → Bool) (hn : n < 64) (hk : (g.r.getX xs).toNat + 4 ≤ 2097152)
    (hok : let d := dataAt l (g.r.getX xs).toNat 16
      armOk hwt (d.getD 0 0) (d.getD 1 0) (d.getD 2 0) (d.getD 3 0) = true) :
    armBody hwt e (BitVec.ofNat 20 (131072 * xs + n)) l g =
      .ok (emitBody e rkArm (BitVec.ofNat 32 n) 0 16 (dataAt l (g.r.getX xs).toNat 16) l (g.past g.r 1)) := by
  have hnat : (BitVec.ofNat 20 (131072 * xs + n)).toNat = 131072 * xs + n := by
    rw [BitVec.toNat_ofNat, Nat.mod_eq_of_lt (by omega)]
  have hrsv : (131072 * xs + n) / 64 % 2 ^ 11 = 0 := by omega
  have hbuf : bufOf (BitVec.ofNat 20 (131072 * xs + n)) = n := by
    rw [bufOf, hnat]
    omega
  have hx := (telFields xs n hxs (by omega)).2.2
  simp only [armBody, hnat, hrsv, hbuf, hx, dBlock_ok g.r xs _ hk, readD_clean l _ _ hc, hok, bind, Except.bind]
  rfl

theorem recBody_ok (type m : Nat) (hlo : 0x8000 ≤ type) (hhi : type < 0x10000) (hm : m ≤ 4032)
    (hk : (g.r.getX xs).toNat + (m + 3) / 4 ≤ 2097152) :
    recBody e (BitVec.ofNat 26 (131072 * xs + type)) (BitVec.ofNat 32 m) l g = .ok (emitBody e rkRec (BitVec.ofNat 32 type) 0 m
      (dataAt l (g.r.getX xs).toNat m) l ((g.past g.r 2).extra (3 + (m + 3) / 4))) := by
  have hnat : (BitVec.ofNat 26 (131072 * xs + type)).toNat = 131072 * xs + type := by
    rw [BitVec.toNat_ofNat, Nat.mod_eq_of_lt (by omega)]
  have hlen : (BitVec.ofNat 32 m).toNat = m := by rw [BitVec.toNat_ofNat, Nat.mod_eq_of_lt (by omega)]
  obtain ⟨h1, h2, h3, h4⟩ : (131072 * xs + type) / 2 ^ 20 = 0 ∧ (131072 * xs + type) / 2 ^ 16 % 2 = 0 ∧
      (131072 * xs + type) / 2 ^ 17 % 8 = xs ∧ (131072 * xs + type) % 2 ^ 16 = type := by omega
  have hform : ¬((0 : Nat) ≠ 0 ∨ (0 : Nat) ≠ 0 ∨ 4032 < m) := by omega
  simp only [recBody, hnat, hlen, h1, h2, h3, h4, if_neg hform, if_neg (Nat.not_lt.mpr hlo), dBlock_ok g.r xs _ hk, wordsOf,
    readD_clean l _ _ hc, bind, Except.bind]
  rfl

end Sending

theorem disarmBody_ok (e n : Nat) (l : Lane) (g : Eng) (hn : n < 64) :
    disarmBody e (BitVec.ofNat 20 n) l g = .ok (emitBody e rkDisarm (BitVec.ofNat 32 n) 0 0 [] l (g.past g.r 1)) := by
  have hnat : (BitVec.ofNat 20 n).toNat = n := by rw [BitVec.toNat_ofNat, Nat.mod_eq_of_lt (by omega)]
  have hrsv : n / 64 = 0 := by omega
  have hbuf : bufOf (BitVec.ofNat 20 n) = n := by
    rw [bufOf, hnat]
    omega
  simp only [disarmBody, hnat, hrsv, hbuf]
  rfl

theorem eclsBody_ok (e n : Nat) (l : Lane) (g : Eng) (hn : n < 256) :
    eclsBody e (BitVec.ofNat 26 n) l g = .ok (emitBody e rkEcls (BitVec.ofNat 32 g.task) 0 4 [BitVec.ofNat 32 n] l (g.past g.r 1)) := by
  have hnat : (BitVec.ofNat 26 n).toNat = n := by rw [BitVec.toNat_ofNat, Nat.mod_eq_of_lt (by omega)]
  have hrsv : n / 256 = 0 := by omega
  simp only [eclsBody, hnat, hrsv]
  rfl

theorem pwrBody_ok (e : Nat) (l : Lane) (g : Eng) (h : g.r.acc2.toNat % 4 = 0 ∧ periphAddr g.r.acc2.toNat = true) :
    pwrBody e 0 l g = .ok (emitBody e rkPwr g.r.acc2 0 4 [g.r.acc1] l (g.past g.r 1)) := by
  simp only [pwrBody, h.1, h.2]
  rfl

/-! ### Receiving -/

section Receiving
variable (xs n : Nat) (l : Lane) (g : Eng)

theorem rxCopy_clean (key k len : Nat) (hc : l.clean = true) :
    rxCopy l g key k len = .ok (
      let c := g.act.obj key
      (l.storeWords (dBase + 4 * k) (padWords (wordsOf len) c.data),
        (g.past { g.r with acc1 := BitVec.ofNat 32 c.len, acc2 := c.status, ba := c.status.getLsbD 0 } 1).extra (2 + wordsOf len))) := by
  simp only [rxCopy, copyObj_clean l _ _ _ _ hc, bind, Except.bind]
  rfl

theorem rxpdBody_ok (hxs : xs < 8) (hn : n < 2048)
    (hused : l.pdUsed n = true ∧ l.pdDir n = 2 ∧ l.pdSdt n = false ∧ l.leasePd n = false ∧
      (g.r.getX xs).toNat + (l.pdLen n + 3) / 4 ≤ 2097152) :
    rxpdBody (BitVec.ofNat 20 (131072 * xs + n)) l g = rxCopy l g (keyPd n) (g.r.getX xs).toNat (l.pdLen n) := by
  obtain ⟨hrsv, hobj, hx⟩ := telFields xs n hxs hn
  obtain ⟨h1, h2, h3, h4, hk⟩ := hused
  simp only [rxpdBody, hrsv, hobj, hx, h1, h2, h3, h4, dBlock_ok g.r xs _ hk, wordsOf, bind, Except.bind]
  rfl

theorem rxsdtBody_ok (hxs : xs < 8) (hn : n < 2048)
    (hused : l.sdtUsed n = true ∧ l.pdDir (l.sdtPd n) = 2 ∧ (g.r.getX xs).toNat + (l.sdtLen n + 3) / 4 ≤ 2097152) :
    rxsdtBody (BitVec.ofNat 20 (131072 * xs + n)) l g = rxCopy l g (keySdt n) (g.r.getX xs).toNat (l.sdtLen n) := by
  obtain ⟨hrsv, hobj, hx⟩ := telFields xs n hxs hn
  obtain ⟨h1, h2, hk⟩ := hused
  simp only [rxsdtBody, hrsv, hobj, hx, h1, h2, dBlock_ok g.r xs _ hk, wordsOf, bind, Except.bind]
  rfl

/-- The key under which TSTAT finds the object's status word: of an MD session, of an SDT channel, of a PD entry or of the channel
that a PD entry with SDT = 1 has. -/
inductive StatKey (l : Lane) (n : Nat) : Nat → Nat → Prop
  | md : StatKey l n 1 (keyMd n)
  | sdt : StatKey l n 2 (keySdt n)
  | pd (h : (if l.pdSdt n then l.channelOf n else none) = none) : StatKey l n 0 (keyPd n)
  | channel (c : Nat) (h : (if l.pdSdt n then l.channelOf n else none) = some c) : StatKey l n 0 (keySdt c)

/-- TSTAT of an object in use. -/
theorem tstatBody_ok (cls key : Nat) (hn : n < 2048) (hkey : StatKey l n cls key)
    (hused : (if cls = 0 then l.pdUsed n else if cls = 1 then l.mdUsed n else l.sdtUsed n) = true)
    (hlease : cls = 0 → l.leasePd n = false) :
    tstatBody (BitVec.ofNat 20 (32768 * cls + n)) l g =
      .ok (l, g.past { g.r with acc1 := (g.act.obj key).status, ba := (g.act.obj key).status.getLsbD 0 } 1) := by
  have hcls : cls < 3 := by cases hkey <;> decide
  have hnat : (BitVec.ofNat 20 (32768 * cls + n)).toNat = 32768 * cls + n := by
    rw [BitVec.toNat_ofNat, Nat.mod_eq_of_lt (by omega)]
  obtain ⟨h1, h2, h3⟩ : (32768 * cls + n) / 2 ^ 15 % 4 = cls ∧ (32768 * cls + n) / 2 ^ 11 % 16 = 0 ∧ (32768 * cls + n) / 2 ^ 17 = 0 := by
    omega
  have hobj : objOf (BitVec.ofNat 20 (32768 * cls + n)) = n := by
    rw [objOf, hnat]
    omega
  have hform : ¬((0 : Nat) ≠ 0 ∨ cls = 3 ∨ (0 : Nat) ≠ 0) := by omega
  have hserved : (!(if cls = 0 then l.pdUsed n else if cls = 1 then l.mdUsed n else l.sdtUsed n) || (cls == 0 && l.leasePd n)) = false := by
    rw [hused]
    by_cases h : cls = 0 <;> simp [h, hlease]
  simp only [tstatBody, xsOf, hnat, h1, h2, h3, hobj, if_neg hform, hserved, Bool.false_eq_true, ↓reduceIte, bind, Except.bind]
  cases hkey with
  | md => rfl
  | sdt => rfl
  | pd h =>
    simp only [h]
    rfl
  | channel c h =>
    simp only [h]
    rfl

theorem crxbBody_ok (c : Nat) (hc : l.clean = true) (hxs : xs < 8) (hcan : c < 4) (hn : n < 64)
    (hused : l.canUsed c n = true ∧ l.canDir c n = 1 ∧ (g.r.getX xs).toNat + 18 ≤ 2097152) :
    crxbBody (BitVec.ofNat 20 (131072 * xs + 32768 * c + n)) l g = .ok (
      let o := g.act.obj (keyCan c n)
      (l.storeWords (dBase + 4 * (g.r.getX xs).toNat) (padWords 18 o.data),
        g.past { g.r with acc1 := BitVec.ofNat 32 o.stampUs, acc2 := BitVec.ofNat 32 (min o.count 0xFFFFFFFF),
                          ba := decide (1 ≤ o.count) } 1)) := by
  obtain ⟨-, -, hctrl, hbuf, hx⟩ := canLow_fields xs c false n hxs hcan hn
  have hlow : canLow xs c false n = 131072 * xs + 32768 * c + n := by simp [canLow]
  rw [hlow] at hctrl hbuf hx
  have hnat : (BitVec.ofNat 20 (131072 * xs + 32768 * c + n)).toNat = 131072 * xs + 32768 * c + n := by
    rw [BitVec.toNat_ofNat, Nat.mod_eq_of_lt (by omega)]
  have hrsv : (131072 * xs + 32768 * c + n) / 64 % 512 = 0 := by omega
  obtain ⟨h1, h2, hk⟩ := hused
  simp only [crxbBody, hnat, hrsv, hctrl, hbuf, hx, h1, h2, dBlock_ok g.r xs _ hk, copyObj_clean l _ _ _ _ hc, bind, Except.bind]
  rfl

end Receiving

end Sys2Proof.Machine

open Sys2Proof Sys2Proof.Machine

/-- Settles O23: each service by its body on an object of its kind, its data within D. -/
theorem servicesSendAndReceive : Obligations.ServicesSendAndReceive := by
  refine ⟨fun s e xs n hr hxs => ?sending, fun s e xs n hr hxs => ?receiving⟩
  case sending =>
    intro low k fits all data ans
    have sends (c : Instr) (cyc : Nat) (body : Body) (h : Lane → Eng → Lane × Eng) (hexec : exec c s = .next (s.regOp c e cyc body))
        (hb : ∀ x ∈ s.servingLanes, ∀ w, let l : Lane := { s.lane x with watch := w }
          l.clean = true → body l (l.engine e) = .ok (h l (l.engine e)))
        (hm : ∀ l g, (h l g).2.r.m = g.r.m) : s.does e c (.next (s.did e cyc h)) :=
      s.regOp_does c e cyc body h hexec hr (fun x hx w => hb x hx w (s.lane_clean e 1 x hr hx)) hm
    have emits (e' kind : Nat) (t0 t1 : Word) (len : Nat) (ws : List Word) (l : Lane) (g g' : Eng) (hg : g'.r.m = g.r.m) :
        (emitBody e' kind t0 t1 len ws l g').2.r.m = g.r.m := by rw [emitBody_regs, hg]
    refine ⟨fun hn hused hk => ?_, fun hn hused hk => ?_, fun hn hused hk => ?_, fun c tb b hfit hused hdesc => ?_,
      fun hn hfit hok => ?_, fun hn => ?_, fun hn => ?_, fun h => ?_, fun hr2 type hlo hhi m hm hfit => ?_⟩
    · exact sends (.txpd e low) 0 (txpdBody e low) _ rfl
        (fun x hx w hc => txpdBody_ok e xs n _ _ hc hxs hn (hused x hx) (hk x hx)) fun _ _ => emits _ _ _ _ _ _ _ _ _ rfl
    · exact sends (.txsdt e low) 0 (txsdtBody e low) _ rfl
        (fun x hx w hc => txsdtBody_ok e xs n _ _ hc hxs hn (hused x hx) (hk x hx)) fun _ _ => emits _ _ _ _ _ _ _ _ _ rfl
    · exact sends (.txmd e low) 0 (txmdBody e low) _ rfl
        (fun x hx w hc => txmdBody_ok e xs n _ _ hc hxs hn (hused x hx) (hk x hx)) fun _ _ => emits _ _ _ _ _ _ _ _ _ rfl
    · intro low
      exact ⟨sends (.ctx e (low false)) 20 (ctxBody e false (low false)) _ rfl
          (fun x hx w hc => ctxBody_ok e xs _ _ hc hxs false false c.val b.val (fun h => h) c.isLt b.isLt (hused x hx) (hfit x hx)
            (hdesc x hx)) fun _ _ => emits _ _ _ _ _ _ _ _ _ rfl,
        sends (.ctxt e (low tb)) 20 (ctxBody e true (low tb)) _ rfl
          (fun x hx w hc => ctxBody_ok e xs _ _ hc hxs true tb c.val b.val (fun h => absurd h (by decide)) c.isLt b.isLt (hused x hx)
            (hfit x hx) (hdesc x hx)) fun _ _ => emits _ _ _ _ _ _ _ _ _ rfl⟩
    · exact sends (.arm e low) 5 (armBody s.isHwt e low) _ rfl
        (fun x hx w hc => armBody_ok e xs n _ _ hc hxs s.isHwt hn (hfit x hx) (hok x hx)) fun _ _ => emits _ _ _ _ _ _ _ _ _ rfl
    · exact sends (.disarm e (BitVec.ofNat 20 n)) 1 (disarmBody e (BitVec.ofNat 20 n)) _ rfl
        (fun x hx w _ => disarmBody_ok e n _ _ hn) fun _ _ => emits _ _ _ _ _ _ _ _ _ rfl
    · exact sends (.ecls e (BitVec.ofNat 26 n)) 1 (eclsBody e (BitVec.ofNat 26 n)) _ rfl
        (fun x hx w _ => eclsBody_ok e n _ _ hn) fun _ _ => emits _ _ _ _ _ _ _ _ _ rfl
    · exact sends (.pwr e 0) 1 (pwrBody e 0) _ rfl
        (fun x hx w _ => pwrBody_ok e _ _ (h x hx)) fun _ _ => emits _ _ _ _ _ _ _ _ _ rfl
    · intro hs
      exact congrArg Host.Outcome.next (State.instr_does s _ e 2 0 _ _ hr2 hs fun x hx w =>
        ⟨recBody_ok e xs { s.lane x with watch := w } _ (s.lane_clean e 2 x hr2 hx) hxs type m hlo hhi hm (hfit x hx), emits _ _ _ _ _ _ _ _ _ rfl⟩)
  case receiving =>
    intro low k all copy
    refine ⟨fun hn hused => ?_, fun hn hused => ?_, fun hn => ?_, fun c hn hused => ?_⟩
    · exact s.regOp_does (.rxpd e low) e 0 (rxpdBody low) _ rfl hr (fun x hx w =>
        (rxpdBody_ok xs n { s.lane x with watch := w } _ hxs hn (hused x hx)).trans (rxCopy_clean _ _ _ _ _ (s.lane_clean e 1 x hr hx))) fun _ _ => rfl
    · exact s.regOp_does (.rxsdt e low) e 0 (rxsdtBody low) _ rfl hr (fun x hx w =>
        (rxsdtBody_ok xs n { s.lane x with watch := w } _ hxs hn (hused x hx)).trans (rxCopy_clean _ _ _ _ _ (s.lane_clean e 1 x hr hx))) fun _ _ => rfl
    · intro stat
      have stats (cls : Nat) (key : Lane → Nat) (hkey : ∀ x ∈ s.servingLanes, ∀ w,
          let l : Lane := { s.lane x with watch := w }
          StatKey l n cls (key l) ∧ (if cls = 0 then l.pdUsed n else if cls = 1 then l.mdUsed n else l.sdtUsed n) = true ∧
            (cls = 0 → l.leasePd n = false)) : stat cls key :=
        s.regOp_does (.tstat e (BitVec.ofNat 20 (32768 * cls + n))) e 1 (tstatBody (BitVec.ofNat 20 (32768 * cls + n))) _ rfl hr
          (fun x hx w => tstatBody_ok n _ _ cls _ hn (hkey x hx w).1 (hkey x hx w).2.1 (hkey x hx w).2.2) fun _ _ => rfl
      refine ⟨fun h => stats 0 _ fun x hx w => ?_, fun h => stats 0 _ fun x hx w => ?_, fun h => stats 1 _ fun x hx w => ?_,
        fun h => stats 2 _ fun x hx w => ?_⟩
      · obtain ⟨hused, hlease, hch⟩ := h x hx
        refine ⟨.pd ?_, hused, fun _ => hlease⟩
        rcases hch with hch | hch
        · exact if_neg (by rw [show ({ s.lane x with watch := w } : Lane).pdSdt n = false from hch]; decide)
        · exact ite_same (fun c => c) hch rfl
      · obtain ⟨hused, hlease, hsdt, hch⟩ := h x hx
        obtain ⟨c, hc⟩ := Option.isSome_iff_exists.mp hch
        have hc' : ({ s.lane x with watch := w } : Lane).channelOf n = some c := hc
        refine ⟨?_, hused, fun _ => hlease⟩
        dsimp only
        rw [hc']
        exact .channel c ((if_pos hsdt).trans hc')
      · exact ⟨.md, h x hx, fun h => absurd h (by decide)⟩
      · exact ⟨.sdt, h x hx, fun h => absurd h (by decide)⟩
    · exact s.regOp_does (.crxb e (BitVec.ofNat 20 (131072 * xs + 32768 * c.val + n))) e 20 (crxbBody _) _ rfl hr
        (fun x hx w => crxbBody_ok xs n { s.lane x with watch := w } _ c.val (s.lane_clean e 1 x hr hx) hxs c.isLt hn (hused x hx)) fun _ _ => rfl

end

section
/-! The waiting services (R139, R140): their requests, and the results that complete them. -/

namespace Sys2Proof.Machine

/-! ### Requests -/

/-- A request that the body of a waiting instruction makes on an engine that is ready for it: the engine waits. -/
theorem Lane.request_ready (l : Lane) (ph : Phase) (e t : Nat) (req : Lane → Eng → Except Flt WaitReq) (q : WaitReq)
    (h : l.ready e 1 = true) (hq : req l (l.engine e) = .ok q) :
    l.request ph e t req =
      (l.setEngine e { l.engine e with st := .wait, wait := some q }).emit e q.kind q.t0 q.t1 (4 * q.folded.length) q.folded true := by
  simp only [Lane.ready, Bool.and_eq_true, Bool.not_eq_true', decide_eq_true_eq, beq_iff_eq] at h
  obtain ⟨⟨⟨⟨⟨hr, hf⟩, hp⟩, h0⟩, h1⟩, hc⟩ := h
  unfold Lane.request
  simp only [Lane.takeInputs_taken l e hf, hr, bne_self_eq_false, Bool.false_eq_true, ↓reduceIte,
    Lane.fetch_ready l _ 1 hc h0 h1, hq, Lane.mirrorPair, hp]

theorem rxmdReq_ok (xs n m : Nat) (l : Lane) (g : Eng) (hxs : xs < 8) (hn : n < 2048)
    (h : l.mdUsed n = true ∧ l.mdRole n ≠ mdNotifier ∧ wordsOf (l.mdMax n) = m ∧ (g.r.getX xs).toNat + m ≤ 2097152) :
    rxmdReq (BitVec.ofNat 20 (131072 * xs + n)) l g =
      .ok { kind := rkMdPop, t0 := BitVec.ofNat 32 n, dFirst := (g.r.getX xs).toNat, dWords := m, cyc := 2 } := by
  obtain ⟨hrsv, hobj, hx⟩ := telFields xs n hxs hn
  obtain ⟨hused, hrole, hm, hk⟩ := h
  have hrole' : (l.mdRole n != mdNotifier) = true := bne_iff_ne.mpr hrole
  simp only [rxmdReq, hrsv, hobj, hx, hused, hrole', hm, dBlock_ok g.r xs m hk, bind, Except.bind]
  rfl

theorem crxfReq_ok (xs c : Nat) (l : Lane) (g : Eng) (hxs : xs < 8) (hc : c < 4) (h : (g.r.getX xs).toNat + 18 ≤ 2097152) :
    crxfReq (BitVec.ofNat 20 (131072 * xs + 32768 * c)) l g =
      .ok { kind := rkCanPop, t0 := BitVec.ofNat 32 c, dFirst := (g.r.getX xs).toNat, dWords := 18, cyc := 20 } := by
  obtain ⟨-, -, hctrl, -, hx⟩ := canLow_fields xs c false 0 hxs hc (by decide)
  have hlow : canLow xs c false 0 = 131072 * xs + 32768 * c := by simp [canLow]
  rw [hlow] at hctrl hx
  have hnat : (BitVec.ofNat 20 (131072 * xs + 32768 * c)).toNat = 131072 * xs + 32768 * c := by
    rw [BitVec.toNat_ofNat, Nat.mod_eq_of_lt (by omega)]
  have hrsv : (131072 * xs + 32768 * c) % 2 ^ 15 = 0 := by omega
  simp only [crxfReq, hnat, hrsv, hctrl, hx, dBlock_ok g.r xs 18 h, bind, Except.bind]
  rfl

theorem bridgeCheck_ok (size : Nat → Nat) (w wid ofs : Nat) (hw : w < 8) (hwid : wid < 3) (halign : ofs % 2 ^ wid = 0)
    (hfit : ofs + 2 ^ wid ≤ size w) : bridgeCheck size (BitVec.ofNat 20 (8 * wid + w)) ofs = .ok () := by
  have hnat : (BitVec.ofNat 20 (8 * wid + w)).toNat = 8 * wid + w := by
    rw [BitVec.toNat_ofNat, Nat.mod_eq_of_lt (by omega)]
  obtain ⟨h1, h2, h3⟩ : (8 * wid + w) / 8 % 4 = wid ∧ (8 * wid + w) / 32 = 0 ∧ (8 * wid + w) % 8 = w := by omega
  have hform : ¬((0 : Nat) ≠ 0 ∨ wid = 3) := by omega
  have hrange : ¬(ofs % 2 ^ wid ≠ 0 ∨ size w < ofs + 2 ^ wid) := by omega
  simp only [bridgeCheck, hnat, h1, h2, h3, if_neg hform, if_neg hrange]
  rfl

theorem brdReq_ok (size : Nat → Nat) (w wid : Nat) (l : Lane) (g : Eng) (hw : w < 8) (hwid : wid < 3)
    (h : g.r.acc2.toNat % 2 ^ wid = 0 ∧ g.r.acc2.toNat + 2 ^ wid ≤ size w) :
    brdReq size (BitVec.ofNat 20 (8 * wid + w)) l g = .ok { kind := rkBrd, t0 := BitVec.ofNat 32 (8 * wid + w), t1 := g.r.acc2, cyc := 2 } := by
  have hnat : (BitVec.ofNat 20 (8 * wid + w)).toNat = 8 * wid + w := by
    rw [BitVec.toNat_ofNat, Nat.mod_eq_of_lt (by omega)]
  simp only [brdReq, bridgeCheck_ok size w wid _ hw hwid h.1 h.2, hnat, bind, Except.bind]
  rfl

theorem bwrReq_ok (size : Nat → Nat) (w wid : Nat) (l : Lane) (g : Eng) (hw : w < 8) (hwid : wid < 3)
    (h : g.r.acc2.toNat % 2 ^ wid = 0 ∧ g.r.acc2.toNat + 2 ^ wid ≤ size w) :
    bwrReq size (BitVec.ofNat 20 (8 * wid + w)) l g =
      .ok { kind := rkBwr, t0 := BitVec.ofNat 32 (8 * wid + w), t1 := g.r.acc2, data := g.r.acc1, cyc := 2 } := by
  have hnat : (BitVec.ofNat 20 (8 * wid + w)).toNat = 8 * wid + w := by
    rw [BitVec.toNat_ofNat, Nat.mod_eq_of_lt (by omega)]
  simp only [bwrReq, bridgeCheck_ok size w wid _ hw hwid h.1 h.2, hnat, bind, Except.bind]
  rfl

theorem prdReq_ok (l : Lane) (g : Eng) (h : g.r.acc2.toNat % 4 = 0 ∧ periphAddr g.r.acc2.toNat = true) :
    prdReq 0 l g = .ok { kind := rkPrd, t0 := g.r.acc2, cyc := 1 } := by
  simp only [prdReq, h.1, h.2]
  rfl

/-! ### Results -/

theorem Lane.clean_storeWords (l : Lane) (a : Nat) (ws : List Word) (hc : l.clean = true) : (l.storeWords a ws).clean = true := by
  induction ws generalizing l a with
  | nil => exact hc
  | cons w t ih => exact ih _ _ (l.clean_store a w hc)

/-- The oldest result of an engine, at the head of the results. -/
theorem Lane.deliverResult_head (l : Lane) (ph : Phase) (e t : Nat) (res : ReqResult) (hhead : l.results.head? = some res)
    (hres : res.engine = e) :
    l.deliverResult ph e t = ({ l with results := l.results.drop 1 } : Lane).finishWait ph e t res := by
  obtain ⟨rest, hrest⟩ := List.head?_eq_some_iff.mp hhead
  simp [Lane.deliverResult, hrest, hres]

/-- The completion of a waiting instruction, in a lane without memory errors, of an engine that runs alone and has nothing left for its
boundary. -/
theorem Lane.finishWait_ok (l : Lane) (ph : Phase) (e t : Nat) (res : ReqResult) (q : WaitReq) (hc : l.clean = true)
    (hwait : (l.engine e).wait = some q) (hpair : (l.engine e).pair = none) (hnext : (l.engine e).next = none)
    (hcancel : (l.engine e).act.cancel = none) :
    l.finishWait ph e t res =
      (if res.code = 0 then l.storeWords (dBase + 4 * q.dFirst) (res.data.take q.dWords) else l).setEngine e
        ((({ l.engine e with st := .run, wait := none } : Eng).past { (l.engine e).r with
          acc2 := BitVec.ofNat 32 res.code, ba := res.code == 0, acc1 := res.acc1.getD (l.engine e).r.acc1 } 1).retire q.cyc) := by
  have hmoved (ws : List Word) : (if q.kind = rkCanPop then l.copyObj (keyCan 4 e) q.dFirst 0 ws
      else .ok (l.storeWords (dBase + 4 * q.dFirst) ws)) = .ok (l.storeWords (dBase + 4 * q.dFirst) ws) :=
    ite_same (fun r => r) (copyObj_clean l _ _ _ ws hc) rfl
  have hstored : l.storeWords (dBase + 4 * q.dFirst) (if res.code = 0 then res.data.take q.dWords else []) =
      if res.code = 0 then l.storeWords (dBase + 4 * q.dFirst) (res.data.take q.dWords) else l := by
    split <;> rfl
  unfold Lane.finishWait
  simp only [hwait, hmoved]
  simp only [hstored, hpair, Lane.mirrorPair]
  generalize (if res.code = 0 then l.storeWords (dBase + 4 * q.dFirst) (res.data.take q.dWords) else l) = l1
  have hboundary (g : Eng) (h1 : g.act.cancel = none) (h2 : g.next = none) : (l1.setEngine e g).atBoundary ph e t = l1.setEngine e g := by
    simp [Lane.atBoundary, Lane.nextAt, h1, h2]
  exact hboundary _ hcancel hnext

end Sys2Proof.Machine

open Sys2Proof Sys2Proof.Machine

/-- Settles O24: each legal request by its body, and the result of the oldest request by the completion of its instruction. -/
theorem waitingServicesComplete : Obligations.WaitingServicesComplete := by
  refine ⟨fun s e hr => ?requests, fun s e t res q hlive => ?results⟩
  case requests =>
    intro waits all
    have wait (c : Instr) (req : Lane → Eng → Except Flt WaitReq) (q : Eng → WaitReq) (data : Eng → List Word)
        (hexec : exec c s = .next (s.waitOp c e req)) (hdata : ∀ g, data g = (q g).folded)
        (hq : s.inEach e fun l g => req l g = .ok (q g)) : s.does e c (waits q data) := by
      intro hs
      rw [hexec]
      refine congrArg Host.Outcome.next (s.codeOp_stands c e _ _ 1 hr hs fun x hx w => ?_)
      have hready : ({ s.lane x with watch := w } : Lane).ready e 1 = true := s.lane_ready e 1 x hr hx
      obtain rfl : data = fun g => (q g).folded := funext hdata
      exact Lane.request_ready _ _ _ _ _ _ hready (hq x hx w)
    refine ⟨fun xs n m hxs hn h => ?_, fun xs c hxs h => ?_, fun w wid h => ⟨?_, ?_⟩, fun h => ?_⟩
    · exact wait (.rxmd e (BitVec.ofNat 20 (131072 * xs + n))) (rxmdReq (BitVec.ofNat 20 (131072 * xs + n)))
        (fun g => { kind := rkMdPop, t0 := BitVec.ofNat 32 n, dFirst := (g.r.getX xs).toNat, dWords := m, cyc := 2 }) (fun _ => []) rfl
        (fun _ => rfl) fun x hx _ => rxmdReq_ok xs n m _ _ hxs hn (h x hx)
    · exact wait (.crxf e (BitVec.ofNat 20 (131072 * xs + 32768 * c.val))) (crxfReq (BitVec.ofNat 20 (131072 * xs + 32768 * c.val)))
        (fun g => { kind := rkCanPop, t0 := BitVec.ofNat 32 c.val, dFirst := (g.r.getX xs).toNat, dWords := 18, cyc := 20 })
        (fun _ => []) rfl (fun _ => rfl) fun x hx _ => crxfReq_ok xs c.val _ _ hxs c.isLt (h x hx)
    · exact wait (.brd e (BitVec.ofNat 20 (8 * wid.val + w.val)))
        (brdReq (fun k => s.br.sizes.getD k 0) (BitVec.ofNat 20 (8 * wid.val + w.val)))
        (fun g => { kind := rkBrd, t0 := BitVec.ofNat 32 (8 * wid.val + w.val), t1 := g.r.acc2, cyc := 2 }) (fun _ => []) rfl
        (fun _ => rfl) fun x hx _ => brdReq_ok _ w.val wid.val _ _ w.isLt wid.isLt (h x hx)
    · exact wait (.bwr e (BitVec.ofNat 20 (8 * wid.val + w.val)))
        (bwrReq (fun k => s.br.sizes.getD k 0) (BitVec.ofNat 20 (8 * wid.val + w.val)))
        (fun g => { kind := rkBwr, t0 := BitVec.ofNat 32 (8 * wid.val + w.val), t1 := g.r.acc2, data := g.r.acc1, cyc := 2 })
        (fun g => [g.r.acc1]) rfl (fun _ => rfl) fun x hx _ => bwrReq_ok _ w.val wid.val _ _ w.isLt wid.isLt (h x hx)
    · exact wait (.prd e 0) (prdReq 0) (fun g => { kind := rkPrd, t0 := g.r.acc2, cyc := 1 }) (fun _ => []) rfl (fun _ => rfl)
        fun x hx _ => prdReq_ok _ _ (h x hx)
  case results =>
    intro n h
    refine congrArg Host.Outcome.next ((s.run_live t _ hlive).trans ?_)
    congr 1
    refine State.onLanes_congr _ _ _ fun x hx w => ?_
    obtain ⟨hclean, hhead, hres, hwait, hpair, hnext, hcancel⟩ := h x hx
    exact (Lane.deliverResult_head { n.lane x with watch := w } _ e t res hhead hres).trans
      (Lane.finishWait_ok { n.lane x with watch := w, results := (n.lane x).results.drop 1 } _ e t res q hclean hwait hpair hnext hcancel)

end

section
/-! Host frames (R39 to R50): the handshake, and the requests of an open session. -/

namespace Sys2Proof.Machine

/-! ### The way of a frame -/

/-- A frame that the ports take and that neither ties nor wakes the module goes on to its command. -/
theorem State.hostCommand_go (s : State) (f : Frame) (code : Nat) (ht : frameTaken f = true) (htie : f.tie = false)
    (hcmd : frameCmd f = code) : s.hostCommand code f = s.hostGo f := by
  rw [State.hostCommand, if_pos (.inl hcmd), State.hostFrame]
  simp [ht, htie]

/-- A frame's command of a module that takes commands. -/
theorem State.leaves_hostCommand (s : State) (c : Instr) (f : Frame) (code : Nat)
    (hexec : exec c s = .next (s.runHost f.t fun s => s.hostCommand code f)) (hl : s.live = true) (ht : frameTaken f = true)
    (htie : f.tie = false) (hcmd : frameCmd f = code) : s.leaves c f.t ((s.now f.t).hostGo f) := by
  rw [← State.hostCommand_go _ f code ht htie hcmd]
  exact hexec.trans (congrArg Host.Outcome.next (State.runHost_live s f.t _ hl))

theorem State.hostGo_open (s : State) (f : Frame) (hok : frameOk f = true) (ha : s.pw.armed = false) (hcmd : frameCmd f = 0x01) :
    s.hostGo f = s.hpOpen f := by
  simp [State.hostGo, hok, State.wakesOn, ha, hcmd]

/-! ### OPEN -/

theorem drawNonce_length (s : State) : s.drawNonce.1.length = 16 := by simp [State.drawNonce]

theorem wordsFromBytes_length (bs : List Byte) (n : Nat) (h : bs.length = 4 * n) : (wordsFromBytes bs).length = n := by
  induction n generalizing bs with
  | zero =>
    obtain rfl := List.length_eq_zero_iff.mp h
    rfl
  | succ n ih =>
    match bs, h with
    | _ :: _ :: _ :: _ :: t, h =>
      rw [wordsFromBytes, List.length_cons, ih t (by simpa [Nat.mul_add] using h)]

/-- The lowest session number that no session has. -/
theorem State.free_number (s : State) (n : Nat) (h1 : 1 ≤ n) (h8 : n ≤ 8) (hfree : ∀ x ∈ s.hp.sessions, x.number ≠ n)
    (hlow : ∀ m, 1 ≤ m → m < n → ∃ x ∈ s.hp.sessions, x.number = m) :
    (List.range 9).find? (fun k => k != 0 && !(s.hp.sessions.any fun x => x.number == k)) = some n := by
  rw [List.find?_range_eq_some]
  refine ⟨?_, List.mem_range.mpr (by omega), fun m hm => ?_⟩
  · have hany : (s.hp.sessions.any fun x => x.number == n) = false := by simpa using hfree
    simp [hany]
    omega
  · by_cases hz : m = 0
    · simp [hz]
    · obtain ⟨x, hx, hxm⟩ := hlow m (by omega) hm
      have hany : (s.hp.sessions.any fun x => x.number == m) = true := List.any_eq_true.mpr ⟨x, hx, by simpa using hxm⟩
      simp [hany]

/-- OPEN of a port with fewer than four sessions: a handshake with the lowest free number. -/
theorem State.hpOpen_free (s : State) (f : Frame) (n : Nat)
    (hfree : (List.range 9).find? (fun k => k != 0 && !(s.hp.sessions.any fun x => x.number == k)) = some n)
    (hcount : (s.hp.sessions.filter fun x => x.port == framePort f).length < 4) :
    s.hpOpen f =
      let x : Session := { number := n, port := framePort f, slot := f.arg.toNat, modNonce := s.drawNonce.1, last := f.t,
                           hostNonce := ((f.payload.take 4).flatMap wordBytes ++ List.replicate 16 0).take 16 }
      (s.drawNonce.2.setHp { s.drawNonce.2.hp with sessions := s.drawNonce.2.hp.sessions ++ [x] }).send (framePort f)
        (replyTo f n none { status := stChallenge, payload := wordsFromBytes s.drawNonce.1 }) := by
  simp only [State.hpOpen, hfree, if_neg (Nat.not_le.mpr hcount)]

/-! ### A request in an open session -/

/-- Replies that are not due stay: no request is in service. -/
theorem State.repliesDue_idle (s : State) (t : Nat) (h : ∀ x ∈ s.hp.sessions, x.serving = none) : s.repliesDue t = s :=
  s.repliesDue_calm t fun x hx v hv => by rw [h x hx] at hv; cases hv

theorem State.session_eq_some (s : State) (p n : Nat) (x : Session) (h : s.session p n = some x) :
    x ∈ s.hp.sessions ∧ x.port = p ∧ x.number = n := by
  have hmem := List.mem_of_find?_eq_some h
  have hkey := List.find?_some h
  simp only [Bool.and_eq_true, beq_iff_eq] at hkey
  exact ⟨hmem, hkey.1, hkey.2⟩

/-- The session as a request's arrival leaves it. -/
def Session.heard (x : Session) (t : Nat) : Session := { x with last := t }

/-- A frame of an open session with none in service, whose MAC is right and whose SEQ is the next, is served. -/
theorem State.hostGo_serves (s : State) (f : Frame) (x : Session) (hok : frameOk f = true) (ha : s.pw.armed = false)
    (h1 : frameCmd f ≠ 0x01) (h2 : frameCmd f ≠ 0x02) (hidle : ∀ y ∈ s.hp.sessions, y.serving = none)
    (hx : s.session (portNo f.port) f.session.toNat = some x) (hopen : x.isOpen = true) (hmac : requestMac x.key f = f.mac)
    (hseq : f.seq.toNat = (x.lastSeq + 1) % 65536) (hnew : ∀ r, x.reply = some r → x.lastSeq ≠ f.seq.toNat) :
    s.hostGo f = (s.putSession (x.heard f.t)).served (x.heard f.t) f := by
  obtain ⟨hmem, hport, hnumber⟩ := s.session_eq_some _ _ x hx
  have hserving := hidle x hmem
  have hx' : s.session (framePort f) f.session.toNat = some x := hx
  have hold : ¬(f.seq.toNat = x.lastSeq ∧ x.reply.isSome = true) := fun ⟨heq, hsome⟩ => by
    obtain ⟨r, hr⟩ := Option.isSome_iff_exists.mp hsome
    exact hnew r hr heq.symm
  have hserve : s.serve x f = (s.putSession (x.heard f.t)).served (x.heard f.t) f := by
    rw [State.serve, s.repliesDue_idle f.t hidle, hport, hnumber, hx]
    dsimp only
    have hdue : f.seq.toNat = (x.lastSeq + 1) % 65536 ∧ True := ⟨hseq, trivial⟩
    simp only [State.serveSeq, hserving, Bool.false_eq_true, ↓reduceIte, if_neg hold, if_pos hdue, Session.heard]
  simp [State.hostGo, hok, State.wakesOn, ha, h1, h2, hx', hopen, hmac, hserve]

/-- What waits behind the reply of a request: nothing. -/
theorem State.afterReply_none (s : State) (t : Nat) (h1 : s.hp.resetAfterReply = false) (h2 : s.hp.restart = none) :
    s.afterReply t = s := by
  simp [State.afterReply, h1, h2]

/-- What waits for a reply on the host side: a reset of HP, a restart. -/
def State.behindReply (s : State) : Bool × Option Bool := (s.hp.resetAfterReply, s.hp.restart)

theorem State.behindReply_replyDue (s : State) (x : Session) (t : Nat) : (s.replyDue x t).behindReply = s.behindReply := by
  unfold State.replyDue
  split
  · split <;> rfl
  · rfl

theorem State.behindReply_repliesDue (s : State) (t : Nat) : (s.repliesDue t).behindReply = s.behindReply :=
  foldl_same State.behindReply _ (fun s x => s.behindReply_replyDue x t) _ s

theorem State.behindReply_closeSession (s : State) (p n : Nat) : (s.closeSession p n).behindReply = s.behindReply := by
  unfold State.closeSession
  rw [foldl_same State.behindReply]
  · split <;> rfl
  · intro s q
    split <;> rfl

/-- The reply of a request that `r` has answered with `a`. -/
def replyAs (f : Frame) (x : Session) (a : Answer) : Reply := replyTo f x.number (some x.key) a

/-- The words of a request whose service time counts them. -/
def wordsServed (f : Frame) : Nat :=
  if frameCmd f = 0x10 then f.count.toNat else if frameCmd f = 0x11 then f.payload.length else if frameCmd f = 0x12 then 1 else 0

/-- The request in service until `time` from now. -/
def servingFor (f : Frame) (x : Session) (a : Answer) (time : Nat) : Serving :=
  { seq := f.seq.toNat, frame := f, words := wordsServed f, reply := replyAs f x a, until_ := f.t + time }

/-- A request whose role suffices, with nothing behind its reply, that is no CLOSE: its effect, and its service. -/
theorem State.served_done (s : State) (x : Session) (f : Frame) (r : State) (a : Answer) (hrole : (cmdRole (frameCmd f)).getD 9 ≤ x.role)
    (hcmd : (cmdRole (frameCmd f)).isSome = true) (hclose : frameCmd f ≠ 0x03) (hr : s.perform x f = (r, a))
    (hbehind : r.behindReply = (false, none)) :
    s.served x f = (r.putSession { x with serving := some (servingFor f x a (Config.serviceTime x.port f.t)) }).repliesDue f.t := by
  obtain ⟨k, hk⟩ := Option.isSome_iff_exists.mp hcmd
  have hk' : ¬x.role < k := by
    rw [hk] at hrole
    exact Nat.not_lt.mpr hrole
  obtain ⟨hreset, hrestart⟩ := Prod.mk.inj hbehind
  have hbehind' (v : Serving) := (State.behindReply_repliesDue (r.putSession { x with serving := some v }) f.t).trans hbehind
  unfold State.served
  simp only [hk, if_neg hk', hr, hreset, hrestart, hclose, beq_eq_false_iff_ne.mpr hclose, Bool.or_false, Option.isSome_none, ↓reduceIte,
    Bool.false_eq_true]
  exact State.afterReply_none _ _ (Prod.mk.inj (hbehind' _)).1 (Prod.mk.inj (hbehind' _)).2

/-- CLOSE: its reply leaves at once, and the session ends. -/
theorem State.served_close (s : State) (x : Session) (f : Frame) (hclose : frameCmd f = 0x03) (hbehind : s.behindReply = (false, none)) :
    s.served x f = ((s.putSession { x with serving := some (servingFor f x { status := stOk } 0) }).repliesDue f.t).closeSession x.port
      x.number := by
  have hbehind' (v : Serving) := (State.behindReply_closeSession _ x.port x.number).trans
    ((State.behindReply_repliesDue (s.putSession { x with serving := some v }) f.t).trans hbehind)
  have hperform : s.perform x f = (s, { status := stOk }) := by simp [State.perform, hclose]
  unfold State.served
  simp only [↓reduceIte, hperform, hclose, beq_self_eq_true, Bool.true_or]
  have hcmd : frameCmd f = 3 := hclose
  simp only [servingFor, wordsServed, hcmd]
  exact State.afterReply_none _ _ (Prod.mk.inj (hbehind' _)).1 (Prod.mk.inj (hbehind' _)).2

/-! ### Reads and writes of the management space -/

theorem State.hp_readEffect (s : State) (a t : Nat) : (s.readEffect a t).hp = s.hp := by
  have hrelease (c b : Nat) : (s.hbufRelease c b).hp = s.hp := by
    unfold State.hbufRelease
    exact ite_same State.hp rfl rfl
  unfold State.readEffect
  dsimp only
  split
  · split
    · split
      · rfl
      · split
        · exact hrelease _ _
        · rfl
    · rfl
  · rfl

theorem State.hostRead_ok (s : State) (p a n t : Nat) (hmapped : ∀ k < n, mapped (a + 4 * k) = true)
    (hready : ∀ k < n, s.inReset (a + 4 * k) t = false) :
    s.hostRead p a n t = ((wordsFrom a n).foldl (fun r a => r.readEffect a t) s,
      { status := stOk, payload := (wordsFrom a n).map fun a => s.view (some p) a t }) := by
  have h1 : (wordsFrom a n).all mapped = true := by simpa [wordsFrom] using hmapped
  have h2 : (wordsFrom a n).any (fun x => s.inReset x t) = false := by simpa [wordsFrom] using hready
  simp only [State.hostRead, h1, h2]
  rfl

/-- A WRITE outside the container store where every check of R42 passes. -/
theorem State.hostWrite_ok (s : State) (x : Session) (a : Nat) (ws : List Word) (t : Nat)
    (hfree : ∀ b ∈ wordsFrom a ws.length, mapped b = true ∧ s.holdsQuoin x b = true ∧ hxAddr b = false ∧ s.inReset b t = false)
    (hlegal : ∀ c ∈ (wordsFrom a ws.length).zip ws,
      s.modeRefuses c.1 c.2 = false ∧ roleRefuses x.role c.1 c.2 = false ∧ s.valueRefuses c.1 c.2 = false) :
    s.hostWrite x a ws t = ((((wordsFrom a ws.length).zip ws).foldl
      (fun (r : State) c => r.hostStore (.host x.port x.number) c.1 c.2 t) s).scopeClamp (wordsFrom a ws.length), { status := stOk }) := by
  have hlen : (wordsFrom a ws.length).length = ws.length := by simp [wordsFrom]
  have hfst : ((wordsFrom a ws.length).zip ws).map Prod.fst = wordsFrom a ws.length := List.map_fst_zip (Nat.le_of_eq hlen)
  generalize hcs : (wordsFrom a ws.length).zip ws = cs at hlegal hfst
  have hfree' (c : Nat × Word) (hc : c ∈ cs) : mapped c.1 = true ∧ s.holdsQuoin x c.1 = true ∧ hxAddr c.1 = false ∧ s.inReset c.1 t = false :=
    hfree c.1 (hfst ▸ List.mem_map_of_mem hc)
  have h1 : cs.all (fun c => mapped c.1) = true := List.all_eq_true.mpr fun c hc => (hfree' c hc).1
  have h2 : cs.all (fun c => s.holdsQuoin x c.1) = true := List.all_eq_true.mpr fun c hc => (hfree' c hc).2.1
  have h3 : (cs.any fun c => s.modeRefuses c.1 c.2) = false := List.any_eq_false.mpr fun c hc => by simp [(hlegal c hc).1]
  have h4 : (cs.any fun c => roleRefuses x.role c.1 c.2) = false := List.any_eq_false.mpr fun c hc => by simp [(hlegal c hc).2.1]
  have h5 : (cs.any fun c => s.valueRefuses c.1 c.2) = false := List.any_eq_false.mpr fun c hc => by simp [(hlegal c hc).2.2]
  have h6 : cs.filter (fun c => hxAddr c.1) = [] := List.filter_eq_nil_iff.mpr fun c hc => by simp [(hfree' c hc).2.2.1]
  have h7 : cs.filter (fun c => !hxAddr c.1) = cs := List.filter_eq_self.mpr fun c hc => by simp [(hfree' c hc).2.2.1]
  have h8 : hxPart cs = none := by simp [hxPart, h6]
  have hnone (stop : Nat → Bool) (hstop : ∀ i < cs.length, stop i = false) : (List.range cs.length).find? stop = none :=
    List.find?_eq_none.mpr fun i hi => by simp [hstop i (List.mem_range.mp hi)]
  unfold State.hostWrite
  simp only [hcs, h1, h2, h3, h4, h5, h8, Option.map_none, Bool.not_true, Bool.and_false, Bool.false_eq_true, ↓reduceIte]
  rw [hnone]
  · simp only [Option.getD_none, List.take_length, h7, h8, hfst, Nat.lt_irrefl, ↓reduceIte]
  · intro i hi
    have hc := List.getElem_mem hi
    simp [List.getElem?_eq_getElem hi, (hfree' _ hc).2.2.1, (hfree' _ hc).2.2.2]

end Sys2Proof.Machine

end

section
/-! Sessions (R39 to R50): the statements on the handshake and on the requests of an open session. -/

namespace Sys2Proof.Machine

theorem frameCmd_eq_iff (f : Frame) (c : BitVec 8) : frameCmd f = c.toNat ↔ f.command = c := BitVec.toNat_inj

theorem wordsServed_eq (f : Frame) : wordsServed f = if f.command = 0x10 then f.count.toNat else if f.command = 0x11 then f.payload.length
    else if f.command = 0x12 then 1 else 0 := by
  simp only [wordsServed, ← frameCmd_eq_iff]
  rfl

/-- An AUTH whose proof verifies for the one handshake of its port and slot. -/
theorem State.hpAuth_only (s : State) (f : Frame) (x : Session) (c : Cred) (hv : s.verifying f.t = false)
    (hcred : s.cred f.arg.toNat = some c)
    (honly : (s.hp.sessions.filter fun y => y.port == framePort f && !y.isOpen && y.slot == f.arg.toNat) = [x])
    (hprove : s.proves x f = true) :
    s.hpAuth f = ((s.putSession { x with isOpen := true, key := hmac c.key (x.modNonce ++ x.hostNonce), role := c.role, lastSeq := 0,
                                         reply := none, last := f.t }).verifyStart x f.t).send (framePort f)
      (replyTo f x.number none { status := stOk }) := by
  simp only [State.hpAuth, hv, honly, List.find?_cons, hprove, hcred, Bool.false_eq_true, ↓reduceIte, Option.getD_some]

end Sys2Proof.Machine

open Sys2Proof Sys2Proof.Machine

/-- Settles O25: OPEN by the lowest free number, AUTH by its one handshake. -/
theorem handshakeOpensSession : Obligations.HandshakeOpensSession := by
  intro s f hl ht hok htie ha
  refine ⟨fun n hc h1 h8 hfree hlow hcount => ?_, fun x c hc hv hcred honly hslot hprove => ?_⟩
  · have hcmd : frameCmd f = 0x01 := (frameCmd_eq_iff f 0x01).mpr hc
    have hleaves := State.leaves_hostCommand s (.hpOpen f) f 0x01 rfl hl ht htie hcmd
    have hhp : (s.now f.t).hp = s.hp := State.now_hp s f.t
    rw [State.hostGo_open _ f hok (by rw [State.now_pw, ha]) hcmd,
      State.hpOpen_free _ f n (by rw [hhp]; exact s.free_number n h1 h8 hfree hlow) (by rw [hhp]; exact hcount)] at hleaves
    refine ⟨_, hleaves, ⟨_, congrArg (fun h : HostState => h.sessions ++ _) hhp, rfl, rfl, rfl, rfl, rfl⟩, _,
      NMap.look_put_self _ _ _, rfl, rfl, rfl, ?_⟩
    · have hpayload : (replyPayload f { status := stChallenge, payload := wordsFromBytes (s.now f.t).drawNonce.1 }) =
          wordsFromBytes (s.now f.t).drawNonce.1 := by
        rw [replyPayload, hcmd, if_neg (by decide)]
      exact (congrArg List.length hpayload).trans (wordsFromBytes_length _ 4 (drawNonce_length _))
  · have hleaves := State.leaves_auth s f hl ht hok htie ha hc
    have hhp : (s.now f.t).hp = s.hp := State.now_hp s f.t
    rw [State.hpAuth_only _ f x c (by rwa [State.verifying_now]) (by rw [State.cred, hhp]; exact hcred)
      (by rw [hhp]; exact honly) (by rwa [State.proves_now])] at hleaves
    refine ⟨_, hleaves, ?_, rfl, _, NMap.look_put_self _ _ _, rfl, rfl⟩
    exact congrArg (fun h : HostState => h.sessions.map _) hhp

/-- Settles O26: the end of a request's service, and each command in an open session by what it performs. -/
theorem sessionRequestsServed : Obligations.SessionRequestsServed := by
  refine ⟨fun s x v t hs hv hdue => ?reply, fun s f x hl ht hok htie ha hidle hx hopen hmac hseq hnew hrole hreset hrestart => ?request⟩
  case reply =>
    have hdue' : s.repliesDue t = (s.putSession { x with lastSeq := v.seq, reply := some v.reply, serving := none }).send x.port v.reply := by
      rw [State.repliesDue, hs, List.foldl_cons, List.foldl_nil, State.replyDue, hv]
      exact if_pos hdue
    rw [hdue']
    refine ⟨?_, NMap.look_put_self _ _ _⟩
    show s.hp.sessions.map _ = _
    simp [hs]
  case request =>
    intro y s0 words serve done q
    have hhp : (s.now f.t).hp = s.hp := State.now_hp s f.t
    have hrd (g : Fld) (i : Nat) : s0.rd g i = s.rd g i := State.rd_now s f.t g i 0
    have howner (q : Nat) : s0.quoinOwner q = s.quoinOwner q := State.quoinOwner_now s f.t q
    have hbehind : s0.behindReply = (false, none) := Prod.ext ((congrArg HostState.resetAfterReply hhp).trans hreset)
      ((congrArg HostState.restart hhp).trans hrestart)
    have hwords : wordsServed f = words := wordsServed_eq f
    have hserved (c : Instr) (code : Nat) (hcode : frameCmd f = code) (h1 : code ≠ 1) (h2 : code ≠ 2)
        (hexec : exec c s = .next (s.runHost f.t fun s => s.hostCommand code f)) : s.leaves c f.t (s0.served y f) := by
      have hleaves := State.leaves_hostCommand s c f code hexec hl ht htie hcode
      rwa [State.hostGo_serves _ f x hok (by rw [State.now_pw, ha]) (hcode ▸ h1) (hcode ▸ h2) (by rwa [hhp])
        (by rw [State.session, hhp]; exact hx) hopen hmac hseq hnew] at hleaves
    have request (c : Instr) (code : Nat) (hcode : frameCmd f = code) (h1 : code ≠ 1) (h2 : code ≠ 2) (h3 : code ≠ 3)
        (hknown : (cmdRole code).isSome = true) (hexec : exec c s = .next (s.runHost f.t fun s => s.hostCommand code f))
        (r : State) (a : Answer) (hperform : s0.perform y f = (r, a)) (hr : r.behindReply = (false, none)) :
        s.leaves c f.t (done r a) := by
      have hleaves := hserved c code hcode h1 h2 hexec
      rw [State.served_done s0 y f r a hrole (hcode ▸ hknown) (hcode ▸ h3) hperform hr] at hleaves
      rw [servingFor, hwords] at hleaves
      exact hleaves
    refine ⟨fun hc => ?keepalive, fun hc => ?close, fun hc hq hheld => ?qlock, fun hc hq hheld howns => ?qrelease,
      fun hc hq hheld => ?qbreak, fun hc hmapped hready => ?read, ?stores⟩
    case keepalive =>
      have hcode : frameCmd f = 0x04 := (frameCmd_eq_iff f 0x04).mpr hc
      exact request (.keepalive f) 0x04 hcode (by decide) (by decide) (by decide) rfl rfl s0 _ (by simp [State.perform, hcode]) hbehind
    case close =>
      have hcode : frameCmd f = 0x03 := (frameCmd_eq_iff f 0x03).mpr hc
      have hleaves := hserved (.close f) 0x03 hcode (by decide) (by decide) rfl
      rw [State.served_close s0 y f hcode hbehind] at hleaves
      rw [servingFor, hwords] at hleaves
      exact hleaves
    case qlock =>
      have hcode : frameCmd f = 0x20 := (frameCmd_eq_iff f 0x20).mpr hc
      have hfree : s0.quoinHeld q = false := by simp [State.quoinHeld, hrd, hheld]
      refine request (.qlock f) 0x20 hcode (by decide) (by decide) (by decide) rfl rfl _ _ ?_ hbehind
      have hperform : s0.perform y f = s0.qlock y q := by simp [State.perform, hcode, q]
      rw [hperform, State.qlock, if_neg (Nat.not_le.mpr hq), State.quoinMine, hfree]
      rfl
    case qrelease =>
      have hcode : frameCmd f = 0x21 := (frameCmd_eq_iff f 0x21).mpr hc
      have hmine : s0.quoinMine y q = true := by
        simp only [State.quoinMine, State.quoinHeld, hrd, hheld, howner, beq_self_eq_true, Bool.true_and, beq_iff_eq]
        exact howns
      refine request (.qrelease f) 0x21 hcode (by decide) (by decide) (by decide) rfl rfl _ _ ?_ hbehind
      have hperform : s0.perform y f = s0.qrelease y q := by simp [State.perform, hcode, q]
      rw [hperform, State.qrelease, if_neg (Nat.not_le.mpr hq), if_pos hmine]
      rfl
    case qbreak =>
      intro who
      have hcode : frameCmd f = 0x22 := (frameCmd_eq_iff f 0x22).mpr hc
      have hheld' : s0.quoinHeld q = true := by simp [State.quoinHeld, hrd, hheld]
      refine request (.qbreak f) 0x22 hcode (by decide) (by decide) (by decide) rfl rfl _ _ ?_ ?_
      · have hperform : s0.perform y f = s0.qbreak y q f.t := by simp [State.perform, hcode, q]
        rw [hperform, State.qbreak, if_neg (Nat.not_le.mpr hq)]
        dsimp only
        rw [if_pos hheld', howner]
        rfl
      · exact (congrArg (fun h : HostState => (h.resetAfterReply, h.restart)) (State.HostSame.record _ _ _ _ _).1).trans hbehind
    case read =>
      have hcode : frameCmd f = 0x10 := (frameCmd_eq_iff f 0x10).mpr hc
      refine request (.read f) 0x10 hcode (by decide) (by decide) (by decide) rfl rfl _ _ ?_ ?_
      · have hperform : s0.perform y f = s0.hostRead x.port f.address.toNat f.count.toNat f.t := by simp [State.perform, hcode, y]
        rw [hperform, State.hostRead_ok s0 _ _ _ _ hmapped hready]
      · exact (congrArg (fun h : HostState => (h.resetAfterReply, h.restart))
          (foldl_same State.hp _ (fun r a => r.hp_readEffect a f.t) _ s0)).trans hbehind
    case stores =>
      intro store
      have stores (ws : List Word) (c : Instr) (code : Nat) (hcode : frameCmd f = code) (h1 : code ≠ 1) (h2 : code ≠ 2) (h3 : code ≠ 3)
          (hknown : (cmdRole code).isSome = true) (hexec : exec c s = .next (s.runHost f.t fun s => s.hostCommand code f))
          (hperform : s0.perform y f = s0.hostWrite y f.address.toNat ws f.t) : store ws c := by
        intro hfree hlegal r hr hr'
        exact request c code hcode h1 h2 h3 hknown hexec _ _
          (hperform.trans (State.hostWrite_ok s0 y _ ws f.t hfree hlegal)) (Prod.ext hr hr')
      refine ⟨fun hc => ?_, fun hc => ?_⟩
      · have hcode : frameCmd f = 0x11 := (frameCmd_eq_iff f 0x11).mpr hc
        exact stores _ (.write f) 0x11 hcode (by decide) (by decide) (by decide) rfl rfl (by simp [State.perform, hcode])
      · have hcode : frameCmd f = 0x12 := (frameCmd_eq_iff f 0x12).mpr hc
        exact stores _ (.writeMasked f) 0x12 hcode (by decide) (by decide) (by decide) rfl rfl
          (by simp [State.perform, hcode, State.hostMasked, y])

end

section
section
/-! Proofs: what the host side does by itself, and the registers of a block (spec/02_host_access.md). -/

namespace Sys2Proof.Machine

/-- What a register file takes when its block's word at `a` is written: its fields' values, the clamped ones counted. -/
def State.putIn (s : State) (b : Block) (a : Nat) (v : Word) (r : RegFile) : RegFile :=
  let p := r.put (fieldsAt b a) (fun f x => s.clampAt a f x) a v
  if p.2 = 0 then p.1 else p.1.bump (R.BLK_CLAMP_CNT_COUNT.at b) 0 0 p.2

/-- A host's write of an ordinary register: the fields of the word, then what the write commands. -/
theorem State.regWrite_plain (s : State) (b : Block) (a : Nat) (v : Word) (t : Nat) (hb : blockOf a = some b) (ha : a % 4 = 0)
    (ho : otherPort (.host 0 0) a = false) (hh : a ≠ R.VT_CMD_HOLD_OUT.base) (ht : trimReg a = false) :
    s.regWrite (.host 0 0) a v t =
      (((if laneAddr a then s.onLanes fun l => { l with rf := s.putIn b a v l.rf } else { s with rf := s.putIn b a v s.rf }).commonWrite
        (.host 0 0) b (a - blockBase b) v t).act (.host 0 0) b a v t) := by
  have hw : (Writer.host 0 0 == Writer.program) = false := rfl
  simp only [State.regWrite, hb, ho, ht, hw, ha, if_neg hh, Bool.and_false, Bool.false_and, Bool.false_eq_true, or_self, ne_eq,
    not_true_eq_false, if_false]
  rfl

theorem State.regWrite_unmapped (s : State) (w : Writer) (a : Nat) (v : Word) (t : Nat) (hb : blockOf a = none) :
    s.regWrite w a v t = s := by
  simp only [State.regWrite, hb]

theorem State.scopeClamp_elsewhere (s : State) (a : Nat) (h : a ≠ 0x170200) (h' : a ≠ 0x170204) : s.scopeClamp [a] = s := by
  simp [State.scopeClamp, h, h']

theorem State.commonWrite_elsewhere (s : State) (w : Writer) (b : Block) (o : Nat) (v : Word) (t : Nat) (h : o ≠ 0xFF00)
    (h' : o ≠ 0xFF10) : s.commonWrite w b o v t = s := by
  simp only [State.commonWrite, if_neg h, if_neg h']

theorem RegFile.put_readOnly (r : RegFile) (fs : List Fld) (c : Fld → Nat → Nat) (a : Nat) (v : Word)
    (h : ∀ f ∈ fs, f.acc = .ro) : r.put fs c a v = (r, 0) := by
  unfold RegFile.put
  generalize (r, 0) = p
  induction fs with
  | nil => rfl
  | cons f fs ih =>
    rw [List.foldl_cons, show f.acc = .ro from h f List.mem_cons_self]
    exact ih fun g hg => h g (List.mem_cons_of_mem _ hg)

/-- A W1C field of a word that is written with 1 becomes 0 (R52). -/
def Fld.cleared (f : Fld) (v w : Word) : Word := f.ins w (f.ext w - (f.ext w &&& f.ext v))

/-- The registers after a write of W1C fields: the word with each cleared, nothing staged, nothing clamped. -/
theorem RegFile.put_w1c (r : RegFile) (fs : List Fld) (c : Fld → Nat → Nat) (a : Nat) (v : Word) (hr : Cells.wf r.eff = true)
    (h : ∀ f ∈ fs, f.acc = .w1c) :
    ∃ u : RegFile, r.put fs c a v = (u, 0) ∧ u.word a = fs.foldl (fun w f => f.cleared v w) (r.word a) ∧ u.shadow = r.shadow := by
  unfold RegFile.put
  generalize 0 = n
  induction fs generalizing r with
  | nil => exact ⟨r, rfl, rfl, rfl⟩
  | cons f fs ih =>
    rw [List.foldl_cons, show f.acc = .w1c from h f List.mem_cons_self]
    obtain ⟨u, hu, hw, hs⟩ := ih { r with eff := Cells.set r.eff a (f.cleared v (r.word a)) } (Cells.wf_set _ _ _ hr)
      fun g hg => h g (List.mem_cons_of_mem _ hg)
    refine ⟨u, hu, hw.trans ?_, hs⟩
    rw [List.foldl_cons, RegFile.word, Cells.get_set_self _ _ _ hr]

theorem Fld.ext_lt_two (f : Fld) (w : Word) (h : f.width = 1) : f.ext w < 2 := by
  have hones : f.ones = 1 := by simp [Fld.ones, h]
  have hle : f.ext w ≤ f.ones.toNat := by
    rw [Fld.ext, BitVec.toNat_and]
    exact Nat.and_le_right
  rw [hones] at hle
  exact Nat.lt_succ_of_le hle

theorem Fld.ext_cleared (f : Fld) (v w : Word) (h : f.width = 1) (hlo : f.lo + f.width ≤ 32) :
    f.ext (f.cleared v w) = if f.ext v = 1 then 0 else f.ext w := by
  have hv := f.ext_lt_two v h
  have hw := f.ext_lt_two w h
  rw [Fld.cleared, Fld.ext_ins f w _ hlo, h]
  obtain h0 | h0 : f.ext v = 0 ∨ f.ext v = 1 := by omega
  all_goals
    rw [h0]
    obtain h1 | h1 : f.ext w = 0 ∨ f.ext w = 1 := by omega
  all_goals rw [h1] <;> rfl

theorem Fld.ext_cleared_other (f g : Fld) (v w : Word) (hf : f.lo + f.width ≤ 32) (hg : g.lo + g.width ≤ 32)
    (h : g.lo + g.width ≤ f.lo ∨ f.lo + f.width ≤ g.lo) : g.ext (f.cleared v w) = g.ext w :=
  Fld.ext_ins_disjoint g f w _ hg hf h

/-- The flags of HP, in the order in which a write of their word reaches them. -/
theorem fieldsAt_hpFlags : fieldsAt .hp R.HP_FLAGS_DISCARD_SEEN.base =
    [R.HP_FLAGS_QBREAK_SEEN, R.HP_FLAGS_DISCARD_SEEN, R.HP_FLAGS_AUTH_FAIL_B, R.HP_FLAGS_AUTH_FAIL_A] := rfl

/-- A write of HP's flags clears each that it writes with 1 and leaves the others. -/
theorem hpFlags_cleared (v w : Word) (f : Fld)
    (hf : f ∈ [R.HP_FLAGS_DISCARD_SEEN, R.HP_FLAGS_AUTH_FAIL_A, R.HP_FLAGS_AUTH_FAIL_B, R.HP_FLAGS_QBREAK_SEEN]) :
    f.ext ((fieldsAt .hp R.HP_FLAGS_DISCARD_SEEN.base).foldl (fun w f => f.cleared v w) w) = if f.ext v = 1 then 0 else f.ext w := by
  rw [fieldsAt_hpFlags]
  simp only [List.foldl_cons, List.foldl_nil]
  simp only [List.mem_cons, List.not_mem_nil, or_false] at hf
  obtain rfl | rfl | rfl | rfl := hf <;> simp (disch := decide) only [Fld.ext_cleared, Fld.ext_cleared_other]

/-- A write of a staged register whose field takes every value stages it and changes nothing else. -/
theorem State.putIn_staged (s : State) (b : Block) (a : Nat) (v : Word) (r : RegFile) (f : Fld) (hf : fieldsAt b a = [f])
    (hacc : f.acc = .rws) (hclamp : s.clampAt a f (f.ext v) = f.ext v) :
    s.putIn b a v r = { r with shadow := NMap.put r.shadow a (f.ins (r.shadowWord a) (f.ext v)) } := by
  simp only [State.putIn, RegFile.put, hf, List.foldl_cons, List.foldl_nil, hacc, hclamp, if_true]

theorem State.putIn_written (s : State) (b : Block) (a : Nat) (v : Word) (r : RegFile) (f : Fld) (hf : fieldsAt b a = [f])
    (hacc : f.acc = .rw) (hclamp : s.clampAt a f (f.ext v) = f.ext v) :
    s.putIn b a v r = { r with eff := Cells.set r.eff a (f.ins (r.word a) (f.ext v)) } := by
  simp only [State.putIn, RegFile.put, hf, List.foldl_cons, List.foldl_nil, hacc, hclamp, if_true]

/-- What a port makes of an ARP or echo request to its own address (R36). -/
theorem State.hostAnswer_taken (s : State) (t : Nat) (arp : Bool) (p : Port) (q : PortAsk)
    (hown : q.target.toNat = match p with | .a => s.rd R.HP_A_ADDR_ADDR | .b => s.rd R.HP_B_ADDR_ADDR) (hfrag : q.fragment = false) :
    (s.now t).hostAnswer arp (portNo p) q false = (s.now t).setHp { s.hp with
      answers := NMap.put s.hp.answers (portNo p) { arp := arp, dst := q.source, mac := q.mac, echo := if arp then [] else q.echo } } := by
  cases p <;> simp [State.hostAnswer, portNo, hown, hfrag, State.now_hp]

/-- A tagged request, a fragment and a request for another address are left alone (R36). -/
theorem State.hostAnswer_left (s : State) (t : Nat) (arp : Bool) (p : Port) (q : PortAsk) (tagged : Bool)
    (h : tagged = true ∨ q.fragment = true ∨
      q.target.toNat ≠ match p with | .a => s.rd R.HP_A_ADDR_ADDR | .b => s.rd R.HP_B_ADDR_ADDR) :
    (s.now t).hostAnswer arp (portNo p) q tagged = s.now t := by
  have hno : (!tagged && !q.fragment && q.target.toNat == if portNo p = 0 then s.rd R.HP_A_ADDR_ADDR else s.rd R.HP_B_ADDR_ADDR) = false := by
    cases p <;> obtain h | h | h := h <;> simp [portNo, h]
  rw [State.hostAnswer]
  simp only [State.rd_now, hno]
  rfl

/-- A host's register write that neither asks for a mode nor resets HP. -/
theorem State.leaves_registerWrite (s : State) (a : Nat) (v : Word) (t : Nat) (u : State) (hl : s.live = true)
    (hmode : a ≠ R.SYS_MODE_REQ_REQ.base) (hreset : a ≠ (R.BLK_CTRL_SOFT_RESET.at .hp).base) (hlo : a ≠ 0x170200) (hhi : a ≠ 0x170204)
    (hu : (s.now t).regWrite (.host 0 0) a v t = u) : s.leaves (.registerWrite a v t) t u := by
  refine congrArg Host.Outcome.next ((State.runHost_live s t _ hl).trans ?_)
  rw [hu, State.scopeClamp_elsewhere u a hlo hhi]
  simp only [hmode, hreset, or_self, if_false]

theorem Fld.ins_whole (f : Fld) (v w : Word) (hlo : f.lo = 0) (hw : f.width = 32) : f.ins w (f.ext v) = v := by
  have hones : f.ones = BitVec.allOnes 32 := by
    rw [Fld.ones, hw]
    rfl
  simp [Fld.ins, Fld.ext, hones, hlo, -BitVec.reduceAllOnes]

/-- A reset of HP outside its registers. -/
theorem State.hpReset_keeps {α : Type} (p : State → α) (h : ∀ (u : State) (r : RegFile), p { u with rf := r } = p u) (s : State)
    (k : ResetKind) : p (s.hpReset k) = p { s with hp := { s.hp with
      sessions := [], verifyUntil := none, addrCommit := false, addrBy := none, resetAfterReply := false, tieHeld := none,
      tieRest := false } } := by
  have hlate (u : State) (n : Nat) : p (u.countLate n) = p u := ite_same p rfl (h _ _)
  unfold State.hpReset
  generalize List.range 32 = quoins
  rw [hlate, State.resetRegs, h]
  exact foldl_same p (fun (s : State) q => s.wrWord (R.HP_QUOIN_HELD.addr q) 0) (fun _ _ => h _ _) quoins _

/-- A host's write of a register without a command of its own. -/
theorem State.regWrite_register (s : State) (b : Block) (a : Nat) (v : Word) (t : Nat) (hb : blockOf a = some b) (ha : a % 4 = 0)
    (ho : otherPort (.host 0 0) a = false) (hh : a ≠ R.VT_CMD_HOLD_OUT.base) (ht : trimReg a = false)
    (hc : a - blockBase b ≠ 0xFF00) (hc' : a - blockBase b ≠ 0xFF10) (hact : ∀ u : State, u.act (.host 0 0) b a v t = u) :
    s.regWrite (.host 0 0) a v t =
      if laneAddr a then s.onLanes fun l => { l with rf := s.putIn b a v l.rf } else { s with rf := s.putIn b a v s.rf } := by
  rw [State.regWrite_plain s b a v t hb ha ho hh ht, State.commonWrite_elsewhere _ _ _ _ _ _ hc hc', hact]

theorem State.setApply_nw (s : State) (t : Nat) : s.setApply .nw t =
    if !s.rf.waits .nw then s
    else if !s.nwSetOk (s.rf.applied .nw).word then { s with rf := s.rf.reject .nw } else { s with rf := s.rf.applied .nw } := by
  simp only [State.setApply, State.boundary, State.setOk, Bool.not_true, Bool.or_false, reduceCtorEq, if_false]
  rfl

@[simp] theorem State.nwSetOk_now (s : State) (t : Nat) (w : Nat → Word) : (s.now t).nwSetOk w = s.nwSetOk w := by
  have hvlan (pl v : Nat) : (s.now t).vlanMembers pl v = s.vlanMembers pl v := by
    simp only [State.vlanMembers, State.vlanEntry, State.now_nw]
  simp only [State.nwSetOk, hvlan]

end Sys2Proof.Machine

open Sys2Proof Sys2Proof.Machine

/-- Settles O27: the host side's own acts, then the registers of a block. -/
theorem hostSideAndRegisters : Obligations.HostSideAndRegisters := by
  refine ⟨fun s p n t x hl => ?host, fun s v t hl => ?registers⟩
  case host =>
    have live (c : Instr) (f : State → State) (u : State) (hc : exec c s = .next (s.runHost t f)) (hu : f (s.now t) = u) :
        s.leaves c t u := hc.trans (congrArg Host.Outcome.next ((State.runHost_live s t f hl).trans (by rw [hu])))
    have hhp : (s.now t).hp = s.hp := State.now_hp s t
    have hsession : (s.now t).session (portNo p) n = s.session (portNo p) n := by rw [State.session, hhp]; rfl
    have hrd (f : Fld) (i j : Nat) : (s.now t).rd f i j = s.rd f i j := State.rd_now s t f i j
    refine ⟨fun u hu hdue => live _ _ _ rfl ?_, fun hx hopen hdue => live _ _ _ rfl ?_, fun hx hopen hdue => live _ _ _ rfl ?_,
      fun hyoung => live _ _ _ rfl ?_, fun q => ⟨fun hown hfrag => ⟨live _ _ _ rfl ?_, live _ _ _ rfl ?_⟩,
      fun tagged h => ⟨live _ _ _ rfl ?_, live _ _ _ rfl ?_⟩⟩, fun hcommit => ?_⟩
    · simp only [State.verifyEnd, hhp, hu, if_pos hdue]
    · simp [State.handshakeLapse, hsession, hx, hopen, hdue]
    · simp [State.sessionTimeout, hsession, hx, hopen, hrd, hdue]
    · rw [State.handshakeLapse, hsession]
      cases hx : s.session (portNo p) n with
      | none => rfl
      | some y =>
        have hearly := hyoung y hx
        exact if_neg (by simp; omega)
    · rw [s.hostAnswer_taken t true p q hown hfrag]
      rfl
    · rw [s.hostAnswer_taken t false p q hown hfrag]
      rfl
    · exact s.hostAnswer_left t true p q tagged h
    · exact s.hostAnswer_left t false p q tagged h
    · intro r off new
      have change (u : State) (hu : (s.now t).hpApply t = u) : s.leaves (.hostAddressChange t) t u :=
        live _ _ _ rfl ((if_pos (show (s.now t).hp.addrCommit = true by rw [hhp, hcommit])).trans hu)
      refine ⟨fun hserve => change _ ?_, fun hserve hw => change _ ?_, fun hserve hw hok => change _ ?_, fun hserve hw hok => change _ ?_⟩
      · exact if_pos hserve
      · exact (if_neg (by simp [r, hserve])).trans (if_pos (by simp [r, hw]))
      · refine (if_neg (by simp [r, hserve])).trans ((if_neg (by simp [r, hw])).trans ((if_neg (by simp [r, new, hok])).trans ?_))
        rfl
      · exact (if_neg (by simp [r, hserve])).trans ((if_neg (by simp [r, hw])).trans (if_pos (by simp [r, new, hok])))
  case registers =>
    have live (c : Instr) (f : State → State) (u : State) (hc : exec c s = .next (s.runHost t f)) (hu : f (s.now t) = u) :
        s.leaves c t u := hc.trans (congrArg Host.Outcome.next ((State.runHost_live s t f hl).trans (by rw [hu])))
    have hrf : (s.now t).rf = s.rf := State.now_rf s t
    refine ⟨s.leaves_registerWrite 0 v t _ hl (by decide) (by decide) (by decide) (by decide) ?readOnly, fun a ha => ?unmapped,
      ⟨_, s.leaves_registerWrite _ v t _ hl (by decide) (by decide) (by decide) (by decide) rfl, ?staged⟩,
      fun hwf => ⟨_, s.leaves_registerWrite _ v t _ hl (by decide) (by decide) (by decide) (by decide) rfl, ?w1c⟩,
      live _ _ _ rfl ?_, live _ _ _ rfl ?_, live _ _ _ rfl ?_, live _ _ _ rfl ?_, fun hw hok => live _ _ _ rfl ?apply,
      fun hw hok => live _ _ _ rfl ?reject, fun hw => live _ _ _ rfl ?idle, live _ _ _ rfl ?_, live _ _ _ rfl ?_,
      ⟨_, live _ _ _ rfl rfl, ?reset⟩, fun w hw => live _ _ _ rfl (if_pos hw), fun hmode hv => ?hold, fun hstop hmaint => ?held, ?event⟩
    case readOnly =>
      have hput : (s.now t).putIn .sys 0 v (s.now t).rf = (s.now t).rf := by
        rw [State.putIn, RegFile.put_readOnly _ _ _ _ _ (by decide)]
        rfl
      rw [State.regWrite_register _ .sys 0 v t rfl rfl rfl (by decide) rfl (by decide) (by decide) fun _ => rfl,
        if_neg (by decide), hput]
    case unmapped =>
      have away (b : Nat) (hb : (blockOf b).isSome = true) : a ≠ b := fun h => by simp [← h, ha] at hb
      exact s.leaves_registerWrite a v t _ hl (away _ (by decide)) (away _ (by decide)) (away _ (by decide)) (away _ (by decide))
        (State.regWrite_unmapped _ _ _ _ _ ha)
    case staged =>
      rw [State.regWrite_register _ .hp 0x10008 v t rfl rfl rfl (by decide) rfl (by decide) (by decide) fun _ => rfl,
        if_neg (by decide),
        State.putIn_staged _ .hp _ v _ R.HP_A_ADDR_ADDR rfl rfl rfl]
      refine ⟨by rw [hrf], ?_, State.now_vt s t⟩
      refine (congrArg (Option.getD · _) (NMap.look_put_self _ _ _)).trans (Fld.ins_whole _ v _ rfl rfl)
    case w1c =>
      obtain ⟨u, hu, hword, hshadow⟩ := RegFile.put_w1c (s.now t).rf (fieldsAt .hp R.HP_FLAGS_DISCARD_SEEN.base)
        (fun f x => (s.now t).clampAt R.HP_FLAGS_DISCARD_SEEN.base f x) R.HP_FLAGS_DISCARD_SEEN.base v (by rw [hrf]; exact hwf) (by decide)
      have hput : (s.now t).putIn .hp R.HP_FLAGS_DISCARD_SEEN.base v (s.now t).rf = u := by
        rw [State.putIn, hu]
        rfl
      rw [State.regWrite_register _ .hp R.HP_FLAGS_DISCARD_SEEN.base v t rfl rfl rfl (by decide) rfl (by decide) (by decide) fun _ => rfl,
        if_neg (by decide), hput]
      refine ⟨fun f hf => ?_, hshadow.trans (congrArg RegFile.shadow hrf), State.now_hp s t⟩
      have hcleared := hpFlags_cleared v ((s.now t).rf.word R.HP_FLAGS_DISCARD_SEEN.base) f hf
      rw [← hword, hrf] at hcleared
      simp only [List.mem_cons, List.not_mem_nil, or_false] at hf
      obtain rfl | rfl | rfl | rfl := hf <;> exact hcleared
    · rw [← hrf]
      rfl
    · rw [← hrf, ← State.now_hp s t]
      rfl
    · rfl
    · rw [← hrf]
      rfl
    case apply =>
      simp [State.setApply_nw, hw, hok]
    case reject =>
      simp [State.setApply_nw, hw, hok]
    case idle =>
      simp [State.setApply_nw, hw]
    · rw [← hrf]
      rfl
    · rfl
    case reset =>
      have hhp := ((s.now t).resetting .hp t).hpReset_keeps State.hp (fun _ _ => rfl) .cold
      refine ⟨congrArg HostState.sessions hhp, congrArg HostState.verifyUntil hhp,
        (((s.now t).resetting .hp t).hpReset_keeps State.vt (fun _ _ => rfl) .cold).trans (State.now_vt s t),
        (congrArg (NMap.get · 0 0x10000) (((s.now t).resetting .hp t).hpReset_keeps State.rst (fun _ _ => rfl) .cold)).trans ?_⟩
      exact NMap.get_put_self _ _ _ _
    case hold =>
      refine congrArg Host.Outcome.next ((State.run_live s t _ hl).trans ?_)
      have hstopped : (s.now t).stopped = true := by simpa [State.stopped, State.mode] using hmode
      rw [State.holdOutWrite, hstopped]
      simp [show v.toNat % 8 ≠ 7 by omega, show min 6 (v.toNat % 8) = v.toNat % 8 by omega]
    case held =>
      refine congrArg Host.Outcome.next ((State.run_live s t _ hl).trans ?_)
      have hstopped : (s.now t).stopped = false := by simpa [State.stopped, State.mode] using ⟨hstop, hmaint⟩
      rw [State.holdOutWrite, hstopped]
      rfl
    case event =>
      refine congrArg Host.Outcome.next ((State.run_live s t _ hl).trans ?_)
      have hact (u : State) : u.act (.host 0 0) .evt R.EVT_CTRL_GDIS.base v t = u := by
        simp [State.act, R.EVT_CTRL_GDIS, blockBase]
      have hbit : R.EVT_CTRL_GDIS.ext v = v.toNat % 2 := by
        simp [Fld.ext, Fld.ones, Fld.width, R.EVT_CTRL_GDIS, Nat.and_one_is_mod]
      rw [State.regWrite_register _ .evt R.EVT_CTRL_GDIS.base v t rfl rfl rfl (by decide) rfl (by decide) (by decide) hact,
        if_pos (by decide)]
      refine congrArg (fun u : State => s.after u t) (congrArg (State.onLanes (s.now t)) (funext fun l => ?_))
      rw [State.putIn_written _ .evt R.EVT_CTRL_GDIS.base v _ R.EVT_CTRL_GDIS rfl rfl rfl, hbit]
      rfl
end

end

section
section
/-! Proofs: commands of a module that works, lane exclusion, grace and SAFE (spec/09_lanes_and_voting.md). -/

namespace Sys2Proof.Machine

/-- What a command of a live module leaves, by what its own operation makes of the state at its time. -/
theorem State.leaves_run (s : State) (c : Instr) (t : Nat) (f : State → State) (u : State) (hl : s.live = true)
    (hc : exec c s = .next (s.run t f)) (hu : f (s.now t) = u) : s.leaves c t u :=
  hc.trans (congrArg Host.Outcome.next ((State.run_live s t f hl).trans (by rw [hu])))

@[simp] theorem State.vstate_now (s : State) (t : Nat) : (s.now t).vstate = s.vstate := s.rd_now t _ 0 0
@[simp] theorem State.isTriplex_now (s : State) (t : Nat) : (s.now t).isTriplex = s.isTriplex := by simp [State.isTriplex]
@[simp] theorem State.isDuplex_now (s : State) (t : Nat) : (s.now t).isDuplex = s.isDuplex := by simp [State.isDuplex]
@[simp] theorem State.isSimplex_now (s : State) (t : Nat) : (s.now t).isSimplex = s.isSimplex := by simp [State.isSimplex]
@[simp] theorem State.isSafe_now (s : State) (t : Nat) : (s.now t).isSafe = s.isSafe := by simp [State.isSafe]
@[simp] theorem State.graceLimit_now (s : State) (t : Nat) : (s.now t).graceLimit = s.graceLimit := by simp [State.graceLimit]
@[simp] theorem State.graceNow_now (s : State) (t u : Nat) : (s.now t).graceNow u = s.graceNow u := by simp [State.graceNow]
@[simp] theorem State.votes_now (s : State) (t x : Nat) : (s.now t).votes x = s.votes x := by simp [State.votes]

theorem State.vstate_of_rf {s u : State} (h : u.rf = s.rf) : u.vstate = s.vstate := by rw [State.vstate, State.rd, h]; rfl

/-! ### The lane state (R247, R251) -/

theorem State.regAt_vtEnter (s : State) (st t a : Nat) (h : a < 0x90000) (ha : a ≠ 0x80000) : (s.vtEnter st t).regAt a = s.regAt a :=
  (State.regAt_scLaneState _ _ _ h).trans ((State.regAt_wr _ _ _ _ _ _ ha).trans (State.regAt_wr _ _ _ _ _ _ ha))

/-- The lane state that is entered shows, and who votes still does. -/
theorem State.vtEnter_shows (s : State) (st t : Nat) (hst : st % 8 ≠ 0) (hv : s.rd R.VT_STATE_VOTING ≠ 0) :
    (s.vtEnter st t).vstate = st % 8 ∧ (s.vtEnter st t).rd R.VT_STATE_VOTING = s.rd R.VT_STATE_VOTING := by
  have hword (f : Fld) (hf : f.addr = 0x80000) (u : State) : (u.scLaneState t).rd f = u.rd f :=
    State.rd_of_regAt f 0 0 (by rw [hf]; exact State.regAt_scLaneState _ _ _ (by decide))
  have hstate (u : State) : (u.wr R.VT_STATE_STATE st).rd R.VT_STATE_STATE = st % 8 :=
    State.rd_wr_of_ne_zero u R.VT_STATE_STATE st 0 0 (by decide) hst
  have hne (u : State) : (u.wr R.VT_STATE_STATE st).rd R.VT_STATE_STATE ≠ 0 := by rwa [hstate]
  constructor
  · refine (hword R.VT_STATE_STATE rfl _).trans ?_
    rw [State.rd_wr_beside_disjoint _ R.VT_STATE_RANK R.VT_STATE_STATE R.VT_STATE_STATE _ 0 0 rfl rfl (by decide) (by decide) (by decide)
      (by decide) (by decide) (hne _), hstate]
  · refine (hword R.VT_STATE_VOTING rfl _).trans ?_
    rw [State.rd_wr_beside_disjoint _ R.VT_STATE_RANK R.VT_STATE_STATE R.VT_STATE_VOTING _ 0 0 rfl rfl (by decide) (by decide) (by decide)
      (by decide) (by decide) (hne _)]
    exact State.rd_wr_beside_disjoint _ R.VT_STATE_STATE R.VT_STATE_VOTING R.VT_STATE_VOTING _ 0 0 rfl rfl (by decide) (by decide)
      (by decide) (by decide) (by decide) hv

theorem State.setVoting_shows (s : State) (m : Nat) (hm : m % 8 ≠ 0) : (s.setVoting m).rd R.VT_STATE_VOTING = m % 8 := by
  have hvoting : (s.wr R.VT_STATE_VOTING m).rd R.VT_STATE_VOTING = m % 8 :=
    State.rd_wr_of_ne_zero s R.VT_STATE_VOTING m 0 0 (by decide) hm
  rw [State.setVoting, State.rd_wr_beside_disjoint _ R.VT_STATE_LEAD R.VT_STATE_VOTING R.VT_STATE_VOTING _ 0 0 rfl rfl (by decide)
    (by decide) (by decide) (by decide) (by decide) (by rwa [hvoting]), hvoting]

theorem State.regAt_setVoting (s : State) (m a : Nat) (ha : a ≠ 0x80000) : (s.setVoting m).regAt a = s.regAt a :=
  (State.regAt_wr _ _ _ _ _ _ ha).trans (State.regAt_wr _ _ _ _ _ _ ha)

/-! ### Exclusion (R247) -/

theorem State.outsideRecorder_items (y : Nat) : State.OutsideRecorder fun s => (s.lane y).items where
  er _ _ := rfl
  staging s rs := s.onLanes_items (fun l => { l with staging := rs }) (fun _ => rfl) y
  raise s n t := s.raise_items n t y
  wr _ _ _ _ := rfl

theorem State.scLaneState_items (s : State) (t y : Nat) : ((s.scLaneState t).lane y).items = (s.lane y).items := by
  have henter (u : State) (st : Nat) : ((u.scEnter st t).lane y).items = (u.lane y).items := by
    unfold State.scEnter State.flagIf
    dsimp only
    split
    · rfl
    · refine ((State.outsideRecorder_items y).record _ _ _ _ _).trans ?_
      split <;> split <;> split <;> rfl
  exact ite_same (fun s : State => (s.lane y).items) (henter _ _) (ite_same (fun s : State => (s.lane y).items) (henter _ _) rfl)

/-- The status a lane shows: its role, which is not 0, and the cause of its exclusion. -/
def State.laneShows (s : State) (x role cause : Nat) : Prop :=
  s.laneRole x = role ∧ s.rd R.VT_LANE_STAT_CAUSE x = cause

theorem State.laneShows_of_regAt {s u : State} {x role cause : Nat} (h : s.laneShows x role cause)
    (hr : u.regAt (R.VT_LANE_STAT_ROLE.addr x 0) = s.regAt (R.VT_LANE_STAT_ROLE.addr x 0)) : u.laneShows x role cause :=
  ⟨(State.rd_of_regAt R.VT_LANE_STAT_ROLE x 0 hr).trans h.1, (State.rd_of_regAt R.VT_LANE_STAT_CAUSE x 0 hr).trans h.2⟩

theorem State.laneShows_mark (s : State) (x role cause : Nat) (hr : role % 8 ≠ 0) :
    ((s.wr R.VT_LANE_STAT_ROLE role x).wr R.VT_LANE_STAT_CAUSE cause x).laneShows x (role % 8) (cause % 16) := by
  have hrole : (s.wr R.VT_LANE_STAT_ROLE role x).rd R.VT_LANE_STAT_ROLE x = role % 8 :=
    State.rd_wr_of_ne_zero s R.VT_LANE_STAT_ROLE role x 0 (by decide) hr
  refine ⟨(State.rd_wr_beside_disjoint _ R.VT_LANE_STAT_CAUSE R.VT_LANE_STAT_ROLE R.VT_LANE_STAT_ROLE _ x 0 rfl rfl (by decide)
    (by decide) (by decide) (by decide) (by decide) (by rwa [hrole])).trans hrole, ?_⟩
  exact State.rd_wr_beside _ R.VT_LANE_STAT_CAUSE R.VT_LANE_STAT_ROLE cause x 0 rfl (by decide) (by decide) (by decide) (by rwa [hrole])

theorem State.laneRow_addr (x : Nat) (h : x < 3) :
    R.VT_LANE_STAT_ROLE.addr x 0 ≠ 0x80000 ∧ R.VT_LANE_STAT_ROLE.addr x 0 ≠ 0x80030 ∧ R.VT_LANE_STAT_ROLE.addr x 0 ≠ 0x80034 ∧
      R.VT_LANE_STAT_ROLE.addr x 0 < 0x90000 := by
  simp only [Fld.addr, R.VT_LANE_STAT_ROLE]
  omega

/-- What the voter and the lane keep of an exclusion, and its marks (R247). -/
def State.excluded (s : State) (x cause n : Nat) : State :=
  ((((((s.wr R.VT_LANE_STAT_ROLE lrExcluded x).wr R.VT_LANE_STAT_CAUSE cause x).wr R.VT_LANE_STAT_EXCL_IN_WIN n x).setVoting
    (7 - 2 ^ x)).wr R.VT_FLAGS_LANE_FAULT 1).bump R.VT_EXCL_CNT)

theorem State.excluded_shows (s : State) (x cause n : Nat) (hx : x < 3) :
    (s.excluded x cause n).laneShows x lrExcluded (cause % 16) ∧ (s.excluded x cause n).rd R.VT_STATE_VOTING = 7 - 2 ^ x ∧
      (s.excluded x cause n).rd R.VT_FLAGS_LANE_FAULT = 1 := by
  obtain ⟨hstate, hflags, hcnt, -⟩ := State.laneRow_addr x hx
  have hrole := s.laneShows_mark x lrExcluded cause (by decide)
  have hvoting (u : State) : (u.setVoting (7 - 2 ^ x)).rd R.VT_STATE_VOTING = 7 - 2 ^ x := by
    rw [State.setVoting_shows] <;> (obtain rfl | rfl | rfl : x = 0 ∨ x = 1 ∨ x = 2 := by omega) <;> decide
  refine ⟨?_, ?_, ?_⟩
  · have hrow (u : State) : (((u.setVoting (7 - 2 ^ x)).wr R.VT_FLAGS_LANE_FAULT 1).bump R.VT_EXCL_CNT).regAt (R.VT_LANE_STAT_ROLE.addr x 0) =
        u.regAt (R.VT_LANE_STAT_ROLE.addr x 0) :=
      (State.regAt_bump _ _ _ _ _ _ hcnt).trans ((State.regAt_wr _ _ _ _ _ _ hflags).trans (State.regAt_setVoting _ _ _ hstate))
    refine State.laneShows_of_regAt ?_ (hrow _)
    have hwin (f : Fld) (ha : f.addr x 0 = R.VT_LANE_STAT_ROLE.addr x 0) (hf : f.lo + f.width ≤ 24) (u : State)
        (hu : u.rd R.VT_LANE_STAT_ROLE x ≠ 0) : (u.wr R.VT_LANE_STAT_EXCL_IN_WIN n x).rd f x = u.rd f x :=
      State.rd_wr_beside_disjoint u R.VT_LANE_STAT_EXCL_IN_WIN R.VT_LANE_STAT_ROLE f n x 0 rfl ha (by decide) (by decide) (by omega)
        (by decide) (.inl hf) hu
    have hne : lrExcluded % 8 ≠ 0 := by decide
    exact ⟨(hwin R.VT_LANE_STAT_ROLE rfl (by decide) _ (by rw [← State.laneRole, hrole.1]; exact hne)).trans hrole.1,
      (hwin R.VT_LANE_STAT_CAUSE rfl (by decide) _ (by rw [← State.laneRole, hrole.1]; exact hne)).trans hrole.2⟩
  · exact (State.rd_of_regAt R.VT_STATE_VOTING 0 0 ((State.regAt_bump _ _ _ _ _ _ (by decide)).trans
      (State.regAt_wr _ _ _ _ _ _ (by decide)))).trans (hvoting _)
  · exact (State.rd_of_regAt R.VT_FLAGS_LANE_FAULT 0 0 (State.regAt_bump _ _ _ _ _ _ (by decide))).trans
      (State.rd_wr_of_ne_zero _ R.VT_FLAGS_LANE_FAULT 1 0 0 (by decide) (by decide))

theorem State.excluded_items (s : State) (x cause n y : Nat) : ((s.excluded x cause n).lane y).items = (s.lane y).items := rfl

theorem State.vtEnter_items (s : State) (st t y : Nat) : ((s.vtEnter st t).lane y).items = (s.lane y).items :=
  (State.scLaneState_items _ t y).trans rfl

/-- An exclusion, put together: what is registered of it, the state that is entered, the record; an entry into SLEEP it abandons. -/
theorem State.exclude_eq (s : State) (x cause t : Nat) (htri : s.isTriplex = true) (hvotes : s.votes x = true) :
    ∃ (v : Voter) (n : Nat) (d : List Byte), ∀ {α : Type} (p : State → α), (∀ u q, p (State.setPw u q) = p u) → p (s.exclude x cause t) =
      p (((((s.setVt v).setLane x { s.lane x with items := [] }).excluded x cause n).vtEnter (vsDuplex x) t).record .vt 0x0301 d t) := by
  rw [State.exclude, htri, hvotes, if_neg (by decide)]
  exact ⟨_, _, _, fun p hp => ite_same p (hp _ _) rfl⟩

theorem State.exclude_shows (s : State) (x : LaneId) (cause t : Nat) (hcause : cause < 16) (htri : s.isTriplex = true)
    (hvotes : s.votes x = true) :
    let u := s.exclude x cause t
    u.vstate = vsDuplex x ∧ u.rd R.VT_STATE_VOTING = 7 - 2 ^ x.val ∧ u.laneRole x = lrExcluded ∧
      u.rd R.VT_LANE_STAT_CAUSE x = cause ∧ u.rd R.VT_FLAGS_LANE_FAULT = 1 ∧ (u.lane x).items = [] := by
  obtain ⟨v, n, d, heq⟩ := s.exclude_eq x cause t htri hvotes
  have hitems := heq (fun u => (u.lane x).items) fun _ _ => rfl
  have hreg (a : Nat) (ha : a < 0x90000) := (heq (fun u => u.regAt a) fun _ _ => rfl).trans (State.regAt_record _ _ _ _ _ _ (by omega))
  obtain ⟨hrow, hvoting, hflag⟩ := ((s.setVt v).setLane x { s.lane x with items := [] }).excluded_shows x cause n x.isLt
  obtain ⟨hstate, -, -, hlow⟩ := State.laneRow_addr x x.isLt
  have hsame (a : Nat) (ha : a < 0x90000) (ha' : a ≠ 0x80000) := (hreg a ha).trans (State.regAt_vtEnter _ _ _ _ ha ha')
  have hthree : vsDuplex x % 8 = vsDuplex x := Nat.mod_eq_of_lt (by rw [vsDuplex]; omega)
  have hne : 7 - 2 ^ x.val ≠ 0 := by
    have hall : ∀ y < 3, 7 - 2 ^ y ≠ 0 := by decide
    exact hall x.val x.isLt
  obtain ⟨hduplex, hkept⟩ := State.vtEnter_shows (((s.setVt v).setLane x { s.lane x with items := [] }).excluded x cause n) (vsDuplex x) t
    (by rw [hthree, vsDuplex]; omega) (by rwa [hvoting])
  obtain ⟨hrole, hcauses⟩ := State.laneShows_of_regAt hrow (hsame _ hlow hstate)
  refine ⟨?_, ?_, hrole, by rw [hcauses, Nat.mod_eq_of_lt hcause], ?_, ?_⟩
  · exact (State.rd_of_regAt R.VT_STATE_STATE 0 0 (hreg _ (by decide))).trans (hduplex.trans hthree)
  · exact (State.rd_of_regAt R.VT_STATE_VOTING 0 0 (hreg _ (by decide))).trans (hkept.trans hvoting)
  · exact (State.rd_of_regAt R.VT_FLAGS_LANE_FAULT 0 0 (hsame _ (by decide) (by decide))).trans hflag
  · rw [hitems, (State.outsideRecorder_items x).record, State.vtEnter_items, State.excluded_items, State.lane_setLane, if_pos (.inl rfl)]

end Sys2Proof.Machine

open Sys2Proof Sys2Proof.Machine

/-- Settles O30. -/
theorem exclusionDuplexAndSafe : Obligations.ExclusionDuplexAndSafe := by
  refine ⟨fun s x cause t hcause => ⟨fun h => ?_, fun htri hvotes => ?_⟩, fun s t hl => ⟨fun hd hlim hw => ?_, fun hd hlim => ?_,
    fun hd hlim => ?_, fun hsx hlim => ?_, fun hd => ?_⟩, fun s c t hc hne => ⟨fun h => s.enterSafe_of_safe c t h, fun h => ?_⟩⟩
  · simp [State.exclude, h]
  · exact s.exclude_shows x cause t hcause htri hvotes
  · exact s.leaves_run _ t _ _ hl rfl ((if_pos (by simp [hd, hlim, hw])).trans (by rw [State.graceNow_now]))
  · exact s.leaves_run _ t _ _ hl rfl (if_pos (by simp [State.graceOver, hd, hlim]))
  · exact s.leaves_run _ t _ _ hl rfl ((if_pos (by simp [hd, hlim])).trans (by simp))
  · exact s.leaves_run _ t _ _ hl rfl (if_pos (by simp [State.simplexOver, hsx, hlim]))
  · exact s.leaves_run _ t _ _ hl rfl (if_neg (by simp [State.graceOver, hd]))
  · obtain ⟨hshows, hvoting, hcauses, hseen, hheld, hserving⟩ := s.enterSafe_marks c t h
    have hsame : s.safeCause c t = c := by
      rw [State.safeCause, if_neg (by simpa [Classical.or_iff_not_imp_left] using hne)]
    exact ⟨State.isSafe_of_showsSafe hshows, hshows.2, hvoting, by rw [hcauses, hsame, Nat.mod_eq_of_lt hc], hseen, hheld, hserving⟩
end

end

section
section
/-! Proofs: the event controller (spec/07_events.md). -/

namespace Sys2Proof.Machine

@[simp] theorem State.servingLanes_now (s : State) (t : Nat) : (s.now t).servingLanes = s.servingLanes := by
  simp [State.servingLanes, State.serves]

@[simp] theorem State.mode_now (s : State) (t : Nat) : (s.now t).mode = s.mode := s.rd_now t _ 0 0

@[simp] theorem State.phase_now (s : State) (t : Nat) : (s.now t).phase = s.phase := by
  simp [State.phase, State.startup]

/-- Every serving lane has `p` at the command's time. -/
def State.every (s : State) (t : Nat) (p : Lane → Prop) : Prop := ∀ x ∈ s.servingLanes, p ((s.now t).lane x)

/-- Two operations of the lanes that agree on a lane with `p`, whatever it watches, do the same where every serving lane has `p`. -/
theorem State.every.onLanes {s : State} {t : Nat} {p : Lane → Prop} (hall : s.every t p) (g h : Lane → Lane)
    (hwatch : ∀ l w, p l → p { l with watch := w }) (heq : ∀ l, p l → g l = h l) : (s.now t).onLanes g = (s.now t).onLanes h :=
  State.onLanes_congr _ g h fun x hx w => heq _ (hwatch _ w (hall x (by rwa [State.servingLanes_now] at hx)))

theorem State.pw_of_live (s : State) (h : s.live = true) : s.pw.off = false ∧ s.pw.frozen = false ∧ s.recovering = false := by
  simpa [State.live, and_assoc] using h

theorem State.raise_now (s : State) (k t : Nat) (h : s.live = true) : (s.now t).raise k t = (s.now t).onLanes fun l => l.evRaise k t := by
  rw [State.raise, State.now_pw, (s.pw_of_live h).2.1]
  rfl

/-- A lane's register field after a write of another field of the same word, which is not 0. -/
theorem Lane.rd_wr_disjoint_of_ne_zero (l : Lane) (f g : Fld) (v i j : Nat) (ha : f.addr i j = g.addr i j) (hf : f.lo + f.width ≤ 32)
    (hg : g.lo + g.width ≤ 32) (h : f.lo + f.width ≤ g.lo ∨ g.lo + g.width ≤ f.lo) (hv : v % 2 ^ g.width ≠ 0) :
    (l.wr g v i j).rd f i j = l.rd f i j := by
  have hword : g.ins (Cells.get l.rf.eff (g.addr i j)) v ≠ 0 := g.ne_zero_of_ext_ne_zero _ (by rwa [Fld.ext_ins g _ v hg])
  show f.ext (Cells.get (Cells.set l.rf.eff (g.addr i j) _) (f.addr i j)) = f.ext (Cells.get l.rf.eff (f.addr i j))
  rw [ha, Cells.get_set_of_ne_zero _ _ _ hword, Fld.ext_ins_disjoint f g _ v hf hg h]

theorem Lane.evRaise_disabled (l : Lane) (k t : Nat) (h : l.rd R.EVT_SRC_CFG_EN k = 0) : l.evRaise k t = l := if_pos h

theorem Lane.evRaise_pending (l : Lane) (k t : Nat) (hen : l.rd R.EVT_SRC_CFG_EN k ≠ 0) (hp : l.rd R.EVT_SRC_STAT_PEND k ≠ 0)
    (hacc : l.rd R.EVT_SRC_STAT_ACC k < 255) : l.evRaise k t = l.wr R.EVT_SRC_STAT_ACC (l.rd R.EVT_SRC_STAT_ACC k + 1) k := by
  simp only [Lane.evRaise, if_neg hen, if_neg hp, if_neg (Nat.ne_of_lt hacc)]

theorem Lane.evRaise_first (l : Lane) (k t : Nat) (hen : l.rd R.EVT_SRC_CFG_EN k ≠ 0) (hp : l.rd R.EVT_SRC_STAT_PEND k = 0)
    (hacc : l.rd R.EVT_SRC_STAT_ACC k = 0) :
    l.evRaise k t = { (l.wr R.EVT_SRC_STAT_PEND 1 k).wr R.EVT_SRC_STAT_ACC 1 k with first := NMap.put l.first k t } := by
  have hkept : ({ l.wr R.EVT_SRC_STAT_PEND 1 k with first := NMap.put l.first k t } : Lane).rd R.EVT_SRC_STAT_ACC k = 0 :=
    (l.rd_wr_disjoint_of_ne_zero R.EVT_SRC_STAT_ACC R.EVT_SRC_STAT_PEND 1 k 0 rfl (by decide) (by decide) (by decide) (by decide)).trans hacc
  simp only [Lane.evRaise, if_neg hen, if_pos hp, hkept]
  rfl

theorem Lane.holdEnd_due (l : Lane) (k e t : Nat) (h : NMap.look l.hold k = some e) (he : e ≤ t) :
    l.holdEnd k t = { (l.wr R.EVT_GRP_STAT_HELD 0 k) with hold := NMap.del l.hold k } := by
  simp only [Lane.holdEnd, h, if_pos he]

/-- A delivery that no task takes, of a source without a hold-off (R185 to R187). -/
theorem Lane.deliverEvent_unserved (l : Lane) (ph : Phase) (k t : Nat) (hhold : l.rd R.EVT_GRP_CFG_HOLDOFF (k / 16) = 0)
    (htasks : ∀ m ∈ l.used, l.tkKind m ≠ kEvent)
    (howed : ((l.wr R.EVT_SRC_STAT_PEND 0 k).wr R.EVT_SRC_STAT_ACC 0 k).rd R.EVT_SRC_STAT_OWED k = 0) :
    l.deliverEvent ph k t =
      let l1 := (l.wr R.EVT_SRC_STAT_PEND 0 k).wr R.EVT_SRC_STAT_ACC 0 k
      ((({ l1 with first := NMap.del l.first k, lastDelivery := some t } : Lane).bump R.EVT_UNSERVED_CNT_COUNT).wr
          R.EVT_FLAGS_UNSERVED 1).bump R.EVT_DELIVER_CNT_COUNT := by
  have hnone (u : Lane) (hu : u.used = l.used) (hk : u.tkKind = l.tkKind) : u.eventTasks k = [] := by
    rw [Lane.eventTasks, hu, List.filter_eq_nil_iff]
    intro m hm
    simp [hk, htasks m hm]
  unfold Lane.deliverEvent
  dsimp only
  rw [if_pos (show l.rd R.EVT_GRP_CFG_HOLDOFF (evGroup k) = 0 from hhold), hnone, List.foldl_nil]
  · exact congrArg (Lane.bump · R.EVT_DELIVER_CNT_COUNT) (if_pos howed)
  · rfl
  · rfl

end Sys2Proof.Machine

open Sys2Proof Sys2Proof.Machine

/-- Settles O34, each clause by what the lanes' event controllers do. -/
theorem eventsRaiseAndComplete : Obligations.EventsRaiseAndComplete := by
  intro s k t hl hk n every
  have hevery : every = s.every t := rfl
  clear_value every
  subst hevery
  have raised (g : Lane → Lane) (h : (n.onLanes fun l => l.evRaise k t) = n.onLanes g) :
      s.leaves (.eventRaise k t) t (n.onLanes g) ∧ s.leaves (.evtRaise k t) t (n.onLanes g) := by
    have hraise : (if k < 512 then n.raise k t else n) = n.onLanes g := (if_pos hk).trans ((s.raise_now k t hl).trans h)
    exact ⟨s.leaves_run _ t _ _ hl rfl hraise, s.leaves_run _ t _ _ hl rfl hraise⟩
  have done (g : Lane → Lane) (h : (n.onLanes fun l => l.evDone k) = n.onLanes g) : s.leaves (.evtDone k t) t (n.onLanes g) :=
    s.leaves_run _ t _ _ hl rfl ((if_pos hk).trans h)
  have delivered (u : State) (h : n.eventAt t = u) : s.leaves (.eventDelivery t) t u := s.leaves_run _ t _ _ hl rfl h
  refine ⟨fun h => raised _ (h.onLanes _ _ (fun _ _ h => h) fun l ⟨hen, hp, hacc⟩ => l.evRaise_pending k t hen hp hacc),
    fun h => raised _ (h.onLanes _ _ (fun _ _ h => h) fun l ⟨hen, hp, hacc, _⟩ => l.evRaise_first k t hen hp hacc),
    fun h => raised _ (h.onLanes _ _ (fun _ _ h => h) fun l hen => l.evRaise_disabled k t hen),
    fun hsel h => delivered _ ?_, fun hsel => delivered _ ?_,
    fun e hk32 he h => s.leaves_run _ t _ _ hl rfl ((if_pos hk32).trans
      (h.onLanes _ _ (fun _ _ h => h) fun l h => l.holdEnd_due k e t h he)),
    fun h => done _ (h.onLanes _ _ (fun _ _ h => h) fun l h => if_pos h),
    fun h => done _ (h.onLanes _ _ (fun _ _ h => h) fun l h => if_neg h)⟩
  · rw [State.eventAt, State.phase_now, hsel]
    exact h.onLanes _ _ (fun _ _ h => h) fun l ⟨hhold, htasks, howed⟩ => l.deliverEvent_unserved _ k t hhold htasks howed
  · rw [State.eventAt, State.phase_now, hsel]
end

end

section
section
/-! Proofs: releases, cancels and the ends of activations (spec/06_tasks_and_scan.md). -/

namespace Sys2Proof.Machine

/-! ### Releases and cancels (R155 to R159) -/

/-- A release of an enabled task of a program in RUN that no cancel of the same stamp precedes goes by whether the task is pending. -/
theorem Lane.releaseBy_admitted (l : Lane) (ph : Phase) (k t : Nat) (hrun : ph.run = true) (hsafe : ph.safe = false)
    (hstartup : ph.startup = false) (hsimplex : ph.simplex = false) (hused : l.used.contains k = true) (hkind : l.tkKind k ≠ kStartup)
    (hkind' : l.tkKind k ≠ kFault) (hen : l.enabled k = true) (hcancel : (l.task k).cancelAt ≠ some t) :
    l.releaseBy ph k t = if l.isPending k then (l.overrun k t, false)
      else ((l.wr R.TSK_STAT_STATE tsReady k).setTask k { l.task k with stamp := t, evrec := [] }, true) := by
  have hadmit : l.releaseBy ph k t = l.admitRelease k t := by
    have hmem : k ∈ l.used := by simpa using hused
    simp [Lane.releaseBy, Lane.releaseOwn, Lane.unpairable, hmem, hkind, hkind', hrun, hsafe, hen, hstartup, hsimplex]
  rw [hadmit, Lane.admitRelease, if_neg (by simpa using hcancel)]

theorem Lane.releaseBy_bad (l : Lane) (ph : Phase) (k t : Nat)
    (h : l.used.contains k = false ∨ l.tkKind k = kStartup ∨ l.tkKind k = kFault) :
    (l.releaseBy ph k t).1 = l.wr R.TSK_FLAGS_BAD_RELEASE 1 := by
  have hbad : (!l.used.contains k || l.tkKind k == kStartup || l.tkKind k == kFault) = true := by
    obtain h | h | h := h
    · rw [h]
      rfl
    · simp [h]
    · simp [h]
  rw [Lane.releaseBy, if_pos hbad]

theorem Lane.overrun_first (l : Lane) (k t : Nat) (h : (l.task k).overAt = none) :
    l.overrun k t = ((l.setTask k { l.task k with
      overAt := some (t, l.rd R.TSK_STAT_OVERRUN k, l.rd R.TSK_OVERRUN_CNT_COUNT k) }).wr R.TSK_STAT_OVERRUN 1 k).bump
        R.TSK_OVERRUN_CNT_COUNT k := by
  simp only [Lane.overrun, h]

theorem Lane.unreserveTask_rf (l : Lane) (k : Nat) : (l.unreserveTask k).rf = l.rf := by
  have hone (l : Lane) (e : Nat) : (l.unreserve e).rf = l.rf := by
    unfold Lane.unreserve
    split
    · rfl
    · exact ite_same Lane.rf rfl rfl
  exact foldl_same Lane.rf _ (fun l e => ite_same Lane.rf (hone l e) rfl) (List.range 4) l

/-- What a cancel notes of its task (R159). -/
def Lane.markCancel (m : Lane) (k t : Nat) : Lane := m.setTask k { m.task k with cancelAt := some t, overAt := none }

/-- A cancel of a waiting release of another stamp ends it. -/
theorem Lane.cancelAtStamp_waiting (l : Lane) (k t : Nat) (hready : l.tskState k = tsReady) (hstamp : (l.task k).stamp ≠ t)
    (hkind : l.tkKind k ≠ kFault) (hover : (l.task k).overAt = none) :
    l.cancelAtStamp k t = (((l.unreserveTask k).dropRecord k).taskEnded k leCancel).markCancel k t := by
  have hstate : (l.unreserveTask k).tskState k = tsReady := (congrArg (fun r => r.rd R.TSK_STAT_STATE k) (l.unreserveTask_rf k)).trans hready
  have hcancel : l.cancelTask k leCancel t = ((l.unreserveTask k).dropRecord k).taskEnded k leCancel := by
    simp [Lane.cancelTask, hstate]
  simp [Lane.cancelAtStamp, hkind, hover, hready, hstamp, hcancel, Lane.markCancel]

/-- A cancel of a waiting release of its own stamp discards it and counts the race. -/
theorem Lane.cancelAtStamp_race (l : Lane) (k t : Nat) (hready : l.tskState k = tsReady) (hstamp : (l.task k).stamp = t)
    (hkind : l.tkKind k ≠ kFault) (hover : (l.task k).overAt = none) :
    l.cancelAtStamp k t = ((((l.complete k).unreserveTask k).wr R.TSK_STAT_STATE (l.restState k) k).bump
      R.TSK_CANCEL_RACE_CNT_COUNT).markCancel k t := by
  simp [Lane.cancelAtStamp, hkind, hover, hready, hstamp, Lane.markCancel]

/-! ### The end of an activation (R158, R166) -/

/-- The end of an activation writes its task's registers and its task alone. -/
theorem Lane.taskEnded_keeps {α : Type} (p : Lane → α) (hwr : ∀ l f v i j, p (Lane.wr l f v i j) = p l)
    (htask : ∀ l n k, p (Lane.setTask l n k) = p l) (l : Lane) (n code : Nat) : p (l.taskEnded n code) = p l := by
  have hcomplete (l : Lane) : p (l.complete n) = p l := ite_same p ((hwr _ _ _ _ _).trans (htask _ _ _)) rfl
  unfold Lane.taskEnded
  dsimp only
  split <;> rw [hwr, htask, hcomplete, hwr, hwr, hwr]

/-- A field of a task's status that is not 0 is kept by a write of another field of that status. -/
theorem Lane.rd_wr_kept (l : Lane) (f g : Fld) (v i : Nat) (ha : f.addr i 0 = g.addr i 0) (hf : f.lo + f.width ≤ 32)
    (hg : g.lo + g.width ≤ 32) (h : f.lo + f.width ≤ g.lo ∨ g.lo + g.width ≤ f.lo) (hr : l.rd f i ≠ 0) :
    (l.wr g v i).rd f i = l.rd f i :=
  State.rd_wr_disjoint_of_ne_zero { rf := l.rf } f g v i 0 ha hf hg h hr

theorem Lane.taskEnded_lastEnd (l : Lane) (n code : Nat) (h1 : 1 ≤ code) (h8 : code < 8) (howed : (l.task n).owed = false) :
    (l.taskEnded n code).rd R.TSK_STAT_LAST_END n = code := by
  have hkept (m : Lane) (g : Fld) (v : Nat) (ha : g.addr n 0 = R.TSK_STAT_LAST_END.addr n 0) (hg : g.lo + g.width ≤ 5)
      (hm : m.rd R.TSK_STAT_LAST_END n = code) : (m.wr g v n).rd R.TSK_STAT_LAST_END n = code :=
    (m.rd_wr_kept R.TSK_STAT_LAST_END g v n ha.symm (by decide) (by omega) (.inr hg) (by omega)).trans hm
  have hcode : (l.wr R.TSK_STAT_LAST_END code n).rd R.TSK_STAT_LAST_END n = code :=
    (State.rd_wr_of_ne_zero { rf := l.rf } R.TSK_STAT_LAST_END code n 0 (by decide)
      (by rw [show code % 2 ^ R.TSK_STAT_LAST_END.width = code from Nat.mod_eq_of_lt h8]; omega)).trans (Nat.mod_eq_of_lt h8)
  have hdeferred := hkept _ R.TSK_STAT_DEFERRED_HEAT 0 rfl (by decide) (hkept _ R.TSK_STAT_DEFERRED_ENERGY 0 rfl (by decide) hcode)
  have hcomplete : (((l.wr R.TSK_STAT_LAST_END code n).wr R.TSK_STAT_DEFERRED_ENERGY 0 n).wr R.TSK_STAT_DEFERRED_HEAT 0 n).complete n =
      ((l.wr R.TSK_STAT_LAST_END code n).wr R.TSK_STAT_DEFERRED_ENERGY 0 n).wr R.TSK_STAT_DEFERRED_HEAT 0 n :=
    if_neg (by rw [show (((l.wr _ _ _).wr _ _ _).wr _ _ _).task n = l.task n from rfl, howed]; exact Bool.false_ne_true)
  unfold Lane.taskEnded
  dsimp only
  rw [hcomplete]
  split
  · exact hkept _ R.TSK_STAT_STATE _ rfl (by decide) hdeferred
  · exact hkept _ R.TSK_STAT_STATE _ rfl (by decide) hdeferred

/-- An activation without a pair that has retired its budget is stopped (R166). -/
theorem Lane.budgetCancel_due (l : Lane) (ph : Phase) (e t : Nat) (hrun : (l.engine e).st = .run) (hfresh : (l.engine e).fresh = false)
    (hpair : (l.engine e).pair = none) (hpos : 0 < l.tkBudget (l.engine e).task)
    (hdue : l.tkBudget (l.engine e).task ≤ (l.engine e).act.retired) :
    l.budgetCancel ph e t = (l.stopActivation e t crCancel leBudget).afterFault ph (l.engine e).task t 0 true := by
  simp only [Lane.budgetCancel, l.takeInputs_taken e hfresh, hrun, hpos, hdue, Lane.mirrorPair, hpair]
  rfl

end Sys2Proof.Machine

open Sys2Proof Sys2Proof.Machine

/-- Settles O32. -/
theorem releasesAndEnds : Obligations.ReleasesAndEnds := by
  refine ⟨fun s k t hl hk => ?commands, fun s e t hl => ?budget, fun l e t reason code h1 h8 howed => ?ends⟩
  case commands =>
    intro n every usable marked
    have hevery : every = s.every t := rfl
    clear_value every
    subst hevery
    have released (g : Lane → Lane) (h : (n.onLanes fun l => (l.releaseBy s.phase k t).1) = n.onLanes g) :
        s.leaves (.tskRelease k t) t (n.onLanes g) :=
      s.leaves_run _ t _ _ hl rfl ((if_pos hk).trans (by rw [State.tskRelease, State.phase_now]; exact h))
    have cancelled (g : Lane → Lane) (h : (n.onLanes fun l => l.cancelAtStamp k t) = n.onLanes g) :
        s.leaves (.tskCancel k t) t (n.onLanes g) := s.leaves_run _ t _ _ hl rfl ((if_pos hk).trans h)
    refine ⟨fun hmode hstartup hsafe hsimplex => ?_, fun h => released _ (h.onLanes _ _ (fun _ _ h => h) fun l h => l.releaseBy_bad _ k t h),
      fun h => cancelled _ (h.onLanes _ _ (fun _ _ h => h) fun l ⟨hready, hstamp, hkind, hover⟩ =>
        l.cancelAtStamp_waiting k t hready hstamp hkind hover),
      fun h => cancelled _ (h.onLanes _ _ (fun _ _ h => h) fun l ⟨hready, hstamp, hkind, hover⟩ =>
        l.cancelAtStamp_race k t hready hstamp hkind hover)⟩
    have admitted (l : Lane) (h : usable l) := l.releaseBy_admitted s.phase k t (by simp [State.phase, hmode]) hsafe hstartup hsimplex
      h.1 h.2.1 h.2.2.1 h.2.2.2.1 h.2.2.2.2
    refine ⟨fun h => released _ (h.onLanes _ _ (fun _ _ h => h) fun l ⟨hu, hp⟩ => ?_),
      fun h => released _ (h.onLanes _ _ (fun _ _ h => h) fun l ⟨hu, hp, hover⟩ => ?_)⟩
    · rw [admitted l hu, if_neg (by simp [hp])]
    · rw [admitted l hu, if_pos hp, l.overrun_first k t hover]
  case budget =>
    intro n h
    refine s.leaves_run _ t _ _ hl rfl ?_
    have h : s.every t fun l => (l.engine e).st = .run ∧ (l.engine e).fresh = false ∧ (l.engine e).pair = none ∧
      0 < l.tkBudget (l.engine e).task ∧ l.tkBudget (l.engine e).task ≤ (l.engine e).act.retired := h
    rw [State.phase_now]
    exact h.onLanes _ _ (fun _ _ h => h) fun l ⟨hrun, hfresh, hpair, hpos, hdue⟩ => l.budgetCancel_due _ e t hrun hfresh hpair hpos hdue
  case ends =>
    intro g ended
    have hended (m : Lane) (hmem : m.mem = l.mem) (hused : m.used = l.used) (htasks : m.tasks = l.tasks) : ended (m.taskEnded g.task code) :=
      ⟨m.taskEnded_lastEnd _ code h1 h8 (by rwa [Lane.task, htasks]),
        (m.taskEnded_keeps Lane.mem (fun _ _ _ _ _ => rfl) (fun _ _ _ => rfl) _ _).trans hmem,
        (m.taskEnded_keeps Lane.used (fun _ _ _ _ _ => rfl) (fun _ _ _ => rfl) _ _).trans hused⟩
    have hengine (m : Lane) : (m.taskEnded g.task code).engine e = m.engine e :=
      m.taskEnded_keeps (fun m => m.engine e) (fun _ _ _ _ _ => rfl) (fun _ _ _ => rfl) _ _
    have hclosed : ((l.closeWindow e reason).engine e).icnt = g.icnt ∧ ((l.closeWindow e reason).engine e).task = g.task ∧
        ((l.closeWindow e reason).engine e).r = g.r := by
      simp [Lane.closeWindow, g]
    obtain ⟨hicnt, htask, hr⟩ := hclosed
    refine ⟨⟨hended _ rfl rfl rfl, (hengine _).trans ?_⟩, hended _ rfl rfl rfl, ?_⟩
    · rw [Lane.freeEngine, Lane.engine_setEngine_self, hicnt]
    · have htrap : (l.stopActivation e t reason code).engine e = ((l.closeWindow e reason).trapEngine e t).engine e := hengine _
      rw [htrap, Lane.trapEngine, Lane.engine_setEngine_self]
      exact ⟨rfl, rfl, hicnt, htask, hr⟩
end

end

section
section
/-! Proofs: program modes, tick 0, the base tick and the dispatcher (spec/06_tasks_and_scan.md). -/

namespace Sys2Proof.Machine

theorem State.leaves_runHost (s : State) (c : Instr) (t : Nat) (f : State → State) (u : State) (hl : s.live = true)
    (hc : exec c s = .next (s.runHost t f)) (hu : f (s.now t) = u) : s.leaves c t u :=
  hc.trans (congrArg Host.Outcome.next ((State.runHost_live s t f hl).trans (by rw [hu])))

@[simp] theorem State.phase_onLanes (s : State) (g : Lane → Lane) : (s.onLanes g).phase = s.phase := by
  simp [State.phase, State.startup, State.mode, State.vstate, State.isSafe]

@[simp] theorem State.pwState_now (s : State) (t : Nat) : (s.now t).pwState = s.pwState := s.rd_now t _ 0 0
@[simp] theorem State.pwState_onLanes (s : State) (g : Lane → Lane) : (s.onLanes g).pwState = s.pwState := s.rd_onLanes g _ 0 0
@[simp] theorem State.startup_now (s : State) (t : Nat) : (s.now t).startup = s.startup := by simp [State.startup]

/-! ### Modes (R175, R176) -/

theorem State.modeReq_enters (s : State) (m : Nat) (hm : s.mode ≠ mdRestarting) (hne : s.mode ≠ m) (hsafe : s.isSafe = false) :
    s.modeReq m = (((if s.mode = mdMaint then (if s.mode = mdRun then s.leaveRun else s).leaveMaint
      else if s.mode = mdRun then s.leaveRun else s).wr R.SYS_MODE_STAT_MODE m).allOut) := by
  rw [State.modeReq, if_neg hm, State.enterMode, if_neg (by simp [hne, hsafe])]

theorem State.modeReq_same (s : State) (hm : s.mode ≠ mdRestarting) : s.modeReq s.mode = s := by
  rw [State.modeReq, if_neg hm, State.enterMode, if_pos (.inl rfl)]

/-- A boot's marks in UP_STATE (R501). -/
theorem State.bootMarks_show (s : State) :
    let u := (((((s.wr R.UP_STATE_LOCK 1).wr R.UP_STATE_STATE usBooting).wr R.UP_STATE_MAINT_CAUSE 0).wr R.UP_STATE_NEXT_MAINT 0).wr
      R.UP_BOOT_ID_ID 0 0).wr R.UP_BOOT_ID_ID 0 1
    u.rd R.UP_STATE_LOCK = 1 ∧ u.rd R.UP_STATE_STATE = usBooting := by
  intro u
  have hlock : (s.wr R.UP_STATE_LOCK 1).rd R.UP_STATE_LOCK = 1 := State.rd_wr_of_ne_zero s R.UP_STATE_LOCK 1 0 0 (by decide) (by decide)
  have hlock' : ((s.wr R.UP_STATE_LOCK 1).wr R.UP_STATE_STATE usBooting).rd R.UP_STATE_LOCK = 1 :=
    (State.rd_wr_beside_disjoint _ R.UP_STATE_STATE R.UP_STATE_LOCK R.UP_STATE_LOCK usBooting 0 0 rfl rfl (by decide) (by decide)
      (by decide) (by decide) (by decide) (by rw [hlock]; decide)).trans hlock
  have hstate : ((s.wr R.UP_STATE_LOCK 1).wr R.UP_STATE_STATE usBooting).rd R.UP_STATE_STATE = usBooting :=
    State.rd_wr_beside _ R.UP_STATE_STATE R.UP_STATE_LOCK usBooting 0 0 rfl (by decide) (by decide) (by decide) (by rw [hlock]; decide)
  have hkept (v : State) (f g : Fld) (hf : f.addr = 0x190000) (hg : g.addr = 0x190000) (hfhi : f.lo + f.width ≤ 4)
      (hgw : 8 ≤ g.lo ∧ g.lo + g.width ≤ 32) (hv : v.rd R.UP_STATE_LOCK ≠ 0) : (v.wr g 0).rd f = v.rd f :=
    State.rd_wr_beside_disjoint v g R.UP_STATE_LOCK f 0 0 0 hg.symm (hf.trans hg.symm) (by omega) (by decide) (by omega)
      (.inl (Nat.le_trans (by decide) hgw.1)) (.inl (by omega)) hv
  have hid (f : Fld) (hf : f.addr = 0x190000) (v : State) : ((v.wr R.UP_BOOT_ID_ID 0 0).wr R.UP_BOOT_ID_ID 0 1).rd f = v.rd f :=
    State.rd_of_regAt f 0 0 ((State.regAt_wr _ _ _ _ _ _ (by rw [hf]; decide)).trans (State.regAt_wr _ _ _ _ _ _ (by rw [hf]; decide)))
  have hcause (f : Fld) (hf : f.addr = 0x190000) (hhi : f.lo + f.width ≤ 4) := hkept _ f R.UP_STATE_MAINT_CAUSE hf rfl hhi (by decide)
    (show ((s.wr R.UP_STATE_LOCK 1).wr R.UP_STATE_STATE usBooting).rd R.UP_STATE_LOCK ≠ 0 by rw [hlock']; decide)
  have hnext (f : Fld) (hf : f.addr = 0x190000) (hhi : f.lo + f.width ≤ 4) := hkept _ f R.UP_STATE_NEXT_MAINT hf rfl hhi (by decide)
    (show (((s.wr R.UP_STATE_LOCK 1).wr R.UP_STATE_STATE usBooting).wr R.UP_STATE_MAINT_CAUSE 0).rd R.UP_STATE_LOCK ≠ 0 by
      rw [hcause _ rfl (by decide), hlock']; decide)
  have hall (f : Fld) (hf : f.addr = 0x190000) (hhi : f.lo + f.width ≤ 4) :
      u.rd f = ((s.wr R.UP_STATE_LOCK 1).wr R.UP_STATE_STATE usBooting).rd f :=
    (hid f hf _).trans ((hnext f hf hhi).trans (hcause f hf hhi))
  exact ⟨(hall _ rfl (by decide)).trans hlock', (hall _ rfl (by decide)).trans hstate⟩

/-- What a module shows whose boot begins (R176, R501). -/
theorem State.upBootStart_shows (s : State) (por warm : Bool) :
    (s.upBootStart por warm).rd R.UP_STATE_LOCK = 1 ∧ (s.upBootStart por warm).rd R.UP_STATE_STATE = usBooting ∧
      (s.upBootStart por warm).up.warm = warm ∧ (s.upBootStart por warm).up.por = por := by
  obtain ⟨hlock, hstate⟩ := State.bootMarks_show (State.setUp _ _)
  refine ⟨hlock, hstate, ?_, ?_⟩
  · cases por <;> rfl
  · cases por <;> rfl

/-- Late replies and late results are counted in registers alone. -/
theorem State.countLates_keeps {α : Type} (p : State → α) (h : ∀ s f i j n, p (State.bump s f i j n) = p s) (s : State) (n : Nat)
    (bs : List Block) : p ((s.countLate n).countLateResults bs) = p s :=
  (foldl_same p _ (fun _ _ => h _ _ _ _ _) bs _).trans (ite_same p rfl (h _ _ _ _ _))

theorem State.regAt_countLates (s : State) (n : Nat) (bs : List Block) (a : Nat) (h : ∀ b, a ≠ (R.BLK_LATE_REPLY_CNT_COUNT.at b).addr) :
    ((s.countLate n).countLateResults bs).regAt a = s.regAt a :=
  (foldl_same (fun s : State => s.regAt a) _ (fun _ b => State.regAt_bump _ _ _ _ _ _ (h b)) bs _).trans
    (ite_same (fun s : State => s.regAt a) rfl (State.regAt_bump _ _ _ _ _ _ (h .hp)))

theorem State.lgClear_keeps {α : Type} (p : State → α) (hlg : ∀ s g, p { s with lg := g } = p s)
    (hlanes : ∀ s g, p (State.onLanes s g) = p s) (s : State) (t : Nat) : p (s.lgClear t) = p s := by
  unfold State.lgClear State.cmpAllIdle
  simp only [hlg, hlanes]

/-- A restart of a program: its boot begins, and its sessions and what the voter holds are gone (R176). -/
theorem State.restart_boots (s : State) (warm : Bool) (t : Nat) (h : s.rd R.UP_STATE_STATE ≠ usRecovery) :
    let u := s.restart warm t
    u.rd R.UP_STATE_LOCK = 1 ∧ u.rd R.UP_STATE_STATE = usBooting ∧ u.hp.sessions = [] ∧ u.vt.held = [] ∧ u.up.warm = warm ∧
      u.up.por = false := by
  obtain ⟨v, n, bs, heq, hhp, hvt⟩ : ∃ (v : State) (n : Nat) (bs : List Block),
      s.restart warm t = (((v.lgClear t).upBootStart false warm).countLate n).countLateResults bs ∧ v.hp.sessions = [] ∧ v.vt.held = [] := by
    rw [State.restart, if_neg h]
    exact ⟨_, _, _, rfl, rfl, rfl⟩
  obtain ⟨hlock, hstate, hwarm, hpor⟩ := (v.lgClear t).upBootStart_shows false warm
  have hreg (f : Fld) (hf : f.addr = 0x190000) (w : State) : ((w.countLate n).countLateResults bs).rd f = w.rd f :=
    State.rd_of_regAt f 0 0 (State.regAt_countLates _ _ _ _ fun b => by rw [hf]; cases b <;> decide)
  have hkept {α : Type} (p : State → α) (hp : ∀ s f i j n, p (State.bump s f i j n) = p s) := State.countLates_keeps p hp
    ((v.lgClear t).upBootStart false warm) n bs
  rw [heq]
  refine ⟨(hreg _ rfl _).trans hlock, (hreg _ rfl _).trans hstate, ?_, ?_, ?_, ?_⟩
  · rw [hkept State.hp fun _ _ _ _ _ => rfl]
    exact (congrArg HostState.sessions (v.lgClear_keeps State.hp (fun _ _ => rfl) (fun s g => s.onLanes_hp g) t)).trans hhp
  · rw [hkept State.vt fun _ _ _ _ _ => rfl]
    exact (congrArg Voter.held (v.lgClear_keeps State.vt (fun _ _ => rfl) (fun s g => s.onLanes_vt g) t)).trans hvt
  · rw [hkept State.up fun _ _ _ _ _ => rfl, hwarm]
  · rw [hkept State.up fun _ _ _ _ _ => rfl, hpor]

/-! ### The dispatcher (R160, R161) -/

theorem Lane.unreserve_free (l : Lane) (e : Nat) (hnext : (l.engine e).next = none) (hpair : (l.engine e).nextPair = none) :
    l.unreserve e = l := by
  simp [Lane.unreserve, hnext, hpair]

theorem Lane.give_idle (l : Lane) (e n t : Nat) (hidle : (l.engine e).st = .idle) (hnext : (l.engine e).next = none)
    (hpair : (l.engine e).nextPair = none) (hctx : (l.task n).ctx = none) : l.give e n t = l.startActivation e n t := by
  simp only [Lane.give, l.unreserve_free e hnext hpair, hidle, Lane.place, hctx]

theorem Lane.choose_one (l : Lane) (ph : Phase) (t n e : Nat) (hprio : l.tkPriority n ≤ 7 ∨ l.admitted n = true)
    (hsimplex : ph.simplex = false) (hchoose : l.chooseEngine n (l.engineSet t n) = some e) : l.choose ph t n = some (.one n e) := by
  have hadmit : (decide (7 < l.tkPriority n) && !l.admitted n) = false := by
    obtain h | h := hprio
    · rw [decide_eq_false (Nat.not_lt.mpr h), Bool.false_and]
    · rw [h, Bool.not_true, Bool.and_false]
  simp [Lane.choose, Bool.and_assoc, hadmit, hchoose, hsimplex]

end Sys2Proof.Machine

open Sys2Proof Sys2Proof.Machine

/-- Settles O33. -/
theorem modesAndTicks : Obligations.ModesAndTicks := by
  refine ⟨fun s t hl => ?modes, ⟨fun s t hl => ?clock, fun l ph n k t hused => ?cyclic, fun l ph n e t hcand hready hprio hsimplex hchoose
    hidle hnext hpair hctx => ?dispatch⟩⟩
  case modes =>
    intro n
    have stop (u : State) (h : n.modeReq mdStop = u) : s.leaves (.modeReqStop t) t u := s.leaves_runHost _ t _ _ hl rfl h
    have maint (u : State) (h : n.modeReq mdMaint = u) : s.leaves (.modeReqMaint t) t u := s.leaves_runHost _ t _ _ hl rfl h
    have hn : n.mode = s.mode := s.mode_now t
    have hsafe_n : n.isSafe = s.isSafe := s.isSafe_now t
    refine ⟨fun hm hsafe => ⟨stop _ ?_, maint _ ?_⟩, fun hm hsafe => ⟨maint _ ?_, stop _ ?_⟩, fun hm hsafe => stop _ ?_,
      fun hm hrec hhold => ?_, fun hm hsafe hrec => ?_⟩
    · rw [n.modeReq_enters mdStop (by rw [hn, hm]; decide) (by rw [hn, hm]; decide) (by rw [hsafe_n, hsafe]), hn, hm]
      rfl
    · rw [n.modeReq_enters mdMaint (by rw [hn, hm]; decide) (by rw [hn, hm]; decide) (by rw [hsafe_n, hsafe]), hn, hm]
      rfl
    · rw [n.modeReq_enters mdMaint (by rw [hn, hm]; decide) (by rw [hn, hm]; decide) (by rw [hsafe_n, hsafe]), hn, hm]
      rfl
    · rw [← hm, ← hn]
      exact n.modeReq_same (by rw [hn, hm]; decide)
    · rw [n.modeReq_enters mdStop (by rw [hn, hm]; decide) (by rw [hn, hm]; decide) (by rw [hsafe_n, hsafe]), hn, hm]
      rfl
    · intro boots
      have hboots (warm : Bool) : boots warm (n.restartReq warm t) := by
        rw [State.restartReq, if_pos (by simp [State.restartOk, n, hm, hhold])]
        exact n.restart_boots warm t (by rwa [State.rd_now])
      exact ⟨⟨_, s.leaves_runHost _ t _ _ hl rfl rfl, hboots true⟩, ⟨_, s.leaves_runHost _ t _ _ hl rfl rfl, hboots false⟩⟩
    · have hmode (m : Nat) : n.modeReq m = n.clampCnt .sys := if_pos (hn.trans hm)
      have hrestart (warm : Bool) : n.restartReq warm t = n.clampCnt .sys := if_neg (by simp [State.restartOk, n, hm, hsafe, hrec])
      exact ⟨stop _ (hmode _), maint _ (hmode _), s.leaves_runHost _ t _ _ hl rfl (hrestart true),
        s.leaves_runHost _ t _ _ hl rfl (hrestart false)⟩
  case clock =>
    intro n
    refine ⟨fun u hm hstart hready hserve hsafe hend hmod hlt hle => s.leaves_run _ t _ _ hl rfl ?_,
      fun hent htsk hevt => s.leaves_run _ t _ _ hl rfl ?_, fun v p l => ?_⟩
    · have hdue : nextBoundary u t = true := by simp [nextBoundary, hmod, hlt, hle]
      simp [State.tickZero, hm, hstart, hready, hserve, hsafe, hend, hdue, n]
    · have htsk' : n.setApply .tsk t = n := if_neg (by simp [htsk])
      have hevt' : n.setApply .evt t = n := if_neg (by simp [hevt])
      rw [State.dispatchAt, htsk', hevt', State.pwState_now, if_neg hent, State.phase_now]
    · intro c hfrozen
      have tick (u : State) (h : n.baseTick v p l t = u) : s.leaves (.baseTick v p l t) t u := s.leaves_run _ t _ _ hl rfl h
      refine ⟨fun h0 => tick _ (by simp [State.baseTick, c, hfrozen, h0]), fun t0 h0 => ?_⟩
      intro k u
      have htick : n.baseTick v p l t = (if u.pwState = psEntering then u else u.onLanes fun l => l.cyclicTick u.phase k t).beats k := by
        rw [State.baseTick]
        show (if c.pw.frozen then c else match c.nw.tick0 with | none => _ | some t0 => _) = _
        rw [if_neg (by rw [hfrozen]; decide), h0]
      have hpw : u.pwState = c.pwState := c.pwState_onLanes _
      have hphase : u.phase = c.phase := c.phase_onLanes _
      rw [hpw, hphase] at htick
      exact ⟨fun hent => tick _ (htick.trans (by rw [if_neg hent])), fun hent => tick _ (htick.trans (by rw [if_pos hent]))⟩
  case cyclic =>
    simp [Lane.cyclicTick, hused]
  case dispatch =>
    have hchosen := l.choose_one ph t n e hprio hsimplex hchoose
    refine ⟨?_, ?_⟩
    · simp [Lane.choices, hcand, hready, hchosen]
    · simp [Lane.decide_, Lane.carry, l.give_idle e n t hidle hnext hpair hctx]
end

end

section
section
/-! Proofs: the voter (spec/09_lanes_and_voting.md). -/

namespace Sys2Proof.Machine

@[simp] theorem State.votingLanes_now (s : State) (t : Nat) : (s.now t).votingLanes = s.votingLanes := by simp [State.votingLanes]
@[simp] theorem State.owes_now (s : State) (t x : Nat) (i : Item) : (s.now t).owes x i = s.owes x i := by simp [State.owes]
@[simp] theorem State.isLate_now (s : State) (t y : Nat) (i : Item) : (s.now t).isLate y i = s.isLate y i := by simp [State.isLate]

/-- The three lane states in which the voter compares exclude each other. -/
theorem State.laneState_of_duplex (s : State) (h : s.isDuplex = true) : s.isTriplex = false ∧ s.isSimplex = false := by
  simp only [State.isDuplex, decide_eq_true_eq] at h
  simp only [State.isTriplex, State.isSimplex, vsTriplex, vsSimplex, beq_eq_false_iff_ne]
  omega

theorem State.laneState_of_triplex (s : State) (h : s.isTriplex = true) : s.isSimplex = false := by
  simp_all [State.isTriplex, State.isSimplex, vsTriplex, vsSimplex]

theorem State.laneState_of_simplex (s : State) (h : s.isSimplex = true) : s.isTriplex = false ∧ s.isDuplex = false := by
  simp_all [State.isTriplex, State.isSimplex, State.isDuplex, vsTriplex, vsSimplex]

/-- Three lanes that present one item: the point is done with and the item taken (R242). -/
theorem State.judgeTriplex_agreed (s : State) (i a b c : Item) (t : Nat) (hv : s.votingLanes = [0, 1, 2])
    (hlate : ∀ y < 3, s.isLate y i = false) (ha : s.shown 0 i = some a) (hb : s.shown 1 i = some b) (hc : s.shown 2 i = some c)
    (haa : a.agrees a = true) (hab : a.agrees b = true) (hac : a.agrees c = true) :
    s.judgeTriplex i t = (s.doneWith i).take a t := by
  have h0 := hlate 0 (by decide)
  have h1 := hlate 1 (by decide)
  have h2 := hlate 2 (by decide)
  simp [State.judgeTriplex, hv, h0, h1, h2, ha, hb, hc, haa, hab, hac]

/-- Two lanes that both present an item at a point: it is taken where they agree, and the module goes to SAFE where not (R242). -/
theorem State.judgeDuplex_both (s : State) (i a b : Item) (t : Nat) (hlate : ∀ y < 3, s.isLate y i = false)
    (h : (s.votingLanes.map fun y => s.shown y i) = [some a, some b]) :
    s.judgeDuplex i t = if a.agrees b then (s.doneWith i).take a t else (s.lastDis i 0 t).enterSafe scDuplexDis t := by
  have hnone : (s.votingLanes.any fun y => s.isLate y i) = false := by
    rw [List.any_eq_false]
    intro y hy
    have hy3 : y ∈ [0, 1, 2] := (List.mem_filter.mp hy).1
    rw [hlate y (by simp at hy3; omega)]
    decide
  simp only [State.judgeDuplex, hnone, h]
  rfl

/-- The voter's next item of a lane that votes and does not owe it. -/
theorem State.voterItem_judged (s : State) (x t : Nat) (i : Item) (r : List Item) (hi : (s.lane x).items = i :: r) (hv : s.votes x = true)
    (ho : s.owes x i = none) : s.voterItem x t = s.judge x i t := by
  simp [State.voterItem, hi, hv, ho]

theorem State.take_close (s : State) (i : Item) (t : Nat) (hk : i.kind = 1)
    (hno : ∀ r ∈ s.vt.held, r.task = i.task → r.win = i.win → r.recKind ≠ rkCommit) :
    s.take i t = (s.vt.held.filter fun r => r.task == i.task && r.win == i.win).foldl (fun s r => s.releaseEffect r t)
      ((s.setVt { s.vt with held := s.vt.held.filter fun r => !(r.task == i.task && r.win == i.win) }).bump R.VT_WIN_CNT) := by
  have hempty : (commitWords (s.vt.held.filter fun r => r.task == i.task && r.win == i.win)).isEmpty = true := by
    rw [commitWords, List.filter_eq_nil_iff.mpr]
    · rfl
    · intro r hr
      simp only [List.mem_filter, Bool.and_eq_true, beq_iff_eq] at hr
      simpa using hno r hr.1 hr.2.1 hr.2.2
  rw [State.take, if_neg (by simp [hk]), if_pos hk]
  exact if_pos hempty

theorem State.oddLane_triplex (s : State) (x : Nat) (i : Item) (cause t : Nat) (h : s.isTriplex = true) :
    s.oddLane x i cause t = (s.lastDis i (laneMask (s.votingLanes.filter (· != x))) t).exclude x cause t := if_pos h

theorem State.oddLane_duplex (s : State) (x : Nat) (i : Item) (cause t : Nat) (h : s.isDuplex = true) :
    s.oddLane x i cause t = (s.lastDis i 0 t).enterSafe scDuplexDis t :=
  (if_neg (by rw [(s.laneState_of_duplex h).1]; decide)).trans (if_pos h)

end Sys2Proof.Machine

open Sys2Proof Sys2Proof.Machine

/-- Settles O29. -/
theorem voterJudgesItems : Obligations.VoterJudgesItems := by
  refine ⟨fun s x t hl => ?item, fun s i t => ?take, fun s x t hl => ?late⟩
  case item =>
    intro n
    have voted (u : State) (h : n.voterItem x t = u) : s.leaves (.voterItem x t) t u := by
      refine s.leaves_run _ t _ _ hl rfl ?_
      rw [State.now_pw, (s.pw_of_live hl).2.1]
      exact h
    refine ⟨fun h => voted _ (by rw [State.voterItem, h]), fun i r hi => ⟨fun hv => voted _ ?_, fun hv ho htri hvl hlate a b c ha hb hc haa hab hac =>
      voted _ ?_, fun hv ho hdup hlate a b hshown => ⟨fun hab => voted _ ?_, fun hab => voted _ ?_⟩, fun hv ho hsx hk hprio => voted _ ?_⟩⟩
    all_goals have hv' : n.votes x = s.votes x := s.votes_now t x
    · rw [State.voterItem, hi]
      exact if_pos (by simp [hv', hv])
    all_goals rw [n.voterItem_judged x t i r hi (hv'.trans hv) ((s.owes_now t x i).trans ho), State.judge, State.isTriplex_now]
    · rw [if_pos htri]
      exact n.judgeTriplex_agreed i a b c t ((s.votingLanes_now t).trans hvl) (fun y hy => (s.isLate_now t y i).trans (hlate y hy))
        ha hb hc haa hab hac
    · rw [(s.laneState_of_duplex hdup).1, State.isDuplex_now, hdup]
      have hjudge := n.judgeDuplex_both i a b t (fun y hy => (s.isLate_now t y i).trans (hlate y hy)) (by rw [State.votingLanes_now, hshown])
      exact hjudge.trans (if_pos hab)
    · rw [(s.laneState_of_duplex hdup).1, State.isDuplex_now, hdup]
      have hjudge := n.judgeDuplex_both i a b t (fun y hy => (s.isLate_now t y i).trans (hlate y hy)) (by rw [State.votingLanes_now, hshown])
      exact hjudge.trans (if_neg (by rw [hab]; decide))
    · rw [(s.laneState_of_simplex hsx).1, State.isDuplex_now, (s.laneState_of_simplex hsx).2, State.isSimplex_now, hsx]
      refine (if_neg hk).trans (if_pos ?_)
      simp [State.pairedItem, hprio]
  case take =>
    refine ⟨fun hk => if_pos hk, fun hk hno => s.take_close i t hk hno, fun r hk hfind => ?_⟩
    intro win
    rw [State.take, if_neg (by simp [hk]), if_neg (by simp [hk]), if_pos hk, hfind]
    rfl
  case late =>
    intro n
    have late (u : State) (h : n.itemLate x t = u) : s.leaves (.itemLate x t) t u := by
      refine s.leaves_run _ t _ _ hl rfl ?_
      rw [State.now_pw, (s.pw_of_live hl).2.1]
      exact h
    have hn : n.votes x = s.votes x := s.votes_now t x
    refine ⟨fun hv => late _ (if_pos (by simp [hn, hv])), fun p hv hp => ?_⟩
    intro u
    have hodd (hsx : s.isSimplex = false) : n.itemLate x t = u.oddLane x p.2 lcLate t := by
      rw [State.itemLate, if_neg (by simp [hn, hv]), State.isSimplex_now, hsx, State.now_vt, hp]
      rfl
    have hrd (f : Fld) (hf : f.addr = 0x80000) : u.rd f = s.rd f :=
      (State.rd_of_regAt f 0 0 (State.regAt_bump _ _ _ _ _ _ (by rw [hf]; decide))).trans (s.rd_now t f 0 0)
    have hvl : u.votingLanes = s.votingLanes := by
      simp only [State.votingLanes, State.votes, hrd R.VT_STATE_VOTING rfl]
    refine ⟨fun htri => late _ ?_, fun hdup => late _ ?_⟩
    · rw [hodd (s.laneState_of_triplex htri), u.oddLane_triplex x p.2 lcLate t (by rw [State.isTriplex, State.vstate, hrd _ rfl]; exact htri), hvl]
    · rw [hodd (s.laneState_of_duplex hdup).2, u.oddLane_duplex x p.2 lcLate t (by rw [State.isDuplex, State.vstate, hrd _ rfl]; exact hdup)]
end

end

section
section
/-! Proofs: lanes outside the vote, the rejoin copy, memory errors (spec/09_lanes_and_voting.md). -/

namespace Sys2Proof.Machine

@[simp] theorem State.laneRole_now (s : State) (t x : Nat) : (s.now t).laneRole x = s.laneRole x := s.rd_now t _ x 0
@[simp] theorem State.testOf_now (s : State) (t x : Nat) : (s.now t).testOf x = s.testOf x := by simp [State.testOf]
@[simp] theorem State.exclInWin_now (s : State) (t x u : Nat) : (s.now t).exclInWin x u = s.exclInWin x u := by simp [State.exclInWin]
@[simp] theorem State.exclInCycle_now (s : State) (t u : Nat) : (s.now t).exclInCycle u = s.exclInCycle u := by simp [State.exclInCycle]
@[simp] theorem State.graceOver_now (s : State) (t u : Nat) : (s.now t).graceOver u = s.graceOver u := by simp [State.graceOver]
@[simp] theorem State.copySources_now (s : State) (t x : Nat) : (s.now t).copySources x = s.copySources x := by
  simp [State.copySources]

theorem State.rd_laneRow_state (s : State) (f : Fld) (v x : Nat) (g : Fld) (hg : g.addr = 0x80000)
    (hf : f.addr x 0 = R.VT_LANE_STAT_ROLE.addr x 0) : (s.wr f v x).rd g = s.rd g :=
  State.rd_of_regAt g 0 0 (State.regAt_wr _ _ _ _ _ _ (by rw [hf, hg]; simp only [Fld.addr, R.VT_LANE_STAT_ROLE]; omega))

/-! ### Self-test (R254, R255) -/

/-- The result of a self-test as the voter notes it (R255). -/
def State.tested (s : State) (x k : Nat) : State :=
  s.setVt { s.vt with test := NMap.put s.vt.test x k, testing := s.vt.testing.filter (· != x) }

theorem State.laneOut_vstate (s : State) (x c : Nat) : (s.laneOut x c).vstate = s.vstate :=
  (State.rd_laneRow_state _ R.VT_LANE_STAT_CAUSE c x R.VT_STATE_STATE rfl rfl).trans
    (State.rd_laneRow_state s R.VT_LANE_STAT_ROLE lrOut x R.VT_STATE_STATE rfl rfl)

theorem State.isSafe_of_selftest (s : State) (h : s.vstate = vsSelftest) : s.isSafe = false := by simp [State.isSafe, h, vsSelftest, vsSafe]

/-- In the start-up a self-test's result is taken; with a lane left that may yet pass the module goes on (R251, R255). -/
theorem State.selftestDone_startup (s : State) (x t : Nat) (pass : Bool) (hx : x < 3) (ht : s.vt.testing.contains x = true)
    (hv : s.vstate = vsSelftest) (hleft : pass = true ∨ ∃ y < 3, y ≠ x ∧ s.testOf y ≠ 2) :
    s.selftestDone x pass t = if pass then s.tested x 1 else (s.tested x 2).laneOut x lcSelftest := by
  have hend : s.selftestEnd x pass t = if pass then s.tested x 1 else (s.tested x 2).laneOut x lcSelftest := by
    obtain ⟨y, hy, hleft⟩ : ∃ y < 3, (NMap.get (NMap.put s.vt.test x (if pass then 1 else 2)) 0 y) ≠ 2 := by
      obtain rfl | ⟨y, hy, hne, hleft⟩ := hleft
      · exact ⟨x, hx, by rw [NMap.get_put_self]; decide⟩
      · exact ⟨y, hy, by rw [NMap.get_put_ne _ _ _ _ _ hne]; exact hleft⟩
    have hnotall (u : State) (hu : u.vt.test = NMap.put s.vt.test x (if pass then 1 else 2)) :
        ([0, 1, 2].all fun y => u.testOf y == 2) = false := by
      rw [List.all_eq_false]
      exact ⟨y, by simp; omega, by simpa [State.testOf, hu] using hleft⟩
    rw [State.selftestEnd, if_neg (by rw [ht]; decide)]
    refine (if_pos hv).trans ?_
    cases pass
    · exact if_neg (by rw [hnotall _ rfl]; decide)
    · exact if_neg (by rw [hnotall _ rfl]; decide)
  have hsafe : (s.selftestEnd x pass t).isSafe = false := by
    rw [hend]
    refine State.isSafe_of_selftest _ ?_
    cases pass
    · exact (State.laneOut_vstate _ _ _).trans hv
    · exact hv
  rw [State.selftestDone, if_neg (by rw [hsafe]; simp), hend]

/-- Later a failing lane is out, as is one whose exclusions reach their limit; any other rejoins (R255). -/
theorem State.selftestDone_later (s : State) (x t : Nat) (pass : Bool) (ht : s.vt.testing.contains x = true) (hv : s.vstate ≠ vsSelftest) :
    s.selftestDone x pass t = if !pass then (s.tested x 2).laneOut x lcSelftest
      else if s.rd R.VT_CFG_REJOIN_MAX ≤ s.exclInWin x t then (s.tested x 1).laneOut x lcRejoinLimit else s.tested x 1 := by
  rw [State.selftestDone, if_neg fun h => hv h.1, State.selftestEnd, if_neg (by rw [ht]; decide)]
  refine (if_neg hv).trans ?_
  cases pass <;> rfl

/-! ### The switch (R258) -/

theorem foldl_same_mem {σ α β : Type} (p : σ → β) (f : σ → α → σ) (xs : List α) (h : ∀ s, ∀ a ∈ xs, p (f s a) = p s) (s : σ) :
    p (xs.foldl f s) = p s := by
  induction xs generalizing s with
  | nil => rfl
  | cons a xs ih => exact (ih (fun s b hb => h s b (List.mem_cons_of_mem _ hb)) _).trans (h s a List.mem_cons_self)

/-- The memory of a lane that no copy writes; what else the lanes do leaves it. -/
def State.memApart (x : Nat) (s : State) : Option (List Host.Cell) :=
  if s.vt.copies.all fun c => decide (c.1 < 3) && c.1 != x then some (s.lane x).mem else none

theorem State.memApart_onLanes (s : State) (x : Nat) (hx : x < 3) (g : Lane → Lane) (hg : ∀ l, (g l).mem = l.mem) :
    State.memApart x (s.onLanes g) = State.memApart x s := by
  unfold State.memApart
  rw [State.onLanes_vt]
  cases h : s.vt.copies.all fun c => decide (c.1 < 3) && c.1 != x
  · rfl
  · have hcopy : ∀ c ∈ s.vt.copies, c.1 < 3 ∧ c.1 ≠ x := by simpa using h
    have hmem : ((s.onLanes g).lane x).mem = (s.lane x).mem := by
      unfold State.onLanes State.mirror
      rw [foldl_same_mem (fun s : State => (s.lane x).mem), foldl_same (fun s : State => (s.lane x).mem), State.watchCopies,
        foldl_same (fun s : State => (s.lane x).mem)]
      · exact fun s c => State.lane_setLane_same Lane.mem _ _ _ _ rfl
      · exact fun s y => State.lane_setLane_same Lane.mem _ _ _ _ (hg _)
      · intro u c hc
        have hvt : (s.servingLanes.foldl (fun s x => s.setLane x (g (s.lane x))) s.watchCopies).vt = s.vt := by
          rw [foldl_same State.vt _ (fun _ _ => State.setLane_vt _ _ _), State.watchCopies, foldl_same State.vt _ fun _ _ => State.setLane_vt _ _ _]
        rw [hvt] at hc
        dsimp only
        refine Eq.trans (State.lane_setLane_same Lane.mem _ _ _ _ ?_) ?_
        · rfl
        exact congrArg Lane.mem (State.lane_setLane_ne _ _ _ _ (hcopy c hc).1 hx (hcopy c hc).2)
    rw [hmem]

theorem Lane.evRaise_mem (l : Lane) (n t : Nat) : (l.evRaise n t).mem = l.mem := by
  unfold Lane.evRaise
  split
  · rfl
  · dsimp only
    split <;> split <;> rfl

theorem State.outsideRecorder_memApart (x : Nat) (hx : x < 3) : State.OutsideRecorder (State.memApart x) where
  er _ _ := rfl
  staging s rs := s.memApart_onLanes x hx (fun l => { l with staging := rs }) fun _ => rfl
  raise s n t := ite_same (State.memApart x) rfl (s.memApart_onLanes x hx _ fun l => l.evRaise_mem n t)
  wr _ _ _ _ := rfl

theorem State.sweepEnd_equal (s : State) (x t : Nat) (c : Copy) (hc : NMap.look s.vt.copies x = some c) (hswept : c.swept = false)
    (heq : ∀ q, c.second = some q → (s.lane q).mem = (s.lane c.primary).mem) :
    s.sweepEnd x t =
      let u := (s.setVt { s.vt with copies := NMap.put s.vt.copies x { c with swept := true } }).setLane x
        { s.lane x with mem := (s.lane c.primary).mem, ecc1 := [], ecc2 := [] }
      if x = 0 then u.wr R.VT_LANE_STAT_JOIN_WAIT 1 x else u := by
  obtain ⟨p, second, swept, start⟩ := c
  obtain rfl : swept = false := hswept
  rw [State.sweepEnd, hc]
  cases second with
  | none => rfl
  | some q => exact (if_neg Bool.false_ne_true).trans (if_pos (beq_iff_eq.mpr (heq q rfl)))

theorem State.sweepEnd_mismatch (s : State) (x t : Nat) (c : Copy) (q : Nat) (hc : NMap.look s.vt.copies x = some c)
    (hswept : c.swept = false) (hq : c.second = some q) (hne : (s.lane q).mem ≠ (s.lane c.primary).mem) :
    s.sweepEnd x t =
      let u := (s.copyEnd x).wr R.VT_FLAGS_SRC_MISMATCH 1
      if u.isDuplex then u.enterSafe scSrcMismatch t else u := by
  obtain ⟨p, second, swept, start⟩ := c
  obtain rfl : swept = false := hswept
  obtain rfl : second = some q := hq
  rw [State.sweepEnd, hc]
  exact (if_neg Bool.false_ne_true).trans (if_neg (by simpa using hne))

/-! ### Memory errors and the scrubber (R88, R248) -/

theorem State.scrubFound_eq (s : State) (x : LaneId) (a t : Nat) (h : (s.lane x).ecc2.contains a = true) :
    s.scrubFound x a t =
      let u := s.setLane x ((s.lane x).wr R.LE_ECC_FLAGS_UNCORR 1)
      if !s.votes x then u else if s.isTriplex then u.exclude x lcScrub t
      else if s.isDuplex then
        if s.exclInCycle t then u.enterSafe scThreeWay t
        else match s.votingLanes.find? (· != x.val) with
          | some y => u.setVt { s.vt with repairs := s.vt.repairs ++ [{ lane := x, addr := a, value := (s.lane y).word a }] }
          | none => u
      else u := by
  have hrd (f : Fld) (l : Lane) : (s.setLane x l).rd f = s.rd f := congrArg (fun r : RegFile => r.rd f) (s.setLane_rf x l)
  have hvotes (l : Lane) (y : Nat) : (s.setLane x l).votes y = s.votes y := by simp only [State.votes, hrd]
  have hvl (l : Lane) : (s.setLane x l).votingLanes = s.votingLanes := by simp only [State.votingLanes, hvotes]
  rw [State.scrubFound, if_neg (by rw [h]; decide)]
  simp only [hvotes, hvl, State.isTriplex, State.isDuplex, State.vstate, hrd, State.exclInCycle, State.setLane_vt]
  cases hfind : s.votingLanes.find? (· != x.val) with
  | none => rfl
  | some y =>
    have hy : y < 3 ∧ x.val ≠ y := by
      have hmem := List.mem_of_find?_eq_some hfind
      have hne := List.find?_some hfind
      have : y ∈ [0, 1, 2] := (List.mem_filter.mp hmem).1
      simp only [bne_iff_ne, ne_eq] at hne
      simp at this
      omega
    have hlane (l : Lane) : (s.setLane x l).lane y = s.lane y := State.lane_setLane_ne s x y l x.isLt hy.1 hy.2
    simp only [hlane] <;> rfl

theorem State.scrubRepair_due (s : State) (x : LaneId) (a : Nat) (r : Repair)
    (hr : (s.vt.repairs.find? fun r => r.lane == x.val && r.addr == a) = some r) (h : (s.lane x).ecc2.contains a = true)
    (hv : s.votes x = true) :
    s.scrubRepair x a = (((s.setVt { s.vt with repairs := s.vt.repairs.erase r }).setLane x ((s.lane x).setWord a r.value)).bump
      R.VT_REPAIR_CNT).wr R.VT_FLAGS_SCRUB_REPAIR 1 := by
  simp only [State.scrubRepair, hr]
  exact if_neg (by rw [show ((s.setVt { s.vt with repairs := s.vt.repairs.erase r }).lane x).ecc2.contains a = true from h,
    show (s.setVt { s.vt with repairs := s.vt.repairs.erase r }).votes x = true from hv]; decide)

/-- What the Chase's following of the lane state leaves, a record leaves. -/
theorem State.OutsideRecorder.scLaneState {α : Type} {p : State → α} (h : State.OutsideRecorder p) (hsc : ∀ s c, p { s with sc := c } = p s)
    (hwr : ∀ s f v, p (State.wr s f v) = p s) (s : State) (t : Nat) : p (s.scLaneState t) = p s := by
  have henter (u : State) (st : Nat) : p (u.scEnter st t) = p u := by
    unfold State.scEnter State.flagIf
    dsimp only
    split
    · rfl
    · refine (h.record _ _ _ _ _).trans ((hwr _ _ _).trans ?_)
      split <;> split <;> split <;> simp only [hwr, hsc]
  exact (hwr _ _ _).trans (ite_same p (henter _ _) (ite_same p (henter _ _) rfl))

/-- The lane that switches in votes: its memory is the primary's, its role and the voting lanes show (R258). -/
theorem State.switchOne_shows (s : State) (x : LaneId) (t : Nat) (c : Copy) (hc : NMap.look s.vt.copies x = some c)
    (hvoting : s.rd R.VT_STATE_VOTING ||| 2 ^ x.val = 7) (hk : ∀ k ∈ s.vt.copies, k.1 < 3) :
    let u := s.switchOne x t
    State.memApart x u = some (s.lane c.primary).mem ∧ u.vt.copies = NMap.del s.vt.copies x ∧
      u.rd R.VT_STATE_VOTING = 7 ∧ u.laneRole x = lrVoting ∧ u.rd R.VT_FLAGS_REJOIN_DONE = 1 := by
  intro u
  generalize hs2 : (s.setLane x ((s.lane c.primary).transfer (s.lane x))).setVt
    { (s.setLane x ((s.lane c.primary).transfer (s.lane x))).vt with copies := NMap.del s.vt.copies x } = s2
  have hrd (f : Fld) : s2.rd f = s.rd f := by
    rw [← hs2, State.rd, State.rd]
    exact congrArg (fun r : RegFile => r.rd f) (s.setLane_rf _ _)
  generalize hs3 : ((s2.wr R.VT_LANE_STAT_ROLE lrVoting x).wr R.VT_LANE_STAT_JOIN_WAIT 0 x).setVoting 7 = s3
  have hu : u = ((s3.wr R.VT_FLAGS_REJOIN_DONE 1).bump R.VT_REJOIN_CNT).record .vt 0x0302 [byte x] t := by
    rw [← hs3, ← hvoting, ← hrd R.VT_STATE_VOTING, ← hs2]
    simp only [u, State.switchOne, hc, State.setLane_vt]
  obtain ⟨hstate, hflags, hcnt, hlow⟩ := State.laneRow_addr x x.isLt
  have hcnt' : R.VT_LANE_STAT_ROLE.addr x 0 ≠ 0x80038 := by
    have := x.isLt
    simp only [Fld.addr, R.VT_LANE_STAT_ROLE]
    omega
  have hreg (a : Nat) (ha : a < 0x170000) (hf : a ≠ 0x80030) (hc : a ≠ 0x80038) : u.regAt a = s3.regAt a := by
    rw [hu, State.regAt_record _ _ _ _ _ _ ha]
    exact (State.regAt_bump _ _ _ _ _ _ hc).trans (State.regAt_wr _ _ _ _ _ _ hf)
  refine ⟨?_, ?_, ?_, ?_, ?_⟩
  · rw [hu, (State.outsideRecorder_memApart x x.isLt).record, ← hs3, ← hs2]
    have hdel : ((NMap.del s.vt.copies x).all fun c => decide (c.1 < 3) && c.1 != x.val) = true := by
      simp only [NMap.del, List.all_filter, List.all_eq_true]
      intro k hkm
      simp [hk k hkm]
    refine (if_pos hdel).trans ?_
    have hlane : ((s.setLane x ((s.lane c.primary).transfer (s.lane x))).lane x).mem = (s.lane c.primary).mem :=
      (congrArg Lane.mem (State.lane_setLane_self s x _ x.isLt)).trans rfl
    exact congrArg some hlane
  · rw [hu, State.record_vt, ← hs3, ← hs2]
    rfl
  · rw [State.rd_of_regAt R.VT_STATE_VOTING 0 0 (hreg _ (by decide) (by decide) (by decide)), ← hs3, State.setVoting_shows _ 7 (by decide)]
  · have hrole : (s2.wr R.VT_LANE_STAT_ROLE lrVoting x).rd R.VT_LANE_STAT_ROLE x = lrVoting :=
      State.rd_wr_of_ne_zero s2 R.VT_LANE_STAT_ROLE lrVoting x 0 (by decide) (by decide)
    rw [State.laneRole, State.rd_of_regAt R.VT_LANE_STAT_ROLE x 0 (hreg _ (by omega) hflags hcnt'), ← hs3]
    refine (State.rd_of_regAt R.VT_LANE_STAT_ROLE x 0 (State.regAt_setVoting _ 7 _ hstate)).trans ?_
    rw [State.rd_wr_beside_disjoint _ R.VT_LANE_STAT_JOIN_WAIT R.VT_LANE_STAT_ROLE R.VT_LANE_STAT_ROLE 0 x 0 rfl rfl (by decide)
      (by decide) (by decide) (by decide) (by decide) (by rw [hrole]; decide), hrole]
  · rw [hu, State.rd_of_regAt R.VT_FLAGS_REJOIN_DONE 0 0 ((State.regAt_record _ _ _ _ _ _ (by decide)).trans
      (State.regAt_bump _ _ _ _ _ _ (by decide)))]
    exact State.rd_wr_of_ne_zero s3 R.VT_FLAGS_REJOIN_DONE 1 0 0 (by decide) (by decide)

/-- The switch of a DUPLEX module's one copy (R251 row 5, R258). -/
theorem State.rejoinSwitch_duplex (s : State) (x : LaneId) (t : Nat) (c : Copy) (hc : NMap.look s.vt.copies x = some c)
    (hmay : s.maySwitch x = true) (hdup : s.isDuplex = true) (hgrace : s.graceOver t = false)
    (hvoting : s.rd R.VT_STATE_VOTING ||| 2 ^ x.val = 7) (hk : ∀ k ∈ s.vt.copies, k.1 < 3) :
    let u := s.rejoinSwitch x t
    (u.lane x).mem = (s.lane c.primary).mem ∧ u.vt.copies = NMap.del s.vt.copies x ∧ u.vstate = vsTriplex ∧
      u.rd R.VT_STATE_VOTING = 7 ∧ u.laneRole x = lrVoting ∧ u.rd R.VT_FLAGS_REJOIN_DONE = 1 := by
  intro u
  have hsx : s.isSimplex = false := (s.laneState_of_duplex hdup).2
  obtain ⟨hmem, hcopies, hseven, hrole, hdone⟩ := s.switchOne_shows x t c hc hvoting hk
  have hu : u = (s.switchOne x t).vtEnter vsTriplex t := by
    have hone : ([0, 1, 2].filter fun y => y == x.val || (s.isSimplex && s.maySwitch y)) = [x.val] := by
      have := x.isLt
      rw [hsx]
      obtain h | h | h : x.val = 0 ∨ x.val = 1 ∨ x.val = 2 := by omega
      all_goals rw [h] <;> rfl
    have hm : u = (s.switchOne x t).vtEnter (if (s.switchOne x t).rd R.VT_STATE_VOTING = 7 then vsTriplex else
        if (s.switchOne x t).rd R.VT_STATE_VOTING = 6 then vsDuplex 0 else
        if (s.switchOne x t).rd R.VT_STATE_VOTING = 5 then vsDuplex 1 else vsDuplex 2) t := by
      show s.rejoinSwitch x t = _
      rw [State.rejoinSwitch, if_neg (by rw [hmay]; decide), if_neg (by rw [hgrace]; decide),
        if_neg (by rw [State.simplexOver, hsx]; exact Bool.false_ne_true)]
      dsimp only
      rw [hone]
      rfl
    rw [hm, if_pos hseven]
  obtain ⟨hstate, hflags, hcnt, hlow⟩ := State.laneRow_addr x x.isLt
  obtain ⟨htri, hkept⟩ := (s.switchOne x t).vtEnter_shows vsTriplex t (by decide) (by rw [hseven]; decide)
  have hapart : State.memApart x u = some (s.lane c.primary).mem := by
    rw [hu]
    refine ((State.outsideRecorder_memApart x x.isLt).scLaneState (fun _ _ => rfl) (fun _ _ _ => rfl) _ t).trans ?_
    exact hmem
  refine ⟨?_, ?_, by rw [hu]; exact htri, by rw [hu, hkept, hseven], ?_, ?_⟩
  · unfold State.memApart at hapart
    split at hapart
    · exact Option.some.inj hapart
    · cases hapart
  · rw [hu, State.vtEnter, State.scLaneState_vt]
    exact hcopies
  · rw [hu, State.laneRole, State.rd_of_regAt R.VT_LANE_STAT_ROLE x 0 (State.regAt_vtEnter _ _ _ _ hlow hstate)]
    exact hrole
  · rw [hu, State.rd_of_regAt R.VT_FLAGS_REJOIN_DONE 0 0 (State.regAt_vtEnter _ _ _ _ (by decide) (by decide))]
    exact hdone

end Sys2Proof.Machine

open Sys2Proof Sys2Proof.Machine

/-- Settles O31. -/
theorem lanesRejoinAndAreRepaired : Obligations.LanesRejoinAndAreRepaired := by
  have awake (s : State) (c : Instr) (t : Nat) (f : State → State) (u : State) (hl : s.live = true) (hsleep : s.pwState ≠ psSleep)
      (hc : exec c s = .next (s.runAwake t f)) (hu : f (s.now t) = u) : s.leaves c t u :=
    s.leaves_run c t _ u hl hc ((if_neg (by rwa [State.pwState_now])).trans hu)
  refine ⟨fun s x t hl hsleep => ?outside, fun s x a t hl hsleep => ?errors⟩
  case outside =>
    intro n
    refine ⟨fun hrole htest htesting => awake s _ t _ _ hl hsleep rfl ?reset, fun htesting hsafe => ?selftest,
      fun p q hrole htest hvotes hstate hent hsrc => awake s _ t _ _ hl hsleep rfl ?copy, fun c hc hswept => ⟨fun heq => ?sweep, fun q hq hne hdup => ?mismatch⟩,
      fun c hc hmay hdup hgrace hvotes hvoting hk => ⟨_, awake s _ t _ _ hl hsleep rfl rfl, ?switch⟩⟩
    case reset =>
      refine (if_pos ⟨by rwa [State.laneRole_now], by rwa [State.testOf_now], by rwa [State.now_vt]⟩).trans ?_
      rw [State.now_vt]
    case selftest =>
      have htesting' : n.vt.testing.contains x.val = true := by rwa [State.now_vt]
      have hvt : n.vt = s.vt := s.now_vt t
      intro v out
      have hv (k : Nat) : n.tested x k = v k := by simp only [State.tested, hvt, v]
      have hlater (hne : s.vstate ≠ vsSelftest) (pass : Bool) := n.selftestDone_later x t pass htesting' (by rwa [State.vstate_now])
      simp only [State.exclInWin_now, n, State.rd_now] at hlater
      refine ⟨fun hst => awake s _ t _ _ hl hsleep rfl ?_, fun hst hleft => awake s _ t _ _ hl hsleep rfl ?_, fun hne => awake s _ t _ _ hl hsleep rfl ?_,
        fun hne hlim => awake s _ t _ _ hl hsleep rfl ?_, fun hne hlim => awake s _ t _ _ hl hsleep rfl ?_⟩
      · exact (n.selftestDone_startup x t true x.isLt htesting' (by rwa [State.vstate_now]) (.inl rfl)).trans (hv 1)
      · refine (n.selftestDone_startup x t false x.isLt htesting' (by rwa [State.vstate_now]) (.inr ?_)).trans ?_
        · simpa only [n, State.testOf_now] using hleft
        · rw [hv 2, if_neg Bool.false_ne_true]
          rfl
      · exact (hlater hne false).trans (congrArg (State.laneOut · x lcSelftest) (hv 2))
      · exact (hlater hne true).trans ((if_neg (Nat.not_le.mpr hlim)).trans (hv 1))
      · exact (hlater hne true).trans ((if_pos hlim).trans (congrArg (State.laneOut · x lcRejoinLimit) (hv 1)))
    case copy =>
      have hrole' : (s.laneRole x == lrSelftest || s.laneRole x == lrExcluded) = true := by simpa using hrole
      show n.copyStart x t = _
      simp only [State.copyStart, n, State.copySources_now, hsrc, State.laneRole_now, hrole', State.testOf_now, htest, State.votes_now,
        hvotes, State.isSimplex_now, State.isDuplex_now, hstate, State.pwState_now, State.now_pw, (s.pw_of_live hl).2.1, State.now_vt]
      exact if_pos (by simpa using hent)
    case sweep =>
      intro u
      refine awake s _ t _ _ hl hsleep rfl ((n.sweepEnd_equal x t c (by rwa [State.now_vt]) hswept heq).trans ?_)
      have hlane : (n.setVt { n.vt with copies := NMap.put n.vt.copies x { c with swept := true } }).setLane x
          { n.lane x with mem := (n.lane c.primary).mem, ecc1 := [], ecc2 := [] } = u := by rw [State.now_vt]
      rw [hlane]
      by_cases hx : x.val = 0
      · rw [if_pos hx, if_pos hx, hx]
      · rw [if_neg hx, if_neg hx]
    case mismatch =>
      refine awake s _ t _ _ hl hsleep rfl ((n.sweepEnd_mismatch x t c q (by rwa [State.now_vt]) hswept hq hne).trans (if_pos ?_))
      have hstate : ((n.copyEnd x).wr R.VT_FLAGS_SRC_MISMATCH 1).vstate = s.vstate := by
        refine (State.rd_of_regAt R.VT_STATE_STATE 0 0 (State.regAt_wr _ _ _ _ _ _ (by decide))).trans ?_
        refine (State.rd_laneRow_state _ R.VT_LANE_STAT_JOIN_WAIT 0 x R.VT_STATE_STATE rfl rfl).trans ?_
        exact (State.rd_laneRow_state _ R.VT_LANE_STAT_ROLE _ x R.VT_STATE_STATE rfl rfl).trans (s.vstate_now t)
      rw [State.isDuplex, hstate]
      exact hdup
    case switch =>
      rw [← State.now_vt s t] at hc hk ⊢
      obtain ⟨hmem, hcopies, hstate, hseven, hrole, hdone⟩ := n.rejoinSwitch_duplex x t c hc hmay (by rwa [State.isDuplex_now])
        (by rwa [State.graceOver_now]) (by rwa [State.rd_now]) hk
      exact ⟨hmem, hcopies, hstate, hseven, hrole, hdone⟩
  case errors =>
    intro n l
    have hoff := (s.pw_of_live hl).1
    have hfound (h2 : (n.lane x).ecc2.contains a = true) := n.scrubFound_eq x a t h2
    simp only [n, State.votes_now, State.isTriplex_now, State.isDuplex_now, State.exclInCycle_now, State.votingLanes_now, State.now_vt] at hfound
    refine ⟨fun ha halow h1 h2 => ?_, fun h1 => ?_, fun h2 => ?_, fun r hr h2 hv => ?_⟩
    · have hb : a / 4 * 4 = a := by omega
      have herr (c : Instr) (uncorr : Bool) (hexec : exec c s = .next (if s.pw.off then s else s.setLane x (l.memError a uncorr))) (m : Lane)
          (hm : l.memError a uncorr = m) : exec c s = .next (s.setLane x m) := by rw [hexec, hoff, hm]; rfl
      refine ⟨herr _ false rfl _ ?_, herr _ true rfl _ ?_⟩
      · rw [Lane.memError, hb, if_neg (by omega), if_neg Bool.false_ne_true, if_neg (by rw [h1, h2]; decide)]
      · rw [Lane.memError, hb, if_neg (by omega), if_pos rfl, if_neg (by rw [h2]; decide)]
    · have hexec : exec (.scrubCorrection x a) s = .next (if s.pw.off then s else s.setLane x (l.scrubOne a)) := rfl
      rw [hexec, hoff, Lane.scrubOne, if_pos h1]
      rfl
    · intro u
      refine ⟨fun hv => awake s _ t _ _ hl hsleep rfl ((hfound h2).trans ?_), fun hv htri => awake s _ t _ _ hl hsleep rfl ((hfound h2).trans ?_),
        fun y hv hdup hcyc hfind => awake s _ t _ _ hl hsleep rfl ((hfound h2).trans ?_)⟩
      · simp only [hv]
        rfl
      · simp only [hv, htri]
        rfl
      · simp only [hv, (s.laneState_of_duplex hdup).1, hdup, hcyc, hfind]
        rfl
    · refine awake s _ t _ _ hl hsleep rfl ((n.scrubRepair_due x a r (by rwa [State.now_vt]) h2 (by rwa [State.votes_now])).trans ?_)
      rw [State.now_vt]
end

end

section
section
/-! Proofs: train time, the gauge tick and references (spec/08_line_gauge.md). -/

namespace Sys2Proof.Machine

theorem State.lgMain_now (s : State) (t : Nat) (hl : s.live = true) (hv : s.vstate ≠ vsSelftest) : (s.now t).lgMain = true := by
  obtain ⟨hoff, hfrozen, hrec⟩ := s.pw_of_live hl
  have hrec' : (s.now t).recovering = false := by simpa [State.recovering] using hrec
  simp [State.lgMain, hoff, hfrozen, hrec', hv]

/-- What a command of the main section leaves while it works. -/
theorem State.leaves_lgDo (s : State) (c : Instr) (t : Nat) (f : State → State) (u : State) (hl : s.live = true)
    (hv : s.vstate ≠ vsSelftest) (hc : exec c s = .next (s.run t fun s => s.lgDo f)) (hu : f (s.now t) = u) : s.leaves c t u :=
  s.leaves_run c t _ u hl hc ((if_pos (s.lgMain_now t hl hv)).trans hu)

@[simp] theorem State.raise_lg (s : State) (n t : Nat) : (s.raise n t).lg = s.lg := ite_same State.lg rfl (s.onLanes_lg _)
@[simp] theorem State.ttLocked_now (s : State) (t : Nat) : (s.now t).ttLocked = s.ttLocked := by simp [State.ttLocked]

/-! ### Train time (R201, R202) -/

/-- TT's unlock touches its run of good measurements and registers alone. -/
theorem State.ttUnlock_lg (s : State) (t : Nat) : (s.ttUnlock t).lg = { s.lg with lockRun := 0 } :=
  ite_same State.lg ((State.raise_lg _ _ _).trans rfl) rfl

theorem State.ttUnlock_eq (s : State) (t : Nat) :
    s.ttUnlock t = if s.ttLocked then ((({ s with lg := { s.lg with lockRun := 0 } } : State).wr R.LG_TT_LOCKED 0).wr
      R.LG_FLAGS_TT_LOST 1).raise 373 t else { s with lg := { s.lg with lockRun := 0 } } := rfl

theorem State.rd_lastOfs (s : State) (f : Fld) (v : Nat) (h : f.addr ≠ 0x61008) : (s.wr R.LG_TT_LAST_OFS v).rd f = s.rd f :=
  State.rd_of_regAt f 0 0 (State.regAt_wr _ _ _ _ _ _ h)

/-- A measurement at or beyond STEP_THR steps TT (R201). -/
theorem State.ttMeasure_step (s : State) (o : Int) (t : Nat) (h : s.rd R.LG_TT_STEP_THR * 10000 ≤ o.natAbs) :
    (s.ttMeasure o t).lg = { s.lg with tt := (((s.lg.ttAt t : Int) - o) % 2 ^ 64).toNat, ttLt := t, isum := 0,
                                       ttStep := s.lg.ttStep - o, lastMeas := some t, lockRun := 0 } := by
  simp only [State.ttMeasure, s.rd_lastOfs R.LG_TT_STEP_THR _ (by decide), h, decide_true, if_true, State.ttUnlock_lg]

/-- The rate a measurement steers to (R201). -/
def State.ttRate (s : State) (o : Int) (t : Nat) : Int :=
  match s.lg.lastMeas with
  | none => clampInt (-100000) 100000 (Config.ttFirstRate o)
  | some p => clampInt (-100000) 100000
      (-(o * 1000000000) / (4 * ((t : Int) - p)) - ((s.lg.isum + o) * 1000000000) / (64 * ((t : Int) - p)))

/-- A smaller measurement steers the rate (R201). -/
theorem State.ttMeasure_steer (s : State) (o : Int) (t : Nat) (h : o.natAbs < s.rd R.LG_TT_STEP_THR * 10000) :
    (s.ttMeasure o t).lg.rate = s.ttRate o t ∧ (s.ttMeasure o t).lg.isum = s.lg.isum + o ∧ (s.ttMeasure o t).lg.tt = s.lg.ttAt t := by
  have hstep : decide (s.rd R.LG_TT_STEP_THR * 10000 ≤ o.natAbs) = false := by simpa using h
  have hkept {α : Type} (p : LgState → α) (hp : ∀ g n, p { g with lockRun := n } = p g) (u : State) (b c : Prop) [Decidable b] [Decidable c] :
      p (if b then u.ttUnlock t else if c then (u.wr R.LG_TT_LOCKED 1).raise 372 t else u).lg = p u.lg := by
    split
    · rw [State.ttUnlock_lg, hp]
    · split
      · rw [State.raise_lg]
        rfl
      · rfl
  unfold State.ttMeasure
  simp only [s.rd_lastOfs R.LG_TT_STEP_THR _ (by decide), hstep, Bool.false_eq_true, if_false]
  refine ⟨(hkept LgState.rate (fun _ _ => rfl) _ _ _).trans ?_, (hkept LgState.isum (fun _ _ => rfl) _ _ _).trans rfl,
    (hkept LgState.tt (fun _ _ => rfl) _ _ _).trans rfl⟩
  unfold State.ttRate
  cases s.lg.lastMeas <;> rfl

/-! ### References (R211, R212) -/

/-- What the gauge tick keeps of a module until it delivers: what TT is read from, whether a reference is asked for, and what says
which lanes serve. -/
def State.clock (s : State) : (Nat × Nat × Int × Bool) × Voter × Word :=
  ((s.lg.tt, s.lg.ttLt, s.lg.rate, s.lg.applyReq), s.vt, s.regAt 0x80000)

theorem State.clock_wr (s : State) (f : Fld) (v i j : Nat) (h : 0x80000 ≠ f.addr i j) : (s.wr f v i j).clock = s.clock := by
  rw [State.clock, State.regAt_wr s f v i j _ h]
  rfl

theorem State.clock_bump (s : State) (f : Fld) (i j n : Nat) (h : 0x80000 ≠ f.addr i j) : (s.bump f i j n).clock = s.clock := by
  rw [State.clock, State.regAt_bump s f i j n _ h]
  rfl

theorem State.clock_setLg (s : State) (g : LgState)
    (h : (g.tt, g.ttLt, g.rate, g.applyReq) = (s.lg.tt, s.lg.ttLt, s.lg.rate, s.lg.applyReq)) : ({ s with lg := g } : State).clock = s.clock :=
  congrArg (fun c => (c, s.vt, s.regAt 0x80000)) h

theorem State.clock_onLanes (s : State) (g : Lane → Lane) : (s.onLanes g).clock = s.clock := by
  simp only [State.clock, State.onLanes_lg, State.onLanes_vt, State.regAt_onLanes]

theorem State.clock_raise (s : State) (n t : Nat) : (s.raise n t).clock = s.clock := ite_same State.clock rfl (s.clock_onLanes _)

theorem State.clock_refReject (s : State) (code t : Nat) : (s.refReject code t).clock = s.clock := by
  rw [State.refReject, State.clock_raise, State.clock_wr _ _ _ _ _ (by decide), State.clock_wr _ _ _ _ _ (by decide)]

theorem State.clock_dqRestore (s : State) (t : Nat) : (s.dqRestore t).clock = s.clock :=
  ite_same State.clock rfl (s.clock_wr _ _ _ _ (by decide))

theorem State.clock_calibrate (s : State) (k n e dp eSum t : Nat) : (s.calibrate k n e dp eSum t).clock = s.clock := by
  refine ite_same State.clock rfl ((State.clock_raise _ _ _).trans (ite_same State.clock ?_ (s.clock_wr _ _ _ _ (by decide))))
  exact (State.clock_wr _ _ _ _ _ (by decide)).trans
    (ite_same State.clock (s.clock_wr _ _ _ _ (by decide)) (s.clock_wr _ _ _ _ (by decide)))

theorem State.clock_calReference (s : State) (p : Int) (e t : Nat) : (s.calReference p e t).clock = s.clock := by
  unfold State.calReference
  dsimp only
  split
  · rfl
  · split
    · exact (State.clock_calibrate _ _ _ _ _ _ _).trans (State.clock_calibrate _ _ _ _ _ _ _)
    · rfl

theorem State.clock_refTake (s : State) : s.refTake.clock = s.clock := by
  have htake (r : RegFile) (a : Nat) (w : Word) (h : 0x80000 ≠ a) : Cells.get (Cells.set r.eff a w) 0x80000 = Cells.get r.eff 0x80000 :=
    Cells.get_set_ne _ _ _ _ h
  have hreg : s.refTake.regAt 0x80000 = s.regAt 0x80000 := by
    show Cells.get (Cells.set (Cells.set (Cells.set (Cells.set _ _ _) _ _) _ _) _ _) _ = _
    rw [Cells.get_set_ne _ _ _ _ (by decide), Cells.get_set_ne _ _ _ _ (by decide), Cells.get_set_ne _ _ _ _ (by decide),
      Cells.get_set_ne _ _ _ _ (by decide)]
    rfl
  exact congrArg (fun w => ((s.lg.tt, s.lg.ttLt, s.lg.rate, s.lg.applyReq), s.vt, w)) hreg

/-- The reference that is asked for is no longer asked for once it is applied; no clock is touched by it (R212). -/
theorem State.clock_applyRef (s : State) (t : Nat) :
    (s.applyRef t).clock = ((s.lg.tt, s.lg.ttLt, s.lg.rate, false), s.vt, s.regAt 0x80000) := by
  have hstart : ({ s.refTake with lg := { s.lg with applyReq := false } } : State).clock =
      ((s.lg.tt, s.lg.ttLt, s.lg.rate, false), s.vt, s.regAt 0x80000) :=
    congrArg (fun w => ((s.lg.tt, s.lg.ttLt, s.lg.rate, false), w.2)) s.clock_refTake
  refine Eq.trans ?_ hstart
  generalize hr : ({ s.refTake with lg := { s.lg with applyReq := false } } : State) = r
  rw [State.applyRef, hr]
  dsimp only
  generalize (if r.rd R.LG_REF_TB = 1 then r.lg.ttAt t / 1000 else t / 1000) = nowUs
  generalize (if r.rd R.LG_REF_DIR = 0 then (1 : Int) else -1) = sgn
  split
  · exact r.clock_refReject _ _
  · split
    · exact r.clock_refReject _ _
    · split
      · exact r.clock_refReject _ _
      · split
        · exact r.clock_refReject _ _
        · split
          · exact r.clock_refReject _ _
          · rw [State.clock_dqRestore]
            refine (ite_same State.clock (State.clock_calReference _ _ _ _) rfl).trans ?_
            rw [State.clock_raise, State.clock_bump _ _ _ _ _ (by decide), State.clock_wr _ _ _ _ _ (by decide),
              State.clock_wr _ _ _ _ _ (by decide), State.clock_wr _ _ _ _ _ (by decide), State.clock_wr _ _ _ _ _ (by decide)]
            exact State.clock_setLg _ _ rfl

/-- Once a reference that is asked for is applied, none is asked for. -/
theorem State.clock_applied (r s : State) (t : Nat) (h : r.clock = s.clock) :
    (if r.lg.applyReq then r.applyRef t else r).clock = ((s.lg.tt, s.lg.ttLt, s.lg.rate, false), s.vt, s.regAt 0x80000) := by
  simp only [State.clock, Prod.mk.injEq] at h
  obtain ⟨⟨htt, hlt, hrate, happly⟩, hvt, hreg⟩ := h
  split
  · rw [State.clock_applyRef, htt, hlt, hrate, hvt, hreg]
  · next hr => simp only [State.clock, htt, hlt, hrate, hvt, hreg, Bool.not_eq_true _ ▸ hr]

/-- A reference in train time while TT is not locked (R212). -/
theorem State.applyRef_unlocked (s : State) (t : Nat) :
    let r : State := { s.refTake with lg := { s.lg with applyReq := false } }
    r.rd R.LG_REF_TB = 1 → r.ttLocked = false → s.applyRef t = ((r.wr R.LG_REF_LAST 5).wr R.LG_FLAGS_REF_REJ 1).raise 369 t := by
  intro r htb hlocked
  exact if_pos ⟨htb, by simp [r, hlocked]⟩

/-! ### What an operation of the lanes gives one of them -/

theorem foldl_setLane_lane (g : Lane → Lane) (xs : List Nat) (s : State) (x : Nat) (hn : xs.Nodup) (hl : ∀ y ∈ xs, y < 3) (hx : x ∈ xs) :
    (xs.foldl (fun s y => s.setLane y (g (s.lane y))) s).lane x = g (s.lane x) := by
  induction xs generalizing s with
  | nil => cases hx
  | cons y ys ih =>
    rw [List.foldl_cons]
    obtain ⟨hny, hn'⟩ := List.nodup_cons.mp hn
    have hl' : ∀ z ∈ ys, z < 3 := fun z hz => hl z (List.mem_cons_of_mem _ hz)
    rcases List.mem_cons.mp hx with rfl | hmem
    · have hkeep : ∀ (zs : List Nat) (u : State), x ∉ zs → (∀ z ∈ zs, z < 3) →
          (zs.foldl (fun s y => s.setLane y (g (s.lane y))) u).lane x = u.lane x := fun zs u hnot hlt =>
        foldl_same_mem (fun s : State => s.lane x) _ zs (fun u z hz =>
          State.lane_setLane_ne u z x _ (hlt z hz) (hl x hx) fun h => hnot (h ▸ hz)) u
      rw [hkeep ys _ hny hl', State.lane_setLane_self _ _ _ (hl x hx)]
    · rw [ih _ hn' hl' hmem, State.lane_setLane_ne _ y x _ (hl y List.mem_cons_self) (hl' x hmem) fun h => hny (h ▸ hmem)]

/-- A part of a serving lane that is no memory, no error list and no watch list, after an operation of the lanes. -/
theorem State.onLanes_lane {α : Type} (p : Lane → α) (s : State) (g : Lane → Lane)
    (hmem : ∀ l m e1 e2, p { l with mem := m, ecc1 := e1, ecc2 := e2 } = p l) (hwatch : ∀ l w, p { l with watch := w } = p l)
    (x : Nat) (hx : x ∈ s.servingLanes) : ∃ w, p ((s.onLanes g).lane x) = p (g { s.lane x with watch := w }) := by
  obtain ⟨w, hw⟩ := s.watchCopies_lane x
  refine ⟨w, ?_⟩
  unfold State.onLanes State.mirror
  rw [foldl_same (fun s : State => p (s.lane x))]
  · exact (congrArg p (foldl_setLane_lane g _ s.watchCopies x s.servingLanes_nodup (fun y hy => s.servingLanes_lt y hy) hx)).trans
      (congrArg (fun l => p (g l)) hw)
  · intro s c
    dsimp only
    rw [State.lane_setLane_same p _ _ _ _ (hwatch _ _), State.lane_setLane_same p _ _ _ _ (hmem _ _ _ _)]

/-! ### The gauge tick (R199) -/

theorem Lane.releaseOwn_gauge (l : Lane) (ph : Phase) (n t : Nat) : (l.releaseOwn ph n t).1.gauge = l.gauge := by
  have hadmit : (l.admitRelease n t).1.gauge = l.gauge := by
    unfold Lane.admitRelease
    split
    · rfl
    · split <;> rfl
  unfold Lane.releaseOwn
  split
  · rfl
  · split
    · rfl
    · split
      · rfl
      · exact hadmit

theorem Lane.phaseTasks_gauge (l : Lane) (ph : Phase) (v : TickView) : (l.phaseTasks ph v).gauge = l.gauge := by
  refine foldl_same Lane.gauge _ (fun l n => ?_) l.used l
  split
  · dsimp only
    split
    · exact Lane.releaseOwn_gauge _ _ _ _
    · rfl
  · rfl

theorem State.clock_travelTick (s : State) (t : Nat) : (s.travelTick t).clock = s.clock := by
  rw [State.travelTick]
  refine (State.clock_setLg _ _ rfl).trans (ite_same State.clock ?_ ?_)
  · exact (State.clock_setLg _ _ rfl).trans (s.clock_wr _ _ _ _ (by decide))
  · exact (State.clock_setLg _ _ rfl).trans ((State.clock_wr _ _ _ _ _ (by decide)).trans (State.clock_setLg _ _ rfl))

theorem State.clock_slipOnset (s : State) (t : Nat) : (s.slipOnset t).clock = s.clock := by
  rw [State.slipOnset, State.clock_raise, State.clock_wr _ _ _ _ _ (by decide), State.clock_wr _ _ _ _ _ (by decide)]
  exact State.clock_setLg _ _ rfl

theorem State.clock_posRegs (s : State) (t : Nat) : (s.posRegs t).clock = s.clock := by
  simp only [State.posRegs]
  rw [State.clock_wr _ _ _ _ _ (by decide), State.clock_wr _ _ _ _ _ (by decide), State.clock_wr _ _ _ _ _ (by decide),
    State.clock_wr _ _ _ _ _ (by decide), State.clock_wr _ _ _ _ _ (by decide), State.clock_wr _ _ _ _ _ (by decide)]

theorem State.clock_cmpTick (v : TickView) (s : State) (n : Nat) : (State.cmpTick v s n).clock = s.clock := by
  unfold State.cmpTick
  dsimp only
  split
  · rfl
  · refine ite_same State.clock ((State.clock_raise _ _ _).trans ((State.clock_onLanes _ _).trans ?_)) ?_
    all_goals
      refine (ite_same State.clock (State.clock_onLanes _ _) rfl).trans ?_
      exact (State.clock_onLanes _ _).trans (State.clock_setLg _ _ rfl)

theorem LgState.ttAt_congr (g h : LgState) (t : Nat) (htt : g.tt = h.tt) (hlt : g.ttLt = h.ttLt) (hrate : g.rate = h.rate) :
    g.ttAt t = h.ttAt t := by
  simp only [LgState.ttAt, htt, hlt, hrate]

/-- The gauge tick of a working main section: what it leaves of its own state, and the sample each serving lane has. -/
theorem State.gaugeTick_delivers (s : State) (t : Nat) (h : s.lgMain = true) :
    let u := s.gaugeTick t
    u.lg.applyReq = false ∧ u.lg.lastTick = t ∧ u.lg.ttStep = 0 ∧
      ∀ x ∈ s.servingLanes, (u.lane x).gauge.stamp = t ∧ (u.lane x).gauge.tt = s.lg.ttAt t := by
  obtain ⟨s6, v, phi, ok, hclock, heq⟩ : ∃ (s6 : State) (v : TickView) (phi : Nat) (ok : Bool),
      s6.clock = ((s.lg.tt, s.lg.ttLt, s.lg.rate, false), s.vt, s.regAt 0x80000) ∧
      s.gaugeTick t =
        { (s6.onLanes fun l => (l.putGauge (s6.gaugeSample t)).phaseTasks s6.phase v) with
          lg := { (s6.onLanes fun l => (l.putGauge (s6.gaugeSample t)).phaseTasks s6.phase v).lg with
            prevPhi := phi, prevPresent := ok, ttStep := 0, lastTick := t } } := by
    rw [State.gaugeTick, if_neg (by rw [h]; decide)]
    refine ⟨_, _, _, _, ?_, rfl⟩
    refine (foldl_same State.clock (State.cmpTick _) (fun _ _ => State.clock_cmpTick _ _ _) _ _).trans ?_
    rw [State.clock_wr _ _ _ _ _ (by decide), State.clock_wr _ _ _ _ _ (by decide), State.clock_wr _ _ _ _ _ (by decide),
      State.clock_posRegs]
    refine State.clock_applied _ s t (ite_same State.clock ((State.clock_slipOnset _ _).trans ?_) ?_)
    · exact (State.clock_setLg _ _ rfl).trans (s.clock_travelTick t)
    · exact (State.clock_setLg _ _ rfl).trans (s.clock_travelTick t)
  have hlg : s6.lg.ttAt t = s.lg.ttAt t := LgState.ttAt_congr _ _ t (congrArg (fun c => c.1.1) hclock) (congrArg (fun c => c.1.2.1) hclock)
    (congrArg (fun c => c.1.2.2.1) hclock)
  have hserving : s6.servingLanes = s.servingLanes := by
    have hvt : s6.vt = s.vt := congrArg (fun c => c.2.1) hclock
    have hrd (f : Fld) (hf : f.addr = 0x80000) : s6.rd f = s.rd f :=
      State.rd_of_regAt f 0 0 (by rw [hf]; exact congrArg (fun c => c.2.2) hclock)
    have hserves (x : Nat) : s6.serves x = s.serves x := by
      rw [State.serves, State.serves, State.isSafe, State.isSafe, State.vstate, State.vstate, State.votes, State.votes, hvt,
        hrd R.VT_STATE_STATE rfl, hrd R.VT_STATE_VOTING rfl]
    simp only [State.servingLanes, hserves]
  intro u
  have hu : u = _ := heq
  rw [hu]
  refine ⟨?_, rfl, rfl, fun x hx => ?_⟩
  · exact (congrArg LgState.applyReq (State.onLanes_lg _ _)).trans (congrArg (fun c => c.1.2.2.2) hclock)
  · obtain ⟨w, hw⟩ := State.onLanes_lane Lane.gauge s6 (fun l => (l.putGauge (s6.gaugeSample t)).phaseTasks s6.phase v)
      (fun _ _ _ _ => rfl) (fun _ _ => rfl) x (hserving ▸ hx)
    have hgauge : ((s6.onLanes fun l => (l.putGauge (s6.gaugeSample t)).phaseTasks s6.phase v).lane x).gauge = s6.gaugeSample t :=
      hw.trans (Lane.phaseTasks_gauge _ _ _)
    exact ⟨congrArg GaugeSample.stamp hgauge, (congrArg GaugeSample.tt hgauge).trans hlg⟩

end Sys2Proof.Machine

open Sys2Proof Sys2Proof.Machine

/-- Settles O35. -/
theorem trainTimeAndReferences : Obligations.TrainTimeAndReferences := by
  refine ⟨fun s t hl hv => ?time, fun s t hl => ?tick⟩
  case time =>
    intro n
    have hnw : n.nw = s.nw := s.now_nw t
    have hlg : n.lg = s.lg := s.now_lg t
    refine ⟨fun h => s.leaves_lgDo _ t _ _ hl hv rfl ?_, fun o r h => s.leaves_lgDo _ t _ _ hl hv rfl ?_, fun o h => ?_, fun o p h hp => ?_,
      fun o h hnone => ?_, fun p hp hdue => ?_⟩
    · show n.ptpApply t = n
      rw [State.ptpApply, hnw, h]
    · show n.ptpApply t = _
      rw [State.ptpApply, hnw, h]
    · rw [s.ttMeasure_step o t h]
      exact ⟨Int.toNat_of_nonneg (Int.emod_nonneg _ (by decide)), rfl, rfl, rfl⟩
    · obtain ⟨hrate, hsum, htt⟩ := s.ttMeasure_steer o t h
      exact ⟨by rw [hrate, State.ttRate, hp], hsum, htt⟩
    · rw [(s.ttMeasure_steer o t h).1, State.ttRate, hnone]
    · intro u
      have hunlock : n.ttTimeout t = if s.ttLocked then ((u.wr R.LG_TT_LOCKED 0).wr R.LG_FLAGS_TT_LOST 1).raise 373 t else u := by
        rw [State.ttTimeout, hlg, hp]
        simp only [if_pos hdue, State.ttUnlock_eq, hlg, State.ttLocked_now, n, u]
      refine ⟨fun hlocked => s.leaves_lgDo _ t _ _ hl hv rfl ?_, fun hlocked => s.leaves_lgDo _ t _ _ hl hv rfl ?_⟩
      · show (n.ttTimeout t).ptpFollow t = _
        rw [hunlock, hlocked]
        rfl
      · show (n.ttTimeout t).ptpFollow t = _
        rw [hunlock, hlocked]
        rfl
  case tick =>
    intro n
    have hlg : n.lg = s.lg := s.now_lg t
    refine ⟨s.leaves_run _ t _ _ hl rfl ?_, fun hv => s.leaves_run _ t _ _ hl rfl ?_, fun hv => ⟨_, s.leaves_run _ t _ _ hl rfl rfl, ?_⟩,
      s.applyRef_unlocked t⟩
    · rw [← hlg]
      rfl
    · exact if_pos (by simp [State.lgMain, hv])
    · have hdeliver := n.gaugeTick_delivers t (s.lgMain_now t hl hv)
      rwa [hlg, s.servingLanes_now t] at hdeliver
end

end

section
section
/-! Proofs: wheel sensors, slip and the quality of the distance (spec/08_line_gauge.md). -/

namespace Sys2Proof.Machine

/-! ### What is read of the wheels does not change as time goes on -/

@[simp] theorem State.wsUsed_now (s : State) (t : Nat) : (s.now t).wsUsed = s.wsUsed := s.rd_now t _ 0 0
@[simp] theorem State.wsValid_now (s : State) (t k : Nat) : (s.now t).wsValid k = s.wsValid k := by simp [State.wsValid]
@[simp] theorem State.edgeLen_now (s : State) (t k : Nat) : (s.now t).edgeLen k = s.edgeLen k := by simp [State.edgeLen]
@[simp] theorem State.wsBad_now (s : State) (t k v : Nat) : (s.now t).wsBad k v = s.wsBad k v := by
  simp [State.wsBad, State.wsEnabled, State.wsOpposed]
@[simp] theorem State.wsSpeed_now (s : State) (t k v : Nat) : (s.now t).wsSpeed k v = s.wsSpeed k v := by
  rw [State.wsSpeed, State.wsSpeed, State.now_lg, State.edgeLen_now]
@[simp] theorem State.wsAccel_now (s : State) (t k v : Nat) : (s.now t).wsAccel k v = s.wsAccel k v := by
  simp [State.wsAccel, State.wsVel]
@[simp] theorem State.axisOf_now (s : State) (t : Nat) (x y z : Int) : (s.now t).axisOf x y z = s.axisOf x y z := by
  simp [State.axisOf]
@[simp] theorem State.slipLong_now (s : State) (t v : Nat) : (s.now t).slipLong v = s.slipLong v := by simp [State.slipLong]

/-! ### Wheel edges (R203 to R206) -/

/-- What a pair keeps of its edges. -/
def WsPair.kept (p : WsPair) : List (Nat × Bool) × List Bool × Nat := (p.edges, p.dirs, p.others)

/-- What a wheel edge leaves of the counting, whatever is found of a pair's validity. -/
def LgState.counts (g : LgState) : ((List (Nat × Bool) × List Bool × Nat) × (List (Nat × Bool) × List Bool × Nat)) × Int × Nat × Nat :=
  ((g.pair0.kept, g.pair1.kept), g.travel, g.dist, g.edgeAt)

theorem LgState.pair_of_counts (g h : LgState) (hc : g.counts = h.counts) (k : Nat) : (g.pair k).kept = (h.pair k).kept := by
  simp only [LgState.counts, Prod.mk.injEq] at hc
  obtain ⟨⟨h0, h1⟩, -⟩ := hc
  unfold LgState.pair
  split
  · exact h0
  · exact h1

theorem State.wsSetValid_lg (s : State) (k : Nat) (v : Bool) (t : Nat) : (s.wsSetValid k v t).lg = s.lg :=
  ite_same State.lg rfl ((State.raise_lg _ _ _).trans (ite_same State.lg rfl rfl))

theorem State.wsCheck_counts (s : State) (k t : Nat) : (s.wsCheck k t).lg.counts = s.lg.counts := by
  unfold State.wsCheck
  split
  · rw [State.wsSetValid_lg]
    unfold LgState.setPair LgState.pair
    split <;> rfl
  · rfl

/-- The standstill of a module whose registers are in canonical form, while a pair's validity is looked at. -/
theorem State.wsCheck_standstill (s : State) (k t : Nat) (hwf : Cells.wf s.rf.eff = true) :
    Cells.wf (s.wsCheck k t).rf.eff = true ∧ (s.wsCheck k t).rd R.LG_POS_STANDSTILL = s.rd R.LG_POS_STANDSTILL := by
  have hvalid (u : State) (v : Bool) (hu : Cells.wf u.rf.eff = true) :
      Cells.wf (u.wsSetValid k v t).rf.eff = true ∧ (u.wsSetValid k v t).rd R.LG_POS_STANDSTILL = u.rd R.LG_POS_STANDSTILL := by
    have hraise (w : State) : (w.raise 377 t).rf = w.rf := ite_same State.rf rfl (w.onLanes_rf _)
    have hbit := Cells.wf_wr u.rf.eff R.LG_POS_WS_VALID
    have hkept (x : Nat) : (u.wr R.LG_POS_WS_VALID x).rd R.LG_POS_STANDSTILL = u.rd R.LG_POS_STANDSTILL :=
      Cells.rd_wr_disjoint u.rf.eff R.LG_POS_STANDSTILL R.LG_POS_WS_VALID x 0 0 0 0 hu rfl (by decide) (by decide) (by decide)
    have hflag (w : State) (b : Bool) : Cells.wf w.rf.eff = true → Cells.wf (w.flagIf b R.LG_FLAGS_WS_INVALID).rf.eff = true ∧
        (w.flagIf b R.LG_FLAGS_WS_INVALID).rd R.LG_POS_STANDSTILL = w.rd R.LG_POS_STANDSTILL := fun hw => by
      unfold State.flagIf
      split
      · exact ⟨Cells.wf_wr _ _ _ _ _ hw, State.rd_of_regAt _ 0 0 (State.regAt_wr _ _ _ _ _ _ (by decide))⟩
      · exact ⟨hw, rfl⟩
    unfold State.wsSetValid
    split
    · exact ⟨hu, rfl⟩
    · obtain ⟨hwf', hrd'⟩ := hflag (u.setBit R.LG_POS_WS_VALID k v) (!v) (hbit _ 0 0 hu)
      refine ⟨by rw [hraise]; exact hwf', ?_⟩
      rw [State.rd, hraise]
      exact hrd'.trans (hkept _)
  unfold State.wsCheck
  split
  · exact hvalid _ _ hwf
  · exact ⟨hwf, rfl⟩

theorem LgState.pair_setPair_self (g : LgState) (k : Nat) (p : WsPair) : (g.setPair k p).pair k = p := by
  unfold LgState.setPair LgState.pair
  split <;> rfl

theorem LgState.pair_setPair_ne (g : LgState) (k j : Nat) (p : WsPair) (h : k = 0 ↔ j ≠ 0) : (g.setPair k p).pair j = g.pair j := by
  unfold LgState.setPair LgState.pair
  by_cases hk : k = 0
  · simp [hk, h.mp hk]
  · simp [hk, Decidable.not_not.mp fun hj => hk (h.mpr hj)]

/-- An edge counted in a calibration run, and the movement of a counted edge, leave the pairs as they are. -/
theorem LgState.pair_calEdge (g : LgState) (k j : Nat) : (g.calEdge k).pair j = g.pair j := rfl
theorem LgState.pair_move (g : LgState) (fwd : Bool) (e t j : Nat) : (g.move fwd e t).pair j = g.pair j := rfl

theorem LgState.move_travel (g : LgState) (fwd : Bool) (e t : Nat) :
    (g.move fwd e t).travel = (if fwd then g.travel + e else g.travel - e) ∧ (g.move fwd e t).fwd = fwd ∧ (g.move fwd e t).edgeAt = t :=
  ⟨rfl, rfl, rfl⟩

/-- Whether an edge of pair `k` moves the train (R205). -/
def State.edgeCounts (s : State) (k : Nat) : Bool := k = s.wsUsed && s.rd R.LG_POS_SLIP == 0

/-- The line gauge once an accepted edge is recorded, its travel not yet moved (R203, R205). -/
def State.edgeRecorded (s : State) (k : Nat) (fwd : Bool) (t : Nat) : LgState :=
  let p := s.lg.pair k
  let o := s.lg.pair (1 - k)
  let keep := p.edges.filter (fun e => decide (t ≤ e.1 + 50000000)) ++ (p.edges.filter (fun e => decide (e.1 + 50000000 < t))).take 5
  let at_ := if s.edgeCounts k then (if fwd then s.lg.travel + s.edgeLen k else s.lg.travel - s.edgeLen k)
    else if s.rd R.LG_POS_SLIP = 0 then s.interpolate t else s.lg.vhat
  ((s.lg.setPair k { p with edges := (t, fwd) :: keep, dirs := fwd :: p.dirs.take 15, others := 0,
                            badAt := if s.wsBad k t then t else p.badAt, at_ := at_, since := t }).setPair (1 - k)
    { o with others := o.others + 1, badAt := if s.wsBad (1 - k) t then t else o.badAt }).calEdge k

/-- The line gauge once an accepted edge is recorded and, where it counts, moved the train. -/
def State.edgeTaken (s : State) (k : Nat) (fwd : Bool) (t : Nat) : LgState :=
  if s.edgeCounts k then (s.edgeRecorded k fwd t).move fwd (s.edgeLen k) t else s.edgeRecorded k fwd t

theorem State.wheelEdge_eq (s : State) (k : Nat) (lead : Bool) (t : Nat) (hm : s.lgMain = true) : ∃ fast : Bool,
    s.wheelEdge k lead false t =
      let s1 := ({ s with lg := s.edgeTaken k (xor lead ((s.rd R.LG_WS_INV).testBit k)) t } : State).flagIf fast R.LG_FLAGS_OVERSPEED
      let s2 := (s1.wsCheck k t).wsCheck (1 - k) t
      if s2.rd R.LG_POS_STANDSTILL = 1 then (s2.wr R.LG_POS_STANDSTILL 0).raise 383 t else s2 := by
  refine ⟨match (s.lg.pair k).edges with
    | e :: _ => decide (t < e.1 + 4000)
    | [] => false, ?_⟩
  rw [State.wheelEdge, if_neg (by rw [hm]; decide), if_neg (by decide)]
  rfl

theorem State.pair_edgeTaken (s : State) (k : Nat) (fwd : Bool) (t j : Nat) :
    (s.edgeTaken k fwd t).pair j = (s.edgeRecorded k fwd t).pair j :=
  ite_same (fun g : LgState => g.pair j) rfl rfl

theorem State.edgeTaken_own (s : State) (k : Fin 2) (fwd : Bool) (t : Nat) :
    let p := (s.edgeTaken k fwd t).pair k
    p.edges.head? = some (t, fwd) ∧ p.dirs.head? = some fwd ∧ p.others = 0 := by
  have hne : (1 - k.val = 0 ↔ k.val ≠ 0) := by have := k.isLt; omega
  rw [State.pair_edgeTaken, State.edgeRecorded, LgState.pair_calEdge, LgState.pair_setPair_ne _ _ _ _ hne, LgState.pair_setPair_self]
  exact ⟨rfl, rfl, rfl⟩

theorem State.edgeTaken_other (s : State) (k : Nat) (fwd : Bool) (t : Nat) :
    ((s.edgeTaken k fwd t).pair (1 - k)).others = (s.lg.pair (1 - k)).others + 1 := by
  rw [State.pair_edgeTaken, State.edgeRecorded, LgState.pair_calEdge, LgState.pair_setPair_self]

theorem LgState.setPair_travel (g : LgState) (k : Nat) (p : WsPair) :
    ((g.setPair k p).travel, (g.setPair k p).dist) = (g.travel, g.dist) := by
  unfold LgState.setPair
  exact ite_same (fun g : LgState => (g.travel, g.dist)) rfl rfl

theorem State.edgeRecorded_travel (s : State) (k : Nat) (fwd : Bool) (t : Nat) :
    ((s.edgeRecorded k fwd t).travel, (s.edgeRecorded k fwd t).dist) = (s.lg.travel, s.lg.dist) :=
  (LgState.setPair_travel _ _ _).trans (LgState.setPair_travel _ _ _)

theorem State.edgeTaken_counted (s : State) (k : Nat) (fwd : Bool) (t : Nat) (hk : k = s.wsUsed) (hslip : s.rd R.LG_POS_SLIP = 0) :
    (s.edgeTaken k fwd t).edgeAt = t ∧
      (s.edgeTaken k fwd t).travel = if fwd then s.lg.travel + s.edgeLen k else s.lg.travel - s.edgeLen k := by
  rw [State.edgeTaken, if_pos (by simp [State.edgeCounts, hk, hslip])]
  obtain ⟨htravel, -, hat⟩ := (s.edgeRecorded k fwd t).move_travel fwd (s.edgeLen k) t
  exact ⟨hat, by rw [htravel, (Prod.mk.inj (s.edgeRecorded_travel k fwd t)).1]⟩

theorem State.edgeTaken_uncounted (s : State) (k : Nat) (fwd : Bool) (t : Nat) (h : k ≠ s.wsUsed ∨ s.rd R.LG_POS_SLIP = 1) :
    (s.edgeTaken k fwd t).travel = s.lg.travel ∧ (s.edgeTaken k fwd t).dist = s.lg.dist := by
  rw [State.edgeTaken, if_neg (by rcases h with h | h <;> simp [State.edgeCounts, h])]
  exact Prod.mk.inj (s.edgeRecorded_travel k fwd t)

/-- An accepted edge while the main section works (R203 to R206). -/
theorem State.wheelEdge_accepted (s : State) (k : Fin 2) (lead : Bool) (t : Nat) (hm : s.lgMain = true) :
    let fwd := xor lead ((s.rd R.LG_WS_INV).testBit k)
    let u := s.wheelEdge k lead false t
    u.lg.counts = (s.edgeTaken k fwd t).counts ∧
      (Cells.wf s.rf.eff = true → s.rd R.LG_POS_STANDSTILL = 1 → u.rd R.LG_POS_STANDSTILL = 0) := by
  intro fwd u
  obtain ⟨fast, hu⟩ := s.wheelEdge_eq k lead t hm
  have hu' : u = _ := hu
  rw [hu']
  dsimp only
  have hraise (w : State) : (w.raise 383 t).rf = w.rf := ite_same State.rf rfl (w.onLanes_rf _)
  generalize hs1 : ({ s with lg := s.edgeTaken k fwd t } : State).flagIf fast R.LG_FLAGS_OVERSPEED = s1
  have hlg1 : s1.lg.counts = (s.edgeTaken k fwd t).counts := by
    rw [← hs1, State.flagIf]
    split <;> rfl
  have hcount : ((s1.wsCheck k t).wsCheck (1 - k) t).lg.counts = (s.edgeTaken k fwd t).counts := by
    rw [State.wsCheck_counts, State.wsCheck_counts, hlg1]
  refine ⟨?_, fun hwf hstill => ?_⟩
  · rw [← hcount]
    split
    · rw [State.raise_lg]
      rfl
    · rfl
  · have hwf1 : Cells.wf s1.rf.eff = true := by
      rw [← hs1]
      unfold State.flagIf
      split
      · exact Cells.wf_wr _ _ _ _ _ hwf
      · exact hwf
    have hrd1 : s1.rd R.LG_POS_STANDSTILL = 1 := by
      rw [← hs1, ← hstill]
      unfold State.flagIf
      split
      · exact State.rd_of_regAt _ 0 0 (State.regAt_wr _ _ _ _ _ _ (by decide))
      · rfl
    obtain ⟨hwf2, hrd2⟩ := s1.wsCheck_standstill k t hwf1
    obtain ⟨hwf3, hrd3⟩ := (s1.wsCheck k t).wsCheck_standstill (1 - k) t hwf2
    rw [if_pos (by rw [hrd3, hrd2, hrd1]), State.rd, hraise]
    exact Cells.rd_wr_self _ _ _ _ _ hwf3 (by decide)

/-- What a command of the always-on section leaves while the main section works. -/
theorem State.leaves_runAlways (s : State) (c : Instr) (t : Nat) (f : State → State) (u : State) (hl : s.live = true)
    (hc : exec c s = .next (s.runAlways t f)) (hu : f (s.now t) = u) : s.leaves c t u := by
  obtain ⟨hoff, -, hrec⟩ := s.pw_of_live hl
  exact s.leaves_run c t f u hl (hc.trans (congrArg Host.Outcome.next (if_neg (by rw [hoff, hrec]; decide)))) hu

/-- What a command of the always-on section leaves without module power, and with it. -/
theorem State.runAlways_still (s : State) (c : Instr) (t : Nat) (f : State → State) (u : State)
    (hc : exec c s = .next (s.runAlways t f)) (hu : f (s.now t) = u) (hp : u.pending = s.pending) :
    (s.pw.off = true ∨ s.recovering = true → exec c s = .next u) ∧
      (s.pw.off = false → s.recovering = false → s.leavesStill c t u) := by
  subst hu
  refine ⟨fun h => hc.trans (congrArg Host.Outcome.next ?_), fun hoff hrec => hc.trans (congrArg Host.Outcome.next ?_)⟩
  · rw [State.runAlways, if_pos (by simpa using h), State.keepQueue, ← hp]
  · rw [State.runAlways, State.run, State.runHost, hoff, hrec]
    rfl

/-- The main section does not work without power, while it recovers, while it is stopped and in its self-test. -/
theorem State.lgMain_still (s : State) (t : Nat) (h : s.live = false ∨ s.vstate = vsSelftest) : (s.now t).lgMain = false := by
  have hrec : (s.now t).recovering = s.recovering := by simp [State.recovering]
  rw [State.lgMain, hrec, State.vstate_now, State.now_pw]
  rcases h with h | h
  · revert h
    unfold State.live
    rw [Bool.and_comm (!s.pw.off)]
    exact fun hlive => Bool.and_eq_false_imp.mpr fun hmain => absurd hlive (by rw [hmain]; decide)
  · simp [h]

/-- An edge while the main section does not work (R207, R215). -/
theorem State.wheelEdge_still (s : State) (k : Nat) (lead both : Bool) (t : Nat) (hm : s.lgMain = false) :
    s.wheelEdge k lead both t = if both = false ∧ k = s.wsUsed then
      { s with lg := (s.lg.move (xor lead ((s.rd R.LG_WS_INV).testBit k)) (s.edgeLen k) t).calEdge k } else s := by
  rw [State.wheelEdge, if_pos (by rw [hm]; rfl)]
  cases both <;> simp [State.aoEdge]

/-- The cases of the hold-back after a change of direction (R205). -/
theorem LgState.move_holds (g : LgState) (fwd : Bool) (e t : Nat) :
    (fwd ≠ g.fwd → (g.move fwd e t).dist = g.dist ∧ (g.move fwd e t).heldEdges = 1 ∧ (g.move fwd e t).heldLen = e) ∧
      (fwd = g.fwd → g.heldEdges = 0 → (g.move fwd e t).dist = g.dist + e ∧ (g.move fwd e t).heldEdges = 0) ∧
      (fwd = g.fwd → g.heldEdges = 1 →
        (g.move fwd e t).dist = g.dist ∧ (g.move fwd e t).heldEdges = 2 ∧ (g.move fwd e t).heldLen = g.heldLen + e) ∧
      (fwd = g.fwd → g.heldEdges = 2 → (g.move fwd e t).dist = g.dist + g.heldLen + e ∧ (g.move fwd e t).heldEdges = 0) := by
  refine ⟨fun h => ?_, fun h h0 => ?_, fun h h1 => ?_, fun h h2 => ?_⟩
  · simp [LgState.move, h]
  · simp [LgState.move, h, h0]
  · simp [LgState.move, h, h1]
  · simp [LgState.move, h, h2, Nat.add_assoc]

end Sys2Proof.Machine

open Sys2Proof Sys2Proof.Machine

/-- Settles O36. -/
theorem wheelsAndDistance : Obligations.WheelsAndDistance := by
  refine ⟨⟨fun s k lead t hl hv => ?wheels, fun s k lead both t hstill => ?still, fun g fwd e t => ?move⟩,
    fun s t hl hv => ?slip, fun s t hl => ?quality, fun s t => ?lost⟩
  case wheels =>
    intro n p fwd
    have hm := s.lgMain_now t hl hv
    have hlg : n.lg = s.lg := s.now_lg t
    have hrd (f : Fld) : n.rd f = s.rd f := s.rd_now t f 0 0
    refine ⟨s.leaves_runAlways _ t _ _ hl rfl ?both, ⟨_, s.leaves_runAlways _ t _ _ hl rfl rfl, ?edge⟩,
      fun hcause hquiet hdue => ⟨fun hv' => s.leaves_lgDo _ t _ _ hl hv rfl ?valid, fun hv' => s.leaves_lgDo _ t _ _ hl hv rfl ?already⟩,
      fun h => s.leaves_lgDo _ t _ _ hl hv rfl ?cause,
      fun h h0 h1 => s.leaves_lgDo _ t _ _ hl hv rfl ?enter, fun h => s.leaves_lgDo _ t _ _ hl hv rfl ?moving⟩
    case both =>
      show n.wheelEdge k lead true t = _
      rw [State.wheelEdge, if_neg (by rw [hm]; decide), if_pos rfl, hlg]
      obtain rfl | rfl : k = 0 ∨ k = 1 := by omega
      · rfl
      · rfl
    case edge =>
      obtain ⟨hcount, hstill⟩ := n.wheelEdge_accepted k lead t hm
      have hfwd : xor lead ((n.rd R.LG_WS_INV).testBit k) = fwd := by rw [hrd]
      rw [hfwd] at hcount
      obtain ⟨hedges, hdirs, hothers⟩ := n.edgeTaken_own k fwd t
      have hkept := LgState.pair_of_counts _ _ hcount
      have hmoved : ((n.wheelEdge k lead false t).lg.travel, (n.wheelEdge k lead false t).lg.dist,
          (n.wheelEdge k lead false t).lg.edgeAt) = ((n.edgeTaken k fwd t).travel, (n.edgeTaken k fwd t).dist, (n.edgeTaken k fwd t).edgeAt) :=
        congrArg Prod.snd hcount
      simp only [Prod.mk.injEq] at hmoved
      obtain ⟨htravel, hdist, hat⟩ := hmoved
      refine ⟨(congrArg (fun c => c.1.head?) (hkept k)).trans hedges, (congrArg (fun c => c.2.1.head?) (hkept k)).trans hdirs,
        (congrArg (fun c => c.2.2) (hkept k)).trans hothers, ?_, fun hk hslip => ?_, fun h => ?_, fun hwf h => ?_⟩
      · refine (congrArg (fun c => c.2.2) (hkept (1 - k.val))).trans ((n.edgeTaken_other k fwd t).trans ?_)
        rw [hlg]
      · obtain ⟨h1, h2⟩ := n.edgeTaken_counted k fwd t (hk.trans (s.wsUsed_now t).symm) (by rw [hrd, hslip])
        exact ⟨hat.trans h1, by rw [htravel, h2, hlg, State.edgeLen_now]⟩
      · obtain ⟨h1, h2⟩ := n.edgeTaken_uncounted k fwd t (by rwa [State.wsUsed_now, hrd])
        exact ⟨by rw [htravel, h1, hlg], by rw [hdist, h2, hlg]⟩
      · exact hstill (by rwa [State.now_rf]) (by rw [hrd, h])
    case valid =>
      show n.wsRestore k t = _
      rw [State.wsRestore, if_pos (by simp [n, hcause, hquiet, hdue, p]), State.wsSetValid, if_neg (by simp [n, hv'])]
      rfl
    case already =>
      exact ite_same (fun u : State => u) (if_pos (by simp [hv'])) rfl
    case cause =>
      refine if_neg ?_
      simp only [hlg, n, State.wsBad_now]
      rcases h with h | h | h
      · simp [h]
      · simp [p, h]
      · simp [p, h]
    case enter => exact if_pos (by simp [h, h0, h1])
    case moving =>
      refine if_neg ?_
      rcases h with h | h | h <;> simp [h]
  case still =>
    intro n fwd u
    refine s.runAlways_still _ t _ u rfl ?_ (ite_same State.pending (s.now_pending t) (s.now_pending t))
    rw [State.wheelEdge_still _ k lead both t (s.lgMain_still t hstill), State.wsUsed_now, State.edgeLen_now, State.rd_now, State.now_lg]
  case move => exact ⟨rfl, rfl, rfl, g.move_holds fwd e t⟩
  case slip =>
    intro n
    refine ⟨fun x y z => ⟨fun h => s.leaves_lgDo _ t _ _ hl hv rfl ?_, fun h => s.leaves_lgDo _ t _ _ hl hv rfl ?_⟩,
      fun h hdue => s.leaves_lgDo _ t _ _ hl hv rfl ?_, fun h => s.leaves_lgDo _ t _ _ hl hv rfl ?_,
      fun h hlong hfull => s.leaves_lgDo _ t _ _ hl hv rfl ?_, fun h hred => s.leaves_lgDo _ t _ _ hl hv rfl ?_,
      fun h => s.leaves_lgDo _ t _ _ hl hv rfl ?_⟩
    · show n.accelSample x y z t = _
      rw [State.accelSample, if_neg (by rwa [State.rd_now]), State.axisOf_now, State.now_lg]
    · show n.accelSample x y z t = _
      rw [State.accelSample, if_pos (by rwa [State.rd_now]), State.axisOf_now, State.now_lg, State.wsAccel_now, State.wsUsed_now]
    · show n.slipClear t = _
      rw [State.slipClear, if_pos (by simp [n, h, hdue]), State.now_lg]
    · refine if_neg ?_
      rcases h with h | h <;> simp [h]
    · exact (if_pos (by simp [State.slipLong, h, hlong])).trans (if_pos (by rw [State.rd_now, hfull]))
    · exact (if_pos (by rw [State.slipLong_now, h])).trans (if_neg (by rw [State.rd_now, hred]; decide))
    · exact if_neg (by rw [State.slipLong_now, h]; decide)
  case quality =>
    intro n
    refine ⟨fun h hlost => s.leaves_run _ t _ _ hl rfl (if_neg (by simp [h, hlost])),
      fun h => s.leaves_run _ t _ _ hl rfl (if_pos (by rcases h with h | h <;> simp [h])),
      s.leaves_runAlways _ t _ _ hl rfl ?_⟩
    rw [State.aoLost, State.now_lg]
  case lost =>
    exact s.runAlways_still _ t _ _ rfl (by rw [State.aoLost, State.now_lg]) (s.now_pending t)
end

end

section
section
/-! Proofs: catenary phase and class, comparators and hardware-timed outputs (spec/08_line_gauge.md). -/

namespace Sys2Proof.Machine

/-! ### Catenary phase (R217, R218) -/

/-- A crossing after another: the intervals it leaves, and what becomes of the phase. -/
theorem State.phaseCrossing_next (s : State) (t p : Nat) (hp : s.lg.lastCross = some p) :
    let ivs := ((t - p) :: s.lg.intervals).take 8
    let T := ivs.sum / ivs.length
    let g := { s.lg with lastCross := some t, intervals := ivs }
    let u := ({ s with lg := g } : State).wr R.LG_PH_FREQ ((2 * 1000000000000 + T) / (2 * T))
    let r0 : Nat := 65536000 * 2 ^ 32 / T
    0 < T → s.phaseCrossing t =
      if s.rd R.LG_PH_PRESENT = 1 then
        let eps := sdiff (s.lg.phiNow t) (s.rd R.LG_PH_OFS * 2 ^ 32) 48
        let lim : Int := (s.lg.phiRate : Int) * 2 / 100
        { u with lg := { g with
          phi := s.lg.phiNow t, phiAt := t,
          phiRate := (clampInt (s.lg.phiRate - lim) (s.lg.phiRate + lim) ((r0 : Int) - eps * 1000 / T)).toNat } }
      else if stableFour ivs then
        (({ u with lg := { g with phi := s.rd R.LG_PH_OFS * 2 ^ 32, phiAt := t, phiRate := r0 } } : State).wr R.LG_PH_PRESENT 1).raise 374 t
      else u := by
  intro ivs T g u r0 hT
  have hperiod : g.period = T := if_neg (by simp [g, ivs])
  rw [State.phaseCrossing, hp]
  dsimp only
  rw [if_neg (by rw [hperiod]; omega)]
  simp only [u, r0, ← hperiod]
  rfl

/-! ### Comparators (R221 to R225) -/

theorem State.cmpFire_due (s : State) (k : Nat) (h : HitCmp) (hit : Nat) (late : Bool) (t0 : Nat) (hlook : NMap.look s.lg.cmp k = some h)
    (hdue : h.due = some (hit, late, t0)) :
    let v := ({ s with lg := { s.lg with cmp := NMap.del s.lg.cmp k } } : State).onLanes fun l =>
      let l1 := ((l.cmpIdle k).bump R.LG_CMP_STAT_HIT_CNT k).wr R.LG_CMP_STAT_LAST_HIT hit k
      if late then l1.wr R.LG_CMP_STAT_LATE 1 k else l1
    let u := if hit = 2 then v.raise 379 t0 else v
    s.cmpFire k =
      if recAction h.words = 0 then u.onLanes fun l => (l.releaseBy u.phase (recArg h.words) t0).1
      else if recAction h.words = 1 then u.raise (recArg h.words) t0
      else { u with lg := { u.lg with
        switches := s.lg.switches ++ [{ fired := t0, channel := recArg h.words, pulse := recAction h.words == 2, value := recPulse h.words }] } } := by
  intro v u
  have hv : v.lg.switches = s.lg.switches := (congrArg LgState.switches (State.onLanes_lg _ _)).trans rfl
  have hswitches : u.lg.switches = s.lg.switches :=
    ite_same (fun u : State => u.lg.switches) ((congrArg LgState.switches (State.raise_lg _ _ _)).trans hv) hv
  rw [State.cmpFire, hlook]
  dsimp only
  rw [hdue]
  exact ite_eq_of_iff Iff.rfl rfl (ite_eq_of_iff Iff.rfl rfl (congrArg (fun sw => ({ u with lg := { u.lg with
    switches := sw ++ [{ fired := t0, channel := recArg h.words, pulse := recAction h.words == 2, value := recPulse h.words }] } } : State)) hswitches))

/-! ### Hardware-timed outputs (R228, R324) -/

/-- The one switch command on its way reaches its channel. -/
theorem State.switchCommand_reaches (s : State) (c t : Nat) (w : SwitchCmd) (hw : s.lg.switches = [w]) (hchan : w.channel = c)
    (hdue : w.fired + 4000 ≤ t) (u : State) (hu : u = { s with lg := { s.lg with switches := [] } }) :
    s.switchCommand c t =
      if s.fieldLeased (c / 16) && !s.acting then u.bump R.RD_GATE_CNT
      else if !s.isHwt c then u
      else (u.setCh c (if w.pulse then { s.ch c with pulseEnd := some (max ((s.ch c).pulseEnd.getD 0) (t + 1000 * w.value)) }
        else { s.ch c with timed := some (decide (w.value ≠ 0)) })).parRefresh c := by
  have hfind : s.lg.switches.find? (fun w => w.channel == c && decide (w.fired + 4000 ≤ t)) = some w := by
    rw [hw]
    exact List.find?_cons_of_pos (by simp [hchan, hdue])
  have herase : s.lg.switches.erase w = [] := by rw [hw, List.erase_cons_head]
  subst hu
  rw [State.switchCommand, hfind]
  dsimp only
  rw [herase]
  refine ite_eq_of_iff Iff.rfl rfl (ite_eq_of_iff Iff.rfl rfl (congrArg (fun x => State.parRefresh (State.setCh _ c x) c) ?_))
  refine ite_eq_of_iff Iff.rfl ?_ rfl
  refine congrArg (fun e => ({ s.ch c with pulseEnd := some e } : FdChan)) ?_
  show (match (s.ch c).pulseEnd with
    | some o => max o (t + 1000 * w.value)
    | none => t + 1000 * w.value) = _
  cases (s.ch c).pulseEnd with
  | none => exact (Nat.zero_max _).symm
  | some e => rfl

end Sys2Proof.Machine

open Sys2Proof Sys2Proof.Machine

/-- Settles O37. -/
theorem phaseAndComparators : Obligations.PhaseAndComparators := by
  refine ⟨fun s t hl hv => ?phase, fun s k t hl hv => ?comparators, fun s c t hl => ?outputs⟩
  case phase =>
    intro n
    have hlg : n.lg = s.lg := s.now_lg t
    have hrd (f : Fld) : n.rd f = s.rd f := s.rd_now t f 0 0
    refine ⟨fun hnone hempty => s.leaves_lgDo _ t _ _ hl hv rfl ?_, fun p hp => ?_,
      fun p hp hpresent hdue => s.leaves_lgDo _ t _ _ hl hv rfl ?_, fun uac udc k => ?_, fun f => ⟨rfl, rfl, rfl, rfl, rfl, rfl⟩⟩
    · show n.phaseCrossing t = _
      simp only [State.phaseCrossing, hlg, hnone, hempty]
      rfl
    · intro ivs T g f r0 hT
      have hcross := n.phaseCrossing_next t p (by rw [hlg, hp])
      simp only [hlg, hrd] at hcross
      refine ⟨fun hpresent hstable => s.leaves_lgDo _ t _ _ hl hv rfl ((hcross hT).trans ?_),
        fun hpresent hstable => s.leaves_lgDo _ t _ _ hl hv rfl ((hcross hT).trans ?_),
        fun hpresent => s.leaves_lgDo _ t _ _ hl hv rfl ((hcross hT).trans ?_)⟩
      · exact (if_neg (by rw [hpresent]; decide)).trans (if_neg (by rw [hstable]; decide))
      · exact (if_neg (by rw [hpresent]; decide)).trans (if_pos hstable)
      · exact if_pos hpresent
    · show n.phaseLost t = _
      simp only [State.phaseLost, hlg, hp, hrd]
      exact if_pos (by simp [hpresent, hdue])
    · intro m c run u
      have heval : n.classEval uac udc k t = if s.rd R.LG_PH_CONFIRM ≤ run ∧ c ≠ s.rd R.LG_PH_CLASS then
          (u.wr R.LG_PH_CLASS c).raise 376 t else u := by
        simp only [State.classEval, hlg, hrd]
        rfl
      refine ⟨fun h => s.leaves_lgDo _ t _ _ hl hv rfl (heval.trans (if_neg ?_)),
        fun hrun hc => s.leaves_lgDo _ t _ _ hl hv rfl (heval.trans (if_pos ⟨hrun, hc⟩))⟩
      rintro ⟨hrun, hc⟩
      exact h.elim (fun h => absurd hrun (Nat.not_le_of_lt h)) hc
  case comparators =>
    intro n
    have hlg : n.lg = s.lg := s.now_lg t
    refine ⟨fun h => s.leaves_lgDo _ t _ _ hl hv rfl ?_, fun r m h hripe => s.leaves_lgDo _ t _ _ hl hv rfl ?_,
      fun r m w h hripe => s.leaves_lgDo _ t _ _ hl hv rfl ?_, fun h hit late t0 hlook hdue => ?_⟩
    · show n.armsApply t = n
      simp only [State.armsApply, hlg, h]
      rw [List.filter_nil, List.filter_nil, List.foldl_nil, ← h, ← hlg]
    · show n.armsApply t = _
      simp [State.armsApply, hlg, h, hripe]
    · show n.armsApply t = _
      simp [State.armsApply, hlg, h, hripe]
    · intro v u sends
      have hfire := n.cmpFire_due k h hit late t0 (by rw [hlg, hlook]) hdue
      simp only [hlg] at hfire
      refine ⟨fun ha => s.leaves_lgDo _ t _ _ hl hv rfl (hfire.trans (if_pos ha)), fun ha => s.leaves_lgDo _ t _ _ hl hv rfl (hfire.trans ?_),
        fun ha => s.leaves_lgDo _ t _ _ hl hv rfl (hfire.trans ?_), fun ha => s.leaves_lgDo _ t _ _ hl hv rfl (hfire.trans ?_)⟩
      · exact (if_neg (by rw [ha]; decide)).trans (if_pos ha)
      · rw [if_neg (by rw [ha]; decide), if_neg (by rw [ha]; decide), ha]
        rfl
      · rw [if_neg (by rw [ha]; decide), if_neg (by rw [ha]; decide), ha]
        rfl
  case outputs =>
    intro n
    have hlg : n.lg = s.lg := s.now_lg t
    have hch : n.ch c = s.ch c := by rw [State.ch, State.now_chan, State.ch]
    refine ⟨fun h => s.leaves_run _ t _ _ hl rfl ?_, fun w hw hchan hdue => ?_,
      fun e he => ⟨fun hdue => s.leaves_run _ t _ _ hl rfl ?_, fun hdue => s.leaves_run _ t _ _ hl rfl ?_⟩,
      fun h => s.leaves_run _ t _ _ hl rfl ?_⟩
    · show n.switchCommand c t = n
      rw [State.switchCommand, hlg, h]
      rfl
    · intro u
      have hacting : n.acting = s.acting := congrArg (· == 1) (s.rd_now t R.RD_STATE_ACTING 0 0)
      have hhwt : n.isHwt c = s.isHwt c := by simp only [State.isHwt, State.chMode, n, State.rd_now]
      have hreach := n.switchCommand_reaches c t w (by rw [hlg, hw]) hchan hdue u (by rw [hlg])
      rw [hch, hacting, hhwt] at hreach
      have hpass (h : n.fieldLeased (c.val / 16) = false ∨ s.acting = true) : ¬ (n.fieldLeased (c.val / 16) && !s.acting) = true := by
        rcases h with h | h <;> simp [h]
      refine ⟨fun hleased hact => s.leaves_run _ t _ _ hl rfl (hreach.trans (if_pos (by rw [hleased, hact]; rfl))),
        fun h => ⟨fun hh => s.leaves_run _ t _ _ hl rfl (hreach.trans ((if_neg (hpass h)).trans (if_pos (by rw [hh]; rfl)))),
          fun hh hpulse => s.leaves_run _ t _ _ hl rfl (hreach.trans ((if_neg (hpass h)).trans ((if_neg (by rw [hh]; decide)).trans ?_))),
          fun hh hlevel => s.leaves_run _ t _ _ hl rfl (hreach.trans ((if_neg (hpass h)).trans ((if_neg (by rw [hh]; decide)).trans ?_)))⟩⟩
      · rw [if_pos hpulse]
      · rw [if_neg (by rw [hlevel]; decide)]
    · show n.outputPulseEnd c t = _
      rw [State.outputPulseEnd, hch, he]
      exact if_pos hdue
    · show n.outputPulseEnd c t = _
      rw [State.outputPulseEnd, hch, he]
      exact if_neg (Nat.not_le_of_lt hdue)
    · show n.outputPulseEnd c t = _
      rw [State.outputPulseEnd, hch, h]
end

end

section
section
/-! Proofs: Chase inputs and test pulses (spec/10_safety_chase.md). -/

namespace Sys2Proof.Machine

/-- What a happening that SLEEP keeps away leaves while the module is awake. -/
theorem State.leaves_runAwake (s : State) (c : Instr) (t : Nat) (f : State → State) (u : State) (hl : s.live = true)
    (hsleep : s.pwState ≠ psSleep) (hc : exec c s = .next (s.runAwake t f)) (hu : f (s.now t) = u) : s.leaves c t u :=
  s.leaves_run c t _ u hl hc ((if_neg (by rwa [State.pwState_now])).trans hu)

/-! ### The Chase's terminals -/

@[simp] theorem State.scTerm_now (s : State) (t i : Nat) : (s.now t).scTerm i = s.scTerm i := by
  rw [State.scTerm, State.now_sc, State.scTerm]
@[simp] theorem State.scRoleOf_now (s : State) (t i : Nat) : (s.now t).scRoleOf i = s.scRoleOf i := s.rd_now t _ i 0
@[simp] theorem State.scFaultOf_now (s : State) (t i : Nat) : (s.now t).scFaultOf i = s.scFaultOf i := s.rd_now t _ i 0
@[simp] theorem State.scInPulse_now (s : State) (t g slot v : Nat) : (s.now t).scInPulse g slot v = s.scInPulse g slot v := by
  rw [State.scInPulse, State.now_sc, State.scInPulse]
@[simp] theorem State.scOwnPulse_now (s : State) (t i v : Nat) : (s.now t).scOwnPulse i v = s.scOwnPulse i v := by
  simp [State.scOwnPulse]
@[simp] theorem State.scFrozen_now (s : State) (t i v : Nat) : (s.now t).scFrozen i v = s.scFrozen i v := by
  simp [State.scFrozen, State.scSlots]

@[simp] theorem State.scTerm_setScTerm_self (s : State) (i : Nat) (x : ScTerm) : (s.setScTerm i x).scTerm i = x :=
  NMap.get_put_self _ _ _ _
theorem State.scTerm_setScTerm_ne (s : State) (i j : Nat) (x : ScTerm) (h : i ≠ j) : (s.setScTerm j x).scTerm i = s.scTerm i :=
  NMap.get_put_ne _ _ _ _ _ h
@[simp] theorem State.scTerm_wr (s : State) (f : Fld) (v a b i : Nat) : (s.wr f v a b).scTerm i = s.scTerm i := rfl
@[simp] theorem State.scFaultOf_setScTerm (s : State) (i j : Nat) (x : ScTerm) : (s.setScTerm j x).scFaultOf i = s.scFaultOf i := rfl
@[simp] theorem State.scRoleOf_setScTerm (s : State) (i j : Nat) (x : ScTerm) : (s.setScTerm j x).scRoleOf i = s.scRoleOf i := rfl

/-! ### Samples of an input (R271 to R275) -/

/-- The terminal after a sample of level `b`, its value changing only where it is not frozen. -/
def ScTerm.sampled (x : ScTerm) (b frozen : Bool) (filter t : Nat) : ScTerm :=
  let run := if b == x.filt then 0 else x.run + 1
  let hit := !frozen && decide (0 < run ∧ filter ≤ run)
  let filt := if hit then b else x.filt
  { x with run := if hit then 0 else run, filt := filt, oneAt := if filt && !x.filt then t else x.oneAt }

/-- What a sample leaves of its terminal where the level is a known one. -/
theorem State.scSample_level (s : State) (i : Nat) (mv ug : Int) (t : Nat) (hrole : s.scRoleOf i = srIn) (b : Bool)
    (hlv : (if s.scRoleOf i == srIn && s.scOwnPulse i t && decide (10000 ≤ ug) then (s.scTerm i).level
      else (scLevel mv ug).or (s.scTerm i).level) = some b) :
    ∃ a, (s.scSample i mv ug t).scTerm i =
      ScTerm.sampled { s.scTerm i with levelAt := a, level := some b } b (s.scFrozen i t) (scFilter s.sc.table i) t := by
  refine ⟨if some b == (s.scTerm i).level then (s.scTerm i).levelAt else t, ?_⟩
  rw [State.scSample]
  dsimp only
  rw [hlv, if_neg (by rw [hrole]; decide)]
  exact ite_same (fun u : State => u.scTerm i) (NMap.get_put_self _ _ _ _) (NMap.get_put_self _ _ _ _)

/-- What a sample leaves of its terminal where no level is known. -/
theorem State.scSample_none (s : State) (i : Nat) (mv ug : Int) (t : Nat) (hrole : s.scRoleOf i = srIn)
    (hlv : (if s.scRoleOf i == srIn && s.scOwnPulse i t && decide (10000 ≤ ug) then (s.scTerm i).level
      else (scLevel mv ug).or (s.scTerm i).level) = none) :
    ((s.scSample i mv ug t).scTerm i).filt = (s.scTerm i).filt ∧ ((s.scSample i mv ug t).scTerm i).level = none := by
  rw [State.scSample]
  dsimp only
  rw [hlv, if_neg (by rw [hrole]; decide)]
  dsimp only
  split
  · split
    · rw [State.scTerm_wr, State.scTerm_setScTerm_self]
      exact ⟨rfl, rfl⟩
    · rw [State.scTerm_setScTerm_self]
      exact ⟨rfl, rfl⟩
  · split
    · rw [State.scTerm_wr, State.scTerm_setScTerm_self]
      exact ⟨rfl, rfl⟩
    · rw [State.scTerm_setScTerm_self]
      exact ⟨rfl, rfl⟩

/-! ### Test pulses (R274 to R276) -/

/-- What a pass over distinct terminals leaves of one of them: what it gives that terminal as it was found. -/
theorem State.foldl_setScTerm_term (f : State → Nat → ScTerm) (xs : List Nat) (i : Nat) (hn : xs.Nodup) (hi : i ∈ xs) (u : State) :
    ∃ v : State, v.scTerm i = u.scTerm i ∧ (xs.foldl (fun s j => s.setScTerm j (f s j)) u).scTerm i = f v i := by
  induction xs generalizing u with
  | nil => cases hi
  | cons j ys ih =>
    obtain ⟨hj, hn'⟩ := List.nodup_cons.mp hn
    rcases List.mem_cons.mp hi with rfl | hi'
    · refine ⟨u, rfl, (foldl_same_mem (fun s : State => s.scTerm i) _ ys (fun v k hk => ?_) _).trans (State.scTerm_setScTerm_self _ _ _)⟩
      exact State.scTerm_setScTerm_ne v i k _ fun h => hj (h ▸ hk)
    · obtain ⟨v, hv, hfold⟩ := ih hn' hi' (u.setScTerm j (f u j))
      exact ⟨v, hv.trans (State.scTerm_setScTerm_ne u i j _ fun h => hj (h ▸ hi')), hfold⟩

/-- A terminal as a test cycle of its group begins. -/
def State.scTestTerm (g : Nat) (s : State) (i : Nat) : ScTerm :=
  let x := s.scTerm i
  let full := (s.scSlots g).all x.cycleSeen.contains && !x.cycleBad
  { x with foundBefore := x.found, found := [], goodCycle := x.goodCycle || (x.cycleFault && full), cycleBad := false,
           cycleSeen := [], cycleFault := s.scFaultOf i == tfOwn || s.scFaultOf i == tfForeign }

/-- The number of the test cycle that begins. -/
def State.scTestNumber (s : State) (g : Nat) : Nat :=
  match NMap.look s.sc.cycles g with
  | some (_, n) => n + 1
  | none => 1

theorem State.scTestCycle_eq (s : State) (g t : Nat) : s.scTestCycle g t =
    ([0, 1, 2, 3].map fun k => 4 * g + k).foldl (fun s i => s.setScTerm i (State.scTestTerm g s i))
      { s with sc := { s.sc with cycles := NMap.put s.sc.cycles g (t, s.scTestNumber g) } } := by
  unfold State.scTestCycle State.scTestNumber
  cases NMap.look s.sc.cycles g <;> rfl

/-- A test cycle starts anew with the findings of the one before. -/
theorem State.scTestCycle_term (s : State) (g i t : Nat) (h : i / 4 = g) :
    ((s.scTestCycle g t).scTerm i).found = [] ∧ ((s.scTestCycle g t).scTerm i).foundBefore = (s.scTerm i).found := by
  have hmem : i ∈ [0, 1, 2, 3].map fun k => 4 * g + k := by
    have hlt := Nat.mod_lt i (show 4 > 0 by decide)
    refine List.mem_map.mpr ⟨i % 4, ?_, by rw [← h]; exact Nat.div_add_mod i 4⟩
    have hall : ∀ k < 4, k ∈ [0, 1, 2, 3] := by decide
    exact hall _ hlt
  have hnodup : ([0, 1, 2, 3].map fun k => 4 * g + k).Nodup := List.nodup_iff_pairwise_ne.mpr (by simp)
  obtain ⟨v, hv, hterm⟩ := State.foldl_setScTerm_term (State.scTestTerm g) _ i hnodup hmem
    { s with sc := { s.sc with cycles := NMap.put s.sc.cycles g (t, s.scTestNumber g) } }
  rw [State.scTestCycle_eq, hterm]
  exact ⟨rfl, congrArg ScTerm.found hv⟩

theorem State.scTestCycle_cycles (s : State) (g t : Nat) :
    (s.scTestCycle g t).sc.cycles = NMap.put s.sc.cycles g (t, s.scTestNumber g) := by
  rw [State.scTestCycle_eq]
  exact foldl_same (fun s : State => s.sc.cycles) (fun s i => s.setScTerm i (State.scTestTerm g s i)) (fun _ _ => rfl) _ _

/-- A pulse finds nothing wrong, or a finding of kind `k`. -/
theorem State.scPulseTerm_found (s : State) (slot t i : Nat) (high : Bool) (hen : scTpEn s.sc.table i = true)
    (hfilt : (s.scTerm i).filt = true) (hfault : s.scFaultOf i = 0) :
    let kind := if scSlot s.sc.table i == slot && high then 1 else if !(scSlot s.sc.table i == slot) && !high then 2 else 0
    let u := s.setScTerm i { s.scTerm i with found := (kind, slot) :: (s.scTerm i).found, cycleBad := true, goodCycle := false }
    State.scPulseTerm slot t s i high =
      if kind = 0 then s.setScTerm i { s.scTerm i with cycleSeen := slot :: (s.scTerm i).cycleSeen }
      else if (s.scTerm i).foundBefore.contains (kind, slot) then u.scTermFault i (if kind = 1 then tfOwn else tfForeign) slot t else u := by
  intro kind u
  rw [State.scPulseTerm, if_neg (by simp [hen, hfilt])]
  refine ite_eq_of_iff Iff.rfl rfl (ite_eq_of_iff ?_ rfl rfl)
  show ((s.scTerm i).foundBefore.contains (kind, slot) && s.scFaultOf i == 0) = true ↔ _
  rw [hfault, BEq.rfl, Bool.and_true]

end Sys2Proof.Machine

open Sys2Proof Sys2Proof.Machine

/-- Settles O38. -/
theorem chaseInputsAndPulses : Obligations.ChaseInputsAndPulses := by
  intro s i g slot t hl hsleep n x tab
  refine ⟨fun mv ug b hrole hlevel => ?sample, fun hrole hk hfilt hdue hfault => s.leaves_runAwake _ t _ _ hl hsleep rfl ?stuck,
    ⟨_, s.leaves_runAwake _ t _ _ hl hsleep rfl rfl, ?cycle⟩, fun highs => s.leaves_runAwake _ t _ _ hl hsleep rfl rfl,
    fun h high => ?unpulsed, fun hen hfilt hfault => ?pulsed⟩
  case sample =>
    have hterm : n.scTerm i = x := s.scTerm_now t i
    have hrole' : n.scRoleOf i = srIn := by rw [State.scRoleOf_now, hrole]
    have hread (hown : s.scOwnPulse i t = false ∨ ug < 10000) : ∃ a, (n.scSample i mv ug t).scTerm i =
        ScTerm.sampled { x with levelAt := a, level := some b } b (s.scFrozen i t) (scFilter tab i) t := by
      have hlv : (if n.scRoleOf i == srIn && n.scOwnPulse i t && decide (10000 ≤ ug) then (n.scTerm i).level
          else (scLevel mv ug).or (n.scTerm i).level) = some b := by
        rw [if_neg (by rw [State.scOwnPulse_now]; rcases hown with h | h <;> simp [h]), hlevel]
        rfl
      obtain ⟨a, ha⟩ := n.scSample_level i mv ug t hrole' b hlv
      rw [hterm, State.scFrozen_now, State.now_sc] at ha
      exact ⟨a, ha⟩
    refine ⟨fun hown hug hfrozen => ⟨n.scSample i mv ug t, s.leaves_runAwake _ t _ _ hl hsleep rfl rfl, ?_⟩,
      fun hown hfrozen => ⟨n.scSample i mv ug t, s.leaves_runAwake _ t _ _ hl hsleep rfl rfl, ?_⟩,
      fun hown hfrozen hb => ⟨n.scSample i mv ug t, s.leaves_runAwake _ t _ _ hl hsleep rfl rfl, ?_⟩,
      fun hown hfrozen hb hrun => ⟨n.scSample i mv ug t, s.leaves_runAwake _ t _ _ hl hsleep rfl rfl, ?_⟩,
      fun hown hfrozen hb hrun => ⟨n.scSample i mv ug t, s.leaves_runAwake _ t _ _ hl hsleep rfl rfl, ?_⟩⟩
    all_goals dsimp only
    · have hown' : n.scOwnPulse i t = true := by rw [State.scOwnPulse_now, hown]
      cases hx : x.level with
      | none =>
        have hnone := n.scSample_none i mv ug t hrole' (by rw [hrole', hown', hterm, hx]; simp [hug])
        rwa [hterm] at hnone
      | some v =>
        obtain ⟨a, ha⟩ := n.scSample_level i mv ug t hrole' v (by rw [hrole', hown', hterm, hx]; simp [hug])
        rw [ha, hterm, State.scFrozen_now, hfrozen]
        exact ⟨rfl, rfl⟩
    · obtain ⟨a, ha⟩ := hread hown
      rw [ha, hfrozen]
      refine ⟨rfl, ?_, rfl⟩
      exact ite_eq_of_iff beq_iff_eq rfl rfl
    · obtain ⟨a, ha⟩ := hread hown
      rw [ha]
      simp [ScTerm.sampled, hb]
    · obtain ⟨a, ha⟩ := hread hown
      rw [ha]
      simp [ScTerm.sampled, hfrozen, hb, hrun]
    · obtain ⟨a, ha⟩ := hread hown
      rw [ha]
      simp [ScTerm.sampled, hfrozen, hb, Nat.not_le_of_lt hrun]
  case stuck => exact if_pos (by simp [hrole, hk, hfilt, hdue, hfault, tab, x])
  case cycle =>
    refine ⟨?_, fun hi => ?_⟩
    · have hnumber : n.scTestNumber g = s.scTestNumber g := by rw [State.scTestNumber, State.now_sc, State.scTestNumber]
      rw [State.scTestCycle_cycles, NMap.look_put_self, hnumber]
      rfl
    · have hterm := n.scTestCycle_term g i t hi
      rwa [s.scTerm_now t i] at hterm
  case unpulsed =>
    refine if_pos ?_
    rcases h with h | h
    · simp [show scTpEn s.sc.table i = false from h]
    · simp [show (s.scTerm i).filt = false from h]
  case pulsed =>
    have hfound (high : Bool) := s.scPulseTerm_found slot t i high hen hfilt hfault
    intro u
    refine ⟨fun hslot => ?_, fun hslot => ?_⟩
    · have hown : (scSlot s.sc.table i == slot.val) = true := beq_iff_eq.mpr hslot
      rw [hfound, hfound, hown]
      exact ⟨fun h => if_pos h, fun h => if_neg (Bool.eq_false_iff.mp h), rfl⟩
    · have hown : (scSlot s.sc.table i == slot.val) = false := beq_eq_false_iff_ne.mpr hslot
      rw [hfound, hfound, hown]
      exact ⟨fun h => if_pos h, fun h => if_neg (Bool.eq_false_iff.mp h), rfl⟩
end

end

section
section
/-! Proofs: the Chase's outputs and its cycle (spec/10_safety_chase.md). -/

namespace Sys2Proof.Machine

/-! ### What is read of the Chase does not change as time goes on -/

@[simp] theorem State.scModeOk_now (s : State) (t i : Nat) : (s.now t).scModeOk i = s.scModeOk i := by simp [State.scModeOk]
@[simp] theorem State.scHeldOff_now (s : State) (t i : Nat) : (s.now t).scHeldOff i = s.scHeldOff i := by simp [State.scHeldOff]
@[simp] theorem State.scState_now (s : State) (t : Nat) : (s.now t).scState = s.scState := s.rd_now t _ 0 0
@[simp] theorem State.scLaneOn_now (s : State) (t i : Nat) : (s.now t).scLaneOn i = s.scLaneOn i := by simp [State.scLaneOn]
@[simp] theorem State.scClosed_now (s : State) (t i : Nat) : (s.now t).scClosed i = s.scClosed i := by
  simp [State.scClosed, State.pwDown]
@[simp] theorem State.scLits_now (s : State) (t : Nat) : (s.now t).scLits = s.scLits := by
  simp [State.scLits, State.scLow, State.scTimerBits, State.scLiteral]

/-! ### Bits gathered into a number -/

theorem Nat.foldl_bits_lt (p : Nat → Bool) (n : Nat) : (List.range n).foldl (fun a k => if p k then a + 2 ^ k else a) 0 < 2 ^ n := by
  induction n with
  | zero => exact Nat.one_pos
  | succ n ih =>
    rw [List.range_succ, List.foldl_append, Nat.pow_succ]
    simp only [List.foldl_cons, List.foldl_nil]
    split <;> omega

/-- The bits of a number to which each index that has a property gives its own bit. -/
theorem Nat.testBit_foldl_bits (p : Nat → Bool) (n j : Nat) :
    ((List.range n).foldl (fun a k => if p k then a + 2 ^ k else a) 0).testBit j = (decide (j < n) && p j) := by
  induction n with
  | zero => simp
  | succ n ih =>
    have hlt := Nat.foldl_bits_lt p n
    rw [List.range_succ, List.foldl_append]
    simp only [List.foldl_cons, List.foldl_nil]
    generalize (List.range n).foldl (fun a k => if p k then a + 2 ^ k else a) 0 = a at hlt ih
    rcases Nat.lt_trichotomy j n with h | h | h
    · have hbit : (a + 2 ^ n).testBit j = a.testBit j := by rw [Nat.add_comm, Nat.testBit_two_pow_add_gt h]
      have hlt' : j < n + 1 := by omega
      split <;> simp [hbit, ih, h, hlt']
    · subst h
      have hbit : (a + 2 ^ j).testBit j = !a.testBit j := by rw [Nat.add_comm, Nat.testBit_two_pow_add_eq]
      by_cases hp : p j <;> simp [hp, hbit, ih]
    · have hzero : a.testBit j = false := by simp [ih, Nat.not_lt_of_lt h]
      have hbit : (a + 2 ^ n).testBit j = false := by
        refine Nat.testBit_lt_two_pow (Nat.lt_of_lt_of_le (m := 2 ^ (n + 1)) (by rw [Nat.pow_succ]; omega) (Nat.pow_le_pow_right (by decide) h))
      have hge : ¬ j < n + 1 := by omega
      split <;> simp [hbit, hzero, hge]

/-! ### The Chase cycle (R282 to R285) -/

/-- What a Chase cycle has settled once it has set its command: what follows in the cycle leaves it. -/
def State.scSettled (s : State) : (Bool × List Word × Nat × NMap ScTimer) × Word :=
  ((s.sc.ackRel, s.sc.table, s.sc.latches, s.sc.timers), s.regAt 0x90028)

theorem State.scSettled_wr (s : State) (f : Fld) (v i j : Nat) (h : 0x90028 ≠ f.addr i j) : (s.wr f v i j).scSettled = s.scSettled := by
  rw [State.scSettled, State.regAt_wr s f v i j _ h]
  rfl

theorem State.scSettled_onLanes (s : State) (g : Lane → Lane) : (s.onLanes g).scSettled = s.scSettled := by
  simp only [State.scSettled, State.onLanes_sc, State.regAt_onLanes]

theorem State.outsideRecorder_scSettled : State.OutsideRecorder State.scSettled where
  er _ _ := rfl
  staging s _ := s.scSettled_onLanes _
  raise s _ _ := ite_same State.scSettled rfl (s.scSettled_onLanes _)
  wr s f v h := s.scSettled_wr f v 0 0 (by have := f.addr_ge 0 0; omega)

theorem scTermStat_addr (f : Fld) (h : f.base = 0x90100) (i : Nat) : 0x90028 ≠ f.addr i 0 := by
  have := f.addr_ge i 0
  omega

theorem State.scSettled_termFault (s : State) (i code slot t : Nat) : (s.scTermFault i code slot t).scSettled = s.scSettled := by
  refine (State.outsideRecorder_scSettled.record _ _ _ _ _).trans (ite_same State.scSettled ?_ ?_)
  all_goals
    refine (State.scSettled_wr _ _ _ _ _ (by decide)).trans (ite_same State.scSettled ((State.scSettled_wr _ _ _ _ _ (scTermStat_addr _ rfl i)).trans ?_) ?_)
    all_goals exact (State.scSettled_wr _ _ _ _ _ (by decide)).trans (State.scSettled_wr _ _ _ _ _ (scTermStat_addr _ rfl i))

theorem State.scSettled_modeFault (s : State) (i t : Nat) : (s.scModeFault i t).scSettled = s.scSettled :=
  ite_same State.scSettled rfl (ite_same State.scSettled (s.scSettled_termFault _ _ _ _)
    (ite_same State.scSettled (s.scSettled_wr _ _ _ _ (scTermStat_addr _ rfl i)) rfl))

theorem State.scSettled_discRun (s : State) (i : Nat) : (s.scDiscRun i).scSettled = s.scSettled :=
  ite_same State.scSettled rfl rfl

theorem State.scSettled_openSince (s : State) (t : Nat) : (s.scOpenSince t).scSettled = s.scSettled := by
  refine foldl_same State.scSettled _ (fun s i => ?_) _ _
  exact ite_same State.scSettled (ite_same State.scSettled rfl (ite_same State.scSettled rfl rfl)) rfl

theorem State.scSettled_deliver (s : State) (t : Nat) : (s.scDeliver t).scSettled = s.scSettled := by
  unfold State.scDeliver
  split
  · exact (State.scSettled_onLanes _ _).trans (s.scSettled_onLanes _)
  · rfl

/-- The latches after a cycle. -/
def State.scLatched (s : State) : Nat :=
  (List.range 8).foldl (fun a k =>
    if (s.sc.latches.testBit k || scEquation s.sc.table s.scLits (40 + k)) && !scEquation s.sc.table s.scLits (48 + k) then a + 2 ^ k else a) 0

/-- The timers after a cycle. -/
def State.scTimed (s : State) : NMap ScTimer :=
  (List.range 8).map fun k =>
    (k, scTimerStep (scTimerW s.sc.table k) (NMap.get s.sc.timers {} k) (scEquation s.sc.table s.scLits (32 + k)))

/-- The command of the equations of a cycle, less what is held off. -/
def State.scCommand (s : State) : Nat :=
  (List.range 32).foldl (fun a i => if scEquation s.sc.table s.scLits i && !s.scHeldOff i then a + 2 ^ i else a) 0

/-- The literals that a cycle shows, and its command; what follows in the cycle leaves what they settle. -/
theorem State.scCycle_settles (s : State) (t : Nat) (h : s.pw.frozen = false) : ∃ low hi : Nat,
    (s.scCycle true t).scSettled =
      (((({ s with sc := { s.sc with timers := s.scTimed, latches := s.scLatched, ackRel := false } } : State).wr R.SC_LIT_LIT low 0).wr
        R.SC_LIT_LIT hi 1).wr R.SC_CHASE_CMD_CMD (if s.scState = csNormal then s.scCommand else 0) 0).scSettled := by
  rw [State.scCycle, if_neg (by rw [h]; decide)]
  refine ⟨_, _, (State.scSettled_deliver _ _).trans ((State.scSettled_openSince _ _).trans
    (foldl_same State.scSettled (fun s i => (s.scModeFault i t).scDiscRun i) (fun s i => ?_) _ _))⟩
  exact (State.scSettled_discRun _ _).trans (s.scSettled_modeFault i t)

theorem State.scCycle_shows (s : State) (t : Nat) (h : s.pw.frozen = false) :
    let u := s.scCycle true t
    u.sc.ackRel = false ∧ u.sc.table = s.sc.table ∧ u.sc.latches = s.scLatched ∧ u.sc.timers = s.scTimed ∧
      (Cells.wf s.rf.eff = true → u.rd R.SC_CHASE_CMD_CMD 0 = (if s.scState = csNormal then s.scCommand else 0) % 2 ^ 32) := by
  intro u
  obtain ⟨low, hi, hu⟩ := s.scCycle_settles t h
  have hsc := congrArg Prod.fst hu
  refine ⟨congrArg (fun c => c.1) hsc, congrArg (fun c => c.2.1) hsc, congrArg (fun c => c.2.2.1) hsc, congrArg (fun c => c.2.2.2) hsc,
    fun hwf => (State.rd_of_regAt R.SC_CHASE_CMD_CMD 0 0 (congrArg Prod.snd hu)).trans ?_⟩
  exact Cells.rd_wr_self _ _ _ 0 0 (Cells.wf_wr _ _ _ _ _ (Cells.wf_wr _ _ _ _ _ hwf)) (by decide)

/-- Two evaluations that differ are a Chase fault once the cycle is over (R284). -/
theorem State.scCycle_disagrees (s : State) (t : Nat) (h : s.pw.frozen = false) :
    s.scCycle false t = (s.scCycle true t).scFault scEval t := by
  have hneg : ¬ s.pw.frozen = true := by rw [h]; decide
  exact (if_neg hneg).trans (congrArg (fun u : State => u.scFault scEval t) (if_neg hneg).symm)

end Sys2Proof.Machine

open Sys2Proof Sys2Proof.Machine

/-- Settles O39. -/
theorem chaseCycleAndTests : Obligations.ChaseCycleAndTests := by
  refine ⟨fun s i mv ug t hl hsleep => ?tests, fun s t hl hsleep => ?cycle⟩
  case tests =>
    intro n x c
    have hterm : n.scTerm i = x := s.scTerm_now t i
    have hrole : n.scRoleOf i = s.scRoleOf i := s.scRoleOf_now t i
    have hfault : n.scFaultOf i = s.scFaultOf i := s.scFaultOf_now t i
    refine ⟨fun hr hperiod hclosed hon hdark => s.leaves_runAwake _ t _ _ hl hsleep rfl ?_, fun hdark => s.leaves_runAwake _ t _ _ hl hsleep rfl ?_,
      fun lane hdark => ⟨fun hlow => s.leaves_runAwake _ t _ _ hl hsleep rfl ?_, fun hlow => s.leaves_runAwake _ t _ _ hl hsleep rfl ?_⟩,
      fun a hr hopen hsince hlevel hat hf => s.leaves_runAwake _ t _ _ hl hsleep rfl ?_, fun hopen => s.leaves_runAwake _ t _ _ hl hsleep rfl ?_,
      fun hrun hset => s.leaves_runAwake _ t _ _ hl hsleep rfl ?_, fun hrun => s.leaves_runAwake _ t _ _ hl hsleep rfl ?_⟩
    · show (n.scDarkStart i).chRefresh c = _
      rw [State.scDarkStart, hterm, if_pos (by simp [n, hr, hperiod, hclosed, hon, hdark])]
    · show (n.scDarkEnd i mv ug t).chRefresh c = _
      rw [State.scDarkEnd, hterm, hdark]
    · show (n.scDarkEnd i mv ug t).chRefresh c = _
      rw [State.scDarkEnd, hterm, hdark]
      exact congrArg (fun u : State => u.chRefresh c) (if_pos (by rw [hlow]; rfl))
    · show (n.scDarkEnd i mv ug t).chRefresh c = _
      rw [State.scDarkEnd, hterm, hdark]
      exact congrArg (fun u : State => u.chRefresh c) (if_neg (by simpa using hlow))
    · show n.scExtPotential i t = _
      rw [State.scExtPotential, hterm, if_pos (by simp [hrole, hfault, hr, hf, hlevel, hat, ScTerm.openSince, hopen, hsince])]
    · show n.scExtPotential i t = _
      rw [State.scExtPotential, hterm, if_neg (by simp [ScTerm.openSince, hopen])]
    · show n.scDisc i t = _
      rw [State.scDisc, hterm, if_pos ⟨hrun, hset⟩]
    · show n.scDisc i t = _
      rw [State.scDisc, hterm, if_neg fun h => absurd h.1 (Nat.not_le_of_lt hrun)]
  case cycle =>
    intro tab eq
    have hfrozen : (s.now t).pw.frozen = false := by rw [State.now_pw, (s.pw_of_live hl).2.1]
    refine ⟨⟨(s.now t).scCycle true t, s.leaves_runAwake _ t _ _ hl hsleep rfl rfl, ?_⟩, s.leaves_runAwake _ t _ _ hl hsleep rfl ?_⟩
    · dsimp only
      obtain ⟨hack, htab, hlatch, htime, hcmd⟩ := (s.now t).scCycle_shows t hfrozen
      refine ⟨hack, by rw [htab, State.now_sc], fun k hk => ?_, fun k hk => ?_, fun hwf hst j hj => ?_, fun hwf hst => ?_⟩
      · rw [hlatch, State.scLatched, Nat.testBit_foldl_bits, State.now_sc, State.scLits_now]
        simp [hk, eq, tab]
      · rw [htime, State.scTimed, State.now_sc, State.scLits_now]
        obtain rfl | rfl | rfl | rfl | rfl | rfl | rfl | rfl : k = 0 ∨ k = 1 ∨ k = 2 ∨ k = 3 ∨ k = 4 ∨ k = 5 ∨ k = 6 ∨ k = 7 := by omega
        all_goals rfl
      · rw [hcmd (by rwa [State.now_rf]), State.scState_now, if_pos hst, Nat.testBit_mod_two_pow, State.scCommand, Nat.testBit_foldl_bits,
          State.now_sc, State.scLits_now, State.scHeldOff_now]
        simp [hj, eq, tab]
      · rw [hcmd (by rwa [State.now_rf]), State.scState_now, if_neg hst, Nat.zero_mod]
    · exact (s.now t).scCycle_disagrees t hfrozen
end

end

section
section
/-! Proofs: the states and faults of the Chase (spec/10_safety_chase.md). -/

namespace Sys2Proof.Machine

@[simp] theorem State.stopped_now (s : State) (t : Nat) : (s.now t).stopped = s.stopped := by simp [State.stopped]
@[simp] theorem State.scElapsed_now (s : State) (t v : Nat) : (s.now t).scElapsed v = s.scElapsed v := by simp [State.scElapsed]
@[simp] theorem State.scLimit_now (s : State) (t : Nat) : (s.now t).scLimit = s.scLimit := by simp [State.scLimit]

/-- A field of a register after the write of a value other than 0 to another field of it. -/
theorem State.rd_wr_past (s : State) (f g : Fld) (v i j : Nat) (ha : f.addr i j = g.addr i j) (hf : f.lo + f.width ≤ 32)
    (hg : g.lo + g.width ≤ 32) (h : f.lo + f.width ≤ g.lo ∨ g.lo + g.width ≤ f.lo) (hv : v % 2 ^ g.width ≠ 0) :
    (s.wr g v i j).rd f i j = s.rd f i j :=
  Lane.rd_wr_disjoint_of_ne_zero { rf := s.rf } f g v i j ha hf hg h hv

/-- The Chase in its new state, before its flag, its bypass and its record follow (R286, R288). -/
def State.scTurned (s : State) (st t : Nat) : State :=
  let el := s.scElapsed t
  let s1 := (s.wr R.SC_DEGR_ELAPSED el).wr R.SC_STATE_STATE st
  let s2 : State := if st = csDegraded then { s1 with sc := { s1.sc with degrAt := t, degrBase := el, degrFlash := el } } else s1
  if st = csNormal then s2 else s2.wr R.SC_CHASE_CMD_CMD 0

theorem State.scEnter_eq (s : State) (st t : Nat) (h : s.scState ≠ st) : ∃ d,
    s.scEnter st t = ((s.scTurned st t).flagIf (st == csExpired) R.SC_FLAGS_EXPIRED_SEEN).scBypass.record .sc 0x0401 d t :=
  ⟨_, if_neg h⟩

theorem State.regAt_scTurned (s : State) (st t a : Nat) (hcmd : a ≠ 0x90028) :
    (s.scTurned st t).regAt a = ((s.wr R.SC_DEGR_ELAPSED (s.scElapsed t)).wr R.SC_STATE_STATE st).regAt a :=
  ite_same (fun s : State => s.regAt a) (ite_same (fun s : State => s.regAt a) rfl rfl)
    ((State.regAt_wr _ _ _ _ _ _ hcmd).trans (ite_same (fun s : State => s.regAt a) rfl rfl))

theorem State.rd_scTurned (s : State) (st t : Nat) (f : Fld) (hcmd : f.addr ≠ 0x90028) :
    (s.scTurned st t).rd f = ((s.wr R.SC_DEGR_ELAPSED (s.scElapsed t)).wr R.SC_STATE_STATE st).rd f :=
  State.rd_of_regAt f 0 0 (s.regAt_scTurned st t _ hcmd)

theorem State.scTurned_degrAt (s : State) (t : Nat) : (s.scTurned csDegraded t).sc.degrAt = t := by
  rw [State.scTurned, if_neg (by decide), if_pos rfl]
  rfl

/-- A state register that shows a cause, and the flags, once the Chase is in its new state. -/
theorem State.scTurned_shows (s : State) (st t : Nat) (hcause : s.rd R.SC_STATE_CAUSE ≠ 0) (hst : st < 8) :
    let e := s.scTurned st t
    e.rd R.SC_STATE_CAUSE = s.rd R.SC_STATE_CAUSE ∧ e.scState = st ∧ e.vstate = s.vstate ∧
      e.rd R.SC_FLAGS_CHASE_FAULT = s.rd R.SC_FLAGS_CHASE_FAULT := by
  intro e
  have hbefore : (s.wr R.SC_DEGR_ELAPSED (s.scElapsed t)).rd R.SC_STATE_CAUSE = s.rd R.SC_STATE_CAUSE :=
    State.rd_wr_ne _ _ _ _ _ _ _ _ (by decide)
  have hbefore' := hbefore.symm ▸ hcause
  have hapart (f : Fld) (hcmd : f.addr ≠ 0x90028) (hstate : f.addr ≠ 0x90000) (hdegr : f.addr ≠ 0x9000c) : e.rd f = s.rd f :=
    (s.rd_scTurned st t f hcmd).trans ((State.rd_wr_ne _ _ _ _ _ _ _ _ hstate).trans (State.rd_wr_ne _ _ _ _ _ _ _ _ hdegr))
  refine ⟨?_, ?_, hapart R.VT_STATE_STATE (by decide) (by decide) (by decide), hapart _ (by decide) (by decide) (by decide)⟩
  · refine (s.rd_scTurned st t _ (by decide)).trans (Eq.trans ?_ hbefore)
    exact State.rd_wr_disjoint_of_ne_zero _ R.SC_STATE_CAUSE R.SC_STATE_STATE st 0 0 rfl (by decide) (by decide) (by decide) hbefore'
  · refine (s.rd_scTurned st t R.SC_STATE_STATE (by decide)).trans (Eq.trans ?_ (Nat.mod_eq_of_lt hst))
    exact State.rd_wr_beside _ R.SC_STATE_STATE R.SC_STATE_CAUSE st 0 0 rfl (by decide) (by decide) (by decide) hbefore'

/-- What a change of state leaves in a state register that shows a cause. -/
theorem State.scEnter_shows (s : State) (st t : Nat) (hcause : s.rd R.SC_STATE_CAUSE ≠ 0) (hst : st < 8) (hne : s.scState ≠ st) :
    let u := s.scEnter st t
    u.rd R.SC_STATE_CAUSE = s.rd R.SC_STATE_CAUSE ∧ u.scState = st ∧
      u.rd R.SC_STATE_BYPASS = (if st = csDegraded ∧ s.vstate = vsTriplex then 1 else 0) ∧
      (s.rd R.SC_FLAGS_CHASE_FAULT = 1 → u.rd R.SC_FLAGS_CHASE_FAULT = 1) := by
  intro u
  obtain ⟨d, hu⟩ := s.scEnter_eq st t hne
  obtain ⟨hturned, hstate, hvstate, hfault⟩ := s.scTurned_shows st t hcause hst
  generalize s.scTurned st t = e at hu hturned hstate hvstate hfault
  generalize hw : e.flagIf (st == csExpired) R.SC_FLAGS_EXPIRED_SEEN = w at hu
  have hread (f : Fld) (hf : f.addr < 0x170000) : u.rd f = w.scBypass.rd f :=
    State.rd_of_regAt f 0 0 (by rw [show u = _ from hu, State.regAt_record _ _ _ _ _ _ hf])
  have hflagged (f : Fld) (hflags : f.addr ≠ 0x90200) : w.rd f = e.rd f :=
    State.rd_of_regAt f 0 0 (by rw [← hw, State.regAt_flagIf _ _ _ _ _ hflags])
  have hcause' : w.rd R.SC_STATE_CAUSE ≠ 0 := by rwa [hflagged _ (by decide), hturned]
  refine ⟨?_, ?_, ?_, fun h => ?_⟩
  · refine (hread _ (by decide)).trans (Eq.trans ?_ ((hflagged _ (by decide)).trans hturned))
    exact w.rd_wr_disjoint_of_ne_zero R.SC_STATE_CAUSE R.SC_STATE_BYPASS _ 0 0 rfl (by decide) (by decide) (by decide) hcause'
  · refine (hread R.SC_STATE_STATE (by decide)).trans (Eq.trans ?_ ((hflagged _ (by decide)).trans hstate))
    exact w.rd_wr_beside_disjoint R.SC_STATE_BYPASS R.SC_STATE_CAUSE R.SC_STATE_STATE _ 0 0 rfl rfl (by decide) (by decide) (by decide)
      (by decide) (by decide) hcause'
  · refine (hread _ (by decide)).trans ((w.rd_wr_beside R.SC_STATE_BYPASS R.SC_STATE_CAUSE _ 0 0 rfl (by decide) (by decide) (by decide)
      hcause').trans ?_)
    have hs : w.scState = st := (hflagged R.SC_STATE_STATE (by decide)).trans hstate
    have hv : w.vstate = s.vstate := (hflagged R.VT_STATE_STATE (by decide)).trans hvstate
    rw [hs, hv]
    split <;> rfl
  · refine (hread _ (by decide)).trans ((State.rd_wr_ne _ _ _ _ _ _ _ _ (by decide)).trans ?_)
    have hone : e.rd R.SC_FLAGS_CHASE_FAULT = 1 := hfault.trans h
    rw [← hw]
    unfold State.flagIf
    split
    · exact (e.rd_wr_disjoint_of_ne_zero R.SC_FLAGS_CHASE_FAULT R.SC_FLAGS_EXPIRED_SEEN 1 0 0 rfl (by decide) (by decide) (by decide)
        (by rw [hone]; decide)).trans hone
    · exact hone

theorem State.outsideRecorder_sc : State.OutsideRecorder State.sc where
  er _ _ := rfl
  staging s _ := s.onLanes_sc _
  raise s _ _ := ite_same State.sc rfl (s.onLanes_sc _)
  wr _ _ _ _ := rfl

/-- The degraded time starts as the Chase becomes DEGRADED (R288). -/
theorem State.scEnter_degrAt (s : State) (t : Nat) (hne : s.scState ≠ csDegraded) : (s.scEnter csDegraded t).sc.degrAt = t := by
  obtain ⟨d, hu⟩ := s.scEnter_eq csDegraded t hne
  rw [hu, State.outsideRecorder_sc.record]
  exact s.scTurned_degrAt t

/-- A Chase fault shows its cause (R287). -/
theorem State.scFault_first (s : State) (cause : Nat) (h1 : 1 ≤ cause) (h8 : cause < 8) :
    let s1 := ((s.wr R.SC_STATE_CAUSE cause).wr R.SC_FLAGS_CHASE_FAULT 1).bump R.SC_FAULT_CNT_CHASE
    s1.rd R.SC_STATE_CAUSE = cause ∧ s1.rd R.SC_FLAGS_CHASE_FAULT = 1 ∧ s1.scState = s.scState ∧ s1.vstate = s.vstate := by
  intro s1
  have hne : cause % 2 ^ R.SC_STATE_CAUSE.width ≠ 0 := by
    show cause % 16 ≠ 0
    omega
  have hkept (f : Fld) (hflags : f.addr ≠ 0x90200) (hcnt : f.addr ≠ 0x90204) : s1.rd f = (s.wr R.SC_STATE_CAUSE cause).rd f :=
    (State.rd_wr_ne _ _ _ _ _ _ _ _ hcnt).trans (State.rd_wr_ne _ _ _ _ _ _ _ _ hflags)
  refine ⟨?_, ?_, ?_, ?_⟩
  · rw [hkept _ (by decide) (by decide), State.rd_wr_of_ne_zero _ _ _ _ _ (by decide) hne]
    show cause % 16 = cause
    omega
  · exact (State.rd_wr_ne _ _ _ _ _ _ _ _ (by decide)).trans (State.rd_wr_of_ne_zero _ _ _ _ _ (by decide) (by decide))
  · exact (hkept R.SC_STATE_STATE (by decide) (by decide)).trans (State.rd_wr_past _ _ _ _ _ _ rfl (by decide) (by decide) (by decide) hne)
  · exact (hkept R.VT_STATE_STATE (by decide) (by decide)).trans (State.rd_wr_ne _ _ _ _ _ _ _ _ (by decide))

/-- A Chase fault and its transition (R287), by the state it finds. -/
theorem State.scFault_eq (s : State) (cause t : Nat) :
    let s1 := ((s.wr R.SC_STATE_CAUSE cause).wr R.SC_FLAGS_CHASE_FAULT 1).bump R.SC_FAULT_CNT_CHASE
    s.scFault cause t =
      if s1.scState = csTest then
        if s1.scLimit ≤ s1.scElapsed t then s1.scEnter csExpired t
        else if s1.vstate = vsTriplex then s1.scEnter csDegraded t
        else s1.scEnter csHeld t
      else if s1.scState = csNormal then
        if s1.vstate = vsTriplex then s1.scEnter csDegraded t else s1.scEnter csHeld t
      else s1 := rfl

end Sys2Proof.Machine

open Sys2Proof Sys2Proof.Machine

/-- Settles O40. -/
theorem chaseStatesAndFaults : Obligations.ChaseStatesAndFaults := by
  refine ⟨fun s t hl hsleep => ?states, fun s cause t h1 h8 => ?faults⟩
  case states =>
    intro n
    have hst : n.scState = s.scState := s.scState_now t
    have hsc : n.sc = s.sc := s.now_sc t
    refine ⟨fun h => ⟨s.leaves_runAwake _ t _ _ hl hsleep rfl ?_, s.leaves_runAwake _ t _ _ hl hsleep rfl ?_⟩,
      s.leaves_runAwake _ t _ _ hl hsleep rfl rfl, s.leaves_runAwake _ t _ _ hl hsleep rfl rfl,
      s.leaves_runAwake _ t _ _ hl hsleep rfl rfl, s.leaves_runAwake _ t _ _ hl hsleep rfl rfl,
      s.leaves_runAwake _ t _ _ hl hsleep rfl ?_, fun h => s.leaves_runAwake _ t _ _ hl hsleep rfl ?_,
      fun h => s.leaves_runAwake _ t _ _ hl hsleep rfl ?_,
      fun h => ⟨s.leaves_run _ t _ _ hl rfl ?_, s.leaves_run _ t _ _ hl rfl ?_⟩,
      fun h => ⟨s.leaves_run _ t _ _ hl rfl ?_, s.leaves_run _ t _ _ hl rfl ?_⟩,
      fun h hlim => s.leaves_run _ t _ _ hl rfl ?_, fun h hlim => s.leaves_run _ t _ _ hl rfl ?_,
      fun h hlim => s.leaves_run _ t _ _ hl rfl ?_, fun h => s.leaves_run _ t _ _ hl rfl ?_⟩
    · show n.scTestEnd true t = _
      rw [State.scTestEnd, if_neg (by simp [hst, h]), if_pos rfl, hsc]
    · show n.scTestEnd false t = _
      rw [State.scTestEnd, if_neg (by simp [hst, h])]
      rfl
    · show n.scHeartbeat false t = _
      rw [State.scHeartbeat, hsc]
      rfl
    · show n.scHeartbeat true t = _
      rw [State.scHeartbeat, hsc, if_pos rfl]
      dsimp only
      rw [if_neg (by omega), Nat.min_eq_left (by omega)]
    · show n.scHeartbeat true t = _
      rw [State.scHeartbeat, hsc, if_pos rfl]
      dsimp only
      rw [h]
      rfl
    · exact if_pos (by rw [State.stopped_now, h])
    · exact congrArg State.allOut (if_pos (by rw [State.stopped_now, h]))
    · exact if_neg (by rw [State.stopped_now, h]; decide)
    · exact congrArg State.allOut (if_neg (by rw [State.stopped_now, h]; decide))
    · show n.scLimitReached t = _
      rw [State.scLimitReached, if_pos (by simp [n, h, hlim]), State.scLimit_now]
    · exact if_neg (by simp [Nat.not_le_of_lt hlim])
    · exact if_pos (by simp [h, hlim])
    · show n.scRecordTime t = _
      rw [State.scRecordTime, if_pos (by rw [hst, h]), hsc, State.scElapsed_now]
  case faults =>
    intro u
    obtain ⟨hcause, hfault, hstate, hvstate⟩ := s.scFault_first cause h1 h8
    have hu : u = _ := State.scFault_eq s cause t
    generalize ((s.wr R.SC_STATE_CAUSE cause).wr R.SC_FLAGS_CHASE_FAULT 1).bump R.SC_FAULT_CNT_CHASE = s1 at hcause hfault hstate hvstate hu
    have hne : s1.rd R.SC_STATE_CAUSE ≠ 0 := by omega
    have henter (st : Nat) (hst : st < 8) (h : s1.scState ≠ st) := s1.scEnter_shows st t hne hst h
    have hshown (st : Nat) (hst : st < 8) (h : s1.scState ≠ st) : (s1.scEnter st t).rd R.SC_STATE_CAUSE = cause ∧
        (s1.scEnter st t).rd R.SC_FLAGS_CHASE_FAULT = 1 :=
      ⟨(henter st hst h).1.trans hcause, (henter st hst h).2.2.2 hfault⟩
    have hboth : u.rd R.SC_STATE_CAUSE = cause ∧ u.rd R.SC_FLAGS_CHASE_FAULT = 1 := by
      rw [hu]
      split
      · next htest =>
        have h (st : Nat) (hst : st ≠ 0) : s1.scState ≠ st := fun h => hst (h.symm.trans htest)
        split
        · exact hshown _ (by decide) (h _ (by decide))
        · split
          · exact hshown _ (by decide) (h _ (by decide))
          · exact hshown _ (by decide) (h _ (by decide))
      · split
        · next hnormal =>
          have h (st : Nat) (hst : st ≠ 1) : s1.scState ≠ st := fun h => hst (h.symm.trans hnormal)
          split
          · exact hshown _ (by decide) (h _ (by decide))
          · exact hshown _ (by decide) (h _ (by decide))
        · exact ⟨hcause, hfault⟩
    have hnormal (h : s.scState = csNormal) : s1.scState = csNormal := hstate.trans h
    have hdown (h : s.scState = csNormal) : u = if s1.vstate = vsTriplex then s1.scEnter csDegraded t else s1.scEnter csHeld t := by
      rw [hu, if_neg (by rw [hnormal h]; decide), if_pos (hnormal h)]
    refine ⟨hboth.1, hboth.2, fun h htri => ?_, fun h htri => ?_, fun h => ?_⟩
    · have hv : s1.vstate = vsTriplex := by rw [hvstate]; exact beq_iff_eq.mp htri
      have hne1 : s1.scState ≠ csDegraded := by rw [hnormal h]; decide
      obtain ⟨-, hto, hbypass, -⟩ := henter csDegraded (by decide) hne1
      rw [hdown h, if_pos hv]
      exact ⟨hto, hbypass.trans (if_pos ⟨rfl, hv⟩), s1.scEnter_degrAt t hne1⟩
    · have hv : s1.vstate ≠ vsTriplex := by rw [hvstate]; exact beq_eq_false_iff_ne.mp htri
      obtain ⟨-, hto, hbypass, -⟩ := henter csHeld (by decide) (by rw [hnormal h]; decide)
      rw [hdown h, if_neg hv]
      exact ⟨hto, hbypass.trans (if_neg fun h => absurd h.1 (by decide))⟩
    · have hstays : u = s1 := by
        rw [hu, if_neg (by rw [hstate]; rcases h with h | h | h <;> rw [h] <;> decide),
          if_neg (by rw [hstate]; rcases h with h | h | h <;> rw [h] <;> decide)]
      rw [hstays, hstate]
end

end

section
section
/-! Proofs: groups of field channels and what opens an output, samples, frames and commits (spec/11_field_digital.md). -/

namespace Sys2Proof.Machine

/-! ### What is read of a channel does not change as time goes on -/

@[simp] theorem State.ch_now (s : State) (t c : Nat) : (s.now t).ch c = s.ch c := by rw [State.ch, State.now_chan, State.ch]
@[simp] theorem State.group_now (s : State) (t g : Nat) : (s.now t).group g = s.group g := by rw [State.group, State.now_grp, State.group]
@[simp] theorem State.chMode_now (s : State) (t c : Nat) : (s.now t).chMode c = s.chMode c := s.rd_now t _ c 0
@[simp] theorem State.chFault_now (s : State) (t c : Nat) : (s.now t).chFault c = s.chFault c := s.rd_now t _ c 0
@[simp] theorem State.powered_now (s : State) (t c : Nat) : (s.now t).powered c = s.powered c := by simp [State.powered]
@[simp] theorem State.tripped_now (s : State) (t c : Nat) : (s.now t).tripped c = s.tripped c := by simp [State.tripped]
@[simp] theorem State.feedLow_now (s : State) (t c : Nat) : (s.now t).feedLow c = s.feedLow c := by simp [State.feedLow]
@[simp] theorem State.inTransition_now (s : State) (t c : Nat) : (s.now t).inTransition c = s.inTransition c := by
  simp [State.inTransition]
@[simp] theorem State.samples_now (s : State) (t c : Nat) : (s.now t).samples c = s.samples c := by simp [State.samples]
@[simp] theorem State.parMembers_now (s : State) (t c : Nat) : (s.now t).parMembers c = s.parMembers c := by simp [State.parMembers]
@[simp] theorem State.parLeader_now (s : State) (t c : Nat) : (s.now t).parLeader c = s.parLeader c := by simp [State.parLeader]
@[simp] theorem State.frame0_now (s : State) (t g : Nat) : (s.now t).frame0 g = s.frame0 g := by simp [State.frame0]
@[simp] theorem State.frame1_now (s : State) (t g : Nat) : (s.now t).frame1 g = s.frame1 g := by simp [State.frame1]
@[simp] theorem State.inputFrame_now (s : State) (t g : Nat) : (s.now t).inputFrame g = s.inputFrame g := by
  simp [State.inputFrame]

/-! ### What opens a channel's switch (R270, R299, R319, R325 to R328) -/

/-- What opens the switch of every channel. -/
theorem State.chOnNow_off (s : State) (c : Nat) (h : s.powered c = false ∨ s.isSafe = true ∨ s.pwDown = true ∨ s.inTransition c = true) :
    s.chOnNow c = false :=
  if_pos (by rcases h with h | h | h | h <;> simp [h])

/-- A channel that is no output and no test-pulse source has no switch. -/
theorem State.chOnNow_mode (s : State) (c : Nat) (htp : s.chMode c ≠ cmTp) (hhs : isHs (s.chMode c) = false)
    (hao : isAo (s.chMode c) = false) : s.chOnNow c = false := by
  simp [State.chOnNow, htp, hhs, hao]

/-- What opens the switch of a high-side output. -/
theorem State.chOnNow_hs (s : State) (c : Nat) (hhs : isHs (s.chMode c) = true) (htp : s.chMode c ≠ cmTp)
    (h : s.tripped c = true ∨ s.overvolt c = true ∨ s.chStopOff c = true ∨ (s.ch c).backfed = true ∨ s.chFault c = fcShort ∨
      s.scOpens c = true ∨ (s.fieldLeased (c / 16) = true ∧ s.acting = false) ∨ (s.ch (s.parLeader c)).commits = false) :
    s.chOnNow c = false := by
  have hoff : (!(s.fieldLeased (c / 16) && !s.acting) && !s.overvolt c && !s.tripped c && !(s.ch c).backfed && s.chFault c != fcShort &&
      (s.ch (s.parLeader c)).commits && !s.scOpens c && !s.chStopOff c && s.chWanted c) = false := by
    rcases h with h | h | h | h | h | h | ⟨h, h'⟩ | h
    all_goals simp [*]
  refine ite_same (fun b => b) rfl ((if_neg htp).trans ((if_pos hhs).trans hoff))

/-! ### Samples (R309 to R312) -/

@[simp] theorem State.ch_setCh_self (s : State) (c : Nat) (x : FdChan) : (s.setCh c x).ch c = x := NMap.get_put_self _ _ _ _
theorem State.ch_setCh_ne (s : State) (c d : Nat) (x : FdChan) (h : d ≠ c) : (s.setCh c x).ch d = s.ch d := NMap.get_put_ne _ _ _ _ _ h
@[simp] theorem State.raise_chan (s : State) (n t : Nat) : (s.raise n t).chan = s.chan := ite_same State.chan rfl (s.onLanes_chan _)
@[simp] theorem State.chSetValue_chan (s : State) (c : Nat) (v : Bool) (t : Nat) : (s.chSetValue c v t).chan = s.chan :=
  ite_same State.chan (State.raise_chan _ _ _) rfl

/-- The channel after a sample of raw level `b`. -/
def FdChan.sampled (x : FdChan) (b : Bool) (mv : Int) (n t : Nat) : FdChan :=
  let same := x.raw == some b
  let run := if same then min (x.run + 1) n else 1
  let hit := decide (n ≤ run)
  let filt := if hit then some b else x.filt
  { x with mv := mv, raw := some b, run := run, filt := filt, changedAt := if same then x.changedAt else t,
           acceptAt := if hit then t else x.acceptAt,
           edgeAt := if x.raw == some (!b) then some t else x.edgeAt,
           oneAt := if filt == some true && x.filt != some true then t else x.oneAt }

theorem State.chSampleIn_chan (s : State) (c : Nat) (mv ug : Int) (b : Bool) (t : Nat)
    (h : chLevel (s.rd R.CH_CFG_UN c) mv ug = some b) :
    (s.chSampleIn c mv ug t).ch c = (s.ch c).sampled b mv (chFilter (s.rd R.CH_MODE_FILTER c)) t := by
  have hchan : (s.chSampleIn c mv ug t).chan = (s.setCh c ((s.ch c).sampled b mv (chFilter (s.rd R.CH_MODE_FILTER c)) t)).chan := by
    rw [State.chSampleIn, h]
    dsimp only
    split
    · rfl
    · refine ite_same State.chan ?_ ?_
      all_goals exact (State.chSetValue_chan _ _ _ _).trans (ite_same State.chan rfl rfl)
  exact (congrArg (fun m : NMap FdChan => NMap.get m {} c) hchan).trans (State.ch_setCh_self _ _ _)

end Sys2Proof.Machine

open Sys2Proof Sys2Proof.Machine

/-- Settles O41. -/
theorem groupsAndOutputs : Obligations.GroupsAndOutputs := by
  refine ⟨fun s g t hl => ?groups, fun s c t => ?outputs⟩
  case groups =>
    intro n on
    have hrd (f : Fld) : n.rd f g = s.rd f g := s.rd_now t f g 0
    refine ⟨fun hen hoff hrev => s.leaves_run _ t _ _ hl rfl (if_neg ?_), fun hen => s.leaves_run _ t _ _ hl rfl (if_pos (Or.inl ?_)),
      fun hon => s.leaves_run _ t _ _ hl rfl (if_neg ?_),
      fun hoff => ⟨s.leaves_run _ t _ _ hl rfl (if_pos ?_), s.leaves_run _ t _ _ hl rfl (if_pos ?_), s.leaves_run _ t _ _ hl rfl ?_⟩,
      fun hon => s.leaves_run _ t _ _ hl rfl (if_neg ?_), s.leaves_run _ t _ _ hl rfl rfl,
      fun hon hsleep => s.leaves_runAwake _ t _ _ hl hsleep rfl (if_neg ?_)⟩
    · show ¬ (n.rd _ g = 0 ∨ n.rd _ g = 1 ∨ n.rd _ g = 1)
      rw [hrd, hrd, hrd, show s.rd R.CH_GRP_STAT_POWERED g = 0 from hoff, hrev]
      simp [hen]
    · exact (hrd _).trans hen
    · exact fun h => hon ((hrd _).symm.trans h)
    · exact (hrd _).trans hoff
    · exact (hrd _).trans hoff
    · exact ite_same (fun u : State => u) rfl (if_pos ((hrd _).trans hoff))
    · exact fun h => hon ((hrd _).symm.trans h)
    · exact fun h => hon ((hrd _).symm.trans h)
  case outputs =>
    refine ⟨fun h => ?_, fun hhs htp h => s.chOnNow_hs c hhs htp h, fun htp hoff => ?_, fun hpwm hlow => ?_, fun hon htp hpwm => ?_⟩
    · rcases h with h | h | h | h | ⟨htp, hhs, hao⟩
      · exact s.chOnNow_off c (.inl h)
      · exact s.chOnNow_off c (.inr (.inl h))
      · exact s.chOnNow_off c (.inr (.inr (.inl h)))
      · exact s.chOnNow_off c (.inr (.inr (.inr h)))
      · exact s.chOnNow_mode c htp hhs hao
    · simp [State.chSwitch, htp, hoff]
    · rw [State.chSwitch, if_neg (by rw [hpwm]; decide), if_pos hpwm, hlow, Bool.and_false]
    · rw [State.chSwitch, hon, if_neg htp, if_neg hpwm]
      rfl

/-- Settles O42. -/
theorem samplesAndFrames : Obligations.SamplesAndFrames := by
  refine ⟨⟨fun s g ug ig rail mvs mas cool t hl => ?sample, fun s c mv ug b t hlevel hraw hrun => ?filter⟩, fun s g t hl hsleep => ?frames⟩
  case sample =>
    intro n
    have hrd (f : Fld) : n.rd f g = s.rd f g := s.rd_now t f g 0
    refine ⟨fun hsleep hwake => s.leaves_run _ t _ _ hl rfl (if_pos (by simp [hsleep, hwake])), fun hwake hug => ?_⟩
    intro shown
    have hskip : ¬ ((s.now t).pwState = psSleep && !((s.now t).rd R.PW_WAKE_GRP).testBit g) = true := by
      rcases hwake with h | h <;> simp [h]
    have hneg : ¬ ug < 0 := by omega
    have hshown : n.fieldSample g ug ig rail mvs mas cool t =
        if s.rd R.CH_GRP_STAT_POWERED g = 0 then (chansOf g).foldl (fun s c => s.chUnpowered c t) shown
        else (chansOf g).foldl (fun s c => if s.samples c then s.chShow c else s) ((List.range 16).foldl (fun s k =>
          if s.samples (16 * g.val + k) then s.chSample (16 * g.val + k) (mvs.getD k 0) ug (mas.getD k 0) (cool.getLsbD k) t else s) shown) := by
      rw [State.fieldSample, hrd, if_neg hneg, decide_eq_false hneg]
      rfl
    refine ⟨fun hon => s.leaves_run _ t _ _ hl rfl ((if_neg hskip).trans ?_), fun hoff => s.leaves_run _ t _ _ hl rfl ((if_neg hskip).trans ?_)⟩
    · exact congrArg (fun u : State => u.switchMargins g ug mvs mas t) (hshown.trans (if_neg hon))
    · exact congrArg (fun u : State => u.switchMargins g ug mvs mas t) (hshown.trans (if_pos hoff))
  case filter =>
    intro u
    have hu : u.ch c = (s.ch c).sampled b mv (chFilter (s.rd R.CH_MODE_FILTER c)) t := s.chSampleIn_chan c mv ug b t hlevel
    have hmin : min ((s.ch c).run + 1) (chFilter (s.rd R.CH_MODE_FILTER c)) = (s.ch c).run + 1 := Nat.min_eq_left hrun
    rw [hu]
    refine ⟨rfl, ?_, rfl, fun h => ?_, fun h => ?_⟩
    · simp only [FdChan.sampled, hraw, BEq.rfl, if_true, hmin]
    · simp [FdChan.sampled, hraw, h]
    · simp [FdChan.sampled, hraw, hmin, Nat.not_le_of_lt h]
  case frames =>
    intro n x
    have hgroup : n.group g = x := s.group_now t g
    refine ⟨fun hdue => ?_, s.leaves_runAwake _ t _ _ hl hsleep rfl ?_⟩
    · intro u
      have hmaps : n.maps = s.maps := s.now_maps t
      have hdeliver : n.inputDelivery g t = match NMap.look s.maps (2 * g.val) with
          | some w => u.deliverWords w (s.inputFrame g) t
          | none => u := by
        rw [State.inputDelivery, if_neg (by rw [State.now_pw, (s.pw_of_live hl).2.1]; decide), hgroup]
        dsimp only
        have hgoes : ∀ due : Bool, due = true → ¬ (!due) = true := by decide
        rw [if_neg (hgoes _ (by
          cases hframe : x.frameAt with
          | none => rfl
          | some a => simp [hdue a hframe])), hmaps, State.frame0_now, State.frame1_now, State.inputFrame_now] <;> rfl
      refine ⟨fun hnone => s.leaves_runAwake _ t _ _ hl hsleep rfl (hdeliver.trans (by rw [hnone])),
        fun w hw => s.leaves_runAwake _ t _ _ hl hsleep rfl (hdeliver.trans (by rw [hw]))⟩
    · show n.commitApply g t = _
      rw [State.commitApply, hgroup]
end

end

section
section
/-! Proofs: digital inputs and outputs (spec/11_field_digital.md). -/

namespace Sys2Proof.Machine

/-- What a happening of a channel leaves while the module is awake. -/
theorem State.leaves_runChan (s : State) (c : Nat) (i : Instr) (t : Nat) (f : State → State) (u : State) (hl : s.live = true)
    (hsleep : s.pwState ≠ psSleep) (hc : exec i s = .next (s.runChan c t f)) (hu : f (s.now t) = u) : s.leaves i t u :=
  s.leaves_run i t _ u hl hc ((if_pos (by simp [State.samples, hsleep])).trans hu)

theorem State.inTransition_eq (s : State) (c : Nat) (h : (s.ch c).transEnd = none) : s.inTransition c = false := by
  rw [State.inTransition, h]
  rfl

/-! ### Digital inputs (R304, R312 to R317) -/

theorem State.countUp_count (s : State) (c : Nat) :
    ((s.countUp c).ch c).count = if 0xFFFFFFFF ≤ (s.ch c).count + 1 then 0xFFFFFFFF else (s.ch c).count + 1 := by
  unfold State.countUp
  dsimp only
  split
  · exact congrArg FdChan.count (State.ch_setCh_self s c _)
  · exact congrArg FdChan.count (State.ch_setCh_self s c _)

/-- An edge of a channel that counts up (R315). -/
theorem State.countEdge_up (s : State) (c : Nat) (lv short both : Bool) (t : Nat) (hpow : s.powered c = true)
    (htrans : s.inTransition c = false) (hm : s.chMode c = cmUp) :
    let u := if short then s.chOverrun c t else s
    let v := u.setCh c { u.ch c with lvl := some lv, edgeAt := some t }
    let edge := s.rd R.CH_CFG_EDGE c
    s.countEdge c lv short both t =
      (if edge = 2 ∨ (edge = 0 ∧ lv = true) ∨ (edge = 1 ∧ lv = false) then v.countUp c else v).chShow c := by
  intro u v edge
  rw [State.countEdge, hpow, htrans, hm]
  rfl

/-- An edge of a channel of a quadrature pair (R316). -/
theorem State.countEdge_quad (s : State) (c : Nat) (lv both : Bool) (t : Nat) (hpow : s.powered c = true)
    (htrans : s.inTransition c = false) (hm : s.chMode c = cmQuad) :
    let u := s.setCh c { s.ch c with lvl := some lv, edgeAt := some t }
    let e := c - c % 2
    let o := s.ch (2 * e + 1 - c)
    s.countEdge c lv false both t =
      if both then (u.setCh (2 * e + 1 - c) { o with lvl := some (!o.level), edgeAt := some t }).chOverrun e t
      else (u.countQuad e (if c % 2 = 0 then lv != o.level else o.level == lv)).chShow e := by
  intro u e o
  have ho : u.ch (2 * e + 1 - c) = o := State.ch_setCh_ne _ _ _ _ (by omega)
  rw [State.countEdge, hpow, htrans, hm]
  show (if both then (u.setCh (2 * e + 1 - c) { u.ch (2 * e + 1 - c) with
      lvl := some (!(u.ch (2 * e + 1 - c)).level), edgeAt := some t }).chOverrun e t else _) = _
  rw [ho]
  refine ite_eq_of_iff Iff.rfl rfl (congrArg (fun b => State.chShow (State.countQuad u e b) e) ?_)
  rcases Nat.mod_two_eq_zero_or_one c with h | h
  · have hother : o = s.ch (e + 1) := congrArg s.ch (by omega)
    simp [h, hother, e]
  · have hother : o = s.ch e := congrArg s.ch (by omega)
    simp [h, hother, e]

theorem State.countEdge_other (s : State) (c : Nat) (lv short both : Bool) (t : Nat) (hup : s.chMode c ≠ cmUp) (hquad : s.chMode c ≠ cmQuad) :
    s.countEdge c lv short both t = s :=
  if_pos (by simp [hup, hquad])

/-! ### Fault codes of outputs and inputs (R328) -/

theorem State.faultClear_ends (s : State) (c : Nat)
    (h : (s.chFault c = fcOpenWire ∧ s.chMode c ≠ cmTc) ∨ s.chFault c = fcOpenLoad ∨ s.chFault c = fcShort ∨
      (s.chFault c = fcGroupOff ∧ s.powered c = true) ∨ s.chFault c = fcOverrange ∨ s.chFault c = fcSensorShort ∨ s.chFault c = fcCjc ∨
      (s.chFault c = fcOverload ∧ s.chMode c = cmAoU) ∨ (s.chFault c = fcBackfeed ∧ (s.ch c).backfed = false)) :
    s.faultClear c = (s.wr R.CH_STAT_FAULT 0 c).chRefresh c :=
  if_pos (by rcases h with h | h | h | h | h | h | h | h | h <;> simp [h])

theorem State.faultClear_stays (s : State) (c : Nat)
    (h : (s.chFault c = fcStuck ∧ s.rd R.CH_STAT_STUCK c = 1) ∨ (s.chFault c = fcGroupOff ∧ s.powered c = false) ∨
      (s.chFault c = fcOpenWire ∧ s.chMode c = cmTc) ∨ (s.chFault c = fcFeedLow ∧ isAi (s.chMode c) = true ∧ s.feedLow c = true) ∨
      s.chFault c = fcOvertemp ∨ s.chFault c = fcGroupOverload ∨ s.chFault c = fcPar ∨ (s.chFault c = fcOverload ∧ s.chMode c ≠ cmAoU)) :
    s.faultClear c = s := by
  refine if_neg ?_
  rcases h with ⟨h, h'⟩ | ⟨h, h'⟩ | ⟨h, h'⟩ | ⟨h, h', h''⟩ | h | h | h | ⟨h, h'⟩ <;>
    simp [*, fcStuck, fcGroupOff, fcOpenWire, fcFeedLow, fcOvertemp, fcGroupOverload, fcPar, fcOverload, fcOpenLoad, fcShort,
      fcOverrange, fcSensorShort, fcCjc, fcBackfeed]

/-! ### The sink of an input (R299, R310) -/

theorem State.chSink_off (s : State) (c t : Nat) (h : isDin (s.chMode c) = false ∨ s.powered c = false ∨ s.inTransition c = true) :
    s.chSink c t = 0 :=
  if_pos (by rcases h with h | h | h <;> simp [h])

theorem State.chSink_on (s : State) (c t : Nat) (hm : isDin (s.chMode c) = true) (hpow : s.powered c = true)
    (htrans : s.inTransition c = false) :
    s.chSink c t = if s.chWetting c t then 1000 * chWet (s.rd R.CH_CFG_WET c)
      else min ((s.ch c).mv / 10).toNat (1000 * chIlim (s.rd R.CH_CFG_ILIM c)) :=
  if_neg (by simp [hm, hpow, htrans])

theorem State.chWetting_starts (s : State) (c k : Nat) (hwet : s.rd R.CH_CFG_WET c ≠ 0) (hraw : (s.ch c).raw = some true) :
    s.chWetting c ((s.ch c).changedAt + k * (1000000 * chWetMs (s.rd R.CH_CFG_WET_PERIOD c))) = true := by
  simp [State.chWetting, hwet, hraw]

end Sys2Proof.Machine

open Sys2Proof Sys2Proof.Machine

/-- Settles O43. -/
theorem digitalChannels : Obligations.DigitalChannels := by
  refine ⟨fun s c t hl hsleep => ?inputs, fun s c t hl hsleep => ?outputs, fun s c t => ?sink⟩
  case inputs =>
    intro n x flt
    have hx : n.ch c = x := s.ch_now t c
    have hrd (f : Fld) : n.rd f c = s.rd f c := s.rd_now t f c 0
    have hmode : n.chMode c = s.chMode c := s.chMode_now t c
    have hpow' : n.powered c = s.powered c := s.powered_now t c
    have htrans' (h : x.transEnd = none) : n.inTransition c = false := n.inTransition_eq c (by rw [hx]; exact h)
    refine ⟨fun e he hdue => ?trans, fun hnone => s.leaves_run _ t _ _ hl rfl ?_,
      fun hin hpow htrans => ⟨fun hundet hdue => s.leaves_runChan c _ t _ _ hl hsleep rfl ?_,
        fun hk hfilt hdue hfree => s.leaves_runChan c _ t _ _ hl hsleep rfl ?_⟩,
      fun hm hpow hch hdue => s.leaves_runChan c _ t _ _ hl hsleep rfl ?_, fun hpow htrans lv both => ?edge,
      fun k d hm hpow htrans hk hd => s.leaves_runChan c _ t _ _ hl hsleep rfl ?_, fun k d hm htrans h => s.leaves_runChan c _ t _ _ hl hsleep rfl ?_,
      s.countUp_count c⟩
    case trans =>
      intro u
      have hended : n.transitionEnd c t = (if isDin (s.chMode c) || isAi (s.chMode c) then (u.chStart c t).chFeed c t
          else u.wr R.CH_STAT_UNDET 0 c).chRefresh c := by
        rw [State.transitionEnd, hx, he]
        dsimp only
        rw [if_pos hdue, hmode]
      refine ⟨fun h => s.leaves_run _ t _ _ hl rfl (hended.trans ?_), fun hdin hai => s.leaves_run _ t _ _ hl rfl (hended.trans ?_)⟩
      · rw [if_pos (by simpa using h)]
      · rw [if_neg (by simp [hdin, hai])]
    case edge =>
      intro u e o
      have htr := htrans' htrans
      have hkept (h : (s.rd R.CH_CFG_EDGE c = 0 ∧ lv = false) ∨ (s.rd R.CH_CFG_EDGE c = 1 ∧ lv = true)) :
          ¬ (s.rd R.CH_CFG_EDGE c = 2 ∨ (s.rd R.CH_CFG_EDGE c = 0 ∧ lv = true) ∨ (s.rd R.CH_CFG_EDGE c = 1 ∧ lv = false)) := by
        rcases h with ⟨h, h'⟩ | ⟨h, h'⟩ <;> simp [h, h']
      refine ⟨fun hm => ⟨fun h => s.leaves_runChan c _ t _ _ hl hsleep rfl ?_, fun h => ⟨s.leaves_runChan c _ t _ _ hl hsleep rfl ?_,
          s.leaves_runChan c _ t _ _ hl hsleep rfl ?_⟩⟩,
        fun hm => ⟨s.leaves_runChan c _ t _ _ hl hsleep rfl ?_, s.leaves_runChan c _ t _ _ hl hsleep rfl ?_⟩,
        fun hup hquad => s.leaves_runChan c _ t _ _ hl hsleep rfl (n.countEdge_other c lv false both t (by rwa [hmode]) (by rwa [hmode]))⟩
      · refine (n.countEdge_up c lv false both t (hpow'.trans hpow) htr (hmode.trans hm)).trans ?_
        rw [if_neg Bool.false_ne_true, hrd, hx, if_pos h]
      · refine (n.countEdge_up c lv false both t (hpow'.trans hpow) htr (hmode.trans hm)).trans ?_
        rw [if_neg Bool.false_ne_true, hrd, hx, if_neg (hkept h)]
      · refine (n.countEdge_up c lv true both t (hpow'.trans hpow) htr (hmode.trans hm)).trans ?_
        rw [if_pos rfl, hrd, if_neg (hkept h)]
      · refine (n.countEdge_quad c lv false t (hpow'.trans hpow) htr (hmode.trans hm)).trans ?_
        rw [if_neg Bool.false_ne_true, hx, State.ch_now]
      · refine (n.countEdge_quad c lv true t (hpow'.trans hpow) htr (hmode.trans hm)).trans ?_
        rw [if_pos rfl, hx, State.ch_now]
    · show n.transitionEnd c t = n
      rw [State.transitionEnd, hx, hnone]
    · show n.undetTimeout c t = _
      rw [State.undetTimeout, hx, if_pos (by simp [n, flt, hin, hpow, s.inTransition_eq c htrans, hundet, hdue])]
    · show n.channelStuck c t = _
      rw [State.channelStuck, hx, if_pos (by simp [n, hin, hpow, hk, hfilt, hdue, hfree])]
    · show n.inputOverrun c t = _
      rw [State.inputOverrun, hx, if_pos ⟨hmode.trans hm, hpow'.trans hpow, hch, by rwa [hrd]⟩]
    · show n.freqGateEnd c k d = _
      rw [State.freqGateEnd, hx, if_pos ⟨hmode.trans hm, htrans' htrans⟩, hpow', hpow, if_neg (by simp; omega)]
    · show n.freqGateEnd c k d = _
      rw [State.freqGateEnd, hx, if_pos ⟨hmode.trans hm, htrans' htrans⟩, hpow', if_pos (by rcases h with h | h <;> simp [h])]
      rfl
  case outputs =>
    intro n x m on f
    have hx : n.ch c = x := s.ch_now t c
    have hrd (f : Fld) : n.rd f c = s.rd f c := s.rd_now t f c 0
    have hmode : n.chMode c = m := s.chMode_now t c
    have hon : n.rd R.CH_STAT_ON c = on := hrd _
    have hf : n.chFault c = f := s.chFault_now t c
    have hpow' : n.powered c = s.powered c := s.powered_now t c
    have hidle (h : on = 0) (b : Bool) : ¬ (n.rd R.CH_STAT_ON c == 1 && b) = true := by
      rw [hon, h]
      exact Bool.false_ne_true
    refine ⟨fun hm hot h => s.leaves_runAwake _ t _ _ hl hsleep rfl (if_pos ?_),
      fun hm h => ⟨fun hset => s.leaves_runAwake _ t _ _ hl hsleep rfl (if_pos ?_), s.leaves_runAwake _ t _ _ hl hsleep rfl ?_,
        fun hdet => s.leaves_runAwake _ t _ _ hl hsleep rfl (if_pos ?_)⟩,
      fun hm h => s.leaves_runAwake _ t _ _ hl hsleep rfl ?_, fun hm h => s.leaves_runAwake _ t _ _ hl hsleep rfl (if_pos ?_),
      fun h => ⟨s.leaves_runAwake _ t _ _ hl hsleep rfl (if_neg ?_), s.leaves_runAwake _ t _ _ hl hsleep rfl (if_neg ?_),
        s.leaves_runAwake _ t _ _ hl hsleep rfl (if_neg ?_)⟩,
      fun hm hpow htrans h => s.leaves_runAwake _ t _ _ hl hsleep rfl (if_pos ?_),
      fun hm hpow htrans => s.leaves_runChan c _ t _ _ hl hsleep rfl (if_pos ?_), s.leaves_runAwake _ t _ _ hl hsleep rfl ?_,
      fun h => s.leaves_run _ t _ _ hl rfl ?_, fun h => s.leaves_run _ t _ _ hl rfl ?_,
      fun hm h => s.leaves_runAwake _ t _ _ hl hsleep rfl ?_, fun e he hdue => s.leaves_runAwake _ t _ _ hl hsleep rfl ?_,
      fun hm htrip => s.leaves_runAwake _ t _ _ hl hsleep rfl (if_pos ?_)⟩
    · have hout : (isHs m || m == cmTp) = true := by simpa using hm
      have hwhen : (hot || on == 1) = true := by simpa using h.symm
      show ((isHs (n.chMode c) || n.chMode c == cmTp) && (hot || n.rd R.CH_STAT_ON c == 1)) = true
      rw [hmode, hon, hout, hwhen]
      rfl
    · simp [hset, show isHs (s.chMode c) = true from hm, show s.rd R.CH_STAT_ON c = 1 from h]
    · show n.backfeed c t = _
      rw [State.backfeed, hx, hmode, hon, if_pos (by simp [hm, h])]
      exact congrArg (fun u : State => (u.chDeclare c fcBackfeed t).chRefresh c) (if_pos hm)
    · show (n.rd R.CH_STAT_ON c == 1 && ((isHs (n.chMode c) && n.rd R.CH_CFG_OPEN_DET c == 1) || n.chMode c == cmAoI)) = true
      rw [hmode, hon, hrd, hm, h, hdet]
      rfl
    · have hhs : isHs m = false := by
        rcases (by simpa [isAo] using hm : m = cmAoU ∨ m = cmAoI) with hm | hm <;> rw [hm] <;> decide
      show n.backfeed c t = _
      rw [State.backfeed, hx, hmode, hon, if_pos (by simp [hm, h])]
      exact congrArg (fun u : State => (u.chDeclare c fcBackfeed t).chRefresh c) (if_neg (by rw [hhs]; decide))
    · show (n.rd R.CH_STAT_ON c == 1 && ((isHs (n.chMode c) && n.rd R.CH_CFG_OPEN_DET c == 1) || n.chMode c == cmAoI)) = true
      rw [hmode, hon, hm, h, BEq.rfl, BEq.rfl, Bool.or_true, Bool.and_self]
    · exact hidle h _
    · exact hidle h _
    · show ¬ (_ && (false || n.rd R.CH_STAT_ON c == 1)) = true
      rw [hon, h, Bool.false_or, Bool.and_comm]
      exact Bool.false_ne_true
    · simp [show isHs (s.chMode c) = true from hm, hpow, s.inTransition_eq c htrans, show s.rd R.CH_STAT_ON c = 0 from h]
    · simp only [State.powered_now, hpow, State.inTransition_now, s.inTransition_eq c htrans, State.chMode_now, State.rd_now]
      rcases hm with ⟨hm, h⟩ | ⟨hm, h⟩
      · simp [show isDin (s.chMode c) = true from hm, h]
      · simp [show s.chMode c = cmAiI from hm, h]
    · show n.backfeedClear c = _
      rw [State.backfeedClear, hx]
    · exact n.faultClear_ends c (by rwa [hf, hmode, hpow', hx])
    · exact n.faultClear_stays c (by rwa [hf, hmode, hpow', hrd, State.feedLow_now])
    · show n.pwmStart c t = _
      rw [State.pwmStart, hx, if_pos ⟨hmode.trans hm, h⟩]
      rfl
    · show n.doPulseEnd c t = _
      rw [State.doPulseEnd, hx, he]
      exact if_pos hdue
    · exact ⟨hmode.trans hm, by rwa [State.tripped_now]⟩
  case sink =>
    refine ⟨s.chSink_off c t, fun hm hpow htrans => ⟨fun hwet => ?_, fun hdry => ?_⟩, fun hwet => ?_, s.chWetting_starts c⟩
    · rw [s.chSink_on c t hm hpow htrans, hwet, if_pos rfl]
    · rw [s.chSink_on c t hm hpow htrans, hdry, if_neg Bool.false_ne_true]
      exact Nat.min_le_right _ _
    · simp only [State.chWetting, Bool.and_eq_true, bne_iff_ne, beq_iff_eq] at hwet
      exact hwet.1
end

end

section
section
/-! Proofs: analogue channels (spec/12_field_analogue.md). -/

namespace Sys2Proof.Machine

/-! ### Arithmetic (R333, R346, R347) -/

/-- Rounding to the nearest multiple leaves at most half of the divisor. -/
theorem roundDiv_near (a b : Int) (hb : 0 < b) : 2 * (roundDiv a b * b - a).natAbs ≤ b.natAbs := by
  have hquot (x : Int) : 2 * ((2 * x + b) / (2 * b) * b) + (2 * x + b) % (2 * b) = 2 * x + b := by
    have h := Int.mul_ediv_add_emod (2 * x + b) (2 * b)
    rwa [Int.mul_comm, ← Int.mul_assoc, Int.mul_comm _ 2, Int.mul_assoc] at h
  have hrem (x : Int) : 0 ≤ (2 * x + b) % (2 * b) ∧ (2 * x + b) % (2 * b) < 2 * b :=
    ⟨Int.emod_nonneg _ (by omega), Int.emod_lt_of_pos _ (by omega)⟩
  unfold roundDiv
  split
  · have hq := hquot a
    obtain ⟨h0, h1⟩ := hrem a
    omega
  · have hq := hquot (-a)
    obtain ⟨h0, h1⟩ := hrem (-a)
    rw [Int.neg_mul]
    omega

theorem roundDiv_zero (b : Int) (hb : 0 < b) : roundDiv 0 b = 0 :=
  (if_pos (Int.le_refl 0)).trans (Int.ediv_eq_zero_of_lt (by omega) (by omega))

/-- A value and its negative are rounded alike. -/
theorem roundDiv_neg (a b : Int) (hb : 0 < b) : roundDiv (-a) b = -roundDiv a b := by
  rcases Int.lt_trichotomy a 0 with h | rfl | h
  · rw [roundDiv, roundDiv, if_pos (by omega), if_neg (by omega), Int.neg_neg]
  · rw [Int.neg_zero, roundDiv_zero b hb, Int.neg_zero]
  · rw [roundDiv, roundDiv, if_neg (by omega), if_pos (by omega), Int.neg_neg]

theorem roundDiv_mul (y b : Int) (hb : 0 < b) : roundDiv (y * b) b = y := by
  have hnear := roundDiv_near (y * b) b hb
  rw [← Int.sub_mul, Int.natAbs_mul] at hnear
  have hpos : 0 < b.natAbs := by omega
  have hlt : 2 * (roundDiv (y * b) b - y).natAbs ≤ 1 := by
    refine Nat.le_of_not_lt fun h => ?_
    have : 2 * b.natAbs ≤ 2 * (roundDiv (y * b) b - y).natAbs * b.natAbs := Nat.mul_le_mul_right _ (by omega)
    rw [Nat.mul_assoc] at this
    omega
  omega

theorem clampInt_inside (lo hi y : Int) (hlo : lo ≤ y) (hhi : y ≤ hi) : clampInt lo hi y = y :=
  (if_neg (by omega)).trans (if_neg (by omega))

/-! ### Conversions (R333 to R343) -/

@[simp] theorem State.acfgOf_now (s : State) (t c : Nat) : (s.now t).acfgOf c = s.acfgOf c := by simp [State.acfgOf]
@[simp] theorem State.chRange_now (s : State) (t c : Nat) : (s.now t).chRange c = s.chRange c := by simp [State.chRange]
@[simp] theorem State.spanOf_now (s : State) (t c : Nat) : (s.now t).spanOf c = s.spanOf c := by
  simp [State.spanOf, State.chType]
@[simp] theorem State.convEarly_now (s : State) (t c e : Nat) : (s.now t).convEarly c e = s.convEarly c e := by
  simp [State.convEarly, State.aiPeriod]

/-- The end of a conversion of a channel whose heat level stands. -/
theorem State.conversionEnd_output (s : State) (c : Nat) (v v2 cj : Int) (t : Nat) (hheat : (s.ch c).heatTo = none)
    (hpow : s.powered c = true) (htrans : s.inTransition c = false) (hm : isAo (s.chMode c) = true) :
    s.conversionEnd c v v2 cj t =
      if s.feedLow c then s
      else (((s.setCh c { s.ch c with result := v }).aoJudge c t).wr R.CH_STAT_UNDET 0 c).chShow c := by
  have hpair : isPaired (s.chMode c) = false := by
    rcases (by simpa [isAo] using hm : s.chMode c = cmAoU ∨ s.chMode c = cmAoI) with h | h <;> rw [h] <;> decide
  simp only [State.conversionEnd, hheat, Option.any_none, Bool.false_eq_true, if_false, hpow, htrans, hpair, hm, if_true,
    Bool.not_true, Bool.or_self, Bool.false_and]

/-- The channel after a conversion inside its span. -/
def FdChan.converted (x : FdChan) (v : Int) : FdChan :=
  { x with last := if x.shuntOff then x.last else v, beyond := 0, openRun := 0, shortRun := 0, hiSince := none }

theorem State.convert_voltage (s : State) (c : Nat) (v v2 cj : Int) (hm : s.chMode c = cmAiU) (hlo : (s.spanOf c).1 ≤ v)
    (hhi : v ≤ (s.spanOf c).2) : s.convert c v v2 cj = { val := v } := by
  have hin : decide (v < (s.spanOf c).1 ∨ (s.spanOf c).2 < v) = false := decide_eq_false (by omega)
  rw [State.convert, if_pos (Or.inl hm)]
  dsimp only
  rw [hin, clampInt_inside _ _ _ hlo hhi]

theorem State.convLost_steady (s : State) (c e : Nat) (h : (s.ch c).heatTo = none) : s.convLost c e = false := by
  rw [State.convLost, h]

/-- A voltage input takes no conversion while its feed is low, nor one that began before it started. -/
theorem State.conversionEnd_dropped (s : State) (c : Nat) (v v2 cj : Int) (t : Nat) (hheat : (s.ch c).heatTo = none)
    (hpow : s.powered c = true) (htrans : s.inTransition c = false) (hm : s.chMode c = cmAiU)
    (h : s.feedLow c = true ∨ s.convEarly c (t - 10000) = true) : s.conversionEnd c v v2 cj t = s := by
  have hskip : (s.feedLow c || s.convEarly c (t - 10000)) = true := by simpa using h
  simp only [State.conversionEnd, hheat, Option.any_none, Bool.false_eq_true, if_false, hpow, htrans, hm, s.convLost_steady c _ hheat,
    show isPaired cmAiU = false from rfl, show isAo cmAiU = false from rfl, show isAi cmAiU = true from rfl, Bool.not_true, Bool.or_self,
    Bool.false_and, if_neg (show ¬ cmAiU = cmTc by decide), hskip, if_true]

/-- A voltage input takes a conversion inside its span. -/
theorem State.conversionEnd_taken (s : State) (c : Nat) (v v2 cj : Int) (t : Nat) (hheat : (s.ch c).heatTo = none)
    (hpow : s.powered c = true) (htrans : s.inTransition c = false) (hm : s.chMode c = cmAiU) (hfeed : s.feedLow c = false)
    (hearly : s.convEarly c (t - 10000) = false) (hlo : (s.spanOf c).1 ≤ v) (hhi : v ≤ (s.spanOf c).2) :
    s.conversionEnd c v v2 cj t = ((s.setCh c ((s.ch c).converted v)).convResult c v t).chShow c := by
  simp only [State.conversionEnd, hheat, Option.any_none, Bool.false_eq_true, if_false, hpow, htrans, hm, s.convLost_steady c _ hheat,
    show isPaired cmAiU = false from rfl, show isAo cmAiU = false from rfl, show isAi cmAiU = true from rfl, Bool.not_true, Bool.or_self,
    Bool.false_and, if_neg (show ¬ cmAiU = cmTc by decide), hfeed, hearly, s.convert_voltage c v v2 _ hm hlo hhi, FdChan.converted]
  rfl

/-- A channel that is neither analogue input nor output takes no conversion. -/
theorem State.conversionEnd_other (s : State) (c : Nat) (v v2 cj : Int) (t : Nat) (hheat : (s.ch c).heatTo = none)
    (hai : isAi (s.chMode c) = false) (hao : isAo (s.chMode c) = false) : s.conversionEnd c v v2 cj t = s := by
  simp only [State.conversionEnd, hheat, Option.any_none, Bool.false_eq_true, if_false, hai, hao, Bool.not_false, Bool.true_or, if_true, ite_self]

/-- A channel with N conversions takes the mean of its latest (R333, R337). -/
theorem State.convResult_full (s : State) (c : Nat) (z : Int) (t : Nat) (hfull : (s.ch c).full = true) :
    let cs := (z :: (s.ch c).convs).take (2 ^ min 4 (s.rd R.CH_ACFG0_AVG (s.acfgOf c)))
    let mean := roundDiv cs.sum cs.length
    (s.convResult c z t).ch c = { s.ch c with convs := cs, result := mean, limit := s.limitBit c (s.ch c).limit mean } := by
  intro cs mean
  have hchan : (s.convResult c z t).chan =
      (s.setCh c { s.ch c with convs := cs, full := true, result := mean, limit := s.limitBit c (s.ch c).limit mean }).chan := by
    rw [State.convResult]
    dsimp only
    rw [hfull, if_pos (by rw [Bool.true_or])]
    exact (State.chSetValue_chan _ _ _ _).trans (ite_same State.chan rfl rfl)
  refine (congrArg (fun m : NMap FdChan => NMap.get m {} c) hchan).trans ((State.ch_setCh_self _ _ _).trans ?_)
  rw [← hfull]

end Sys2Proof.Machine

open Sys2Proof Sys2Proof.Machine

/-- Settles O44. -/
theorem analogueChannels : Obligations.AnalogueChannels := by
  refine ⟨fun s c g t hl hsleep => ?channels, ⟨roundDiv_near, roundDiv_neg, fun _ _ _ _ _ => rfl, fun lo hi y hlo hhi => ?_,
    fun s c z t hfull => s.convResult_full c z t hfull⟩, fun s c t hl => ?trims⟩
  case channels =>
    intro n x m
    have hx : n.ch c = x := s.ch_now t c
    have hrd (f : Fld) (i : Nat) : n.rd f i = s.rd f i := s.rd_now t f i 0
    have hmode : n.chMode c = m := s.chMode_now t c
    have hheat' (h : x.heatTo = none) : (n.ch c).heatTo = none := by rw [hx, h]
    have hpow' (h : s.powered c = true) : n.powered c = true := (s.powered_now t c).trans h
    have htrans' (h : x.transEnd = none) : n.inTransition c = false := n.inTransition_eq c (by rw [hx]; exact h)
    have hfeed' : n.feedLow c = s.feedLow c := s.feedLow_now t c
    have hspan : n.spanOf c = s.spanOf c := s.spanOf_now t c
    have hearly' : n.convEarly c (t - 10000) = s.convEarly c (t - 10000) := s.convEarly_now t c _
    refine ⟨fun v v2 cj hheat hpow htrans => ⟨fun hm hfeed => ?output, fun hm hfeed hearly hlo hhi => s.leaves_runAwake _ t _ _ hl hsleep rfl ?input,
        fun hm hearly => s.leaves_runAwake _ t _ _ hl hsleep rfl ?early, fun hm hfeed => s.leaves_runAwake _ t _ _ hl hsleep rfl ?low⟩,
      fun v v2 cj hm hheat => s.leaves_runAwake _ t _ _ hl hsleep rfl ?digital,
      fun hm hpow => s.leaves_runAwake _ t _ _ hl hsleep rfl ?off, fun hm hoff => s.leaves_runAwake _ t _ _ hl hsleep rfl ?retry,
      s.leaves_runAwake _ t _ _ hl hsleep rfl ?failed,
      fun uv hm heven hpow hfeed => ⟨fun hopen => s.leaves_runAwake _ t _ _ hl hsleep rfl ?wire, fun hwhole hf => s.leaves_runAwake _ t _ _ hl hsleep rfl ?closed⟩,
      fun hm hon => s.leaves_runAwake _ t _ _ hl hsleep rfl (if_pos ⟨hmode.trans hm, (hrd _ _).trans hon⟩),
      fun h => s.leaves_run _ t _ _ hl rfl (if_neg (by rw [State.rd_now, h]; decide)),
      fun h => ⟨s.leaves_run _ t _ _ hl rfl (if_pos ((hrd _ _).trans h)), s.leaves_run _ t _ _ hl rfl (if_neg (by rw [State.rd_now, h]; decide))⟩⟩
    case output =>
      intro l y
      have hjudge : (n.setCh c { x with result := v }).aoJudge c t =
          (n.setCh c { x with result := v }).chSetValue c (decide (100 * (v - y) ≤ l.2 ∧ 100 * (y - v) ≤ l.2)) t := by
        have hself : (n.setCh c { x with result := v }).ch c = { x with result := v } := State.ch_setCh_self _ _ _
        have hon : (isAo ((n.setCh c { x with result := v }).chMode c) && (n.setCh c { x with result := v }).powered c &&
            !(n.setCh c { x with result := v }).inTransition c) = true := by
          have hm' : isAo (n.chMode c) = true := by rw [hmode]; exact hm
          rw [State.inTransition_eq _ c (by rw [hself]; exact htrans)]
          show (isAo (n.chMode c) && n.powered c && !false) = true
          rw [hm', hpow' hpow]
          rfl
        rw [State.aoJudge, if_pos hon, hself]
        have hlim : aoLimits ((n.setCh c { x with result := v }).chMode c) ((n.setCh c { x with result := v }).rd R.CH_ACFG0_RANGE c) = l := by
          show aoLimits (n.chMode c) (n.rd R.CH_ACFG0_RANGE c) = l
          rw [hmode, hrd]
        rw [hlim]
      refine s.leaves_runAwake _ t _ _ hl hsleep rfl ?_
      rw [← hjudge]
      refine (n.conversionEnd_output c v v2 cj t (hheat' hheat) (hpow' hpow) (htrans' htrans) (by rw [hmode]; exact hm)).trans ?_
      rw [hfeed', hfeed, hx]
      rfl
    case input =>
      refine (n.conversionEnd_taken c v v2 cj t (hheat' hheat) (hpow' hpow) (htrans' htrans) (hmode.trans hm) (hfeed'.trans hfeed)
        (hearly'.trans hearly) (by rw [hspan]; exact hlo) (by rw [hspan]; exact hhi)).trans ?_
      rw [hx]
      rfl
    case early =>
      exact n.conversionEnd_dropped c v v2 cj t (hheat' hheat) (hpow' hpow) (htrans' htrans) (hmode.trans hm) (.inr (hearly'.trans hearly))
    case low =>
      rcases hm with hm | hm
      · exact (n.conversionEnd_output c v v2 cj t (hheat' hheat) (hpow' hpow) (htrans' htrans) (by rw [hmode]; exact hm)).trans
          (if_pos (hfeed'.trans hfeed))
      · exact n.conversionEnd_dropped c v v2 cj t (hheat' hheat) (hpow' hpow) (htrans' htrans) (hmode.trans hm) (.inl (hfeed'.trans hfeed))
    case digital =>
      have hrange : 1 ≤ n.chMode c ∧ n.chMode c ≤ 4 := by rw [hmode]; exact of_decide_eq_true hm
      refine n.conversionEnd_other c v v2 cj t (hheat' hheat) (decide_eq_false (by omega)) ?_
      simp only [isAo, cmAoU, cmAoI, Bool.or_eq_false_iff, beq_eq_false_iff_ne]
      omega
    case off =>
      show n.shuntOff c t = _
      rw [State.shuntOff, hx, if_pos ⟨hmode.trans hm, hpow' hpow⟩, State.chRange_now]
    case retry =>
      show n.shuntTry c true = _
      rw [State.shuntTry, hx, if_pos ⟨hmode.trans hm, hoff, rfl⟩]
    case failed => exact if_neg (by simp)
    case wire => exact (if_pos ⟨hmode.trans hm, heven, hpow' hpow, hfeed'.trans hfeed⟩).trans (if_pos hopen)
    case closed =>
      exact (if_pos ⟨hmode.trans hm, heven, hpow' hpow, hfeed'.trans hfeed⟩).trans
        ((if_neg (by omega)).trans (if_pos (by rw [State.chFault_now, hf])))
  case trims =>
    intro n l v ok k
    have hmaint : n.mode = s.mode := s.mode_now t
    have hjudged (hm : s.mode = mdMaint) : n.trimApply c =
        if isAo (s.chMode c) && trimOk l.1 l.2 (v R.CH_TRIM_S1) (v R.CH_TRIM_S2) (v R.CH_TRIM_M1) (v R.CH_TRIM_M2) then
          (((n.wr R.CH_TRIM_GAIN (fromSigned 32 k.1) c).wr R.CH_TRIM_OFS (fromSigned 32 k.2) c).wr R.CH_TRIM_CTL_SAVED 0 c).chAstat c
        else n.wr R.CH_TRIM_CTL_REJ 1 c := by
      rw [State.trimApply, if_neg (by rw [hmaint, hm]; decide)]
      simp only [State.chMode_now, State.chRange_now, State.rd_now, n]
      rfl
    refine ⟨fun hm => ⟨s.leaves_run _ t _ _ hl rfl (if_pos ?_), s.leaves_run _ t _ _ hl rfl (if_pos ?_),
        fun d p => s.leaves_run _ t _ _ hl rfl (if_pos ?_)⟩,
      fun hm => ⟨fun hao hok => s.leaves_run _ t _ _ hl rfl ?_, fun h => s.leaves_run _ t _ _ hl rfl ?_, s.leaves_run _ t _ _ hl rfl (if_neg ?_),
        fun d p => s.leaves_run _ t _ _ hl rfl (if_neg ?_)⟩, s.leaves_run _ t _ _ hl rfl ?_⟩
    · rw [hmaint]
      simpa using hm
    · rw [hmaint]
      simpa using hm
    · rw [hmaint]
      simpa using hm
    · refine (hjudged hm).trans (if_pos ?_)
      rw [hao]
      exact hok
    · refine (hjudged hm).trans (if_neg ?_)
      rcases h with h | h
      · simp [h]
      · rw [show trimOk l.1 l.2 (v R.CH_TRIM_S1) (v R.CH_TRIM_S2) (v R.CH_TRIM_M1) (v R.CH_TRIM_M2) = false from h]
        simp
    · rw [hmaint, hm]
      decide
    · rw [hmaint, hm]
      decide
    · show n.trimSaved c = _
      rw [State.trimSaved, State.ch_now, State.rd_now, State.rd_now]
  · rw [trimDrive, Int.sub_zero, Int.add_zero, roundDiv_mul y _ (by decide), clampInt_inside _ _ _ hlo hhi]
end

end

section
section
/-! Proofs: the Forme bus controller (spec/13_forme_bus.md). -/

namespace Sys2Proof.Machine

/-! ### What is read of the Forme bus does not change as time goes on -/

@[simp] theorem State.fbState_now (s : State) (t : Nat) : (s.now t).fbState = s.fbState := s.rd_now t _ 0 0
@[simp] theorem State.fbSched_now (s : State) (t : Nat) : (s.now t).fbSched = s.fbSched := s.rd_now t _ 0 0
@[simp] theorem State.fbCycle_now (s : State) (t : Nat) : (s.now t).fbCycle = s.fbCycle := s.rd_now t _ 0 0
@[simp] theorem State.fbIsUsable_now (s : State) (t p : Nat) : (s.now t).fbIsUsable p = s.fbIsUsable p := by
  simp [State.fbIsUsable, State.bit]
@[simp] theorem State.fbEnabled_now (s : State) (t b : Nat) : (s.now t).fbEnabled b = s.fbEnabled b := by simp [State.fbEnabled]
@[simp] theorem State.fbInUse_now (s : State) (t b : Nat) : (s.now t).fbInUse b = s.fbInUse b := by simp [State.fbInUse]
@[simp] theorem State.fbBr_now (s : State) (t b : Nat) : (s.now t).fbBr b = s.fbBr b := by
  rw [State.fbBr, State.now_fb, State.fbBr]
@[simp] theorem State.fbTx_now (s : State) (t i : Nat) : (s.now t).fbTx i = s.fbTx i := by
  rw [State.fbTx, State.now_fb, State.fbTx]

@[simp] theorem State.raise_fb (s : State) (n t : Nat) : (s.raise n t).fb = s.fb := ite_same State.fb rfl (s.onLanes_fb _)

/-! ### Cycles (R355, R364, R366) -/

/-- A cycle starts on a controller that waits for nothing. -/
theorem State.cycleStart_ready (s : State) (t : Nat) (hrf : s.rf.waits .fb = false) (hfb : s.fb.waits = false) :
    (s.fbReady t).cycleStart t = s.fbCycleStart t := by
  have hready : s.fbReady t = s := if_neg (by simp [hfb])
  have hset : s.setApply .fb t = s := if_pos (by simp [hrf])
  rw [hready, State.cycleStart, hset]

/-- The controller as the next cycle begins. -/
def FbState.begun (x : FbState) (t : Nat) : FbState :=
  { x with started := true, cycleAt := t, dyn := [], own := [], accepted := [], bad := [], fwd := [] }

/-- The cycle count and the lock-up cycles left as the next cycle begins. -/
def State.fbCounted (s : State) (t : Nat) : State :=
  let s1 : State := { s with fb := s.fb.begun t }
  let s2 := if s.fb.started then s1.wr R.FB_CYCLE_CYCLE (satNat 32 (s.fbCycle + 1)) else s1.wr R.FB_CYCLE_CYCLE 0
  if s.fb.started && s.fbState == fsLockup then s2.wr R.FB_STATE_LOCKUP_LEFT (s.rd R.FB_STATE_LOCKUP_LEFT - 1) else s2

theorem State.fbCycleStart_next (s : State) (t : Nat) (hdue : ¬ (s.fb.started && t != s.fbNextAt) = true) (hpark : s.fb.park = false)
    (hst : s.fbState = fsLockup ∨ s.fbState = fsPress) : ∃ al : Nat,
    s.fbCycleStart t = ((s.fbCounted t).wr R.FB_STATE_TT_ALIGNED al).fbSync t :=
  ⟨_, (if_neg hdue).trans ((if_neg (by rw [hpark]; decide)).trans (if_pos hst))⟩

theorem State.fbCounted_fb (s : State) (t : Nat) : (s.fbCounted t).fb = s.fb.begun t :=
  ite_same State.fb (ite_same State.fb rfl rfl) (ite_same State.fb rfl rfl)

/-- The sync frame changes no register, and of the controller only what it sends. -/
theorem State.fbSync_rd (s : State) (t : Nat) (f : Fld) (i : Nat) : (s.fbSync t).rd f i = s.rd f i := rfl

theorem State.fbSync_fb (s : State) (t : Nat) : ∃ sync out, (s.fbSync t).fb = { s.fb with sync := sync, out := out } := ⟨_, _, rfl⟩

theorem Fld.ext_lt (f : Fld) (w : Word) : f.ext w < 2 ^ f.width := by
  have hones : f.ones.toNat ≤ 2 ^ f.width - 1 := by
    rw [Fld.ones, BitVec.toNat_ofNat]
    exact Nat.mod_le _ _
  have hle : f.ext w ≤ f.ones.toNat := by
    rw [Fld.ext, BitVec.toNat_and]
    exact Nat.and_le_right
  have := Nat.two_pow_pos f.width
  omega

theorem State.rd_mod (s : State) (f : Fld) (i j : Nat) : s.rd f i j % 2 ^ f.width = s.rd f i j := Nat.mod_eq_of_lt (f.ext_lt _)

/-- A write of the cycle count, which is never 0 once a cycle has been counted. -/
theorem State.fbCycle_counted (s : State) : (s.wr R.FB_CYCLE_CYCLE (satNat 32 (s.fbCycle + 1))).fbCycle = satNat 32 (s.fbCycle + 1) := by
  have hmod : satNat 32 (s.fbCycle + 1) % 2 ^ 32 = satNat 32 (s.fbCycle + 1) := by
    unfold satNat
    omega
  have hne : satNat 32 (s.fbCycle + 1) ≠ 0 := by
    unfold satNat
    omega
  exact (State.rd_wr_of_ne_zero s R.FB_CYCLE_CYCLE _ 0 0 (by decide) ((congrArg (· ≠ 0) hmod).mpr hne)).trans hmod

/-- The controller's registers as one lock-up cycle less is left. -/
theorem State.lockupLeft_counted (s : State) (v : Nat) (hst : s.fbState ≠ 0) (hv : v < 16) :
    (s.wr R.FB_STATE_LOCKUP_LEFT v).fbState = s.fbState ∧ (s.wr R.FB_STATE_LOCKUP_LEFT v).fbCycle = s.fbCycle ∧
      (s.wr R.FB_STATE_LOCKUP_LEFT v).rd R.FB_STATE_LOCKUP_LEFT = v :=
  ⟨State.rd_wr_disjoint_of_ne_zero s R.FB_STATE_STATE _ v 0 0 rfl (by decide) (by decide) (by decide) hst,
    State.rd_wr_ne s R.FB_CYCLE_CYCLE _ v 0 0 0 0 (by decide),
    (s.rd_wr_beside R.FB_STATE_LOCKUP_LEFT R.FB_STATE_STATE v 0 0 rfl (by decide) (by decide) (by decide) hst).trans (Nat.mod_eq_of_lt hv)⟩

/-- The controller's registers as its alignment shows. -/
theorem State.fbAligned_keeps (s : State) (al : Nat) (hst : s.fbState ≠ 0) :
    (s.wr R.FB_STATE_TT_ALIGNED al).fbState = s.fbState ∧ (s.wr R.FB_STATE_TT_ALIGNED al).fbCycle = s.fbCycle ∧
      (s.wr R.FB_STATE_TT_ALIGNED al).rd R.FB_STATE_LOCKUP_LEFT = s.rd R.FB_STATE_LOCKUP_LEFT :=
  ⟨State.rd_wr_disjoint_of_ne_zero s R.FB_STATE_STATE _ al 0 0 rfl (by decide) (by decide) (by decide) hst,
    State.rd_wr_ne s R.FB_CYCLE_CYCLE _ al 0 0 0 0 (by decide),
    s.rd_wr_beside_disjoint R.FB_STATE_TT_ALIGNED R.FB_STATE_STATE R.FB_STATE_LOCKUP_LEFT al 0 0 rfl rfl (by decide) (by decide) (by decide)
      (by decide) (by decide) hst⟩

/-- The registers of a controller that runs, once its next cycle is counted. -/
theorem State.fbCounted_shows (s : State) (t : Nat) (hstarted : s.fb.started = true) (hst : s.fbState ≠ 0) :
    (s.fbCounted t).fbState = s.fbState ∧ (s.fbCounted t).fbCycle = satNat 32 (s.fbCycle + 1) ∧
      (s.fbState = fsLockup → (s.fbCounted t).rd R.FB_STATE_LOCKUP_LEFT = s.rd R.FB_STATE_LOCKUP_LEFT - 1) := by
  let s1 : State := { s with fb := s.fb.begun t }
  let c : State := s1.wr R.FB_CYCLE_CYCLE (satNat 32 (s1.fbCycle + 1))
  have hc : s.fbCounted t = if s.fbState == fsLockup then c.wr R.FB_STATE_LOCKUP_LEFT (s.rd R.FB_STATE_LOCKUP_LEFT - 1) else c := by
    rw [State.fbCounted, hstarted]
    rfl
  have hcycle : c.fbCycle = satNat 32 (s.fbCycle + 1) := s1.fbCycle_counted
  have hstate : c.fbState = s.fbState := State.rd_wr_ne s1 R.FB_STATE_STATE _ _ 0 0 0 0 (by decide)
  clear_value c
  rw [hc]
  split
  · have hleft : s.rd R.FB_STATE_LOCKUP_LEFT - 1 < 16 := by
      have : s.rd R.FB_STATE_LOCKUP_LEFT < 16 := Fld.ext_lt _ _
      omega
    obtain ⟨h1, h2, h3⟩ := c.lockupLeft_counted _ (by rwa [hstate]) hleft
    exact ⟨h1.trans hstate, h2.trans hcycle, fun _ => h3⟩
  · next h => exact ⟨hstate, hcycle, fun hl => absurd (by rw [hl]; rfl) h⟩

/-! ### Schedule switch (R369, R372) -/

/-- A delivery of a frame's status touches its own status word and the lanes. -/
theorem State.fbDeliver_fb (s : State) (i st cyc missed : Nat) (p : Option (List Word)) (t : Nat) : (s.fbDeliver i st cyc missed p t).fb = s.fb := by
  unfold State.fbDeliver
  split
  · exact (State.onLanes_fb _ _).trans rfl
  · rfl

theorem State.regAt_fbDeliver (s : State) (i st cyc missed : Nat) (p : Option (List Word)) (t a : Nat) (h : a < 0x101000) :
    (s.fbDeliver i st cyc missed p t).regAt a = s.regAt a := by
  have hkept (u : State) (f : Fld) (v : Nat) (hf : f.base = 0x101000) : (u.wr f v i).regAt a = u.regAt a :=
    State.regAt_wr _ _ _ _ _ _ (by have := f.addr_ge i 0; omega)
  have hthree : (((s.wr R.FB_FRM_STAT_STATUS st i).wr R.FB_FRM_STAT_CYCLE cyc i).wr R.FB_FRM_STAT_COUNT missed i).regAt a = s.regAt a := by
    rw [hkept _ _ _ rfl, hkept _ _ _ rfl, hkept _ _ _ rfl]
  unfold State.fbDeliver
  split
  · exact (State.regAt_onLanes _ _ _).trans hthree
  · exact hthree

/-- A schedule switch that its check passed (R369). -/
theorem State.fbSwitch_shows (s : State) (t : Nat) (hwf : Cells.wf s.rf.eff = true)
    (h : s.rd R.FB_SCHED_STAT_PENDING = 1 ∧ s.fb.passed = true ∧ s.fbCycle = s.rd R.FB_SWITCH_AT_CYCLE) :
    (∃ sync out, (s.fbSwitch t).fb = { s.fb with sync := sync, out := out }) ∧ (s.fbSwitch t).fbSched = s.rd R.FB_SCHED_STAT_TARGET := by
  obtain ⟨gone, hgone⟩ : ∃ gone : List Nat, s.fbSwitch t =
      (gone.foldl (fun u i => u.fbDeliver i 8 (u.rd R.FB_FRM_STAT_CYCLE i) (u.rd R.FB_FRM_STAT_COUNT i) none t)
        (((s.fbAnnEnd 1).wr R.FB_STATE_SCHED (s.rd R.FB_SCHED_STAT_TARGET)).raise 177 t)).fbSync t := ⟨_, if_pos h⟩
  generalize hs1 : ((s.fbAnnEnd 1).wr R.FB_STATE_SCHED (s.rd R.FB_SCHED_STAT_TARGET)).raise 177 t = s1 at hgone
  have hfb : s1.fb = s.fb := by
    rw [← hs1, State.raise_fb]
    rfl
  have hsched : s1.fbSched = s.rd R.FB_SCHED_STAT_TARGET := by
    refine Eq.trans ?_ (s.rd_mod R.FB_SCHED_STAT_TARGET 0 0)
    rw [← hs1]
    refine (State.rd_of_regAt R.FB_STATE_SCHED 0 0 (State.regAt_raise _ _ _ _)).trans ?_
    exact Cells.rd_wr_self _ _ _ 0 0 (Cells.wf_wr _ _ _ _ _ (Cells.wf_wr _ _ _ _ _ (Cells.wf_wr _ _ _ _ _ hwf))) (by decide)
  rw [hgone]
  constructor
  · obtain ⟨sync, out, hsync⟩ := State.fbSync_fb (gone.foldl (fun u i =>
      u.fbDeliver i 8 (u.rd R.FB_FRM_STAT_CYCLE i) (u.rd R.FB_FRM_STAT_COUNT i) none t) s1) t
    rw [foldl_same State.fb _ (fun _ _ => State.fbDeliver_fb _ _ _ _ _ _ _) gone s1, hfb] at hsync
    exact ⟨sync, out, hsync⟩
  · refine (State.fbSync_rd _ t R.FB_STATE_SCHED 0).trans (Eq.trans (State.rd_of_regAt _ 0 0 ?_) hsched)
    exact foldl_same (fun u : State => u.regAt R.FB_STATE_SCHED.addr) _ (fun _ _ => State.regAt_fbDeliver _ _ _ _ _ _ _ _ (by decide)) gone s1

end Sys2Proof.Machine

open Sys2Proof Sys2Proof.Machine

/-- Settles O45. -/
theorem formeControllerRuns : Obligations.FormeControllerRuns := by
  intro s b target t hl hsleep n
  have hfb : n.fb = s.fb := s.now_fb t
  have hst : n.fbState = s.fbState := s.fbState_now t
  have hsched : n.fbSched = s.fbSched := s.fbSched_now t
  have hcycle : n.fbCycle = s.fbCycle := s.fbCycle_now t
  have hrd (f : Fld) : n.rd f = s.rd f := s.rd_now t f 0 0
  have hbrd (f : Fld) : n.rd f b = s.rd f b := s.rd_now t f b 0
  refine ⟨fun hrf hwaits => ?cycles, fun h hleft => s.leaves_runAwake _ t _ _ hl hsleep rfl (if_pos ⟨hst.trans h, (hrd _).trans hleft⟩),
    fun h => s.leaves_runAwake _ t _ _ hl hsleep rfl (if_neg fun hc => ?_), fun h => s.leaves_run _ t _ _ hl rfl (if_pos (by rwa [hst])),
    fun h hp => s.leaves_run _ t _ _ hl rfl ((if_neg (by rw [hst, h]; decide)).trans (if_pos ((hrd _).trans hp))), fun h hp => ?requests,
    fun hp hc => ?check, fun hwf hp hpassed hc => ?switch, fun hp => ⟨s.leaves_runAwake _ t _ _ hl hsleep rfl (if_neg ?_), s.leaves_runAwake _ t _ _ hl hsleep rfl (if_neg ?_)⟩, ?release,
    fun h => ⟨s.leaves_run _ t _ _ hl rfl ?_, fun hen => s.leaves_run _ t _ _ hl rfl ?_, fun hen => s.leaves_run _ t _ _ hl rfl ?_⟩,
    fun h => s.leaves_run _ t _ _ hl rfl ?_⟩
  case cycles =>
    have hready : (n.fbReady t).cycleStart t = n.fbCycleStart t := n.cycleStart_ready t (by rwa [State.now_rf]) (by rwa [hfb])
    refine ⟨fun hstarted hdue hpark hstate => ?next, fun hstarted hdue hpark => s.leaves_runAwake _ t _ _ hl hsleep rfl (hready.trans ?park),
      fun hstarted hdue => s.leaves_runAwake _ t _ _ hl hsleep rfl (hready.trans (if_pos ?early)), fun hwf hstarted hpark hstate => ?first⟩
    case next =>
      obtain ⟨al, hal⟩ := n.fbCycleStart_next t (by simp [← hdue]) (by rwa [hfb]) (by rwa [hst])
      refine ⟨_, s.leaves_runAwake _ t _ _ hl hsleep rfl (hready.trans hal), ?_⟩
      obtain ⟨sync, out, hsync⟩ := ((n.fbCounted t).wr R.FB_STATE_TT_ALIGNED al).fbSync_fb t
      have hne : n.fbState ≠ 0 := by rw [hst]; rcases hstate with h | h <;> rw [h] <;> decide
      obtain ⟨h1, h2, h3⟩ := n.fbCounted_shows t (by rwa [hfb]) hne
      have hkept := (n.fbCounted t).fbAligned_keeps al (by rwa [h1])
      rw [hsync, State.wr_fb, State.fbCounted_fb]
      obtain ⟨k1, k2, k3⟩ := hkept
      refine ⟨rfl, rfl, rfl, rfl, rfl, k2.trans (h2.trans (by rw [hcycle])), k1.trans (h1.trans hst), fun h => ?_⟩
      exact k3.trans ((h3 (hst.trans h)).trans (by rw [hrd]))
    case park =>
      rw [State.fbCycleStart, if_neg (by simp [← hdue]), if_pos (by rwa [hfb])]
    case early => simp [hfb, hstarted, hdue]
    case first =>
      have hidle : n.fb.started = false := by rw [hfb, hstarted]
      obtain ⟨al, hal⟩ := n.fbCycleStart_next t (by simp [hidle]) (by rwa [hfb]) (by rw [hst]; exact .inl hstate)
      refine ⟨_, s.leaves_runAwake _ t _ _ hl hsleep rfl (hready.trans hal), ?_⟩
      obtain ⟨sync, out, hsync⟩ := ((n.fbCounted t).wr R.FB_STATE_TT_ALIGNED al).fbSync_fb t
      rw [hsync, State.wr_fb, State.fbCounted_fb]
      refine ⟨rfl, rfl, (State.rd_wr_ne _ R.FB_CYCLE_CYCLE _ _ 0 0 0 0 (by decide)).trans ?_⟩
      rw [State.fbCounted, hidle]
      exact Cells.rd_wr_self _ _ _ 0 0 (by rwa [State.now_rf]) (by decide)
  case requests =>
    have hreach : n.fbRequest target = if n.fbIsUsable target = false then n.fbLast 4 else if target.val = n.fbSched then n.fbLast 5 else _ :=
      (if_neg (by rw [hst, h]; decide)).trans (if_neg (by rw [hrd, hp]; decide))
    refine ⟨fun hu => s.leaves_run _ t _ _ hl rfl (hreach.trans (if_pos (by rwa [State.fbIsUsable_now]))),
      fun hu htarget => s.leaves_run _ t _ _ hl rfl (hreach.trans ((if_neg (by rw [State.fbIsUsable_now, hu]; decide)).trans (if_pos (by rwa [hsched])))),
      fun hu htarget => s.leaves_run _ t _ _ hl rfl (hreach.trans ((if_neg (by rw [State.fbIsUsable_now, hu]; decide)).trans
        ((if_neg (by rwa [hsched])).trans ?_)))⟩
    rw [hfb, hcycle, hrd]
  case check =>
    intro req
    have hreach : n.fbSwitchCheck t = if req &&& s.rd R.FB_SCHED_STAT_ACKED = req then { n with fb := { s.fb with passed := true } }
        else (((n.fbAnnEnd 2).wr R.FB_FLAGS_SWITCH_ABORT 1).raise 178 t).fbSync t := by
      rw [State.fbSwitchCheck, if_pos ⟨(hrd _).trans hp, by rw [hcycle, hrd, hc]⟩, hrd, hrd, hfb]
    exact ⟨fun hall => s.leaves_runAwake _ t _ _ hl hsleep rfl (hreach.trans (if_pos hall)),
      fun hmiss => s.leaves_runAwake _ t _ _ hl hsleep rfl (hreach.trans (if_neg hmiss))⟩
  case switch =>
    refine ⟨n.fbSwitch t, s.leaves_runAwake _ t _ _ hl hsleep rfl rfl, ?_⟩
    obtain ⟨h1, h2⟩ := n.fbSwitch_shows t (by rwa [State.now_rf]) ⟨(hrd _).trans hp, by rwa [hfb], by rw [hcycle, hrd, hc]⟩
    obtain ⟨sync, out, hsync⟩ := h1
    rw [hsync, hfb]
    exact ⟨hpassed, rfl, rfl, h2.trans (hrd _)⟩
  case release =>
    intro r
    have hreach : n.fbRelease b t = (if s.rd R.FB_BR_STAT_STATE b = bsDisabled then r else r.wr R.FB_BR_STAT_STATE bsActive b).fbBranchEvent b t := by
      rw [State.fbRelease, hbrd, State.fbBr_now]
    exact ⟨fun hs => s.leaves_run _ t _ _ hl rfl (hreach.trans (by rw [if_neg hs])),
      fun hs => s.leaves_run _ t _ _ hl rfl (hreach.trans (by rw [if_pos hs]))⟩
  · exact absurd (hst.symm.trans hc.1) (by rw [h]; decide)
  · exact fun hc => absurd ((hrd _).symm.trans hc.1) (by rw [hp]; decide)
  · exact fun hc => absurd ((hrd _).symm.trans hc.1) (by rw [hp]; decide)
  · exact if_pos ((hbrd _).trans h)
  · show n.fbSetLink b (true && n.fbEnabled b) t = n
    rw [State.fbEnabled_now, hen]
    exact if_pos ((hbrd _).trans h)
  · show n.fbSetLink b (true && n.fbEnabled b) t = _
    rw [State.fbEnabled_now, hen]
    exact if_neg (by rw [hbrd, h]; decide)
  · exact if_neg (by rw [State.rd_now, h, Bool.false_and]; decide)
end

end

section
section
/-! Proofs: frames of the Forme bus (spec/13_forme_bus.md). -/

namespace Sys2Proof.Machine

@[simp] theorem State.acting_now (s : State) (t : Nat) : (s.now t).acting = s.acting := by simp [State.acting]
@[simp] theorem State.fbHeader_now (s : State) (t kind : Nat) (sync null flag : Bool) (id len : Nat) :
    (s.now t).fbHeader kind sync null flag id len = s.fbHeader kind sync null flag id len := by simp [State.fbHeader]

/-! ### The star (R354, R361 to R363) -/

theorem State.starCheck_outOfSlot (s : State) (b : Nat) (f : FbFrame) (hact : s.rd R.FB_BR_STAT_STATE b = bsActive)
    (hwin : s.fbWindow b f.start = none) : s.starCheck b f = .outOfSlot := by
  rw [State.starCheck, if_neg (by rw [hact]; decide), hwin]

/-- The frame that leaves a branch after frames have been put on other branches. -/
theorem look_foldl_put (o : FbOut) (bs : List Nat) (m : NMap FbOut) (d : Nat) :
    NMap.look (bs.foldl (fun m b => NMap.put m b o) m) d = if d ∈ bs then some o else NMap.look m d := by
  induction bs generalizing m with
  | nil => simp
  | cons b bs ih =>
    rw [List.foldl_cons, ih]
    by_cases hb : d = b
    · subst hb
      simp
    · simp [hb, NMap.look_put_ne _ _ _ _ hb]

/-- A frame that began in its window is forwarded (R354, R361). -/
theorem State.fbForward_shows (s : State) (b : Nat) (f : FbFrame) (whole : Bool) (w : Bool × Nat) (hwin : s.fbWindow b f.start = some w) :
    let u := s.fbForward b f whole
    u.fb.fwd = s.fb.fwd ++ [{ branch := b, frame := f, whole := whole, win := w }] ∧
      u.fb.dyn = (if w.1 then s.fb.dyn else (w.2, fbOcc (s.fbMlead s.fbSched) (s.fbMl s.fbSched) f.len) :: s.fb.dyn) ∧
      ∀ d, NMap.look u.fb.out d = if d < 8 ∧ s.fbInUse d = true ∧ d ≠ b then some (.node b f whole) else NMap.look s.fb.out d := by
  intro u
  have hu : u = ({ s with fb := { s.fb with
      fwd := s.fb.fwd ++ [{ branch := b, frame := f, whole := whole, win := w }],
      dyn := if w.1 then s.fb.dyn else (w.2, fbOcc (s.fbMlead s.fbSched) (s.fbMl s.fbSched) f.len) :: s.fb.dyn } } : State).fbSend
        (some b) (.node b f whole) := by
    show s.fbForward b f whole = _
    rw [State.fbForward, hwin]
  rw [hu]
  refine ⟨rfl, rfl, fun d => (look_foldl_put _ _ _ _).trans (ite_eq_of_iff ?_ rfl rfl)⟩
  simp [State.fbInUse, State.fbEnabled, State.rd]

/-! ### Reception (R371, R372) -/

/-- A frame of a receive entry that the star forwarded to the controller. -/
theorem State.fbAccept_forwarded (s : State) (b : Nat) (f : FbFrame) (t : Nat) (a : FbFwd) (w : Bool × Nat × Word)
    (ha : s.fb.fwd.find? (fun x => x.branch == b && x.frame == f) = some a) (hw : s.fbByWin a.win = some w)
    (hrx : s.fbIsTx (fbEntry w.2.2) = false) :
    let i := fbEntry w.2.2
    let fb0 := { s.fb with fwd := s.fb.fwd.erase a }
    s.fbAccept b f t =
      if a.whole && f.fcs && f.len == s.fbBytes i && f.sched == s.fbSched then
        let u := ({ s with fb := { fb0 with accepted := i :: s.fb.accepted } } : State).fbDeliver i (if f.null then 2 else 1)
          (s.fbCycle % 256) 0 (if f.null then none else some ((List.range (f.len / 4)).map fun k => f.payload.getD k 0)) (usAfter t)
        if s.fbEvEn i then u.raise (192 + s.fbEv i) t else u
      else if w.1 then { s with fb := { fb0 with bad := i :: s.fb.bad } }
      else ({ s with fb := fb0 } : State).fbDeliver i 16 (s.rd R.FB_FRM_STAT_CYCLE i) (s.rd R.FB_FRM_STAT_COUNT i) none (usAfter t) := by
  intro i fb0
  have hwin : ({ s with fb := fb0 } : State).fbByWin a.win = some w := hw
  rw [State.fbAccept, ha]
  dsimp only
  rw [hwin]
  exact if_neg (Bool.eq_false_iff.mp hrx)

/-- The end of a static slot of a receive entry. -/
theorem State.fbSlotEnd_entry (s : State) (k t : Nat) (w : Bool × Nat × Word) (hst : s.fbState = fsPress ∨ s.fbState = fsLockup)
    (hw : ((s.fbWords s.fbSched).find? fun x => x.1 && x.2.1 == k) = some w) (hrx : s.fbIsTx (fbEntry w.2.2) = false) :
    let i := fbEntry w.2.2
    s.fbSlotEnd k t = if s.fb.accepted.contains i then s
      else s.fbDeliver i (4 + (if s.fb.bad.contains i then 16 else 0)) (s.rd R.FB_FRM_STAT_CYCLE i)
        (min 65535 (s.rd R.FB_FRM_STAT_COUNT i + 1)) none t := by
  intro i
  rw [State.fbSlotEnd, if_neg (by rcases hst with h | h <;> rw [h] <;> decide), hw]
  dsimp only
  rw [hrx, Bool.false_or]

/-! ### Transmission (R358, R366, R371) -/

/-- The preparation of a static transmit entry. -/
theorem State.fbPrepare_static (s : State) (i t : Nat) (w : Bool × Nat × Word) (hst : s.fbState = fsLockup ∨ s.fbState = fsPress)
    (hw : s.fbNamed s.fbSched i = some w) (hstatic : w.1 = true) (htx : s.fbIsTx i = true) :
    let x := fbApplySets (s.fbTx i) (s.fbBytes i / 4) t
    let null := s.mode != mdRun || s.isSafe || s.fbState == fsLockup || (s.fbLeased && !s.acting)
    let frame := fbFrameBytes (s.fbHeader 0 false null false w.2.1 (s.fbBytes i)) (x.q.flatMap wordBytes)
    s.fbPrepare i t =
      (s.setFbTx i { x with prepared := x.q, null := null, pending := false, frame := frame }).fbSend none (.own frame) := by
  intro x null frame
  rw [State.fbPrepare, if_pos hst, hw]
  dsimp only
  rw [htx, hstatic]
  rfl

/-- At the network idle with no dynamic frame of its own prepared, the controller judges the branches (R365). -/
theorem State.fbIdle_judges (s : State) (t : Nat) (hst : s.fbState = fsLockup ∨ s.fbState = fsPress) (hown : s.fb.own = []) :
    s.fbIdle t = (List.range 8).foldl (fun s k => s.fbBranchIdle k t) s := by
  rw [State.fbIdle, if_pos hst, hown]
  dsimp only
  rw [List.foldl_nil, ← hown]

end Sys2Proof.Machine

open Sys2Proof Sys2Proof.Machine

/-- Settles O46. -/
theorem formeFramesPass : Obligations.FormeFramesPass := by
  intro s b f t hl hsleep n viol
  have hfb : n.fb = s.fb := s.now_fb t
  have hst : n.fbState = s.fbState := s.fbState_now t
  have hsched : n.fbSched = s.fbSched := s.fbSched_now t
  have hcycle : n.fbCycle = s.fbCycle := s.fbCycle_now t
  have hrd (f : Fld) (i : Nat) : n.rd f i = s.rd f i := s.rd_now t f i 0
  have hbr : n.fbBr b = s.fbBr b := s.fbBr_now t b
  have hmark (u : State) (hu : u.fb = n.fb) : u.setFbBr b { u.fbBr b with viol := true } = viol u :=
    congrArg (fun x : FbBranch => u.setFbBr b { x with viol := true })
      ((congrArg (fun fb : FbState => NMap.get fb.br {} b) hu).trans hbr)
  have hstar (o : StarOut) (ho : n.starCheck b f = o) (u : State) (hu : n.starFrame b f = u) : s.leaves (.starFrameCheck b f t) t u :=
    s.leaves_runAwake _ t _ _ hl hsleep rfl hu
  refine ⟨fun h => hstar _ h _ ?_, fun h => hstar _ h _ ?_, fun h => hstar _ h _ ?_, fun h => hstar _ h _ ?_,
    fun h => ⟨fun hack => hstar _ h _ ?_, fun hack hp hfirst => hstar _ h _ ?_⟩, s.starCheck_outOfSlot b f,
    fun whole w hwin => ?forward, fun h => s.leaves_runAwake _ t _ _ hl hsleep rfl ?_, fun a w ha hw hrx => ?accept,
    fun k w hst' hw hrx => ?slot, fun i w hst' hw hstatic htx => s.leaves_runAwake _ t _ _ hl hsleep rfl ?prepare,
    fun h hown => s.leaves_runAwake _ t _ _ hl hsleep rfl (n.fbIdle_judges t (by rw [hst]; exact h.symm) (by rw [hfb, hown])),
    fun h => s.leaves_runAwake _ t _ _ hl hsleep rfl (if_neg ?_)⟩
  case forward =>
    intro u
    obtain ⟨hfwd, hdyn, hout⟩ := s.fbForward_shows b f whole w hwin
    refine ⟨hfwd, fun h => hdyn.trans (if_pos h), fun h => hdyn.trans (if_neg (by rw [h]; decide)), fun d hd hne huse => ?_, ?_⟩
    · exact (hout d).trans (if_pos ⟨hd, huse, hne⟩)
    · exact (hout b).trans (if_neg fun h => h.2.2 rfl)
  case accept =>
    intro i fb0
    have haccept := n.fbAccept_forwarded b f t a w (by rw [hfb, ha]) hw hrx
    simp only [hfb, hsched, hcycle, hrd] at haccept
    refine ⟨fun hno => ?_, fun hwhole hfcs hlen hsch => ?_⟩
    · have hcond : ¬ (a.whole && f.fcs && f.len == n.fbBytes (fbEntry w.2.2) && f.sched == s.fbSched) = true := by
        rcases hno with h | h | h | h
        · simp [h]
        · simp [h]
        · simp [show f.len ≠ n.fbBytes (fbEntry w.2.2) from h]
        · simp [h]
      exact ⟨fun h => s.leaves_runAwake _ t _ _ hl hsleep rfl (haccept.trans ((if_neg hcond).trans (if_pos h))),
        fun h => s.leaves_runAwake _ t _ _ hl hsleep rfl (haccept.trans ((if_neg hcond).trans (if_neg (by rw [h]; decide))))⟩
    · have hcond : (a.whole && f.fcs && f.len == n.fbBytes (fbEntry w.2.2) && f.sched == s.fbSched) = true := by
        rw [hwhole, hfcs, hsch, show f.len = n.fbBytes (fbEntry w.2.2) from hlen]
        simp
      intro u
      exact ⟨fun h => s.leaves_runAwake _ t _ _ hl hsleep rfl (haccept.trans ((if_pos hcond).trans (if_neg (Bool.eq_false_iff.mp h)))),
        fun h => s.leaves_runAwake _ t _ _ hl hsleep rfl (haccept.trans ((if_pos hcond).trans (if_pos h)))⟩
  case slot =>
    intro i
    have hend := n.fbSlotEnd_entry k t w (by rwa [hst]) (by rwa [hsched]) hrx
    simp only [hfb, hrd] at hend
    exact ⟨fun h => s.leaves_runAwake _ t _ _ hl hsleep rfl (hend.trans (if_pos h)),
      fun h => s.leaves_runAwake _ t _ _ hl hsleep rfl (hend.trans (if_neg (Bool.eq_false_iff.mp h)))⟩
  case prepare =>
    refine (n.fbPrepare_static i t w (by rw [hst]; exact hst'.symm) (by rwa [hsched]) hstatic htx).trans ?_
    simp only [n, State.fbTx_now, State.mode_now, State.isSafe_now, State.fbState_now, State.acting_now, State.fbHeader_now]
  · show n.starFrame b f = _
    rw [State.starFrame, h]
  · show n.starFrame b f = _
    rw [State.starFrame, h]
    exact hmark (n.bump R.FB_BR_VIOL_OUT_OF_SLOT b) (n.bump_fb _ b 0 1)
  · show n.starFrame b f = _
    rw [State.starFrame, h]
    exact congrArg (fun u : State => u.fbForward b f false) (hmark (n.bump R.FB_BR_VIOL_HEADER b) (n.bump_fb _ b 0 1))
  · show n.starFrame b f = _
    rw [State.starFrame, h]
    exact congrArg (fun u : State => u.fbForward b f false) (hmark (n.bump R.FB_BR_VIOL2_OVERLONG b) (n.bump_fb _ b 0 1))
  · show n.starFrame b f = _
    rw [State.starFrame, h]
    refine congrArg (fun u : State => u.fbForward b f true) (if_neg ?_)
    rcases hack with h | h <;> simp [hrd, h]
  · show n.starFrame b f = _
    rw [State.starFrame, h]
    refine congrArg (fun u : State => u.fbForward b f true) (if_pos ?_)
    simp [n, hack, hp, hfirst]
  · show n.fbAccept b f t = n
    rw [State.fbAccept, hfb, h]
  · show ¬ (n.fbState = fsLockup ∨ n.fbState = fsPress)
    rw [hst]
    rcases h with h | h <;> rw [h] <;> decide
end

end

section
section
/-! Proofs: the consist switches and the endpoint (spec/14_train_network.md). -/

namespace Sys2Proof.Machine

@[simp] theorem State.queue_now (s : State) (t q : Nat) : (s.now t).queue q = s.queue q := by simp [State.queue]
@[simp] theorem State.linkUp_now (s : State) (t p : Nat) : (s.now t).linkUp p = s.linkUp p := by simp [State.linkUp]
@[simp] theorem State.nwIp_now (s : State) (t pl : Nat) : (s.now t).nwIp pl = s.nwIp pl := by simp [State.nwIp]
@[simp] theorem State.arpEntry_now (s : State) (t pl : Nat) (ip : Word) : (s.now t).arpEntry pl ip = s.arpEntry pl ip := by
  simp [State.arpEntry]
@[simp] theorem State.vlanMembers_now (s : State) (t pl v : Nat) : (s.now t).vlanMembers pl v = s.vlanMembers pl v := by
  simp [State.vlanMembers, State.vlanEntry]

/-! ### Switches (R376, R377) -/

/-- What a received frame is told by depends on the VLAN tables alone. -/
theorem State.frameVid_congr {s u : State} (h : u.nw.vlan = s.nw.vlan) (p : Nat) (f : EthFrame) : u.frameVid p f = s.frameVid p f := by
  simp only [State.frameVid, State.portPvid, h]
theorem State.framePcp_congr {s u : State} (h : u.nw.vlan = s.nw.vlan) (p : Nat) (f : EthFrame) : u.framePcp p f = s.framePcp p f := by
  simp only [State.framePcp, State.portPcp, h]

theorem State.enqueueTransit_vlan (s : State) (q : Nat) (f : QFrame) : (s.enqueueTransit q f).nw.vlan = s.nw.vlan := by
  unfold State.enqueueTransit
  exact ite_same (fun u : State => u.nw.vlan) rfl (ite_same (fun u : State => u.nw.vlan) rfl (ite_same (fun u : State => u.nw.vlan) rfl rfl))
theorem State.mirrorPort_vlan (s : State) (p : Nat) (f : SentFrame) : (s.mirrorPort p f).nw.vlan = s.nw.vlan := by
  unfold State.mirrorPort
  split
  · exact s.enqueueTransit_vlan _ _
  · rfl
theorem State.learn_vlan (s : State) (pl : Nat) (mac : BitVec 48) (p t : Nat) : (s.learn pl mac p t).nw.vlan = s.nw.vlan :=
  ite_same (fun u : State => u.nw.vlan) rfl rfl

/-- The copy of a received frame that its mirror takes (R400). -/
def seenFrame (f : EthFrame) : SentFrame :=
  { tag := f.tag.map fun v => (v.1.toNat, v.2.toNat), len := f.len, frame := some f }

/-- A frame that goes no further: damaged, for the switch itself, or of a VLAN its port is no member of (R376, R377). -/
theorem State.switchFrame_damaged (s : State) (p : Nat) (f : EthFrame) (t : Nat) (h : f.fcs = false ∨ 1522 < f.len) :
    s.switchFrame p f t = (s.mirrorPort p (seenFrame f)).bump R.NW_PORT_CNT_FCS_ERR p :=
  if_pos (by simpa using h)

theorem State.switchFrame_kept (s : State) (p : Nat) (f : EthFrame) (t : Nat) (hfcs : f.fcs = true) (hlen : f.len ≤ 1522)
    (h : f.pause = true ∨ f.dst.toNat / 16 = 0x0180C200000) : s.switchFrame p f t = s.mirrorPort p (seenFrame f) :=
  (if_neg (by simp [hfcs, hlen])).trans (if_pos (by simpa using h))

theorem State.switchFrame_foreign (s : State) (p : Nat) (f : EthFrame) (t : Nat) (hfcs : f.fcs = true) (hlen : f.len ≤ 1522)
    (h : s.vlanMembers (p / 2) (s.frameVid p f) = none ∨
      ∃ m, s.vlanMembers (p / 2) (s.frameVid p f) = some m ∧ m.testBit (p % 2) = false) :
    s.switchFrame p f t = s.mirrorPort p (seenFrame f) := by
  refine (if_neg (by simp [hfcs, hlen])).trans (ite_same (fun u : State => u) rfl ?_)
  rcases h with h | ⟨m, hm, hbit⟩
  · dsimp only
    rw [h]
    rfl
  · dsimp only
    rw [hm]
    exact if_pos (by simp [hbit])

/-- A frame for a learned address goes to its port (R376). -/
theorem State.switchFrame_taken (s : State) (p : Nat) (f : EthFrame) (t m d : Nat) (hfcs : f.fcs = true) (hlen : f.len ≤ 1522)
    (hpause : f.pause = false) (hdst : f.dst.toNat / 16 ≠ 0x0180C200000) (hm : s.vlanMembers (p / 2) (s.frameVid p f) = some m)
    (hin : m.testBit (p % 2) = true) (hone : isGroup f.dst = false) (hd4 : d < 4) (hdp : d ≠ p) (hout : m.testBit (d % 2) = true)
    (hlearned : ((s.mirrorPort p (seenFrame f)).learn (p / 2) f.src p t).learned (p / 2) f.dst = some d)
    (hup : ((s.mirrorPort p (seenFrame f)).learn (p / 2) f.src p t).linkUp d = true) :
    s.switchFrame p f t = ((s.mirrorPort p (seenFrame f)).learn (p / 2) f.src p t).enqueueTransit d
      { pcp := s.framePcp p f, bytes := f.len, frame := some f, vid := s.frameVid p f, inPort := p, inAt := t } := by
  have hpcp : ((s.mirrorPort p (seenFrame f)).learn (p / 2) f.src p t).framePcp p f = s.framePcp p f :=
    State.framePcp_congr ((State.learn_vlan _ _ _ _ _).trans (State.mirrorPort_vlan _ _ _)) p f
  rw [← hpcp]
  refine (if_neg (by simp [hfcs, hlen])).trans ((if_neg (by simp [hpause, hdst])).trans ?_)
  dsimp only
  rw [hm]
  refine (if_neg (by simp [hin])).trans ?_
  rw [show ({ tag := f.tag.map fun v => (v.1.toNat, v.2.toNat), len := f.len, frame := some f } : SentFrame) = (seenFrame f) from rfl, hone,
    if_neg Bool.false_ne_true, hlearned]
  dsimp only
  rw [if_neg hdp, List.filter_cons_of_pos (by rw [if_neg (by omega), hout, hup]; rfl)]
  rfl

/-! ### Links (R399) -/

/-- What is shown of a port's link. -/
def State.linkShown (s : State) (p : Nat) : NMap Nat × Word := (s.nw.links, s.regAt (R.NW_PORT_STAT_SPEED.addr p))

theorem State.linkShown_wr (s : State) (f : Fld) (v i j p : Nat) (hp : p < 5) (h : 0x120014 ≤ f.base) :
    (s.wr f v i j).linkShown p = s.linkShown p := by
  have hf := f.addr_ge i j
  have ha : R.NW_PORT_STAT_SPEED.addr p ≠ f.addr i j := by simp only [Fld.addr, R.NW_PORT_STAT_SPEED] at hf ⊢; omega
  rw [State.linkShown, State.regAt_wr s f v i j _ ha]
  rfl

theorem State.linkShown_onLanes (s : State) (g : Lane → Lane) (p : Nat) : (s.onLanes g).linkShown p = s.linkShown p := by
  rw [State.linkShown, State.regAt_onLanes, State.onLanes_nw]
  rfl
theorem State.linkShown_raise (s : State) (n t p : Nat) : (s.raise n t).linkShown p = s.linkShown p :=
  ite_same (fun u : State => u.linkShown p) rfl (s.linkShown_onLanes _ p)

theorem State.linkShown_ptpEnter (s : State) (st t p : Nat) (hp : p < 5) : (s.ptpEnter st t).linkShown p = s.linkShown p :=
  ite_same (fun u : State => u.linkShown p) rfl ((State.linkShown_raise _ _ _ _).trans (s.linkShown_wr _ _ _ _ _ hp (by decide)))

theorem State.linkShown_ptpFollow (s : State) (t p : Nat) (hp : p < 5) : (s.ptpFollow t).linkShown p = s.linkShown p :=
  ite_same (fun u : State => u.linkShown p) (s.linkShown_ptpEnter _ _ _ hp)
    (ite_same (fun u : State => u.linkShown p) (s.linkShown_ptpEnter _ _ _ hp) rfl)

theorem State.linkShown_ptpSelect (s : State) (t p : Nat) (hp : p < 5) : (s.ptpSelect t).linkShown p = s.linkShown p := by
  have hmpd (x : PtpState) : ((s.setPtp x).wr R.NW_PTP_MPD 0).linkShown p = s.linkShown p :=
    State.linkShown_wr _ _ _ _ _ _ hp (by decide)
  have hgm (u : State) (a b : Nat) : ((u.wr R.NW_PTP_GM_LO a).wr R.NW_PTP_GM_HI b).linkShown p = u.linkShown p :=
    (State.linkShown_wr _ _ _ _ _ _ hp (by decide)).trans (State.linkShown_wr _ _ _ _ _ _ hp (by decide))
  unfold State.ptpSelect
  dsimp only
  split
  · refine ite_same (fun u : State => u.linkShown p) ((State.linkShown_ptpEnter _ _ _ _ hp).trans ?_) ?_ <;>
      exact ite_same (fun u : State => u.linkShown p) rfl (hmpd _)
  · refine ite_same (fun u : State => u.linkShown p) ((State.linkShown_ptpFollow _ _ _ hp).trans
      ((State.linkShown_ptpEnter _ _ _ _ hp).trans ((hgm _ _ _).trans ?_))) ((hgm _ _ _).trans ?_) <;>
      exact ite_same (fun u : State => u.linkShown p) rfl (hmpd _)

theorem State.linkShown_mdStatus (s : State) (k t p : Nat) (hp : p < 5) : (s.mdStatus k t).linkShown p = s.linkShown p :=
  (State.linkShown_onLanes _ _ p).trans (s.linkShown_wr _ _ _ _ _ hp (by decide))

/-- A link that comes up shows (R399). -/
theorem State.linkChange_up (s : State) (p : Nat) (gig : Bool) (t : Nat) (hp : p < 4) :
    (s.linkChange p true gig t).linkUp p = true ∧ (s.linkChange p true gig t).rd R.NW_PORT_STAT_SPEED p = if gig then 3 else 2 := by
  have hv : (if (!true) = true then 0 else if (gig && decide (p < 4)) = true then 3 else 2) = if gig then 3 else 2 := by
    simp [hp]
  let s1 := (s.wr R.NW_PORT_STAT_LINK 1 p).wr R.NW_PORT_STAT_SPEED (if gig then 3 else 2) p
  let s2 : State := { s1 with nw := { s1.nw with links := NMap.put s1.nw.links p (if gig && decide (p < 4) then 3 else 2) } }
  have hshown : (s.linkChange p true gig t).linkShown p = s2.linkShown p := by
    unfold State.linkChange
    rw [hv]
    refine ite_same (fun u : State => u.linkShown p) rfl ((foldl_same (fun u : State => u.linkShown p) _ (fun u k => ?_) _ _).trans ?_)
    · exact ite_same (fun u : State => u.linkShown p) (u.linkShown_mdStatus _ _ _ (by omega)) rfl
    · refine ite_same (fun u : State => u.linkShown p) (State.linkShown_raise _ _ _ _) (ite_same (fun u : State => u.linkShown p)
        ((State.linkShown_ptpEnter _ _ _ _ (by omega)).trans (State.linkShown_raise _ _ _ _))
        (ite_same (fun u : State => u.linkShown p) ?_ (State.linkShown_raise _ _ _ _)))
      exact (State.linkShown_ptpSelect _ _ _ (by omega)).trans ((State.linkShown_ptpEnter _ _ _ _ (by omega)).trans
        (State.linkShown_raise _ _ _ _))
  obtain ⟨hlinks, hspeed⟩ := Prod.ext_iff.mp hshown
  constructor
  · show (NMap.look (s.linkChange p true gig t).nw.links p).isSome = true
    rw [show (s.linkChange p true gig t).nw.links = NMap.put s1.nw.links p (if gig && decide (p < 4) then 3 else 2) from hlinks,
      NMap.look_put_self]
    rfl
  · refine (State.rd_of_regAt R.NW_PORT_STAT_SPEED p 0 hspeed).trans ?_
    exact (State.rd_wr_of_ne_zero _ R.NW_PORT_STAT_SPEED _ p 0 (by decide) (by cases gig <;> decide)).trans (by cases gig <;> rfl)

/-! ### The endpoint's cache (R378) -/

/-- A refresh or a retry of an entry whose time has come. -/
theorem State.arpAsk_due (s : State) (pl : Nat) (ip : Word) (a : Option (BitVec 48)) (retry : Bool) (t : Nat) (e : ArpEntry)
    (he : s.arpEntry pl ip = some e) (hopen : retry = true → e.mac = none)
    (ht : e.asked + (if retry then 1000000000 else 60000000000) ≤ t) :
    s.arpAsk pl ip a retry t = s.putArp { e with mac := a, asked := t } := by
  rw [State.arpAsk, he]
  refine if_pos ?_
  cases retry
  · simpa using ht
  · simpa [hopen rfl] using ht

/-- An answer to a request that is still open. -/
theorem State.arpAsk_answered (s : State) (pl : Nat) (ip : Word) (m : BitVec 48) (retry : Bool) (t : Nat) (e : ArpEntry)
    (he : s.arpEntry pl ip = some e) (hopen : e.mac = none) (ht : t < e.asked + 1000000000) :
    s.arpAsk pl ip (some m) retry t = s.putArp { e with mac := some m } := by
  have hwait : ¬ e.asked + (if retry then 1000000000 else 60000000000) ≤ t := by split <;> omega
  rw [State.arpAsk, he]
  exact (if_neg (by simp [hwait])).trans (if_pos (by simp [hopen]))

theorem State.arpAsk_resolved (s : State) (pl : Nat) (ip : Word) (a : Option (BitVec 48)) (t : Nat) (e : ArpEntry)
    (he : s.arpEntry pl ip = some e) (hmac : e.mac ≠ none) : s.arpAsk pl ip a true t = s := by
  obtain ⟨m, hm⟩ := Option.ne_none_iff_exists'.mp hmac
  rw [State.arpAsk, he]
  exact (if_neg (by simp [hm])).trans (if_neg (by simp [hm]))

/-! ### What leaves (R377, R380, R381, R385) -/

theorem State.egress_empty (s : State) (q t : Nat) (h : s.queue q = []) : s.egress q t = s := by
  rw [State.egress, h]
  rfl

/-- The queue of a port without the frame that leaves it, and the frame mirrored. -/
def State.dequeued (s : State) (q : Nat) (g : QFrame) (t : Nat) : State :=
  let r0 := s.setQueue q ((s.queue q).erase g)
  if q < 4 then r0.mirrorPort q (r0.sentOf q g t) else r0

/-- The frame that leaves a port, where it is not one of the module's copies. -/
theorem State.egress_foreign (s : State) (q t : Nat) (g : QFrame)
    (hg : ((s.queue q).find? fun g => g.pcp == topPcp (s.queue q)) = some g) (hown : g.own = none) :
    (q < 4 ∨ q = 6 ∨ g.frame = none → s.egress q t = (s.dequeued q g t).putSent q g t) ∧
      ∀ e, q = 4 ∨ q = 5 → g.frame = some e → s.egress q t = ((s.dequeued q g t).putSent q g t).endpointFrame (q - 4) e t := by
  rw [State.egress, hg]
  dsimp only
  rw [hown]
  dsimp only
  refine ⟨fun h => ?_, fun e hq he => ?_⟩
  · by_cases hq : q = 4 ∨ q = 5
    · have hnone : g.frame = none := by
        rcases h with h | h | h
        · omega
        · omega
        · exact h
      rw [if_pos hq, hnone]
      rfl
    · exact if_neg hq
  · rw [if_pos hq, he]
    rfl

/-- The module's own copy that leaves a port: on time, late, or dropped at twice its deadline. -/
theorem State.egress_own (s : State) (q t : Nat) (g : QFrame) (o : OwnCopy)
    (hg : ((s.queue q).find? fun g => g.pcp == topPcp (s.queue q)) = some g) (hown : g.own = some o) :
    s.egress q t =
      if o.tp + 2000 * o.deadline ≤ t then (s.setQueue q ((s.queue q).erase g)).copyLate o true t
      else
        let u := ((s.dequeued q g t).putSent q g t).copyLeft o (q / 2) t
        if o.tp + 1000 * o.deadline ≤ t then u.copyLate o false t else u := by
  rw [State.egress, hg]
  dsimp only
  rw [hown]
  rfl

theorem State.copyDrop_none (s : State) (q t : Nat) (h : ∀ g ∈ s.queue q, g.own = none) :
    s.copyDrop q t = s.setQueue q (s.queue q) := by
  unfold State.copyDrop
  dsimp only
  rw [List.filter_eq_self.mpr fun g hg => by simp [h g hg], List.filterMap_eq_nil_iff.mpr fun g hg => by simp [h g hg], List.foldl_nil]

theorem State.copyDrop_one (s : State) (q t : Nat) (o : OwnCopy) (g : QFrame) (hq : s.queue q = [g]) (hown : g.own = some o)
    (ht : o.tp + 2000 * o.deadline ≤ t) : s.copyDrop q t = (s.setQueue q []).copyLate o true t := by
  simp [State.copyDrop, hq, hown, ht]

theorem State.residence_unlocked (s : State) (a t : Nat) (hl : s.ttLocked = false) (h : a ≤ t) :
    s.residence a t = 65536 * ((t : Int) - a) := by
  rw [State.residence, hl, if_neg Bool.false_ne_true, Int.ofNat_sub h]

theorem State.residence_locked (s : State) (a t : Nat) (hl : s.ttLocked = true) (h : a ≤ t) :
    s.residence a t = 65536 * ((t : Int) - a) + 65536 * ((t : Int) - a) * s.lg.rate / 1000000000 := by
  rw [State.residence, hl, if_pos rfl, Int.ofNat_sub h]

end Sys2Proof.Machine

open Sys2Proof Sys2Proof.Machine

/-- Settles O47. -/
theorem consistNetworkForwards : Obligations.ConsistNetworkForwards := by
  refine ⟨fun s p q pl f ip asker mac t hl hsleep => ?_, fun s q f e t => ?_⟩
  · intro n seen vid
    have hvid : n.frameVid p f = vid := State.frameVid_congr (congrArg NwState.vlan (s.now_nw t)) p f
    have hpcp : n.framePcp p f = s.framePcp p f := State.framePcp_congr (congrArg NwState.vlan (s.now_nw t)) p f
    have hmem (pl v : Nat) : n.vlanMembers pl v = s.vlanMembers pl v := s.vlanMembers_now t pl v
    have hqueue : n.queue q = s.queue q := s.queue_now t q
    refine ⟨fun h => s.leaves_run _ t _ _ hl rfl (n.switchFrame_damaged p f t h), fun hfcs hlen h => s.leaves_run _ t _ _ hl rfl ?kept,
      fun m d hfcs hlen hpause hdst hm hin hone => ?taken, s.leaves_run _ t _ _ hl rfl ?age,
      s.leaves_runAwake _ t _ _ hl hsleep rfl ?arp, fun h => s.leaves_runAwake _ t _ _ hl hsleep rfl (if_neg ?other),
      fun e a he => ?cache, fun h => s.leaves_run _ t _ _ hl rfl (n.egress_empty q t (hqueue.trans h)), fun g hg => ?send,
      fun h => ?none, fun o g hq hown ht => s.leaves_run _ t _ _ hl rfl (n.copyDrop_one q t o g (hqueue.trans hq) hown ht),
      fun gig => ⟨n.linkChange p true gig t, s.leaves_run _ t _ _ hl rfl rfl, n.linkChange_up p gig t p.isLt⟩⟩
    case kept =>
      rcases h with h | h | h | ⟨m, hm, hbit⟩
      · exact n.switchFrame_kept p f t hfcs hlen (.inl h)
      · exact n.switchFrame_kept p f t hfcs hlen (.inr h)
      · exact n.switchFrame_foreign p f t hfcs hlen (.inl (by rw [hvid, hmem, h]))
      · exact n.switchFrame_foreign p f t hfcs hlen (.inr ⟨m, by rw [hvid, hmem, hm], hbit⟩)
    case taken =>
      intro l hlearned hd4 hdp hout hup
      refine s.leaves_run _ t _ _ hl rfl ?_
      have := n.switchFrame_taken p f t m d hfcs hlen hpause hdst (by rw [hvid, hmem, hm]) hin hone hd4 hdp hout hlearned hup
      rwa [hvid, hpcp] at this
    case age =>
      show n.ageAddress pl mac t = _
      rw [State.ageAddress, s.now_nw t]
    case arp =>
      show n.endpointArp pl (s.nwIp pl) asker t = _
      rw [State.endpointArp, if_pos (s.nwIp_now t pl).symm, s.now_nw t]
    case other => rwa [s.nwIp_now t pl]
    case cache =>
      have hen : n.arpEntry pl ip = some e := (s.arpEntry_now t pl ip).trans he
      refine ⟨fun h => s.leaves_runAwake _ t _ _ hl hsleep rfl (n.arpAsk_due pl ip a false t e hen (fun h => nomatch h) h),
        fun hmac h => s.leaves_runAwake _ t _ _ hl hsleep rfl (n.arpAsk_due pl ip a true t e hen (fun _ => hmac) h),
        fun hmac h m ha => ?_, fun h => s.leaves_runAwake _ t _ _ hl hsleep rfl (n.arpAsk_resolved pl ip a t e hen h)⟩
      subst ha
      exact ⟨s.leaves_runAwake _ t _ _ hl hsleep rfl (n.arpAsk_answered pl ip m true t e hen hmac h),
        s.leaves_runAwake _ t _ _ hl hsleep rfl (n.arpAsk_answered pl ip m false t e hen hmac h)⟩
    case send =>
      intro r0 r
      rw [← hqueue] at hg
      have hr0 : r0 = n.setQueue q ((n.queue q).erase g) := by rw [hqueue]
      have hr : r = n.dequeued q g t := by rw [State.dequeued, hqueue]
      rw [hr, hr0]
      refine ⟨fun hown => ?_, fun o hown => ?_⟩
      · obtain ⟨hplain, hendpoint⟩ := n.egress_foreign q t g hg hown
        exact ⟨fun h => s.leaves_run _ t _ _ hl rfl (hplain h), fun e hq he => s.leaves_run _ t _ _ hl rfl (hendpoint e hq he)⟩
      · have hsend := n.egress_own q t g o hg hown
        refine ⟨fun h => s.leaves_run _ t _ _ hl rfl (hsend.trans (if_pos h)), fun h => ?_⟩
        have hnot : ¬ o.tp + 2000 * o.deadline ≤ t := Nat.not_le.mpr h
        exact ⟨fun hlate => s.leaves_run _ t _ _ hl rfl (hsend.trans ((if_neg hnot).trans (if_pos hlate))),
          fun hlate => s.leaves_run _ t _ _ hl rfl (hsend.trans ((if_neg hnot).trans (if_neg (Nat.not_le.mpr hlate))))⟩
    case none =>
      refine s.leaves_run _ t _ _ hl rfl ?_
      have := n.copyDrop_none q t (by rwa [hqueue])
      rwa [hqueue] at this
  · intro o
    refine ⟨fun m hm hv hty hin hq => ?_, fun m hm h => ?_, fun h => ?_, fun hcopy hframe => ?_, s.residence_unlocked f.inAt t,
      s.residence_locked f.inAt t, fun h => ?_, fun h => ?_⟩
    · show (s.egressFrame q f e t).frame = _
      simp only [State.egressFrame, hm, hv, hty, hin, hq, and_self, if_true]
    · show (s.egressFrame q f e t).frame = _
      simp only [State.egressFrame, hm]
      rw [if_neg (by omega)]
    · show (s.egressFrame q f e t).frame = _
      simp only [State.egressFrame, h]
    · refine (NMap.look_put_self _ _ _).trans (congrArg some ?_)
      rw [State.sentOf, hcopy, hframe]
    · exact if_pos h
    · exact if_neg (by rw [h]; exact Bool.false_ne_true)
end

end

section
section
/-! Proofs: process and message data (spec/14_train_network.md). -/

namespace Sys2Proof.Machine

@[simp] theorem State.nwPd_now (s : State) (t k : Nat) : (s.now t).nwPd k = s.nwPd k := by simp [State.nwPd]
@[simp] theorem State.nwSdt_now (s : State) (t k : Nat) : (s.now t).nwSdt k = s.nwSdt k := by simp [State.nwSdt]
@[simp] theorem State.nwMd_now (s : State) (t k : Nat) : (s.now t).nwMd k = s.nwMd k := by simp [State.nwMd]
@[simp] theorem State.wakesOn_now (s : State) (t c : Nat) : (s.now t).wakesOn c = s.wakesOn c := by simp [State.wakesOn]
@[simp] theorem State.pwDown_now (s : State) (t : Nat) : (s.now t).pwDown = s.pwDown := by simp [State.pwDown]
@[simp] theorem State.pdInvalid_now (s : State) (t : Nat) (x : NwPd) : (s.now t).pdInvalid x = s.pdInvalid x := by simp [State.pdInvalid]
@[simp] theorem State.tmoBase_now (s : State) (t : Nat) (a : Option Nat) : (s.now t).tmoBase a = s.tmoBase a := by
  simp only [State.tmoBase, State.now_nw]
@[simp] theorem State.topoOk_now (s : State) (t : Nat) (e o : Word) : (s.now t).topoOk e o = s.topoOk e o := by simp [State.topoOk]

/-! ### Publications (R389, R390) -/

/-- A publication that is due, of an entry without a safe channel and not leased. -/
theorem State.publishAt_plain (s : State) (k : Nat) (ok : Bool) (t c : Nat) (tt : Bool) (hdown : s.pwDown = false)
    (hused : s.tab.pdUsed k = true) (hdir : s.tab.pdDir k = 1) (hlp : s.tab.leasePd k = false) (hsdt : s.tab.pdSdt k = false)
    (hlease : s.tab.pdLease k = false) (hdue : s.pdDue k t = some (c, tt)) :
    let z := (s.nwPd k).settle t
    let inv := s.pdInvalid z
    s.publishAt k ok t =
      ((((s.setNwPd k { z with counter := some c, pubAt := some t, pubTt := s.ttLocked,
                               pubData := State.publish.padWords2 (s.tab.pdLen k) z.buf, pubInvalid := inv }).pdStatus k
      (BitVec.ofNat 32 (c % 65536 * 65536) ||| (if inv then 4#32 else 0#32)) t).sendCopies k (if inv then 0 else s.tab.pdLen k) t).pairsOpen
        k) := by
  intro z inv
  refine (if_neg (by simp [hdown, hused, hdir, hlp, hdue])).trans (congrArg (fun u : State => u.pairsOpen k) ?_)
  simp only [State.publish, hdown, hused, hdir, hlp, hdue, hsdt, hlease, Bool.false_and, beq_self_eq_true, Bool.and_self, Bool.not_true,
    Bool.or_false, if_neg Bool.false_ne_true]
  rfl

theorem State.publishAt_idle (s : State) (k : Nat) (ok : Bool) (t : Nat) (hdue : s.pdDue k t = none) : s.publishAt k ok t = s := by
  refine (if_pos (by simp [hdue])).trans (ite_same (fun u : State => u) rfl ?_)
  rw [hdue]

/-! ### Reception (R391 to R393) -/

/-- A copy that no entry accepted is no pair's. -/
theorem State.pairCopies_none (s : State) (c : PdCopy) (t : Nat) : s.pairCopies [] c t = s :=
  foldl_same (fun u : State => u) _ (fun _ _ => rfl) _ _

/-- The redundancy unit takes no copy that is malformed, or whose topography counters fail (R433). -/
theorem State.leaseCopy_refused (s : State) (pl : Nat) (c : PdCopy) (t : Nat) (h : pdMalformed c = true ∨ s.topoOk c.etb c.optrn = false) :
    s.leaseCopy pl c t = s :=
  if_pos (by rcases h with h | h <;> simp [h])

theorem State.pdCopyAt_malformed (s : State) (pl : Nat) (c : PdCopy) (t : Nat) (hf : s.pw.frozen = false) (h : pdMalformed c = true) :
    s.pdCopyAt pl c t = s.bump R.NW_RX_DISC_CNT := by
  have hr : s.pdCopy pl c t = (s.bump R.NW_RX_DISC_CNT, []) := (if_neg (by simp [hf])).trans (if_pos h)
  rw [State.pdCopyAt, hr]
  dsimp only
  rw [State.pairCopies_none, State.leaseCopy_refused _ _ _ _ (.inl h)]

theorem State.topoDiscard_topoOk (s : State) (t : Nat) (e o : Word) : (s.topoDiscard t).topoOk e o = s.topoOk e o := by
  have hrd (i : Nat) (hi : i < 2) : (s.topoDiscard t).rd R.NW_TOPO_CNT i = s.rd R.NW_TOPO_CNT i := by
    refine State.rd_of_regAt R.NW_TOPO_CNT i 0 ((State.regAt_raise _ _ _ _).trans ((State.regAt_wr _ _ _ _ _ _ ?_).trans
      (State.regAt_bump _ _ _ _ _ _ ?_)))
    · obtain rfl | rfl : i = 0 ∨ i = 1 := by omega
      all_goals decide
    · obtain rfl | rfl : i = 0 ∨ i = 1 := by omega
      all_goals decide
  simp only [State.topoOk, hrd 0 (by decide), hrd 1 (by decide)]

theorem State.pdCopyAt_topo (s : State) (pl : Nat) (c : PdCopy) (t : Nat) (hf : s.pw.frozen = false) (hm : pdMalformed c = false)
    (h : s.topoOk c.etb c.optrn = false) : s.pdCopyAt pl c t = s.topoDiscard t := by
  have hr : s.pdCopy pl c t = (s.topoDiscard t, []) :=
    (if_neg (by simp [hf])).trans ((if_neg (by simp [hm])).trans (if_pos (by simp [h])))
  rw [State.pdCopyAt, hr]
  dsimp only
  rw [State.pairCopies_none, State.leaseCopy_refused _ _ _ _ (.inr ((s.topoDiscard_topoOk _ _ _).trans h))]

/-- A copy that names one entry, of a length the entry takes or not (R391). -/
theorem State.pdCopy_one (s : State) (pl : Nat) (c : PdCopy) (t k : Nat) (hf : s.pw.frozen = false) (hm : pdMalformed c = false)
    (htopo : s.topoOk c.etb c.optrn = true) (hk : ((List.range 2048).filter fun j => s.pdMatches j pl c) = [k]) :
    s.pdCopy pl c t =
      if c.dsLen ≠ 0 ∧ c.dsLen ≠ s.tab.pdLen k then (s.bump R.NW_RX_DISC_CNT, [])
      else
        let r := (s.pdTimedOut k (usAfter t)).pdEntryCopy k pl c (usAfter t)
        (r.1, if r.2 then [k] else []) := by
  refine (if_neg (by simp [hf])).trans ((if_neg (by simp [hm])).trans ((if_neg (by simp [htopo])).trans ?_))
  rw [hk]
  rfl

/-- A matched copy of an entry without a safe channel: accepted where it is the first, the first after a timeout, or newer (R392). -/
theorem State.pdEntryCopy_accepts (s : State) (k pl : Nat) (c : PdCopy) (t : Nat) (hsdt : s.tab.pdSdt k = false)
    (h : (s.nwPd k).last = none ∨ (s.nwPd k).status.getLsbD 1 = true ∨
      ∃ a, (s.nwPd k).last = some a ∧ 0 < sdiff c.counter.toNat a 32) :
    s.pdEntryCopy k pl c t = (s.pdAccept k pl c t, true) := by
  simp only [State.pdEntryCopy, hsdt]
  refine if_neg ?_
  rcases h with h | h | ⟨a, ha, h⟩
  · simp [h]
  · rw [h, Bool.or_true, Bool.true_or]
    decide
  · simp [ha, h]

theorem State.pdEntryCopy_old (s : State) (k pl : Nat) (c : PdCopy) (t a : Nat) (hsdt : s.tab.pdSdt k = false)
    (ha : (s.nwPd k).last = some a) (hv : (s.nwPd k).status.getLsbD 1 = false) (h : sdiff c.counter.toNat a 32 ≤ 0) :
    s.pdEntryCopy k pl c t =
      (if (s.nwPd k).last = some c.counter.toNat then
        (s.bump R.NW_DUP_CNT).pdMark k ((s.nwPd k).status ||| planeBit pl) else s.bump R.NW_DUP_CNT, false) := by
  simp only [State.pdEntryCopy, hsdt]
  refine if_pos ?_
  rw [ha, hv]
  simp [Int.not_lt.mpr h]

/-! ### Timeouts (R393, R396) -/

theorem State.pdTimeout_due (s : State) (k t a : Nat) (ha : s.tmoBase (s.nwPd k).accAt = some a) (hused : s.tab.pdUsed k = true)
    (hdir : s.tab.pdDir k = 2) (hopen : (s.nwPd k).tmoDone = false) (ht : a + s.tab.pdTimeout k * 1000000 ≤ t) :
    let x := s.nwPd k
    let w := (x.status ||| 2#32) &&& ~~~1#32
    s.pdTimeout k t =
      if s.tab.pdZero k then
        (((s.setNwPd k { x with tmoDone := true, data := [], len := 0 }).pdStatus k w t).writeMaps k []).pdEvent k (s.tab.pdEvTmo k) t
      else ((s.setNwPd k { x with tmoDone := true }).pdStatus k w t).pdEvent k (s.tab.pdEvTmo k) t := by
  intro x w
  rw [State.pdTimeout, ha]
  refine (if_neg (by simp [hused, hdir, hopen, ht])).trans ?_
  cases s.tab.pdZero k <;> rfl

theorem State.sdtTimeout_due (s : State) (k t a : Nat) (ha : s.tmoBase (s.nwSdt k).accAt = some a) (hused : s.tab.sdtUsed k = true)
    (hdir : s.tab.pdDir (s.tab.sdtPd k) = 2) (hopen : (s.nwSdt k).tmoDone = false) (ht : a + s.tab.sdtTmo k * 1000000 ≤ t) :
    let y := s.nwSdt k
    let u := (s.setNwSdt k { y with tmoDone := true, data := [], last := none, ref := none }).sdtStatus k
      ((y.status ||| 2#32) &&& ~~~1#32) t
    let p := s.tab.sdtPd k
    s.sdtTimeout k t = (if s.tab.pdZero p then u.writeMaps p [] else u).pdEvent p (s.tab.pdEvTmo p) t := by
  intro y u p
  rw [State.sdtTimeout, ha]
  exact if_neg (by simp [hused, hdir, hopen, ht])

/-- The end of a comparison window (R295). -/
theorem State.sdtWindowEnd_due (s : State) (k t : Nat) (w : SdtWin)
    (hw : ((s.nwSdt k).wins.find? fun w => decide (w.t1 + s.tab.sdtCmpWin k * 1000000 ≤ t)) = some w) :
    let u := s.setNwSdt k { s.nwSdt k with wins := (s.nwSdt k).wins.erase w, closed := w.c :: (s.nwSdt k).closed }
    s.sdtWindowEnd k t = if s.tab.sdtSingleOk k then u.sdtDeliver k w.c (planeBit w.plane) w.data t else u := by
  intro u
  rw [State.sdtWindowEnd, hw]

/-! ### Message data (R397, R398) -/

theorem State.mdReceive_whole (s : State) (pl t : Nat) (g : MdMsg) (hf : s.pw.frozen = false) (hdg : g.dg = none) (hwhole : g.whole = true)
    (htopo : s.topoOk g.etb g.optrn = true) (hmp : g.type ≠ .mp) :
    s.mdReceive pl g t = (List.range 256).foldl (fun s j => s.mdSession j pl g t) s := by
  have hty : (g.type == MdType.mp) = false := by simpa using hmp
  refine (if_neg (by simp [hf])).trans ((if_neg (by simp [hwhole])).trans ?_)
  rw [hdg]
  refine (if_neg (by simp)).trans ((if_neg (by simp [htopo])).trans ?_)
  rw [hty]
  rfl

theorem State.mdReceive_first (s : State) (pl t d : Nat) (g : MdMsg) (hf : s.pw.frozen = false) (hdg : g.dg = some d)
    (hwhole : g.whole = false) (hroom : s.nw.frags.length < 8) (hnew : NMap.look s.nw.frags d = none) :
    s.mdReceive pl g t = { s with nw := { s.nw with frags := NMap.put s.nw.frags d t } } := by
  refine (if_neg (by simp [hf])).trans ((if_pos (by simp [hwhole])).trans ?_)
  rw [hdg]
  exact if_pos ⟨hroom, by rw [hnew]; rfl⟩

/-- A notification at a listener with room for it. -/
theorem State.mdSession_listener (s : State) (k pl t : Nat) (g : MdMsg) (hused : s.tab.mdUsed k = true) (hcom : s.tab.mdComId k = g.comId)
    (hplane : s.mdPlaneNow k = pl) (hty : g.type = .mn) (hrole : s.tab.mdRole k = mdListener)
    (hpeer : s.tab.mdPeer k = 0 ∨ s.tab.mdPeer k = g.src) (hroom : (s.nwMd k).queue.length < s.tab.mdDepth k)
    (hlen : g.len ≤ s.tab.mdMax k) (hev : s.tab.mdEvRx k = false) :
    s.mdSession k pl g t = (s.setNwMd k { s.nwMd k with
      queue := (s.nwMd k).queue ++ [{ src := g.src, sid := g.sid, len := g.len, data := g.data }] }).mdStatus k t := by
  have hqueue : s.mdQueue k g t = (s.setNwMd k { s.nwMd k with
      queue := (s.nwMd k).queue ++ [{ src := g.src, sid := g.sid, len := g.len, data := g.data }] }).mdStatus k t :=
    (if_neg (by omega)).trans (if_neg (by simp [hev]))
  rw [← hqueue, State.mdSession]
  refine (if_neg (by simp [hused, hcom, hplane])).trans ?_
  rw [hty]
  exact if_pos ⟨hrole, by simpa using hpeer⟩

theorem State.mdReplyTimeout_due (s : State) (k t sid a : Nat) (ho : (s.nwMd k).outstanding = some (sid, a))
    (ht : a + s.tab.mdReplyTmo k * 1000000 ≤ t) :
    s.mdReplyTimeout k t = (s.setNwMd k { s.nwMd k with outstanding := none, replyTmo := true }).mdStatus k t := by
  rw [State.mdReplyTimeout, ho]
  exact if_pos ht

theorem State.mdReassemblyTimeout_open (s : State) (k t a : Nat) (h : NMap.look s.nw.frags k = some a) :
    s.mdReassemblyTimeout k t =
      if a + 100000000 ≤ t then { s with nw := { s.nw with frags := NMap.del s.nw.frags k } } else s := by
  rw [State.mdReassemblyTimeout, h]

end Sys2Proof.Machine

open Sys2Proof Sys2Proof.Machine

/-- Settles O48. -/
theorem trainDataIsExchanged : Obligations.TrainDataIsExchanged := by
  intro s pl k t hl hsleep n l x y m
  have hf : n.pw.frozen = false := (congrArg PwState.frozen (s.now_pw t)).trans (s.pw_of_live hl).2.1
  have hx : n.nwPd k = x := s.nwPd_now t k
  have hy : n.nwSdt k = y := s.nwSdt_now t k
  have hm : n.nwMd k = m := s.nwMd_now t k
  have hbase (a : Option Nat) : n.tmoBase a = s.tmoBase a := s.tmoBase_now t a
  have htopo (e o : Word) : n.topoOk e o = s.topoOk e o := s.topoOk_now t e o
  have hwake (c : Nat) (h : s.wakesOn c = false) : ¬ n.wakesOn c = true := by
    rw [s.wakesOn_now t c, h]
    exact Bool.false_ne_true
  have hnw : n.nw = s.nw := s.now_nw t
  refine ⟨fun c tt ok hdown hused hdir hlp hsdt hlease hdue => ?publish,
    fun h => s.leaves_runAwake _ t _ _ hl hsleep rfl (n.publishAt_idle k true t h), fun c hw => ⟨fun h => ?bad, fun hhdr hver hpd hlen hmax => ?copy⟩,
    fun c hsdt => ⟨fun h => s.pdEntryCopy_accepts k pl c t hsdt (h.imp id .inl), fun a ha hv => ⟨fun h => ?newer, fun h => ?older⟩⟩,
    fun a ha hused hdir hopen ht => ?timeout, fun a ha hused hdir hopen ht => ?safe, fun w hw => ?window, fun g hdg hwhole => ⟨fun hw htop hmp => ?whole, ?listener⟩,
    fun g d hw hdg hwhole hroom hnew => ?first, fun sid a ho ht => ?reply, fun a ha => ?reassembly⟩
  case publish =>
    intro z inv
    refine s.leaves_runAwake _ t _ _ hl hsleep rfl ?_
    have h := n.publishAt_plain k ok t c tt (by rwa [s.pwDown_now t]) hused hdir hlp hsdt hlease hdue
    dsimp only at h
    rwa [hx, s.pdInvalid_now t, s.ttLocked_now t] at h
  case bad => exact s.leaves_runAwake _ t _ _ hl hsleep rfl ((if_neg (hwake 6 hw)).trans (n.pdCopyAt_malformed pl c t hf (by simpa [pdMalformed] using h)))
  case copy =>
    have hgood : pdMalformed c = false := by
      simp [pdMalformed, hhdr, hver, hpd, hlen]
      omega
    refine ⟨fun h => s.leaves_runAwake _ t _ _ hl hsleep rfl ((if_neg (hwake 6 hw)).trans (n.pdCopyAt_topo pl c t hf hgood ((htopo _ _).trans h))),
      fun h hk => ?_⟩
    have hone := n.pdCopy_one pl c t k hf hgood ((htopo _ _).trans h) hk
    refine ⟨fun hds => ?_, fun h0 hds => s.leaves_runAwake _ t _ _ hl hsleep rfl ((if_neg (hwake 6 hw)).trans ?_)⟩
    · intro r
      refine s.leaves_runAwake _ t _ _ hl hsleep rfl ((if_neg (hwake 6 hw)).trans ?_)
      rw [State.pdCopyAt, hone, if_neg (by rcases hds with h | h <;> simp [h, l])]
    · rw [State.pdCopyAt, hone, if_pos ⟨h0, hds⟩]
      dsimp only
      rw [State.pairCopies_none]
  case newer => exact s.pdEntryCopy_accepts k pl c t hsdt (.inr (.inr ⟨a, ha, h⟩))
  case older =>
    have hold := s.pdEntryCopy_old k pl c t a hsdt ha hv h
    refine ⟨congrArg Prod.snd hold, fun hne => (congrArg Prod.fst hold).trans (if_neg ?_)⟩
    rw [ha]
    exact fun h => hne (Option.some.inj h).symm
  case timeout =>
    have hdue := n.pdTimeout_due k t a (by rw [hx, hbase]; exact ha) hused hdir (by rwa [hx]) ht
    rw [hx] at hdue
    exact ⟨fun h => s.leaves_runAwake _ t _ _ hl hsleep rfl (hdue.trans (if_neg (by rw [h]; exact Bool.false_ne_true))),
      fun h => s.leaves_runAwake _ t _ _ hl hsleep rfl (hdue.trans (if_pos h))⟩
  case safe =>
    have hdue := n.sdtTimeout_due k t a (by rw [hy, hbase]; exact ha) hused hdir (by rwa [hy]) ht
    rw [hy] at hdue
    intro u
    exact ⟨fun h => s.leaves_runAwake _ t _ _ hl hsleep rfl (hdue.trans (congrArg (fun v : State => v.pdEvent _ _ t) (if_neg (by rw [h]; exact Bool.false_ne_true)))),
      fun h => s.leaves_runAwake _ t _ _ hl hsleep rfl (hdue.trans (congrArg (fun v : State => v.pdEvent _ _ t) (if_pos h)))⟩
  case window =>
    have hend := n.sdtWindowEnd_due k t w (by rwa [hy])
    rw [hy] at hend
    intro u
    exact ⟨fun h => s.leaves_runAwake _ t _ _ hl hsleep rfl (hend.trans (if_neg (by rw [h]; exact Bool.false_ne_true))),
      fun h => s.leaves_runAwake _ t _ _ hl hsleep rfl (hend.trans (if_pos h))⟩
  case whole => exact s.leaves_runAwake _ t _ _ hl hsleep rfl ((if_neg (hwake 6 hw)).trans (n.mdReceive_whole pl t g hf hdg hwhole ((htopo _ _).trans htop) hmp))
  case listener =>
    intro hused hcom hplane hty hrole hpeer hroom hlen hev
    have h := n.mdSession_listener k pl t g hused hcom hplane hty hrole hpeer (by rwa [hm]) hlen hev
    rwa [hm] at h
  case first =>
    refine s.leaves_runAwake _ t _ _ hl hsleep rfl ((if_neg (hwake 6 hw)).trans ?_)
    have h := n.mdReceive_first pl t d g hf hdg hwhole (by rwa [hnw]) (by rwa [hnw])
    rwa [hnw] at h
  case reply =>
    refine s.leaves_runAwake _ t _ _ hl hsleep rfl ?_
    have h := n.mdReplyTimeout_due k t sid a (by rwa [hm]) ht
    rwa [hm] at h
  case reassembly =>
    have h := n.mdReassemblyTimeout_open k t a (by rwa [hnw])
    rw [hnw] at h
    exact ⟨fun hle => s.leaves_runAwake _ t _ _ hl hsleep rfl (h.trans (if_pos hle)),
      fun hlt => s.leaves_runAwake _ t _ _ hl hsleep rfl (h.trans (if_neg (Nat.not_le.mpr hlt)))⟩
end

end

section
section
/-! Proofs: precision time (spec/14_train_network.md). -/

namespace Sys2Proof.Machine

@[simp] theorem State.ptpState_now (s : State) (t : Nat) : (s.now t).ptpState = s.ptpState := s.rd_now t _ 0 0
@[simp] theorem State.ptpPlane_now (s : State) (t : Nat) : (s.now t).ptpPlane = s.ptpPlane := s.rd_now t _ 0 0
@[simp] theorem State.dreqInterval_now (s : State) (t : Nat) : (s.now t).dreqInterval = s.dreqInterval := by simp [State.dreqInterval]
@[simp] theorem State.qualified_now (s : State) (t : Nat) (a : Announce) : (s.now t).qualified a = s.qualified a := by
  simp [State.qualified]
@[simp] theorem State.fromMaster_now (s : State) (t pl : Nat) (m : PtpFrom) : (s.now t).fromMaster pl m = s.fromMaster pl m := by
  simp [State.fromMaster]

/-! ### Sync and delay (R384) -/

/-- A complete Sync gives the offset once a delay is known. -/
theorem State.syncDone_unknown (s : State) (d : Int) (h : s.nw.ptp.kept = []) :
    s.syncDone d = s.setPtp { s.nw.ptp with fwd := some d, syncWait := none } := by
  simp only [State.syncDone, h, List.isEmpty_nil, if_true]

theorem State.syncDone_known (s : State) (d : Int) (h : s.nw.ptp.kept ≠ []) :
    s.syncDone d = s.setPtp { s.nw.ptp with
      fwd := some d, syncWait := none, meas := s.nw.ptp.meas ++ [d - s.nw.ptp.kept.sum / s.nw.ptp.kept.length] } := by
  simp only [State.syncDone, ptpMean, List.isEmpty_iff, h, if_false]

/-- A Delay_Req goes out in the states that have a master, once its interval has passed. -/
theorem State.delayReq_due (s : State) (t3 : Int) (t : Nat) (hst : s.ptpState = pcUncal ∨ s.ptpState = pcSlave)
    (h : ∀ a, s.nw.ptp.reqAt = some a → a + s.dreqInterval ≤ t) :
    s.delayReq t3 t = ((s.setPtp { s.nw.ptp with t3 := some t3, reqAt := some t, reqNo := s.nw.ptp.reqNo + 1 }).sendCtl
      (s.ownPorts s.ptpPlane) 7 (dreqBytes (s.rd R.NW_PTP_CFG_TRANSPORT)) .delayReq t).learn s.ptpPlane (Config.nwMac s.ptpPlane)
        (4 + s.ptpPlane) t := by
  refine if_pos ?_
  rw [Bool.and_eq_true]
  refine ⟨by simpa using hst, ?_⟩
  cases hreq : s.nw.ptp.reqAt with
  | none => rfl
  | some a => exact decide_eq_true (h a hreq)

theorem State.delayReq_early (s : State) (t3 : Int) (t a : Nat) (ha : s.nw.ptp.reqAt = some a) (h : t < a + s.dreqInterval) :
    s.delayReq t3 t = s := by
  refine if_neg ?_
  rw [ha]
  simp [h]

theorem State.delayReq_listening (s : State) (t3 : Int) (t : Nat) (h : s.ptpState = pcListening) : s.delayReq t3 t = s :=
  if_neg (by simp [h, pcListening, pcUncal, pcSlave])

theorem State.delayResp_complete (s : State) (pl : Nat) (m : PtpFrom) (t4 cd t3 f : Int) (hm : s.fromMaster pl m = true)
    (ht3 : s.nw.ptp.t3 = some t3) (hf : s.nw.ptp.fwd = some f) :
    let d := (f + (t4 - t3 - cd)) / 2
    let kept := if 0 ≤ d then (d :: s.nw.ptp.kept).take 8 else s.nw.ptp.kept
    s.delayResp pl m t4 cd = (s.setPtp { s.nw.ptp with t3 := none, kept := kept }).wr R.NW_PTP_MPD (min (2 ^ 32 - 1) (ptpMean kept).toNat) := by
  intro d kept
  refine (if_neg (by simp [hm])).trans ?_
  dsimp only
  rw [ht3, hf]

/-! ### The change of the plane (R383) -/

/-- The clock works with plane `v` since `t`, without a delay kept. -/
def State.worksOn (u : State) (v t : Nat) : Prop :=
  Cells.wf u.rf.eff = true ∧ u.ptpPlane = v ∧ u.nw.ptp.useAt = t ∧ u.nw.ptp.kept = []

theorem State.worksOn_wr {u : State} {v t : Nat} (h : u.worksOn v t) (f : Fld) (x : Nat) (hf : f.lo + f.width ≤ 32)
    (hne : f.addr ≠ R.NW_PTP_STAT_PLANE.addr ∨ f.lo + f.width ≤ 3) : (u.wr f x).worksOn v t := by
  obtain ⟨hwf, hplane, huse, hkept⟩ := h
  refine ⟨Cells.wf_wr _ _ _ _ _ hwf, Eq.trans ?_ hplane, huse, hkept⟩
  by_cases ha : R.NW_PTP_STAT_PLANE.addr = f.addr
  · exact u.rd_wr_disjoint R.NW_PTP_STAT_PLANE f x 0 0 0 0 hwf ha (by decide) hf (.inr (hne.resolve_left fun h => h ha.symm))
  · exact u.rd_wr_ne R.NW_PTP_STAT_PLANE f x 0 0 0 0 ha

theorem State.worksOn_raise {u : State} {v t : Nat} (h : u.worksOn v t) (k t' : Nat) : (u.raise k t').worksOn v t := by
  have hlanes (g : Lane → Lane) : (u.onLanes g).worksOn v t := by
    refine ⟨by rw [State.onLanes_rf]; exact h.1, Eq.trans ?_ h.2.1, ?_, ?_⟩
    · exact rd_onLanes u g _ 0 0
    · rw [State.onLanes_nw]; exact h.2.2.1
    · rw [State.onLanes_nw]; exact h.2.2.2
  unfold State.raise
  split
  · exact h
  · exact hlanes _

theorem State.worksOn_ptpEnter {u : State} {v t : Nat} (h : u.worksOn v t) (st t' : Nat) : (u.ptpEnter st t').worksOn v t := by
  unfold State.ptpEnter
  split
  · exact h
  · exact State.worksOn_raise (State.worksOn_wr h _ _ (by decide) (.inr (by decide))) _ _

theorem State.worksOn_ptpFollow {u : State} {v t : Nat} (h : u.worksOn v t) (t' : Nat) : (u.ptpFollow t').worksOn v t := by
  unfold State.ptpFollow
  split
  · exact State.worksOn_ptpEnter h _ _
  · split
    · exact State.worksOn_ptpEnter h _ _
    · exact h

theorem State.worksOn_ptpSelect {u : State} {v t : Nat} (h : u.worksOn v t) (t' : Nat) : (u.ptpSelect t').worksOn v t := by
  obtain ⟨hwf, hplane, huse, hkept⟩ := h
  have hset (x : PtpState) (hu : x.useAt = t) (hk : x.kept = []) : (u.setPtp x).worksOn v t := ⟨hwf, hplane, hu, hk⟩
  unfold State.ptpSelect
  extract_lets p sel same s1
  have h1 : s1.worksOn v t := by
    simp only [s1]
    split
    · exact hset _ huse hkept
    · refine State.worksOn_wr (hset _ ?_ ?_) R.NW_PTP_MPD 0 (by decide) (.inl (by decide))
      · exact huse
      · rfl
  have hgm (a b : Nat) : ((s1.wr R.NW_PTP_GM_LO a).wr R.NW_PTP_GM_HI b).worksOn v t :=
    State.worksOn_wr (State.worksOn_wr h1 R.NW_PTP_GM_LO a (by decide) (.inl (by decide))) R.NW_PTP_GM_HI b (by decide) (.inl (by decide))
  clear_value s1 same sel
  cases sel with
  | none =>
    dsimp only
    split
    · exact State.worksOn_ptpEnter h1 _ _
    · exact h1
  | some a =>
    dsimp only
    split
    · exact State.worksOn_ptpFollow (State.worksOn_ptpEnter (hgm _ _) _ _) _
    · exact hgm _ _

/-- With masters on the plane in use none of which is silent, a timeout selects among them. -/
theorem State.announceTimeout_here (s : State) (t : Nat) (h : ∀ a ∈ s.nw.ptp.masters, t < a.2.2 + annTimeout a.2.1 ∧ a.1 = s.ptpPlane) :
    s.announceTimeout t = s.ptpSelect t := by
  have hall : s.nw.ptp.masters.filter (fun m => decide (t < m.2.2 + annTimeout m.2.1)) = s.nw.ptp.masters :=
    List.filter_eq_self.mpr fun a ha => decide_eq_true (h a ha).1
  have hthere : (s.nw.ptp.masters.any fun m => m.1 != s.ptpPlane && decide (s.nw.ptp.useAt + annTimeout m.2.1 ≤ t)) = false :=
    List.any_eq_false.mpr fun a ha => by simp [(h a ha).2]
  refine (if_neg ?_).trans ?_
  · rw [hall, hthere]
    simp
  · rw [hall]
    rfl

/-- With a master on the other plane alone, and the time on this one long enough, the clock changes over. -/
theorem State.announceTimeout_other (s : State) (t : Nat) (a : Nat × Announce × Nat) (hwf : Cells.wf s.rf.eff = true)
    (hm : s.nw.ptp.masters = [a]) (halive : t < a.2.2 + annTimeout a.2.1) (hplane : a.1 ≠ s.ptpPlane)
    (htime : s.nw.ptp.useAt + annTimeout a.2.1 ≤ t) : (s.announceTimeout t).worksOn (1 - s.ptpPlane) t := by
  have hlt : s.ptpPlane < 2 := R.NW_PTP_STAT_PLANE.ext_lt _
  have hall : s.nw.ptp.masters.filter (fun m => decide (t < m.2.2 + annTimeout m.2.1)) = [a] := by
    rw [hm]
    simp [halive]
  have hchange : s.announceTimeout t =
      ((((((s.setPtp { s.nw.ptp with masters := [a], kept := [], syncWait := none, fwd := none, t3 := none, useAt := t }).wr R.NW_PTP_MPD
        0).wr R.NW_PTP_STAT_PLANE (1 - s.ptpPlane)).wr R.NW_FLAGS_PTP_PLANE_CHG 1).raise 229 t).ptpSelect t) := by
    unfold State.announceTimeout
    dsimp only
    rw [hall]
    exact if_pos (by simp [hplane, htime])
  rw [hchange]
  have hmpd (x : PtpState) : Cells.wf ((s.setPtp x).wr R.NW_PTP_MPD 0).rf.eff = true := Cells.wf_wr _ _ _ _ _ hwf
  refine State.worksOn_ptpSelect (State.worksOn_raise (State.worksOn_wr ⟨Cells.wf_wr _ _ _ _ _ (hmpd _), ?_, ?_, ?_⟩
    R.NW_FLAGS_PTP_PLANE_CHG 1 (by decide) (.inl (by decide))) _ _) _
  · exact (State.rd_wr_self _ R.NW_PTP_STAT_PLANE _ 0 0 (hmpd _) (by decide)).trans (Nat.mod_eq_of_lt (by
      show 1 - s.ptpPlane < 2
      omega))
  · rfl
  · rfl

end Sys2Proof.Machine

open Sys2Proof Sys2Proof.Machine

/-- Settles O49. -/
theorem clockFollowsItsMaster : Obligations.ClockFollowsItsMaster := by
  intro s pl m t hl hsleep n p
  have hnw : n.nw = s.nw := s.now_nw t
  have hst : n.ptpState = s.ptpState := s.ptpState_now t
  have hplane : n.ptpPlane = s.ptpPlane := s.ptpPlane_now t
  have hint : n.dreqInterval = s.dreqInterval := s.dreqInterval_now t
  have hfrom (h : s.fromMaster pl m = true) : n.fromMaster pl m = true := (s.fromMaster_now t pl m).trans h
  refine ⟨fun t1 cs t2 h => ?sync, fun t1 cs t2 h => ?foreign, fun t3 => ⟨fun h => ⟨fun hdue => ?due, fun a ha hlt => ?early⟩,
    fun h => ?listening⟩, fun t3 t4 cd f h ht3 hf => ?response, fun a => ⟨fun h => ?unfit, fun h => ?fit⟩, fun h => ?here, fun a hwf hm halive hother htime => ?other⟩
  case sync =>
    have hneg : ¬ (!n.fromMaster pl m) = true := by simp [hfrom h]
    let one := n.wr R.NW_PTP_STAT_TWO_STEP 0
    have hone : one.nw = s.nw := hnw
    have hdone (u : State) (hu : one.syncDone (t2 - t1 - cs) = u) : s.leaves (.syncReceived pl m false t1 cs t2 t) t u :=
      s.leaves_runAwake _ t _ _ hl hsleep rfl ((if_neg hneg).trans hu)
    refine ⟨s.leaves_runAwake _ t _ _ hl hsleep rfl ((if_neg hneg).trans ?_), fun hk => hdone _ ?_, fun hk => hdone _ ?_,
      fun c0 hw => s.leaves_runAwake _ t _ _ hl hsleep rfl ((if_neg hneg).trans ?_)⟩
    · show (n.wr R.NW_PTP_STAT_TWO_STEP 1).setPtp { n.nw.ptp with syncWait := some (t2, cs) } = _
      rw [hnw]
    · rw [State.syncDone_unknown _ _ (by rw [hone]; exact hk), hone]
    · rw [State.syncDone_known _ _ (by rw [hone]; exact hk), hone]
    · rw [hnw, hw]
  case foreign =>
    have hneg : (!n.fromMaster pl m) = true := by simp [n, h]
    exact ⟨s.leaves_runAwake _ t _ _ hl hsleep rfl (if_pos hneg), s.leaves_runAwake _ t _ _ hl hsleep rfl (if_pos hneg),
      s.leaves_runAwake _ t _ _ hl hsleep rfl (if_pos hneg)⟩
  case due =>
    refine s.leaves_runAwake _ t _ _ hl hsleep rfl ?_
    have hsend := n.delayReq_due t3 t (by rwa [hst]) (by rwa [hnw, hint])
    rwa [hnw, hplane, s.rd_now t] at hsend
  case early => exact s.leaves_runAwake _ t _ _ hl hsleep rfl (n.delayReq_early t3 t a (by rwa [hnw]) (by rwa [hint]))
  case listening => exact s.leaves_runAwake _ t _ _ hl hsleep rfl (n.delayReq_listening t3 t (hst.trans h))
  case response =>
    intro d kept
    refine s.leaves_runAwake _ t _ _ hl hsleep rfl ?_
    have hresp := n.delayResp_complete pl m t4 cd t3 f (hfrom h) (by rwa [hnw]) (by rwa [hnw])
    rwa [hnw] at hresp
  case unfit => exact s.leaves_runAwake _ t _ _ hl hsleep rfl (if_pos (by simp [h]))
  case fit =>
    refine s.leaves_runAwake _ t _ _ hl hsleep rfl ((if_neg (by simp [h])).trans ?_)
    rw [hnw]
  case here => exact s.leaves_runAwake _ t _ _ hl hsleep rfl (n.announceTimeout_here t (by rwa [hnw, hplane]))
  case other =>
    have hworks := n.announceTimeout_other t a (by rw [s.now_rf t]; exact hwf) (by rwa [hnw]) halive (by rwa [hplane]) (by rwa [hnw])
    obtain ⟨-, hnew, huse, hkept⟩ := hworks
    exact ⟨n.announceTimeout t, s.leaves_runAwake _ t _ _ hl hsleep rfl rfl, hnew.trans (by rw [hplane]), huse, hkept⟩
end

end

section
section
/-! Proofs: the CAN FD controllers (spec/15_can.md). -/

namespace Sys2Proof.Machine

@[simp] theorem State.can_now (s : State) (t c : Nat) : (s.now t).can c = s.can c := by simp [State.can]
@[simp] theorem State.cbuf_now (s : State) (t c b : Nat) : (s.now t).cbuf c b = s.cbuf c b := by simp [State.cbuf]
@[simp] theorem State.canSt_now (s : State) (t c : Nat) : (s.now t).canSt c = s.canSt c := s.rd_now t _ c 0
@[simp] theorem State.inProgress_now (s : State) (t c b : Nat) : (s.now t).inProgress c b = s.inProgress c b := by
  simp [State.inProgress]
@[simp] theorem State.canMaySend_now (s : State) (t c : Nat) : (s.now t).canMaySend c = s.canMaySend c := by simp [State.canMaySend]
@[simp] theorem State.canBusy_now (s : State) (t c : Nat) : (s.now t).canBusy c = s.canBusy c := by
  simp only [State.canBusy, State.can_now]
  exact congrArg (fun p : Nat → Bool => (s.can c).syncProg || (List.range 64).any p) (funext fun b => s.inProgress_now t c b)
@[simp] theorem State.canNext_now (s : State) (t c : Nat) : (s.now t).canNext c = s.canNext c := by
  simp only [State.canNext, State.can_now, State.cbuf_now, State.syncRank, State.rd_now]
  rfl
@[simp] theorem State.baseUs_now (s : State) (tt : Bool) (t t' : Nat) : (s.now t).baseUs tt t' = s.baseUs tt t' := by simp [State.baseUs]

/-! ### Reception (R404, R406, R407) -/

theorem State.canReceive_detect (s : State) (c : Nat) (w : List Word) (ok : Bool) (t : Nat) (h : s.canSt c = ceDetect) :
    s.canReceive c w ok t = s.rateAdopt c t := if_pos h

theorem State.canReceive_damaged (s : State) (c : Nat) (w : List Word) (t : Nat) (h : s.canSt c ≠ ceDetect) :
    s.canReceive c w false t = s := (if_neg h).trans (if_pos rfl)

/-- What a frame without an error does: REC falls, the frame goes to the lowest buffer that takes it, else to the FIFO, or is
discarded; a SYNC frame is seen. -/
theorem State.canReceive_good (s : State) (c : Nat) (w : List Word) (t : Nat) (hst : s.canSt c = ceActive ∨ s.canSt c = cePassive)
    (hint : (s.can c).integrating = false) :
    let d := rxDesc w
    let r := s.rd R.CN_STAT_REC c
    let s0 := s.wr R.CN_STAT_REC (if 127 < r then 119 + Config.canRecAfter r % 9 else r - 1) c
    let s1 := s0.canErrState c (s0.rd R.CN_STAT_TEC c) t
    let fs := (s1.can c).fifo
    let takes := fun j => s.tab.canUsed c j && s.tab.canDir c j == 1 &&
      idMatch (s.tab.canIde c j) (s.tab.canId c j) (s.tab.canMask c j) (d.getD 0 0)
    let fifo := s.rd R.CN_CTRL_FIFO_EN c = 1 ∧
      idMatch ((s.tab.canWord c 4).getLsbD 29) (fieldOf (s.tab.canWord c 4) 28 0) (fieldOf (s.tab.canWord c 5) 28 0) (d.getD 0 0) = true
    let sync := fun u : State => if (d.getD 0 0).toNat % 2 ^ 31 = s.rd R.CN_SYNC_SYNC_ID c ∧ fieldOf (d.getD 1 0) 3 0 = 0 ∧
      (d.getD 1 0).getLsbD 8 = false then u.syncSeen c t else u
    (∀ b, (List.range 64).find? takes = some b → s.canReceive c w true t = sync (s1.canGive c b d t)) ∧
      ((List.range 64).find? takes = none → s.canReceive c w true t = sync
        (if fifo then
          if fs.length < 32 then
            let m := (s1.setCan c { s1.can c with fifo := fs ++ [d] }).wr R.CN_STAT_FIFO_FILL (fs.length + 1) c
            if fs.isEmpty then m.canEvent c 3 t else m
          else ((s1.bump R.CN_CNT_RX_DISC c).wr R.CN_FLAGS_FIFO_OVF 1 c).canEvent c 3 t
        else (s1.bump R.CN_CNT_RX_DISC c).wr R.CN_FLAGS_RX_DISC 1 c)) := by
  intro d r s0 s1 fs takes fifo sync
  have hdetect : s.canSt c ≠ ceDetect := by rcases hst with h | h <;> rw [h] <;> decide
  have hopen : ¬ (!true || !(s.canSt c == ceActive || s.canSt c == cePassive) || (s.can c).integrating) = true := by
    rcases hst with h | h <;> simp [h, hint]
  constructor
  · intro b hb
    refine (if_neg hdetect).trans ((if_neg hopen).trans ?_)
    dsimp only
    rw [hb]
  · intro hnone
    refine (if_neg hdetect).trans ((if_neg hopen).trans ?_)
    dsimp only
    rw [hnone]

/-! ### The host's window (R408) -/

theorem State.hbufRelease_locked (s : State) (c b a : Nat) (h : (s.cbuf c b).lockedAt = some a) :
    s.hbufRelease c b = ((s.setCbuf c b { s.cbuf c b with
      lockedAt := none, win := (s.cbuf c b).copy.getD (s.cbuf c b).win, copy := none }).wr R.CN_BUF_STAT_LOCKED 0 c b).wr
        R.CN_BUF_STAT_OVERWR 0 c b :=
  if_neg (by simp [h])

theorem State.hbufRelease_open (s : State) (c b : Nat) (h : (s.cbuf c b).lockedAt = none) : s.hbufRelease c b = s :=
  if_pos (by simp [h])

theorem State.hbufTimeout_locked (s : State) (c b a t : Nat) (h : (s.cbuf c b).lockedAt = some a) (ht : a + 10000000 ≤ t) :
    s.hbufTimeout c b t = (s.hbufRelease c b).wr R.CN_FLAGS_LOCK_TMO 1 c := by
  rw [State.hbufTimeout, h]
  exact if_pos ht

theorem State.hbufTimeout_open (s : State) (c b t : Nat) (h : (s.cbuf c b).lockedAt = none) : s.hbufTimeout c b t = s := by
  rw [State.hbufTimeout, h]

/-! ### Transmission (R409 to R412) -/

theorem State.canTxComplete_done (s : State) (c b t : Nat) (h : s.inProgress c b = true) :
    let u := s.wr R.CN_STAT_TEC (s.rd R.CN_STAT_TEC c - 1) c
    s.canTxComplete c (some b) t = ((u.bump R.CN_BUF_STAT_COUNT c b).canMoveUp c b).canErrState c (u.rd R.CN_STAT_TEC c) t :=
  if_neg (by simp [h])

theorem State.canTxComplete_idle (s : State) (c b t : Nat) (h : s.inProgress c b = false) : s.canTxComplete c (some b) t = s :=
  if_pos (by simp [h])

theorem State.canTxError_idle (s : State) (c b t : Nat) (arb : Bool) (h : s.inProgress c b = false) :
    s.canTxError c (some b) arb t = s := if_pos (by simp [h])

/-- A frame in progress that meets an error stays pending, unless nothing may be sent. -/
theorem State.canTxError_busy (s : State) (c b t : Nat) (arb : Bool) (h : s.inProgress c b = true) :
    let u := s.wr R.CN_BUF_STAT_IN_PROGRESS 0 c b
    let s1 := if s.canGated c then (u.setCbuf c b { s.cbuf c b with tx := none, next := none }).txPending c b else u
    let tec := s.rd R.CN_STAT_TEC c + 8
    s.canTxError c (some b) arb t = if arb then s1 else (s1.wr R.CN_STAT_TEC (min 255 tec) c).canErrState c tec t :=
  if_neg (by simp [h])

theorem State.canTxError_sync (s : State) (c t : Nat) (h : (s.can c).syncProg = true) (hgate : s.canGated c = false) :
    s.canTxError c none true t = s.setCan c { s.can c with syncProg := false } := by
  refine (if_neg (by simp [h])).trans ((if_pos rfl).trans ?_)
  simp only [State.canTxStop, hgate, if_neg Bool.false_ne_true]

theorem State.canTxStart_frame (s : State) (c b : Nat) (hmay : s.canMaySend c = true) (hbusy : s.canBusy c = false)
    (hnext : s.canNext c = some (some b)) :
    s.canTxStart c (some b) =
      (s.setCbuf c b { s.cbuf c b with tx := (s.cbuf c b).tx.map fun f => { f with begun := true } }).wr R.CN_BUF_STAT_IN_PROGRESS 1 c b :=
  if_pos (by simp [hmay, hbusy, hnext])

theorem State.canTxStart_sync (s : State) (c : Nat) (hmay : s.canMaySend c = true) (hbusy : s.canBusy c = false)
    (hnext : s.canNext c = some none) :
    s.canTxStart c none = s.setCan c { s.can c with syncProg := true, syncBegun := true } :=
  if_pos (by simp [hmay, hbusy, hnext])

theorem State.canTxStart_busy (s : State) (c : Nat) (b : Option Nat) (hbusy : s.canBusy c = true) : s.canTxStart c b = s :=
  if_neg (by simp [hbusy])

/-- TEC at 256 takes a controller to bus-off. -/
theorem State.canErrState_busOff (s : State) (c tec t : Nat) (hc : c < 4) (htec : 256 ≤ tec) (hst : s.canSt c ≠ ceBusOff) :
    let u := s.canErrState c tec t
    u.canSt c = ceBusOff ∧ (u.can c).boUntil = t + s.rd R.CN_CTRL_BO_DELAY c * 100000000 ∧ u.rd R.CN_FLAGS_BUS_OFF_SEEN c = 1 := by
  intro u
  let s1 := s.setCan c { s.can c with boUntil := t + s.rd R.CN_CTRL_BO_DELAY c * 100000000 }
  let s2 := (s1.wr R.CN_STAT_STATE ceBusOff c).bump R.CN_CNT_BUS_OFF c
  have hu : u = (s2.wr R.CN_FLAGS_BUS_OFF_SEEN 1 c).canEvent c 0 t := if_pos ⟨htec, hst⟩
  have hreg (a : Nat) : u.regAt a = (s2.wr R.CN_FLAGS_BUS_OFF_SEEN 1 c).regAt a := by
    rw [hu]
    exact State.regAt_raise _ _ _ _
  have haddr : R.CN_STAT_STATE.addr c ≠ R.CN_FLAGS_BUS_OFF_SEEN.addr c ∧ R.CN_STAT_STATE.addr c ≠ R.CN_CNT_BUS_OFF.addr c := by
    have hall : ∀ c < 4, R.CN_STAT_STATE.addr c ≠ R.CN_FLAGS_BUS_OFF_SEEN.addr c ∧ R.CN_STAT_STATE.addr c ≠ R.CN_CNT_BUS_OFF.addr c := by
      decide
    exact hall c hc
  refine ⟨?_, ?_, ?_⟩
  · refine (State.rd_of_regAt R.CN_STAT_STATE c 0 ((hreg _).trans ((State.regAt_wr _ _ _ _ _ _ haddr.1).trans
      (State.regAt_bump _ _ _ _ _ _ haddr.2)))).trans ?_
    exact State.rd_wr_of_ne_zero s1 R.CN_STAT_STATE ceBusOff c 0 (by decide) (by decide)
  · have hcn : u.cn = s1.cn := by
      rw [hu]
      exact ite_same (fun v : State => v.cn) rfl (State.onLanes_cn _ _)
    show (NMap.get u.cn.ctl {} c).boUntil = _
    rw [hcn]
    exact congrArg CanCtl.boUntil (NMap.get_put_self _ _ _ _)
  · exact (State.rd_of_regAt R.CN_FLAGS_BUS_OFF_SEEN c 0 (hreg _)).trans
      (State.rd_wr_of_ne_zero s2 R.CN_FLAGS_BUS_OFF_SEEN 1 c 0 (by decide) (by decide))

/-- A timed frame whose target is reached is pending (R410). -/
theorem State.ctxtDue_reached (s : State) (c b t : Nat) (f : TxFrame) (tt : Bool) (tgt now : Nat) (hx : (s.cbuf c b).tx = some f)
    (hheld : f.held = some (tt, tgt)) (hnow : s.baseUs tt t = some now) (hr : reached now tgt 32 = true) :
    s.ctxtDue c b t = (s.setCbuf c b { s.cbuf c b with tx := some { f with held := none } }).txPending c b := by
  rw [State.ctxtDue, hx]
  dsimp only
  rw [hheld]
  dsimp only
  rw [hnow]
  exact if_pos hr

theorem State.ctxLate_none (s : State) (c t : Nat) : s.ctxLate c none t = false := rfl

/-- A timed frame that has not been in progress is missed at its late limit. -/
theorem State.ctxtMissed_late (s : State) (c b t : Nat) (f : TxFrame) (tt : Bool) (tgt now : Nat) (hx : (s.cbuf c b).tx = some f)
    (hnext : (s.cbuf c b).next = none) (htgt : f.target = some (tt, tgt)) (hnow : s.baseUs tt t = some now)
    (hlim : 0 < s.rd R.CN_CTRL_LATE_LIM c) (hbegun : f.begun = false)
    (hr : reached now (tgt + s.rd R.CN_CTRL_LATE_LIM c : Nat) 32 = true) :
    s.ctxtMissed c b t = ((((s.setCbuf c b { s.cbuf c b with tx := none, next := none }).wr R.CN_BUF_STAT_MISSED 1 c b).wr
      R.CN_FLAGS_TX_MISSED 1 c).canEvent c 4 t).txPending c b := by
  have hlate : s.ctxLate c (some f) t = true := by
    simp only [State.ctxLate, htgt, hnow, hr, decide_eq_true hlim, Bool.and_self]
  have hgone : (!TxFrame.hasBegun (some f) && s.ctxLate c (some f) t) = true := by simp [TxFrame.hasBegun, hbegun, hlate]
  unfold State.ctxtMissed
  dsimp only
  rw [hx, hnext, hgone, s.ctxLate_none]
  rfl

theorem State.ctxtMissed_begun (s : State) (c b t : Nat) (h : ∀ f, (s.cbuf c b).tx = some f → f.begun = true)
    (hnext : (s.cbuf c b).next = none) : s.ctxtMissed c b t = s := by
  refine if_neg ?_
  rw [hnext, s.ctxLate_none]
  cases hx : (s.cbuf c b).tx with
  | none => simp [State.ctxLate_none]
  | some f => simp [TxFrame.hasBegun, h f hx]

/-! ### PDOs (R414 to R416) -/

theorem State.pdoTimeout_due (s : State) (c b t a : Nat) (hused : s.tab.canUsed c b = true) (hdir : s.tab.canDir c b = 1)
    (hpdo : s.tab.canPdo c b = true) (htmr : 0 < s.tab.canTmr c b) (ha : s.tmoBase (s.cbuf c b).lastRx = some a)
    (ht : a + s.tab.canTmr c b * 1000000 ≤ t) (hopen : (s.cbuf c b).pdoStatus.getLsbD 1 = false)
    (hmap : NMap.look s.maps (0x1000 + 64 * c + b) = none) :
    s.pdoTimeout c b t = ((s.setCbuf c b { s.cbuf c b with pdoStatus := ((s.cbuf c b).pdoStatus ||| 2#32) &&& ~~~1#32 }).wr
      R.CN_BUF_STAT_TIMEOUT 1 c b).canEvent c 5 t := by
  rw [State.pdoTimeout, ha]
  refine (if_pos ?_).trans ?_
  · rw [hused, hdir, hpdo, hopen, decide_eq_true htmr, decide_eq_true ht]
    rfl
  · dsimp only
    have hevent (u : State) : (u.canEvent c 5 t).maps = u.maps := ite_same (fun v : State => v.maps) rfl (State.onLanes_maps _ _)
    have hset (x : CanBuf) : (s.setCbuf c b x).maps = s.maps := rfl
    rw [hevent, State.wr_maps, hset, hmap]

theorem State.pdoTimer_first (s : State) (c b t : Nat) (hpdo : s.txPdo c b 2 = true) (htmr : 0 < s.tab.canTmr c b)
    (hlast : (s.cbuf c b).lastQueue = none) : s.pdoTimer c b t = s.pdoQueue c b t := by
  refine if_pos ?_
  rw [hlast, hpdo, decide_eq_true htmr]
  simp

end Sys2Proof.Machine

open Sys2Proof Sys2Proof.Machine

/-- Settles O50. -/
theorem canControllersWork : Obligations.CanControllersWork := by
  intro s c b t hl hsleep n k x st l
  have hk : n.can c = k := s.can_now t c
  have hx : n.cbuf c b = x := s.cbuf_now t c b
  have hst : n.canSt c = st := s.canSt_now t c
  have hrd (f : Fld) (i j : Nat) : n.rd f i j = s.rd f i j := s.rd_now t f i j
  have hprog : n.inProgress c b = s.inProgress c b := s.inProgress_now t c b
  have hwake (h : s.wakesOn 7 = false) (ok : Bool) : ¬ (ok && n.wakesOn 7 && n.rd R.CN_CTRL_EN c == 1) = true := by
    simp [n, h]
  refine ⟨fun h h0 => ?detect, fun hw hact hint w => ?good, fun w h => s.leaves_runAwake _ t _ _ hl hsleep rfl ?damaged,
    s.leaves_run _ t _ _ hl rfl ?lock, fun a ha => ?locked, fun ha => ?unlocked, fun h => s.leaves_runAwake _ t _ _ hl hsleep rfl ?complete,
    fun h => ?idle, fun h hg => ?error, fun h hg => s.leaves_runAwake _ t _ _ hl hsleep rfl ?gated, fun h hg => s.leaves_runAwake _ t _ _ hl hsleep rfl ?sync,
    fun tec h1 h2 => s.canErrState_busOff c tec t c.isLt h1 h2, fun h hbo => s.leaves_runAwake _ t _ _ hl hsleep rfl ?delay,
    fun h => s.leaves_runAwake _ t _ _ hl hsleep rfl ?back, fun h => ?off, s.leaves_runAwake _ t _ _ hl hsleep rfl ?integrated,
    fun hmay hbusy => ⟨fun h => s.leaves_runAwake _ t _ _ hl hsleep rfl ?start, fun h => s.leaves_runAwake _ t _ _ hl hsleep rfl ?startSync⟩,
    fun h => s.leaves_runAwake _ t _ _ hl hsleep rfl ?busy, fun f tt tgt now hf hnow => ⟨fun hheld hr => s.leaves_runAwake _ t _ _ hl hsleep rfl ?due, fun htgt hlim hnext =>
      ⟨fun hb => s.leaves_runAwake _ t _ _ hl hsleep rfl ?begun, fun hb hr => s.leaves_runAwake _ t _ _ hl hsleep rfl ?missed⟩⟩,
    fun htx hnext => ?empty, fun a hu hd hp ht ha hle ho hmap => s.leaves_runAwake _ t _ _ hl hsleep rfl ?pdo,
    fun hp ht hq => s.leaves_runAwake _ t _ _ hl hsleep rfl ?timer, fun h => s.leaves_runAwake _ t _ _ hl hsleep rfl ?inhibit,
    fun h => s.leaves_runAwake _ t _ _ hl hsleep rfl ?free, fun hp hle hg hoff => s.leaves_runAwake _ t _ _ hl hsleep rfl ?produce⟩
  case detect =>
    have hcand (u : State) (hu : n.candTimeout c t = u) : s.leaves (.rateCandidateTimeout c t) t u :=
      s.leaves_runAwake _ t _ _ hl hsleep rfl hu
    refine ⟨fun hle => hcand _ ?_, fun hlt => hcand _ ?_, fun e => s.leaves_runAwake _ t _ _ hl hsleep rfl ?_,
      fun hw w ok => s.leaves_runAwake _ t _ _ hl hsleep rfl ((if_neg (hwake hw ok)).trans (n.canReceive_detect c w ok t (hst.trans h)))⟩
    · rw [State.candTimeout, hk, if_pos ⟨hst.trans h, h0, hle⟩]
    · rw [State.candTimeout, hk, if_neg fun hh => Nat.not_le.mpr hlt hh.2.2]
    · exact (if_pos (hst.trans h)).trans ((if_neg h0).trans (by rw [hk]))
  case good =>
    intro d r n0 n1 fs takes fifo sync
    obtain ⟨htaken, hnone⟩ := n.canReceive_good c w t (by rw [hst]; exact hact) (by rw [hk]; exact hint)
    simp only [hrd] at htaken hnone
    have hleaves (u : State) (hu : n.canReceive c w true t = u) : s.leaves (.canFrameReceived c w true t) t u :=
      s.leaves_runAwake _ t _ _ hl hsleep rfl ((if_neg (hwake hw true)).trans hu)
    refine ⟨fun hb hbefore => hleaves _ (htaken b ?_), fun hno => ?_⟩
    · exact List.find?_range_eq_some.mpr ⟨hb, List.mem_range.mpr b.isLt, fun j hj => by rw [Bool.not_eq_true']; exact hbefore j hj⟩
    · have hrest := hnone (List.find?_eq_none.mpr fun j hj => by rw [Bool.not_eq_true]; exact hno j (List.mem_range.mp hj))
      refine ⟨fun h => hleaves _ (hrest.trans (congrArg sync (if_neg h))), fun h hfull => hleaves _ (hrest.trans (congrArg sync ((if_pos h).trans
        (if_neg (Nat.not_lt.mpr hfull))))), fun h hroom => ?_⟩
      intro m
      exact hleaves _ (hrest.trans (congrArg sync ((if_pos h).trans ((if_pos hroom).trans (ite_eq_of_iff List.isEmpty_iff rfl rfl)))))
  case damaged =>
    refine (if_neg (by simp)).trans (n.canReceive_damaged c w t (by rwa [hst]))
  case lock =>
    show n.hbufLock c b t = _
    rw [State.hbufLock, hx]
  case locked =>
    have hrel := n.hbufRelease_locked c b a (by rw [hx]; exact ha)
    rw [hx] at hrel
    exact ⟨s.leaves_run _ t _ _ hl rfl hrel, fun hle => s.leaves_run _ t _ _ hl rfl
      ((n.hbufTimeout_locked c b a t (by rw [hx]; exact ha) hle).trans (by rw [hrel]))⟩
  case unlocked =>
    exact ⟨s.leaves_run _ t _ _ hl rfl (n.hbufRelease_open c b (by rw [hx]; exact ha)),
      s.leaves_run _ t _ _ hl rfl (n.hbufTimeout_open c b t (by rw [hx]; exact ha))⟩
  case complete =>
    have h := n.canTxComplete_done c b t (hprog.trans h)
    rwa [hrd] at h
  case idle =>
    exact ⟨s.leaves_runAwake _ t _ _ hl hsleep rfl (n.canTxComplete_idle c b t (hprog.trans h)),
      fun arb => s.leaves_runAwake _ t _ _ hl hsleep rfl (n.canTxError_idle c b t arb (hprog.trans h))⟩
  case error =>
    intro u
    have herr (arb : Bool) := n.canTxError_busy c b t arb (hprog.trans h)
    simp only [hg, if_neg Bool.false_ne_true, hrd] at herr
    exact ⟨s.leaves_runAwake _ t _ _ hl hsleep rfl (herr true), s.leaves_runAwake _ t _ _ hl hsleep rfl (herr false)⟩
  case gated =>
    have herr := n.canTxError_busy c b t true (hprog.trans h)
    rw [hx] at herr
    exact herr.trans ((if_pos rfl).trans (if_pos hg))
  case sync =>
    have h := n.canTxError_sync c t (by rw [hk]; exact h) hg
    rwa [hk] at h
  case delay => exact if_pos ⟨hst.trans h, by rw [hk]; exact hbo⟩
  case back => exact if_pos (hst.trans h)
  case off =>
    have hoff : n.canSt c = ceOff := hst.trans h
    refine ⟨fun e => s.leaves_runAwake _ t _ _ hl hsleep rfl ?_, s.leaves_runAwake _ t _ _ hl hsleep rfl ?_,
      s.leaves_runAwake _ t _ _ hl hsleep rfl ?_⟩
    · exact (if_neg (by rw [hoff]; decide)).trans (if_neg (by rw [hoff]; decide))
    · exact if_neg (by rw [hoff]; decide)
    · exact if_neg fun hh => absurd (hoff.symm.trans hh.1) (by decide)
  case integrated =>
    show n.canIntegrated c = _
    rw [State.canIntegrated, hk]
  case start =>
    have h := n.canTxStart_frame c b (by rwa [s.canMaySend_now]) (by rwa [s.canBusy_now]) (by rwa [s.canNext_now])
    rwa [hx] at h
  case startSync =>
    have h := n.canTxStart_sync c (by rwa [s.canMaySend_now]) (by rwa [s.canBusy_now]) (by rwa [s.canNext_now])
    rwa [hk] at h
  case busy => exact n.canTxStart_busy c _ (by rwa [s.canBusy_now])
  case due =>
    have h := n.ctxtDue_reached c b t f tt tgt now (by rwa [hx]) hheld (by rwa [s.baseUs_now]) hr
    rwa [hx] at h
  case begun =>
    refine n.ctxtMissed_begun c b t (fun g hg => ?_) (by rwa [hx])
    rw [hx, hf] at hg
    exact Option.some.inj hg ▸ hb
  case missed =>
    have h := n.ctxtMissed_late c b t f tt tgt now (by rwa [hx]) (by rwa [hx]) htgt (by rwa [s.baseUs_now]) (by rwa [hrd]) hb (by rwa [hrd])
    rwa [hx] at h
  case empty =>
    refine ⟨s.leaves_runAwake _ t _ _ hl hsleep rfl ?_, s.leaves_runAwake _ t _ _ hl hsleep rfl
      (n.ctxtMissed_begun c b t (fun g hg => by rw [hx, htx] at hg; cases hg) (by rwa [hx]))⟩
    rw [State.ctxtDue, hx, htx]
  case pdo =>
    have h := n.pdoTimeout_due c b t a hu hd hp ht (by rw [hx, s.tmoBase_now]; exact ha) hle (by rwa [hx]) (by rwa [s.now_maps])
    rwa [hx] at h
  case timer => exact n.pdoTimer_first c b t hp ht (by rwa [hx])
  case inhibit => exact if_pos (by rw [hx]; exact h)
  case free => exact if_neg (by rw [hx, show x.deferred = false from h]; exact Bool.false_ne_true)
  case produce =>
    refine (if_pos ⟨by rwa [hrd], by rwa [hk, hrd], hg, by rwa [hst]⟩).trans ?_
    rw [hk]
end

end

section
section
/-! Proofs: the rack bus bridge (spec/16_rack_bridge.md). -/

namespace Sys2Proof.Machine

@[simp] theorem State.brReady_now (s : State) (t : Nat) : (s.now t).brReady = s.brReady := by simp [State.brReady]
@[simp] theorem State.brState_now (s : State) (t : Nat) : (s.now t).brState = s.brState := s.rd_now t _ 0 0
@[simp] theorem State.brSize_now (s : State) (t w : Nat) : (s.now t).brSize w = s.brSize w := by simp [State.brSize]
@[simp] theorem State.brAddr_now (s : State) (t : Nat) (q : BrReq) : (s.now t).brAddr q = s.brAddr q := by
  simp [State.brAddr, State.brBase]
@[simp] theorem State.bit_now (s : State) (t : Nat) (f : Fld) (k : Nat) : (s.now t).bit f k = s.bit f k := by simp [State.bit]

/-! ### Byte lanes (R420, R422) -/

/-- A bit of a union of parts is a bit of one of them. -/
theorem getLsbD_foldl_or (g : Nat → Word) (xs : List Nat) (v : Word) (k : Nat) :
    (xs.foldl (fun v i => v ||| g i) v).getLsbD k = (v.getLsbD k || xs.any fun i => (g i).getLsbD k) := by
  induction xs generalizing v with
  | nil => simp
  | cons x xs ih => rw [List.foldl_cons, ih, BitVec.getLsbD_or, List.any_cons, Bool.or_assoc]

/-- Byte `a` of a word, moved to byte `b`, has the bits of byte `b` alone. -/
theorem getLsbD_movedByte (v : Word) (a b k : Nat) :
    (((v >>> (8 * a)) &&& 0xFF#32) <<< (8 * b)).getLsbD k = (decide (k < 32 ∧ 8 * b ≤ k ∧ k < 8 * b + 8) && v.getLsbD (k - 8 * b + 8 * a)) := by
  have hmask : ∀ i < 32, (0xFF#32).getLsbD i = decide (i < 8) := by decide
  rw [BitVec.getLsbD_shiftLeft, BitVec.getLsbD_and, BitVec.getLsbD_ushiftRight]
  by_cases hk : k < 32
  · rw [hmask _ (by omega), Nat.add_comm (8 * a)]
    by_cases h1 : 8 * b ≤ k
    · by_cases h2 : k < 8 * b + 8
      · simp [hk, h1, h2, show k - 8 * b < 8 by omega]
      · simp [h2, show ¬ k - 8 * b < 8 by omega]
    · simp [h1, show k < 8 * b by omega]
  · simp [hk]

/-- Of the bytes a write drives, a read assembles the value written. -/
theorem brAssemble_brDrive (inv : Bool) (a w : Nat) (v : Word) (ha : a % 4 + w ≤ 4) :
    brAssemble inv a w (brDrive inv a w v) = v &&& BitVec.ofNat 32 (2 ^ (8 * w) - 1) := by
  have hlane (i j : Nat) (hi : i < w) (hj : j < w) (h : brLane inv a w i = brLane inv a w j) : i = j := by
    simp only [brLane] at h
    cases inv <;> simp only [Bool.false_eq_true, if_false, if_true] at h <;> omega
  have hlt (i : Nat) : brLane inv a w i < 4 := by
    simp only [brLane]
    split <;> omega
  have hzero (k : Nat) : (0 : Word).getLsbD k = false := BitVec.getLsbD_zero
  refine BitVec.eq_of_getLsbD_eq fun k hk => ?_
  simp only [brAssemble, brDrive, getLsbD_foldl_or, getLsbD_movedByte, BitVec.getLsbD_and, BitVec.getLsbD_ofNat, Nat.testBit_two_pow_sub_one,
    hzero, Bool.false_or]
  rw [Bool.eq_iff_iff]
  simp only [List.any_eq_true, List.mem_range, Bool.and_eq_true, decide_eq_true_eq]
  constructor
  · rintro ⟨i, hi, ⟨-, hik, hki⟩, j, hj, ⟨-, hjk, hkj⟩, hbit⟩
    obtain rfl : i = j := hlane i j hi hj (by omega)
    rw [show k - 8 * i + 8 * brLane inv a w i - 8 * brLane inv a w i + 8 * i = k by omega] at hbit
    exact ⟨hbit, hk, by omega⟩
  · rintro ⟨hbit, -, hkw⟩
    have hl := hlt (k / 8)
    refine ⟨k / 8, by omega, ⟨hk, by omega, by omega⟩, k / 8, by omega, ⟨by omega, by omega, by omega⟩, ?_⟩
    rwa [show k - 8 * (k / 8) + 8 * brLane inv a w (k / 8) - 8 * brLane inv a w (k / 8) + 8 * (k / 8) = k by omega]

/-! ### Requests, grants and answers (R418 to R426) -/

theorem State.brStart_taken (s : State) (t : Nat) (q : BrReq) (r : List BrReq) (hq : s.br.queue = q :: r) (hopn : s.br.opn = none)
    (hready : s.brReady = true) :
    s.brStart t =
      if s.brSize q.win < q.ofs + brWidth q.wid then
        (((s.setBr { s.br with queue := r }).brFinish q rcTargetReset 0 0 t).wr R.BR_FLAGS_STALE 1).brCount
      else ((s.setBr { s.br with queue := r, opn := some q, reqAt := t }).wr R.BR_STAT_STATE bsArb).brCount := by
  rw [State.brStart, hq]
  exact if_neg (by simp [hopn, hready])

theorem State.brStart_empty (s : State) (t : Nat) (h : s.br.queue = []) : s.brStart t = s := by
  rw [State.brStart, h]

theorem State.brGrant_other (s : State) (reqs : BitVec 4) (t g : Nat) (hst : s.brState = bsIdle)
    (hg : brGrantee s.br.last (reqs &&& ~~~(1#4 <<< (s.slotCode % 4))) = some g) (hown : g ≠ s.slotCode % 4) :
    s.brGrant reqs t = s.setBr { s.br with last := g } := by
  have hasks : (s.brState == bsArb) = false := by rw [hst]; rfl
  refine (if_neg (by rw [hst]; decide)).trans ?_
  rw [hasks, if_neg Bool.false_ne_true, show (reqs &&& ~~~(1#4 <<< (s.slotCode % 4))) ||| 0 = _ from BitVec.or_zero, hg]
  exact if_pos hown

theorem State.brGrant_own (s : State) (reqs : BitVec 4) (t : Nat) (q : BrReq) (hst : s.brState = bsArb) (hopn : s.br.opn = some q)
    (hg : brGrantee s.br.last ((reqs &&& ~~~(1#4 <<< (s.slotCode % 4))) ||| 1#4 <<< (s.slotCode % 4)) = some (s.slotCode % 4)) :
    s.brGrant reqs t =
      (s.setBr { s.br with last := s.slotCode % 4, clock0 := some t, addr := s.brAddr q, be := brEnables (s.brAddr q) (brWidth q.wid),
                           ad := if q.write then brDrive (s.rd R.BR_WIN_CFG_LANES q.win == 1) (s.brAddr q) (brWidth q.wid) q.data else 0 }).wr
        R.BR_STAT_STATE bsCycle := by
  have hasks : (s.brState == bsArb) = true := by rw [hst]; rfl
  refine (if_neg (by rw [hst]; decide)).trans ?_
  rw [hasks, if_pos rfl, hg]
  refine (if_neg (fun h => h rfl)).trans ?_
  rw [hopn]
  rfl

theorem State.brEnd_open (s : State) (code : Nat) (v : Word) (status t : Nat) (q : BrReq) (h : s.br.opn = some q) :
    s.brEnd code v status t = (s.brFinish q code v status t).brClose := by
  rw [State.brEnd, h]

/-- An answer completes the open request with its data, or with the code of its error. -/
theorem State.brAnswer_open (s : State) (err : Bool) (ad : Word) (t : Nat) (q : BrReq) (c : Nat) (hopn : s.br.opn = some q)
    (hc : s.br.clock0 = some c) :
    s.brAnswer err ad t =
      if !err then (s.brFinish q rcOk (brAssemble (s.rd R.BR_WIN_CFG_LANES q.win == 1) s.br.addr (brWidth q.wid) ad) 0 t).brClose
      else if fieldOf ad 7 0 = 0xFE then (s.brFinish q rcTargetReset 0 (fieldOf ad 7 0) t).brClose
      else (s.brFinish q rcFarError (BitVec.ofNat 32 (fieldOf ad 7 0)) (fieldOf ad 7 0) t).brClose := by
  rw [← s.brEnd_open _ _ _ _ q hopn, ← s.brEnd_open _ _ _ _ q hopn, ← s.brEnd_open _ _ _ _ q hopn, State.brAnswer, hopn, hc]

theorem State.brAnswerTimeout_due (s : State) (t : Nat) (q : BrReq) (c : Nat) (hopn : s.br.opn = some q) (hc : s.br.clock0 = some c)
    (ht : c + 1000 * s.rd R.BR_WIN_CFG_TMO q.win ≤ t) : s.brAnswerTimeout t = (s.brFinish q rcTimeout 0 0 t).brClose := by
  rw [← s.brEnd_open _ _ _ _ q hopn, State.brAnswerTimeout, hopn, hc]
  exact if_pos ht

theorem State.brAnswer_closed (s : State) (err : Bool) (ad : Word) (t : Nat) (h : s.br.opn = none) : s.brAnswer err ad t = s := by
  rw [State.brAnswer, h]

theorem State.brAnswerTimeout_closed (s : State) (t : Nat) (h : s.br.opn = none) : s.brAnswerTimeout t = s := by
  rw [State.brAnswerTimeout, h]

/-- The bridge that becomes ready raises the event of what had made it unready (R431). -/
theorem State.brBecomesReady_reset (s : State) (t : Nat) (hclk : s.br.clk = true) (hrst : s.br.rst = true) :
    s.brBecomesReady t = ((s.raise 354 t).setBr { s.br with rst := false }).wr R.BR_STAT_STATE bsIdle := by
  have hbr : (s.raise 354 t).br = s.br := ite_same (fun u : State => u.br) rfl (State.onLanes_br _ _)
  have hnot : ¬ s.brReady = true := by simp [State.brReady, hrst]
  have hfull : ({ s.br with clk := true, rst := false } : BrState) = { s.br with rst := false } := by rw [← hclk]
  rw [← hfull]
  unfold State.brBecomesReady
  rw [if_neg hnot]
  dsimp only
  rw [if_pos hclk, if_pos hrst, hbr]

theorem State.brBecomesReady_clock (s : State) (t : Nat) (hclk : s.br.clk = false) (hrst : s.br.rst = false) :
    s.brBecomesReady t = ((s.raise 355 t).setBr { s.br with clk := true }).wr R.BR_STAT_STATE bsIdle := by
  have hbr : (s.raise 355 t).br = s.br := ite_same (fun u : State => u.br) rfl (State.onLanes_br _ _)
  have hnot : ¬ s.brReady = true := by simp [State.brReady, hclk]
  have hfull : ({ s.br with clk := true, rst := false } : BrState) = { s.br with clk := true } := by rw [← hrst]
  rw [← hfull]
  unfold State.brBecomesReady
  rw [if_neg hnot]
  dsimp only
  rw [if_neg (by rw [hclk]; exact Bool.false_ne_true), if_neg (by rw [hrst]; exact Bool.false_ne_true), hbr]

end Sys2Proof.Machine

open Sys2Proof Sys2Proof.Machine

/-- Settles O51. -/
theorem bridgeServesRequests : Obligations.BridgeServesRequests := by
  intro s q t hl hsleep n b
  have hb : n.br = b := s.now_br t
  have hst : n.brState = s.brState := s.brState_now t
  have hready : n.brReady = s.brReady := s.brReady_now t
  have hslot : n.slotCode = s.slotCode := s.now_slotCode t
  have hsize (w : Nat) : n.brSize w = s.brSize w := s.brSize_now t w
  have haddr (q : BrReq) : n.brAddr q = s.brAddr q := s.brAddr_now t q
  have hrd (f : Fld) (i : Nat) : n.rd f i = s.rd f i := s.rd_now t f i 0
  have hnot : ¬ false = true := Bool.false_ne_true
  refine ⟨fun r hq hopn hr => ?request, fun h => s.leaves_runAwake _ t _ _ hl hsleep rfl (n.brStart_empty t (by rwa [hb])),
    fun reqs g h hg hown => s.leaves_runAwake _ t _ _ hl hsleep rfl ?other, fun reqs h hopn hg => s.leaves_runAwake _ t _ _ hl hsleep rfl ?own,
    fun c ad hopn hc => ?answer, fun h => ⟨s.leaves_runAwake _ t _ _ hl hsleep rfl (n.brAnswerTimeout_closed t (by rwa [hb])),
      fun e ad => s.leaves_runAwake _ t _ _ hl hsleep rfl (n.brAnswer_closed e ad t (by rwa [hb]))⟩,
    fun hopn h hle => s.leaves_runAwake _ t _ _ hl hsleep rfl ?arb, s.leaves_run _ t _ _ hl rfl ?reset,
    fun h => s.leaves_run _ t _ _ hl rfl ?lost, fun h => s.leaves_run _ t _ _ hl rfl (if_neg (by rw [hb, show b.clk = false from h]; exact hnot)),
    fun h => s.leaves_run _ t _ _ hl rfl (if_pos (hready.trans h)), fun hclk hrst => s.leaves_run _ t _ _ hl rfl ?ready,
    fun hclk hrst => s.leaves_run _ t _ _ hl rfl ?clocked, fun k => ⟨fun h => s.leaves_run _ t _ _ hl rfl (if_pos ((s.bit_now t _ k).trans h)),
      fun h => s.leaves_run _ t _ _ hl rfl (if_neg (by rw [s.bit_now t _ k, h]; exact hnot))⟩, fun inv a w v _ => brAssemble_brDrive inv a w v⟩
  case request =>
    have htake := n.brStart_taken t q r (by rwa [hb]) (by rwa [hb]) (hready.trans hr)
    rw [hb, hsize] at htake
    exact ⟨fun h => s.leaves_runAwake _ t _ _ hl hsleep rfl (htake.trans (if_pos h)),
      fun h => s.leaves_runAwake _ t _ _ hl hsleep rfl (htake.trans (if_neg (Nat.not_lt.mpr h)))⟩
  case other =>
    have h := n.brGrant_other reqs t g (hst.trans h) (by rwa [hb, hslot]) (by rwa [hslot])
    rwa [hb] at h
  case own =>
    have h := n.brGrant_own reqs t q (hst.trans h) (by rwa [hb]) (by rwa [hb, hslot])
    rwa [hb, hslot, haddr, hrd] at h
  case answer =>
    have hans (err : Bool) := n.brAnswer_open err ad t q c (by rwa [hb]) (by rwa [hb])
    rw [hb, hrd] at hans
    refine ⟨s.leaves_runAwake _ t _ _ hl hsleep rfl (hans false), fun h => s.leaves_runAwake _ t _ _ hl hsleep rfl ?_,
      fun h => s.leaves_runAwake _ t _ _ hl hsleep rfl ((hans true).trans ((if_neg hnot).trans (if_neg h))),
      fun h => s.leaves_runAwake _ t _ _ hl hsleep rfl (n.brAnswerTimeout_due t q c (by rwa [hb]) (by rwa [hb]) (by rwa [hrd]))⟩
    exact (hans true).trans ((if_neg hnot).trans ((if_pos h).trans (by rw [h])))
  case arb =>
    refine (if_pos ⟨hst.trans h, by rwa [hb, hrd]⟩).trans ?_
    rw [n.brEnd_open _ _ _ _ q (by rwa [hb])]
  case reset =>
    show n.brReset t = _
    rw [State.brReset, hb]
  case lost =>
    refine (if_pos (by rw [hb]; exact h)).trans ?_
    rw [hb]
  case ready =>
    have h := n.brBecomesReady_reset t (by rw [hb]; exact hclk) (by rw [hb]; exact hrst)
    rwa [hb] at h
  case clocked =>
    have h := n.brBecomesReady_clock t (by rw [hb]; exact hclk) (by rw [hb]; exact hrst)
    rwa [hb] at h
end

end

section
section
/-! Proofs: lease messages (spec/17_module_redundancy.md). -/

namespace Sys2Proof.Machine

@[simp] theorem State.rdEn_now (s : State) (t : Nat) : (s.now t).rdEn = s.rdEn := by simp [State.rdEn]
@[simp] theorem State.role_now (s : State) (t : Nat) : (s.now t).role = s.role := s.rd_now t _ 0 0
@[simp] theorem State.steep_now (s : State) (t : Nat) : (s.now t).steep = s.steep := by simp [State.steep]
@[simp] theorem State.rdGuard_now (s : State) (t : Nat) : (s.now t).rdGuard = s.rdGuard := by simp [State.rdGuard]
@[simp] theorem State.ownSlot_now (s : State) (t : Nat) : (s.now t).ownSlot = s.ownSlot := s.rd_now t _ 0 0
@[simp] theorem State.aliveSlots_now (s : State) (t : Nat) : (s.now t).aliveSlots = s.aliveSlots := by simp [State.aliveSlots]
@[simp] theorem State.leaseLinks_now (s : State) (t : Nat) : (s.now t).leaseLinks = s.leaseLinks := by simp [State.leaseLinks]
@[simp] theorem State.rdWords_now (s : State) (t : Nat) : (s.now t).rdWords = s.rdWords := by
  simp [State.rdWords, State.ownRank, State.cmpFault]

/-! ### Sending (R435, R436) -/

/-- The messages sent begin with the latest. -/
theorem State.rdSend_head (s : State) (type ref t : Nat) :
    ∃ x, (s.rdSend type ref t).rd_.out.head? = some x ∧ x.msg.type = type ∧ x.msg.slot = s.ownSlot ∧
      x.msg.seq = BitVec.ofNat 32 (s.rd_.seq + 1) ∧ x.planes = [0, 1].filter (s.rd R.RD_CFG_PATHS).testBit ∧ x.links = s.leaseLinks := by
  obtain ⟨o, hrd, htype, hslot, hseq, -, hplanes, hlinks⟩ := s.rdSend_rd_ type ref t
  refine ⟨o, by rw [hrd]; rfl, htype, hslot, hseq.trans ?_, hplanes, hlinks⟩
  exact BitVec.eq_of_toNat_eq (by simp)

/-- A holder that is alone acknowledges its RENEW itself. -/
theorem State.rdRenew_alone (s : State) (t : Nat) (h : s.aliveSlots = []) :
    s.rdRenew t = (s.rdSend ltRenew 0 t).setRd { (s.rdSend ltRenew 0 t).rd_ with ackAt := t, periodAt := some t } := by
  unfold State.rdRenew
  dsimp only
  rw [s.rdSend_aliveSlots, h]
  rfl

theorem State.leaseSend_idle (s : State) (t : Nat) (h : s.rdEn = false) : s.leaseSend t = s := if_pos (by simp [h])

theorem State.leaseSend_early (s : State) (t p : Nat) (hp : s.rd_.periodAt = some p) (ht : t < p + s.steep / 4) : s.leaseSend t = s := by
  refine if_pos ?_
  rw [hp]
  simp [ht]

/-- The message of a quarter of the steep: the holder's RENEW, any other member's STATUS. -/
theorem State.leaseSend_due (s : State) (t : Nat) (hen : s.rdEn = true)
    (hdue : s.rd_.periodAt = none ∨ ∃ p, s.rd_.periodAt = some p ∧ p + s.steep / 4 ≤ t) :
    s.leaseSend t =
      if s.role = rrHolder then s.rdRenew t
      else (s.rdSend ltStatus 0 t).setRd { (s.rdSend ltStatus 0 t).rd_ with periodAt := some t } := by
  refine if_neg ?_
  rw [hen]
  rcases hdue with h | ⟨p, h, hle⟩
  · rw [h]
    simp
  · rw [h]
    simp [hle]

/-! ### Receiving (R432 to R437) -/

/-- What a received message meets first: a damaged one, one of another group, of another steep, or of the own slot. -/
theorem State.leaseReceive_discarded (s : State) (m : LeaseMsg) (t : Nat) (hen : s.rdEn = true)
    (h : leaseCrcOk m = false ∨ m.group.toNat ≠ s.rd R.RD_GROUP_ID) : s.leaseReceive m t = s.bump R.RD_RX_DISC_CNT :=
  (if_neg (by simp [hen])).trans (if_pos (by rcases h with h | h <;> simp [h]))

theorem State.leaseReceive_checked (s : State) (m : LeaseMsg) (t : Nat) (hen : s.rdEn = true) (hcrc : leaseCrcOk m = true)
    (hgroup : m.group.toNat = s.rd R.RD_GROUP_ID) :
    (m.steep ≠ s.rd R.RD_TIMING_STEEP → s.leaseReceive m t = (s.bump R.RD_RX_DISC_CNT).wr R.RD_FLAGS_CFG_MISMATCH 1) ∧
      (m.steep = s.rd R.RD_TIMING_STEEP → m.slot = s.ownSlot → s.leaseReceive m t =
        if m.serial = BitVec.ofNat 32 Config.serial then s else (s.setRd { s.rd_ with dupAt := some t }).wr R.RD_FLAGS_DUP_ID 1) := by
  have hpass (u : State) : (if !s.rdEn then s
      else if !leaseCrcOk m || m.group.toNat != s.rd R.RD_GROUP_ID then s.bump R.RD_RX_DISC_CNT else u) = u :=
    (if_neg (by simp [hen])).trans (if_neg (by simp [hcrc, hgroup]))
  exact ⟨fun h => (hpass _).trans (if_pos h), fun h hslot => (hpass _).trans ((if_neg (fun hne => hne h)).trans (if_pos hslot))⟩

/-- The first message of all is heard at the first entry and takes effect. -/
theorem State.leaseReceive_first (s : State) (m : LeaseMsg) (t : Nat) (hen : s.rdEn = true) (hcrc : leaseCrcOk m = true)
    (hgroup : m.group.toNat = s.rd R.RD_GROUP_ID) (hsteep : m.steep = s.rd R.RD_TIMING_STEEP) (hslot : m.slot ≠ s.ownSlot)
    (hnone : s.rd_.members = []) (hrank : m.rank = s.rd R.RD_MEMBER_RANK 0) :
    s.leaseReceive m t = ((s.memberHeard 0 m t).gotMessage m t).rdSample t := by
  have hat : s.memberAt m.slot = some 0 := by rw [State.memberAt, hnone]; rfl
  refine (if_neg (by simp [hen])).trans ((if_neg (by simp [hcrc, hgroup])).trans ((if_neg (fun hne => hne hsteep)).trans
    ((if_neg hslot).trans ?_)))
  rw [hat]
  dsimp only
  rw [hnone]
  refine (if_neg (by simp)).trans ?_
  rw [if_pos hrank.symm]

theorem State.gotRenew_follower (s : State) (m : LeaseMsg) (t : Nat) (h : s.role ≠ rrHolder) :
    s.gotRenew m t = ((s.rdSend ltAck m.seq.toNat t).rdFollower t).wr R.RD_STATE_HOLDER m.slot :=
  if_neg (by rwa [State.rdSend_role])

theorem State.gotRenew_holder (s : State) (m : LeaseMsg) (t : Nat) (h : s.role = rrHolder) :
    let a := s.rdSend ltAck m.seq.toNat t
    s.gotRenew m t = if m.slot < s.ownSlot then
      (((a.stopActing t).rdFollower t).wr R.RD_FLAGS_DUAL_HOLDER 1).wr R.RD_STATE_HOLDER m.slot else a := by
  intro a
  refine (if_pos (by rwa [State.rdSend_role])).trans ?_
  rw [State.rdSend_ownSlot]

/-- The last ACK a RENEW waited for advances h_a. -/
theorem State.gotAck_last (s : State) (m : LeaseMsg) (t : Nat) (x : RdRenew) (hrole : s.role = rrHolder) (hx : s.rd_.renews = [x])
    (hn : x.n = m.ref.toNat) (ht : t < x.at_ + s.steep / 4) (halive : x.alive = [m.slot]) :
    s.gotAck m t = s.setRd { s.rd_ with renews := [], ackAt := max s.rd_.ackAt x.at_ } := by
  refine (if_neg (fun hne => hne hrole)).trans ?_
  dsimp only
  rw [hx]
  simp [hn, ht, halive]

/-! ### Members and the status sample (R435, R447) -/

theorem State.aliveExpiry_alive (s : State) (i t : Nat) (x : RdMember) (hx : s.rd_.members[i]? = some x)
    (halive : s.rd R.RD_MEMBER_ALIVE i = 1) :
    s.aliveExpiry i t = if x.at_ + s.steep / 2 ≤ t then ((s.wr R.RD_MEMBER_ALIVE 0 i).raise 386 t).rdSample t else s := by
  rw [State.aliveExpiry, hx]
  exact ite_eq_of_iff (and_iff_right halive) rfl rfl

/-- The sample of a quiet unit goes to the words its map names. -/
theorem State.rdPeriodic_quiet (s : State) (t : Nat) (ht : s.rd_.sampleAt + 10000000 ≤ t) (hw : s.rdWords = s.rd_.status) :
    let u := s.setRd { s.rd_ with sampleAt := t }
    (∀ w, NMap.look s.maps 0x2000 = some w →
        s.rdPeriodic t = u.deliverWords w [s.rdWords.1, s.rdWords.2, BitVec.ofNat 32 s.rd_.changeAt] t) ∧
      (NMap.look s.maps 0x2000 = none → s.rdPeriodic t = u) := by
  intro u
  have hdue : s.rdPeriodic t = s.rdDeliver t := if_pos ht
  have hmaps : u.maps = s.maps := rfl
  rw [hdue]
  unfold State.rdDeliver
  dsimp only
  rw [if_pos hw]
  constructor
  · intro w hmap
    rw [hmaps, hmap]
    rfl
  · intro hmap
    rw [hmaps, hmap]

end Sys2Proof.Machine

open Sys2Proof Sys2Proof.Machine

/-- Settles O52. -/
theorem leaseMessagesAreServed : Obligations.LeaseMessagesAreServed := by
  intro s m i t hl hsleep n
  have hrd_ : n.rd_ = s.rd_ := s.now_rdState t
  have hen : n.rdEn = s.rdEn := s.rdEn_now t
  have hrole : n.role = s.role := s.role_now t
  have hsteep : n.steep = s.steep := s.steep_now t
  have hown : n.ownSlot = s.ownSlot := s.ownSlot_now t
  have hrd (f : Fld) (i : Nat) : n.rd f i = s.rd f i := s.rd_now t f i 0
  have hreceive (u : State) (hu : n.leaseReceive m t = u) : s.leaves (.leaseMessageReceived m t) t u :=
    s.leaves_runAwake _ t _ _ hl hsleep rfl hu
  refine ⟨fun h => ⟨s.leaves_runAwake _ t _ _ hl hsleep rfl (n.leaseSend_idle t (hen.trans h)), hreceive _ (if_pos (by rw [hen, h]; rfl))⟩,
    fun h hdue => ?send, fun p hp hlt => s.leaves_runAwake _ t _ _ hl hsleep rfl (n.leaseSend_early t p (by rwa [hrd_]) (by rwa [hsteep])),
    fun h hbad => hreceive _ (n.leaseReceive_discarded m t (hen.trans h) (by rwa [hrd])), fun h hcrc hgroup => ?receive,
    s.gotRenew_follower m t, fun h => ?renew, fun x h hx hn ht ha => s.gotAck_last m t x h hx hn ht ha, fun x hx halive => ?expiry,
    fun hlt => s.leaves_runAwake _ t _ _ hl hsleep rfl (if_neg (by rw [hrd_]; exact Nat.not_le.mpr hlt)), fun hle hw => ?sample⟩
  case send =>
    have hsend := n.leaseSend_due t (hen.trans h) (by rwa [hrd_, hsteep])
    refine ⟨fun hholder halone => ?_, fun hother => ?_⟩
    · have hrenew := n.rdRenew_alone t ((s.aliveSlots_now t).trans halone)
      obtain ⟨x, hhead, htype, hslot, -, hplanes, hlinks⟩ := n.rdSend_head ltRenew 0 t
      exact ⟨_, s.leaves_runAwake _ t _ _ hl hsleep rfl (hsend.trans ((if_pos (hrole.trans hholder)).trans hrenew)), rfl, rfl,
        x, hhead, htype, hslot.trans hown, hplanes.trans (by rw [hrd]), hlinks.trans (s.leaseLinks_now t)⟩
    · obtain ⟨x, hhead, htype, hslot, hseq, -, -⟩ := n.rdSend_head ltStatus 0 t
      obtain ⟨o, hkept, -⟩ := n.rdSend_rd_ ltStatus 0 t
      refine ⟨_, s.leaves_runAwake _ t _ _ hl hsleep rfl (hsend.trans (if_neg (by rwa [hrole]))), rfl, ?_,
        x, hhead, htype, hslot.trans hown, hseq.trans (by rw [hrd_])⟩
      show (n.rdSend ltStatus 0 t).rd_.ackAt = s.rd_.ackAt
      rw [hkept, hrd_]
  case receive =>
    obtain ⟨hmismatch, hsame⟩ := n.leaseReceive_checked m t (hen.trans h) hcrc (by rwa [hrd])
    rw [hrd, hown, hrd_] at hsame
    rw [hrd] at hmismatch
    refine ⟨fun hs => hreceive _ (hmismatch hs), fun hs hslot hserial => hreceive _ ((hsame hs hslot).trans (if_neg hserial)),
      fun hs hslot hserial => hreceive _ ((hsame hs hslot).trans (if_pos hserial)), fun hs hslot hnone hrank => hreceive _ ?_⟩
    exact n.leaseReceive_first m t (hen.trans h) hcrc (by rwa [hrd]) (by rwa [hrd]) (by rwa [hown]) (by rwa [hrd_]) (by rwa [hrd])
  case renew =>
    have hrenew := s.gotRenew_holder m t h
    exact ⟨fun hlt => hrenew.trans (if_pos hlt), fun hle => hrenew.trans (if_neg (Nat.not_lt.mpr hle))⟩
  case expiry =>
    have hexp := n.aliveExpiry_alive i t x (by rw [hrd_]; exact hx) (by rwa [hrd])
    rw [hsteep] at hexp
    exact ⟨fun hle => s.leaves_runAwake _ t _ _ hl hsleep rfl (hexp.trans (if_pos hle)),
      fun hlt => s.leaves_runAwake _ t _ _ hl hsleep rfl (hexp.trans (if_neg (Nat.not_le.mpr hlt)))⟩
  case sample =>
    have hwords : n.rdWords = s.rdWords := s.rdWords_now t
    obtain ⟨hmapped, hfree⟩ := n.rdPeriodic_quiet t (by rwa [hrd_]) (by rwa [hwords, hrd_])
    rw [hrd_, hwords] at hmapped
    rw [hrd_] at hfree
    exact ⟨fun w hmap => s.leaves_runAwake _ t _ _ hl hsleep rfl (hmapped w (by rwa [s.now_maps t])),
      fun hmap => s.leaves_runAwake _ t _ _ hl hsleep rfl (hfree (by rwa [s.now_maps t]))⟩
end

end

section
section
/-! Proofs: the mastership lease changes hands (spec/17_module_redundancy.md). -/

namespace Sys2Proof.Machine

@[simp] theorem State.barred_now (s : State) (t : Nat) : (s.now t).barred = s.barred := by simp [State.barred]
@[simp] theorem State.cmpFault_now (s : State) (t : Nat) : (s.now t).cmpFault = s.cmpFault := by simp [State.cmpFault]
@[simp] theorem State.mayClaim_now (s : State) (t t' : Nat) : (s.now t).mayClaim t' = s.mayClaim t' := by
  simp only [State.mayClaim, State.mode_now, State.pwDown_now, State.vstate_now, State.isDuplex_now, State.barred_now, State.rd_now,
    State.rdEn_now, State.dupId, State.now_rdState, State.steep_now]
@[simp] theorem State.rdPair_now (s : State) (t k : Nat) : (s.now t).rdPair k = s.rdPair k := by simp [State.rdPair]

/-! ### The role (R437, R447) -/

/-- A change of the role shows, and keeps what the unit holds. -/
theorem State.setRole_role (s : State) (role t : Nat) (h : role = rrClaiming ∨ role = rrHolder) : (s.setRole role t).role = role := by
  unfold State.setRole
  split
  · next hsame => exact hsame
  · refine (State.rd_of_regAt R.RD_STATE_ROLE 0 0 (State.regAt_raise _ _ _ _)).trans ?_
    exact (s.rd_wr_of_ne_zero R.RD_STATE_ROLE role 0 0 (by decide) (by rcases h with rfl | rfl <;> decide)).trans
      (by rcases h with rfl | rfl <;> rfl)

theorem State.raise_rd_ (s : State) (k t : Nat) : (s.raise k t).rd_ = s.rd_ := (State.NetOnly.raise s k t).1

theorem State.setRole_rd_ (s : State) (role t : Nat) : (s.setRole role t).rd_ = s.rd_ :=
  ite_same State.rd_ rfl (State.raise_rd_ _ _ _)

/-- The role, the stamps of a claim and of the latest acknowledgement, and the messages sent. -/
def State.lease (s : State) : Nat × Nat × Nat × List LeaseOut := (s.role, s.rd_.claimAt, s.rd_.ackAt, s.rd_.out)

theorem State.lease_onLanes (s : State) (g : Lane → Lane) : (s.onLanes g).lease = s.lease := by
  have hrole : (s.onLanes g).role = s.role := rd_onLanes s g _ 0 0
  rw [State.lease, hrole, State.onLanes_rdState]
  rfl

/-- The status sample keeps the lease. -/
theorem State.lease_rdSample (s : State) (t : Nat) : (s.rdSample t).lease = s.lease := by
  refine ite_same State.lease rfl ?_
  unfold State.rdDeliver
  extract_lets w kept s0 kept0 s1
  have hset (u : State) (r : RdState) (hr : (r.claimAt, r.ackAt, r.out) = (u.rd_.claimAt, u.rd_.ackAt, u.rd_.out)) :
      (u.setRd r).lease = u.lease := congrArg (Prod.mk u.role) hr
  have h1 : s1.lease = s.lease := by
    simp only [s1]
    split
    · exact hset s _ rfl
    · exact (hset s0 _ rfl).trans (hset s _ rfl)
  clear_value s1
  cases NMap.look s1.maps 0x2000 with
  | none => exact h1
  | some i => exact (s1.lease_onLanes _).trans h1

/-- A claim (R437). -/
theorem State.rdClaim_shows (s : State) (t : Nat) :
    (s.rdClaim t).role = rrClaiming ∧ (s.rdClaim t).rd_.claimAt = t ∧
      ∃ x, (s.rdClaim t).rd_.out.head? = some x ∧ x.msg.type = ltClaim := by
  let u := (s.setRole rrClaiming t).rdSend ltClaim 0 t
  have hkept : (s.rdClaim t).lease = (u.setRd { u.rd_ with claimAt := t }).lease := State.lease_rdSample _ t
  simp only [State.lease, Prod.mk.injEq] at hkept
  obtain ⟨hrole, hclaim, -, hout⟩ := hkept
  obtain ⟨x, hhead, htype, -⟩ := (s.setRole rrClaiming t).rdSend_head ltClaim 0 t
  refine ⟨hrole.trans ?_, hclaim, x, (congrArg List.head? hout).trans hhead, htype⟩
  exact ((s.setRole rrClaiming t).rdSend_role ltClaim 0 t).trans (s.setRole_role rrClaiming t (.inl rfl))

/-! ### The take (R437, R442) -/

/-- The outputs follow without a word of the redundancy unit. -/
theorem State.allOut_lease (s : State) : s.allOut.role = s.role ∧ s.allOut.rd_ = s.rd_ ∧ s.allOut.aliveSlots = s.aliveSlots := by
  have hreg (a : Nat) (ha : 0x160000 ≤ a) : s.allOut.regAt a = s.regAt a := by
    refine foldl_same_mem (fun u : State => u.regAt a) State.grpOut (List.range 8) (fun u g hg => ?_) s
    refine foldl_same_mem (fun u : State => u.regAt a) State.chOut (chansOf g) (fun v c hc => ?_) u
    have hc128 : c < 128 := by
      have hg8 := List.mem_range.mp hg
      obtain ⟨k, hk, rfl⟩ := List.mem_map.mp hc
      have := List.mem_range.mp hk
      omega
    have hne (f : Fld) (hf : f.addr c = 0xA0010 + 0x100 * c) : a ≠ f.addr c := by omega
    exact (State.regAt_wr _ _ _ _ _ _ (hne _ rfl)).trans (State.regAt_wr _ _ _ _ _ _ (hne _ rfl))
  have hrd (f : Fld) (i : Nat) (hf : 0x160000 ≤ f.base) : s.allOut.rd f i = s.rd f i :=
    State.rd_of_regAt f i 0 (hreg _ (Nat.le_trans hf (f.addr_ge i 0)))
  refine ⟨hrd _ _ (by decide), ?_, ?_⟩
  · exact foldl_same State.rd_ State.grpOut (fun u g => foldl_same State.rd_ State.chOut (fun _ _ => rfl) (chansOf g) u) (List.range 8) s
  · simp only [State.aliveSlots, hrd R.RD_MEMBER_ALIVE _ (by decide), hrd R.RD_MEMBER_SLOT_ID _ (by decide)]

/-- The start of acting keeps the holder's role and what the lease turns on. -/
theorem State.startActing_keeps (s : State) (t : Nat) (h : s.role = rrHolder) :
    (s.startActing t).role = rrHolder ∧ (s.startActing t).rd_ = s.rd_ := by
  unfold State.startActing
  split
  · exact ⟨h, rfl⟩
  · obtain ⟨hrole, hrd_, -⟩ := ((s.wr R.RD_STATE_ACTING 1).raise 384 t).allOut_lease
    refine ⟨hrole.trans ?_, hrd_.trans (State.raise_rd_ _ _ _)⟩
    refine (State.rd_of_regAt R.RD_STATE_ROLE 0 0 (State.regAt_raise _ _ _ _)).trans ?_
    exact (s.rd_wr_disjoint_of_ne_zero R.RD_STATE_ROLE R.RD_STATE_ACTING 1 0 0 rfl (by decide) (by decide) (by decide)
      (by rw [show s.rd R.RD_STATE_ROLE 0 0 = rrHolder from h]; decide)).trans h

/-- A RENEW of a holder that has just taken the lease keeps its role and the stamp of the take. -/
theorem State.rdRenew_keeps (s : State) (t : Nat) (hrole : s.role = rrHolder) (hack : s.rd_.ackAt = t) :
    (s.rdRenew t).role = rrHolder ∧ (s.rdRenew t).rd_.ackAt = t := by
  have hr : (s.rdSend ltRenew 0 t).role = rrHolder := (s.rdSend_role ltRenew 0 t).trans hrole
  obtain ⟨o, hkept, -⟩ := s.rdSend_rd_ ltRenew 0 t
  unfold State.rdRenew
  dsimp only
  split
  · exact ⟨hr, rfl⟩
  · refine ⟨hr, ?_⟩
    show (s.rdSend ltRenew 0 t).rd_.ackAt = t
    rw [hkept]
    exact hack

theorem State.rdTake_shows (s : State) (t : Nat) : (s.rdTake t).role = rrHolder ∧ (s.rdTake t).rd_.ackAt = t := by
  let u := ((s.wr R.RD_EPOCH_EPOCH ((s.rd R.RD_EPOCH_EPOCH + 1) % 2 ^ 32)).bump R.RD_TAKE_CNT).setRole rrHolder t
  have hu : u.role = rrHolder := State.setRole_role _ rrHolder t (.inr rfl)
  have hheld (v : Nat) : (u.wr R.RD_STATE_HOLDER v).role = rrHolder :=
    (u.rd_wr_disjoint_of_ne_zero R.RD_STATE_ROLE R.RD_STATE_HOLDER v 0 0 rfl (by decide) (by decide) (by decide)
      (by rw [show u.rd R.RD_STATE_ROLE 0 0 = rrHolder from hu]; decide)).trans hu
  let v := u.wr R.RD_STATE_HOLDER s.ownSlot
  let w := v.setRd { v.rd_ with ackAt := t, renews := [] }
  obtain ⟨hact, hrd_⟩ := w.startActing_keeps t (hheld _)
  obtain ⟨hrenew, hack⟩ := (w.startActing t).rdRenew_keeps t hact (by rw [hrd_]; rfl)
  have hlease : (s.rdTake t).lease = ((w.startActing t).rdRenew t).lease := State.lease_rdSample _ t
  simp only [State.lease, Prod.mk.injEq] at hlease
  obtain ⟨hrole, -, hkept, -⟩ := hlease
  exact ⟨hrole.trans hrenew, hkept.trans hack⟩

/-! ### Timed happenings (R436, R437, R444) -/

theorem State.pairWindowEnd_none (s : State) (k t : Nat)
    (h : ((s.rdPair k).opn.find? fun u => decide (u.at_ + 1000 * s.tab.pdCycle (s.pairPub k) ≤ t)) = none) : s.pairWindowEnd k t = s := by
  rw [State.pairWindowEnd, h]

theorem State.pairWindowEnd_due (s : State) (k t : Nat) (x : RdPub)
    (h : ((s.rdPair k).opn.find? fun u => decide (u.at_ + 1000 * s.tab.pdCycle (s.pairPub k) ≤ t)) = some x) (hk : k ∈ s.pairs) :
    s.pairWindowEnd k t = (s.pairJudge k x rcNotCompared t).rdSample t := by
  rw [State.pairWindowEnd, h]
  exact if_pos (List.contains_iff_mem.mpr hk)

end Sys2Proof.Machine

open Sys2Proof Sys2Proof.Machine

/-- Settles O53. -/
theorem leaseChangesHands : Obligations.LeaseChangesHands := by
  intro s k suc t hl hsleep n clamp
  have hrd_ : n.rd_ = s.rd_ := s.now_rdState t
  have hen : n.rdEn = s.rdEn := s.rdEn_now t
  have hrole : n.role = s.role := s.role_now t
  have hsteep : n.steep = s.steep := s.steep_now t
  have hguard : n.rdGuard = s.rdGuard := s.rdGuard_now t
  have hmay : n.mayClaim t = s.mayClaim t := s.mayClaim_now t t
  have hpair : n.rdPair k = s.rdPair k := s.rdPair_now t k
  refine ⟨fun h => ?holder, fun h => ?other, fun h hidle hclaim => ?claim, fun h hclaim => ?take, s.leaves_run _ t _ _ hl rfl ?bar,
    fun h => s.leaves_run _ t _ _ hl rfl ?unbar, fun h hb => s.leaves_run _ t _ _ hl rfl (if_pos ?stays), ?window⟩
  case holder =>
    have hholder : n.role = rrHolder := hrole.trans h
    have hidle : ¬ (n.rdEn && (n.role == rrListening || n.role == rrFollower) && decide (n.rd_.base + n.steep + n.rdGuard ≤ t) &&
        n.mayClaim t) = true := by
      rw [hholder]
      simp [rrHolder, rrListening, rrFollower]
    refine ⟨fun hle => s.leaves_runAwake _ t _ _ hl hsleep rfl (if_pos ⟨hholder, by rwa [hrd_, hsteep, hguard]⟩),
      fun hlt => s.leaves_runAwake _ t _ _ hl hsleep rfl (if_neg ?_), s.leaves_run _ t _ _ hl rfl (if_pos hholder),
      s.leaves_run _ t _ _ hl rfl (if_pos hholder), s.leaves_runAwake _ t _ _ hl hsleep rfl (if_neg hidle),
      s.leaves_runAwake _ t _ _ hl hsleep rfl (if_neg ?_)⟩
    · rw [hrd_, hsteep, hguard]
      exact fun hh => Nat.not_le.mpr hlt hh.2
    · exact fun hh => absurd (hholder.symm.trans hh.1) (by decide)
  case other =>
    have hne : ¬ n.role = rrHolder := by rwa [hrole]
    exact ⟨s.leaves_runAwake _ t _ _ hl hsleep rfl (if_neg fun hh => hne hh.1), s.leaves_run _ t _ _ hl rfl (if_neg hne),
      s.leaves_run _ t _ _ hl rfl (if_neg hne)⟩
  case claim =>
    refine ⟨fun hle => ⟨n.rdClaim t, s.leaves_runAwake _ t _ _ hl hsleep rfl (if_pos ?_), n.rdClaim_shows t⟩,
      fun hlt => s.leaves_runAwake _ t _ _ hl hsleep rfl (if_neg ?_)⟩
    · rw [hen, h, hrole, hrd_, hsteep, hguard, decide_eq_true hle, hmay, hclaim]
      rcases hidle with h | h <;> simp [h]
    · rw [hrd_, hsteep, hguard, decide_eq_false (Nat.not_le.mpr hlt)]
      simp
  case take =>
    have hclaiming : n.role = rrClaiming := hrole.trans h
    refine ⟨fun hle => ⟨n.rdTake t, s.leaves_runAwake _ t _ _ hl hsleep rfl (if_pos ⟨hclaiming, by rwa [hrd_, hsteep], hmay.trans hclaim⟩),
      n.rdTake_shows t⟩, fun hlt => s.leaves_runAwake _ t _ _ hl hsleep rfl (if_neg ?_)⟩
    rw [hrd_, hsteep]
    exact fun hh => Nat.not_le.mpr hlt hh.2.1
  case bar =>
    show n.rdBar = _
    rw [State.rdBar, hrd_]
  case unbar =>
    refine (if_neg ?_).trans (by rw [hrd_])
    rw [s.cmpFault_now t, s.barred_now t]
    rcases h with h | h <;> simp [h]
  case stays =>
    rw [s.cmpFault_now t, s.barred_now t, h, hb]
    rfl
  case window =>
    intro due
    exact ⟨fun h => s.leaves_runAwake _ t _ _ hl hsleep rfl (n.pairWindowEnd_none k t (by rwa [hpair])),
      fun x hx hk => s.leaves_runAwake _ t _ _ hl hsleep rfl (n.pairWindowEnd_due k t x (by rwa [hpair]) hk)⟩
end

end

section
section
/-! Proofs: the event recorder (spec/18_event_recorder.md). -/

namespace Sys2Proof.Machine

@[simp] theorem State.nextSeq_now (s : State) (t : Nat) : (s.now t).nextSeq = s.nextSeq := by simp [State.nextSeq]
@[simp] theorem State.firstSeq_now (s : State) (t : Nat) : (s.now t).firstSeq = s.firstSeq := by simp [State.firstSeq]
@[simp] theorem State.validRecs_now (s : State) (t : Nat) : (s.now t).validRecs = s.validRecs := by simp [State.validRecs]

/-! ### Writing (R450, R451) -/

theorem State.recordWrite_empty (s : State) (ok : Bool) (h : s.stagedRecs = []) : s.recordWrite ok = s := by
  rw [State.recordWrite, h]

/-- A record that its block has room for. -/
theorem State.program_room (s : State) (r : LogRec) (seq : Nat) (ok : Bool) (h : s.er.free + r.size ≤ erBlockBytes) :
    s.program r seq ok = s.setEr { s.er with
      log := s.er.log ++ [{ seq := seq, block := s.er.cur, ofs := s.er.free, valid := ok, entry := r }], free := s.er.free + r.size } := by
  have hroom : s.roomFor r.size = s := if_pos h
  rw [State.program, hroom]

theorem State.recordWrite_head (s : State) (ok : Bool) (r : LogRec) (rest : List LogRec) (h : s.stagedRecs = r :: rest)
    (hst : s.rd R.ER_STATE_STATE ≠ erRecovering) :
    s.recordWrite ok =
      if ok then ((s.program r s.nextSeq ok).setStaged rest).setNextSeq (s.nextSeq + 1)
      else (s.program r s.nextSeq ok).wr R.ER_FLAGS_TORN 1 := by
  rw [State.recordWrite, h]
  exact if_neg hst

/-! ### Reading (R456) -/

theorem State.erFetchDone_none (s : State) (p : Nat) (hst : s.rd R.ER_RD_STAT_STAT p = fsBusy) (h : s.erWanted p = none) :
    s.erFetchDone p = s.wr R.ER_RD_STAT_STAT fsNotFound p := by
  refine (if_neg (fun hne => hne hst)).trans ?_
  rw [h]

theorem State.erFetchDone_found (s : State) (p : Nat) (r : FlashRec) (hst : s.rd R.ER_RD_STAT_STAT p = fsBusy) (h : s.erWanted p = some r) :
    s.erFetchDone p = (((s.setEr { s.er with bufs := NMap.put s.er.bufs p (wordsFromBytes (r.entry.bytes r.seq)) }).wr
      R.ER_RD_SEQ_SEQ (r.seq % 2 ^ 32) p 0).wr R.ER_RD_SEQ_SEQ (r.seq / 2 ^ 32) p 1).wr R.ER_RD_STAT_STAT fsFound p := by
  refine (if_neg (fun hne => hne hst)).trans ?_
  rw [h]

/-! ### Authorised clearing (R457, R458) -/

/-- The challenge, and the SEQ below which blocks are being erased. -/
def State.clearing (s : State) : Option (List Byte × Nat) × Option Nat := (s.er.challenge, s.er.eraseBelow)

theorem State.clearing_onLanes (s : State) (g : Lane → Lane) : (s.onLanes g).clearing = s.clearing := by
  rw [State.clearing, State.onLanes_er]
  rfl

theorem State.clearing_raise (s : State) (k t : Nat) : (s.raise k t).clearing = s.clearing :=
  ite_same State.clearing rfl (s.clearing_onLanes _)

theorem State.clearing_setStaged (s : State) (rs : List LogRec) : (s.setStaged rs).clearing = s.clearing :=
  ite_same State.clearing (rfl : ({ s with er := { s.er with staging := rs } } : State).clearing = s.clearing) (s.clearing_onLanes _)

theorem State.clearing_stage (s : State) (r : LogRec) : (s.stage r).clearing = s.clearing :=
  ite_same State.clearing rfl (ite_same State.clearing (ite_same State.clearing (State.clearing_setStaged _ _) (s.clearing_setStaged _))
    (ite_same State.clearing (State.clearing_raise _ _ _) (State.clearing_raise _ _ _)))

theorem State.clearReq_opens (s : State) (t : Nat) :
    (s.clearReq t).er.challenge = some ((List.range 16).map (Config.nonceByte s.free), t + 10000000000) ∧
      (s.clearReq t).free = s.free + 1 :=
  ⟨rfl, foldl_same State.free _ (fun _ _ => rfl) (List.range 4) ({ s with free := s.free + 1 } : State)⟩

/-- The challenge of a GO closes, whatever its response. -/
theorem State.clearing_closed (s : State) (t : Nat) : (s.clearClose.raise 388 t).clearing = (none, s.er.eraseBelow) :=
  State.clearing_raise _ _ _

/-- A GO after the challenge's time records CLEAR_FAIL. -/
theorem State.clearGo_late (s : State) (port session t : Nat) (c : List Byte) (e : Nat) (hc : s.er.challenge = some (c, e)) (he : e ≤ t) :
    (s.clearGo port session t).clearing = (none, s.er.eraseBelow) ∧ (s.clearGo port session t).rd R.ER_FLAGS_CLR_FAIL = 1 := by
  let u := s.clearClose.raise 388 t
  have hgo : s.clearGo port session t =
      ((u.stage (u.ownRec rtClearFail (clearWho false port session) t)).bump R.ER_CLR_FAIL_WRAP_CNT_COUNT 0).wr R.ER_FLAGS_CLR_FAIL 1 := by
    unfold State.clearGo
    rw [hc]
    exact if_neg (by simp [Nat.not_lt.mpr he])
  rw [hgo]
  exact ⟨(State.clearing_stage _ _).trans (s.clearing_closed t),
    State.rd_wr_of_ne_zero _ R.ER_FLAGS_CLR_FAIL 1 0 0 (by decide) (by decide)⟩

/-- A GO with the right response in time, for all records, begins the erase. -/
theorem State.clearGo_good (s : State) (port session t : Nat) (c : List Byte) (e : Nat) (hc : s.er.challenge = some (c, e)) (he : t < e)
    (hresp : ((List.range 4).flatMap fun k => wordBytes (NMap.get s.er.response 0 k)) =
      (hmac s.er.clrKey (c ++ wordBytes (s.rf.word (R.ER_CLR_SCOPE_UPTO_LO.addr 0)) ++ wordBytes (s.rf.word (R.ER_CLR_SCOPE_UPTO_HI.addr 0)) ++
        leBytes (Config.serial % 2 ^ 32) 4)).take 16)
    (hall : (s.rf.word (R.ER_CLR_SCOPE_UPTO_HI.addr 0)).getLsbD 31 = true) :
    (s.clearGo port session t).clearing = (none, some s.nextSeq) ∧ (s.clearGo port session t).rd R.ER_STATE_ERASING = 1 := by
  let u := s.clearClose.raise 388 t
  let v := u.stageHead [u.ownRec rtCleared (leBytes s.nextSeq 8 ++ clearWho true port session) t]
  have hgo : s.clearGo port session t =
      ((v.setFirstSeq s.nextSeq).setEr { v.er with eraseBelow := some s.nextSeq }).wr R.ER_STATE_ERASING 1 := by
    unfold State.clearGo
    dsimp only
    rw [hc]
    dsimp only
    rw [if_pos (by rw [hresp, decide_eq_true he]; simp), hall, if_pos rfl]
  have hv : v.clearing = (none, s.er.eraseBelow) := (State.clearing_setStaged _ _).trans (s.clearing_closed t)
  rw [hgo]
  exact ⟨congrArg (fun x => (x, some s.nextSeq)) (congrArg Prod.fst hv),
    State.rd_wr_of_ne_zero _ R.ER_STATE_ERASING 1 0 0 (by decide) (by decide)⟩

theorem State.clearExpiry_open (s : State) (t : Nat) (c : List Byte) (e : Nat) (hc : s.er.challenge = some (c, e)) :
    s.clearExpiry t = if e ≤ t then s.clearClose else s := by
  rw [State.clearExpiry, hc]

/-! ### Recovery and erase (R451, R455) -/

/-- The recovery of an empty log. -/
theorem State.erRecover_empty (s : State) (t : Nat) (hst : s.rd R.ER_STATE_STATE = erRecovering) (hlog : s.er.log = []) :
    let v := (s.setFirstSeq 0).setNextSeq 0
    s.erRecover t = ((v.setEr { v.er with unwritten := 0 }).stageHead
      [s.ownRec rtPowerUp (leBytes Config.noSeq 8 ++ leBytes s.er.unwritten 4) t]).wr R.ER_STATE_STATE erReady := by
  intro v
  have hvalid : s.validRecs = [] := by rw [State.validRecs, hlog]; rfl
  refine (if_neg (fun hne => hne hst)).trans ?_
  rw [hvalid, hlog]
  rfl

theorem State.eraseEnd_idle (s : State) (h : s.er.eraseBelow = none) : s.eraseEnd = s := by
  rw [State.eraseEnd, h]

theorem State.eraseEnd_nothing (s : State) (b : Nat) (h : s.er.eraseBelow = some b) (hb : s.er.blocks = []) :
    s.eraseEnd = (s.setEr { s.er with eraseBelow := none }).wr R.ER_STATE_ERASING 0 := by
  rw [State.eraseEnd, h]
  dsimp only
  rw [hb, List.filter_nil, List.map_nil, List.foldl_nil, hb]

end Sys2Proof.Machine

open Sys2Proof Sys2Proof.Machine

/-- Settles O54. -/
theorem recorderWorks : Obligations.RecorderWorks := by
  intro s p ok session t hl hsleep n q
  have her : n.er = s.er := s.now_er t
  have hrd (f : Fld) (i j : Nat) : n.rd f i j = s.rd f i j := s.rd_now t f i j
  have hseq : n.nextSeq = s.nextSeq := s.nextSeq_now t
  have hmode : n.mode = s.mode := s.mode_now t
  have hrf : n.rf = s.rf := s.now_rf t
  refine ⟨fun h => s.leaves_runAwake _ t _ _ hl hsleep rfl (n.recordWrite_empty ok h), fun r rest h hst hroom => ?write, fun h => ?busy,
    fun h => ?idle, fun h => ⟨s.leaves_run _ t _ _ hl rfl (if_neg (by rwa [hmode])), s.leaves_run _ t _ _ hl rfl (if_neg (by rwa [hmode]))⟩,
    fun h => ?request, fun h => s.leaves_run _ t _ _ hl rfl ?closed, fun c e hc => ?opened, fun h => s.leaves_run _ t _ _ hl rfl ?ready,
    fun h hlog => s.leaves_run _ t _ _ hl rfl ?recovery, fun h => s.leaves_runAwake _ t _ _ hl hsleep rfl (n.eraseEnd_idle (by rwa [her])),
    fun b h hb => s.leaves_runAwake _ t _ _ hl hsleep rfl ?erase⟩
  case write =>
    intro x u
    have hwrite (ok' : Bool) := n.recordWrite_head ok' r rest h (by rwa [hrd])
    rw [hseq] at hwrite
    have hprog (ok' : Bool) := n.program_room r s.nextSeq ok' (by rwa [her])
    rw [her] at hprog
    refine ⟨fun hok => s.leaves_runAwake _ t _ _ hl hsleep rfl ((hwrite true).trans ?_),
      fun hok => s.leaves_runAwake _ t _ _ hl hsleep rfl ((hwrite false).trans ?_)⟩
    · subst hok
      rw [if_pos rfl, hprog true]
      rfl
    · subst hok
      rw [if_neg Bool.false_ne_true, hprog false]
      rfl
  case busy =>
    have hbusy : n.rd R.ER_RD_STAT_STAT q = fsBusy := (hrd _ _ _).trans h
    refine ⟨s.leaves_run _ t _ _ hl rfl ?_, ?_⟩
    · exact if_pos hbusy
    · intro want
      have hwanted : n.erWanted q = s.validRecs.find? fun r => decide (want ≤ r.seq ∧ r.seq < s.nextSeq) := by
        simp only [State.erWanted, n, State.rd_now, State.firstSeq_now, State.validRecs_now, State.nextSeq_now, want]
      refine ⟨fun hno => s.leaves_run _ t _ _ hl rfl (n.erFetchDone_none q hbusy (hwanted.trans ?_)), fun r rs hrs hlo hhi =>
        s.leaves_run _ t _ _ hl rfl ?_⟩
      · exact List.find?_eq_none.mpr fun r hr => by simpa using hno r hr
      · have hfound := n.erFetchDone_found q r hbusy (hwanted.trans (by rw [hrs, List.find?_cons_of_pos (by simpa using ⟨hlo, hhi⟩)]))
        rwa [her] at hfound
  case idle =>
    have hidle : n.rd R.ER_RD_STAT_STAT q ≠ fsBusy := by rwa [hrd]
    refine ⟨s.leaves_run _ t _ _ hl rfl ?_, s.leaves_run _ t _ _ hl rfl (if_pos hidle)⟩
    exact if_neg hidle
  case request =>
    have hreq := n.clearReq_opens t
    rw [show n.free = s.free from s.now_free t] at hreq
    exact ⟨n.clearReq t, s.leaves_run _ t _ _ hl rfl (if_pos (hmode.trans h)), hreq⟩
  case closed =>
    show n.clearExpiry t = n
    rw [State.clearExpiry, her, h]
  case opened =>
    have hopen := n.clearExpiry_open t c e (by rwa [her])
    refine ⟨fun hle => ⟨s.leaves_run _ t _ _ hl rfl (hopen.trans (if_pos hle)), fun hm => ?_⟩,
      fun hlt => ⟨s.leaves_run _ t _ _ hl rfl (hopen.trans (if_neg (Nat.not_le.mpr hlt))), ?_⟩⟩
    · obtain ⟨hclear, hfail⟩ := n.clearGo_late q session t c e (by rwa [her]) hle
      exact ⟨n.clearGo q session t, s.leaves_run _ t _ _ hl rfl (if_pos (hmode.trans hm)), congrArg Prod.fst hclear,
        (congrArg Prod.snd hclear).trans (by rw [her]), hfail⟩
    · intro lo hi hresp hm hall
      obtain ⟨hclear, herasing⟩ := n.clearGo_good q session t c e (by rwa [her]) hlt (by rwa [her, hrf]) (by rwa [hrf])
      exact ⟨n.clearGo q session t, s.leaves_run _ t _ _ hl rfl (if_pos (hmode.trans hm)), congrArg Prod.fst hclear,
        (congrArg Prod.snd hclear).trans (by rw [hseq]), herasing⟩
  case ready => exact if_pos (by rwa [hrd])
  case recovery =>
    have hrec := n.erRecover_empty t ((hrd _ _ _).trans h) (by rwa [her])
    rwa [her] at hrec
  case erase =>
    have herase := n.eraseEnd_nothing b (by rwa [her]) (by rwa [her])
    rwa [her] at herase
end

end

section
section
/-! Proofs: supply loss, hold-up and the return of the supply (spec/19_power_and_ageing.md). -/

namespace Sys2Proof.Machine

/-! ### Staging (R453, R455) -/

/-- What the records in staging are read from. -/
def State.staged (s : State) : List Nat × List LogRec × List LogRec × List LogRec × List LogRec :=
  (s.servingLanes, s.er.staging, s.la.staging, s.lb.staging, s.lc.staging)

theorem State.stagedRecs_congr {s u : State} (h : u.staged = s.staged) : u.stagedRecs = s.stagedRecs := by
  simp only [State.staged, Prod.mk.injEq] at h
  obtain ⟨hserve, her, ha, hb, hc⟩ := h
  have hlane (x : Nat) : (u.lane x).staging = (s.lane x).staging := by
    unfold State.lane
    split
    · exact ha
    · split
      · exact hb
      · exact hc
  unfold State.stagedRecs State.front State.frontNo
  rw [hserve, her, hlane]

/-- A register outside the voter's state is none of it. -/
theorem State.staged_wr (s : State) (f : Fld) (v i j : Nat) (h : 0x80000 < f.base) : (s.wr f v i j).staged = s.staged := by
  have hrd (g : Fld) (hg : g.addr = 0x80000) : (s.wr f v i j).rd g = s.rd g :=
    State.rd_of_regAt g 0 0 (State.regAt_wr _ _ _ _ _ _ (by have := f.addr_ge i j; omega))
  have hserve : (s.wr f v i j).servingLanes = s.servingLanes := by
    simp only [State.servingLanes, State.serves, State.isSafe, State.vstate, State.votes, hrd R.VT_STATE_STATE rfl,
      hrd R.VT_STATE_VOTING rfl, State.wr_vt]
    rfl
  rw [State.staged, hserve]
  rfl

theorem State.servingLanes_onLanes (s : State) (g : Lane → Lane) : (s.onLanes g).servingLanes = s.servingLanes := by
  simp [State.servingLanes, State.serves, State.isSafe, State.vstate, State.votes]

/-- What is put into staging is read back. -/
theorem State.stagedRecs_setStaged (s : State) (st : List LogRec) : (s.setStaged st).stagedRecs = st := by
  refine (State.stagedRecs_congr (State.staged_wr _ _ _ _ _ (by decide))).trans ?_
  by_cases h : s.servingLanes.isEmpty = true
  · rw [if_pos h]
    exact if_pos h
  · rw [if_neg h]
    have hfront : (s.onLanes fun l => { l with staging := st }).front = (s.onLanes fun l => { l with staging := st }).lane s.frontNo := by
      rw [State.front, State.frontNo, State.servingLanes_onLanes, ← State.frontNo]
    have hmem : s.frontNo ∈ s.servingLanes := by
      unfold State.frontNo
      cases hl : s.servingLanes with
      | nil => rw [hl] at h; exact absurd rfl h
      | cons x xs => exact List.mem_cons_self
    refine (if_neg (by rwa [State.servingLanes_onLanes])).trans ?_
    obtain ⟨w, hw⟩ := State.onLanes_lane Lane.staging s (fun l => { l with staging := st }) (fun _ _ _ _ => rfl) (fun _ _ => rfl) _ hmem
    rw [hfront, hw]

/-! ### A boot after a loss of power (R459, R465) -/

/-- What a module that boots after a loss of power has kept and lost. -/
def State.atBoot (s : State) : (Bool × Bool) × (List Session × List Cred) × (Option (List Host.Cell) × Option (List Host.Cell) ×
    Option (List Host.Cell)) × List FlashRec × NMap UpSlot :=
  ((s.pw.off, s.pw.frozen), (s.hp.sessions, s.hp.creds), (s.memApart 0, s.memApart 1, s.memApart 2), s.er.log, s.up.slots)

theorem State.atBoot_onLanes (s : State) (g : Lane → Lane) (hg : ∀ l, (g l).mem = l.mem) : (s.onLanes g).atBoot = s.atBoot := by
  unfold State.atBoot
  rw [State.onLanes_pw, State.onLanes_hp, State.onLanes_er, State.onLanes_up, State.memApart_onLanes _ _ (by decide) g hg,
    State.memApart_onLanes _ _ (by decide) g hg, State.memApart_onLanes _ _ (by decide) g hg]

theorem Lane.cmpIdle_mem (l : Lane) (n : Nat) : (l.cmpIdle n).mem = l.mem :=
  foldl_same Lane.mem (fun (l : Lane) k => l.wr R.LG_CMP_REC_WORDk 0 n k) (fun _ _ => rfl) (List.range 4) l

theorem State.atBoot_lgClear (s : State) (t : Nat) : (s.lgClear t).atBoot = s.atBoot :=
  State.atBoot_onLanes _ _ fun l => foldl_same Lane.mem Lane.cmpIdle (fun l n => l.cmpIdle_mem n) _ l

theorem State.atBoot_setUp (s : State) (u : UpState) (h : u.slots = s.up.slots) : (s.setUp u).atBoot = s.atBoot := by
  unfold State.atBoot
  rw [show (s.setUp u).up.slots = s.up.slots from h]
  rfl

theorem State.atBoot_upBootStart (s : State) (por warm : Bool) : (s.upBootStart por warm).atBoot = s.atBoot := by
  let ks := if por then [0, 1, 2] else [0, 1]
  let s1 := ks.foldl (fun s k => [0, 1].foldl (fun s n => (s.wr R.UP_SLOT_LAST_FAIL 0 k n).wr R.UP_SLOT_BOOTED 0 k n) s) s
  have hfold {α : Type} (p : State → α) (hp : ∀ s f v i j, p (State.wr s f v i j) = p s) : p s1 = p s :=
    foldl_same p _ (fun u k => foldl_same p _ (fun _ _ => (hp _ _ _ _ _).trans (hp _ _ _ _ _)) [0, 1] u) ks s
  have h1 : s1.atBoot = s.atBoot := hfold State.atBoot fun _ _ _ _ _ => rfl
  have hmarks (v : State) : ((((((v.wr R.UP_STATE_LOCK 1).wr R.UP_STATE_STATE usBooting).wr R.UP_STATE_MAINT_CAUSE 0).wr
      R.UP_STATE_NEXT_MAINT 0).wr R.UP_BOOT_ID_ID 0 0).wr R.UP_BOOT_ID_ID 0 1).atBoot = v.atBoot := rfl
  exact (hmarks (State.setUp s1 _)).trans ((State.atBoot_setUp s1 _ (by cases por <;> rfl)).trans h1)

/-- The selection of SYSTEM writes registers, and what it selected. -/
theorem State.atBoot_selectSystem (s : State) (ok : BitVec 2) :
    (s.selectSystem ok).atBoot = s.atBoot ∧ (s.selectSystem ok).slotCode = s.slotCode := by
  let p : State → _ := fun u => (u.atBoot, u.slotCode)
  have hup (u : State) (x : UpState) (hx : x.slots = u.up.slots) : p (u.setUp x) = p u :=
    congrArg (fun y => (y, u.slotCode)) (u.atBoot_setUp x hx)
  suffices h : p (s.selectSystem ok) = p s from Prod.ext_iff.mp h
  unfold State.selectSystem
  extract_lets r first kept s1
  have hr : p r.1 = p s := by
    refine foldl_same (fun r : State × Option Nat => p r.1) _ (fun r n => ?_) _ _
    cases hn : r.2 <;> rfl
  have h1 : p s1 = p s := (hup r.1 _ rfl).trans hr
  clear_value s1 first kept r
  cases r.2 with
  | none => exact h1
  | some n => exact (hup s1 _ rfl).trans h1

theorem State.lgStop_keeps {α : Type} (p : State → α) (h : ∀ s g, p { s with lg := g } = p s) (s : State) : p s.lgStop = p s :=
  ite_same p rfl (h _ _)

/-- A POR leaves no session and no lane memory, and keeps the credentials, the log and the slots (R8, R507). -/
theorem State.atBoot_por (s : State) (t : Nat) :
    (s.por t).atBoot = ((false, false), ([], s.hp.creds), (some [], some [], some []), s.er.log, s.up.slots) := by
  have hlamp (u : State) : (u.lampStart t).atBoot = u.atBoot := rfl
  have hwr (u : State) (f : Fld) (v : Nat) : (u.wr f v).atBoot = u.atBoot := rfl
  have hrst (u : State) (bs : List Block) : (bs.foldl (fun s b => s.resetting b t) u).up = u.up :=
    foldl_same State.up (fun s b => s.resetting b t) (fun _ _ => rfl) bs u
  unfold State.por
  generalize moduleBlocks = bs
  extract_lets lane vt kept er keptPw pw regs s1
  have hup : (regs.allResetting t).up = s.up := by
    unfold State.allResetting
    rw [hrst]
    exact (foldl_same State.up (fun (s : State) b => s.resetRegs b (if b = .lg ∧ kept = true then .cold else .por)) (fun _ _ => rfl) bs
      s.lgStop).trans (s.lgStop_keeps State.up fun _ _ => rfl)
  clear_value regs
  rw [hlamp, State.atBoot_upBootStart, State.atBoot_lgClear, hwr, ← hup]
  rfl

/-- The start of the boot changes the slot code alone of them (R503). -/
theorem State.atBoot_powerStart (s : State) (slot : Nat) (key : Bool) (ok : BitVec 2) (t : Nat) :
    (s.powerStart slot key ok t).atBoot = s.atBoot ∧ (s.powerStart slot key ok t).slotCode = slot := by
  let s1 : State := { s with slotCode := slot }
  let s2 := ((s1.wr R.HP_B_ADDR_ADDR (0x0A420010 + slot)).wr R.BR_STAT_SLOT slot).wr R.PW_STATE_SUPPLY_OK 1
  let s3 := if key then (s2.setKey { s2.key with pressedAt := some t, sincePower := true }).wr R.SYS_KEY_STAT_PRESSED 1
    else s2.setKey { s2.key with pressedAt := none, sincePower := false }
  obtain ⟨hboot, hslot⟩ := s3.atBoot_selectSystem ok
  exact ⟨hboot.trans (ite_same State.atBoot rfl rfl), hslot.trans (ite_same State.slotCode rfl rfl)⟩

/-! ### The recorder at a loss of power (R455, R464) -/

theorem State.program_pw (s : State) (r : LogRec) (seq : Nat) (ok : Bool) : (s.program r seq ok).pw = s.pw := by
  have hfetch (u : State) (b : Nat) : (u.fetchFirst b).pw = u.pw := by
    refine foldl_same State.pw _ (fun v p => ite_same State.pw (ite_same State.pw rfl ?_) rfl) [0, 1] u
    cases v.erWanted p <;> rfl
  have hfollow (u : State) : u.firstFollows.pw = u.pw := by
    unfold State.firstFollows
    split
    · rfl
    · exact ite_same State.pw rfl rfl
  have hopen (u : State) : u.openBlock.pw = u.pw := by
    refine ite_same State.pw rfl ?_
    split
    · rfl
    · rw [hfollow]
      exact hfetch _ _
  show (s.roomFor r.size).pw = s.pw
  exact ite_same State.pw rfl ((hopen _).trans (ite_same State.pw rfl rfl))

theorem State.setStaged_pw (s : State) (st : List LogRec) : (s.setStaged st).pw = s.pw :=
  ite_same State.pw rfl (State.onLanes_pw _ _)

/-- A loss of power empties staging and counts what it held. -/
theorem State.erPowerOff_shows (s : State) (torn : Bool) :
    (s.erPowerOff torn).pw = s.pw ∧ (s.erPowerOff torn).stagedRecs = [] ∧ (s.erPowerOff torn).er.unwritten = s.stagedRecs.length := by
  unfold State.erPowerOff
  extract_lets n s1 kept
  have h1 : s1.pw = s.pw := by
    simp only [s1]
    split
    · exact ite_same State.pw (s.program_pw _ _ _) rfl
    · rfl
  clear_value s1
  exact ⟨(s1.setStaged_pw []).trans h1, (State.stagedRecs_congr rfl).trans (s1.stagedRecs_setStaged []), rfl⟩

theorem State.latestSave_congr {s u : State} (h : u.pw = s.pw) : u.latestSave = s.latestSave := by
  unfold State.latestSave
  rw [h]

/-- The count of the lost records goes to the save where one stands and has ended. -/
theorem State.recorderOff_shows (s : State) (torn : Bool) :
    let u := s.recorderOff torn
    u.stagedRecs = [] ∧ u.pwState = (s.erPowerOff torn).pwState ∧
      (∀ k r, s.latestSave = some (k, r) →
        let d := { r.data with unwritten := s.stagedRecs.length }
        (r.ended = true → u.er.unwritten = s.stagedRecs.length ∧ u.pw.saves = NMap.put s.pw.saves k { r with crc := d.crc, data := d }) ∧
          (r.ended = false → u.er.unwritten = 0)) ∧
      (s.latestSave = none → u.er.unwritten = 0) := by
  obtain ⟨hpw, hstaged, hcount⟩ := s.erPowerOff_shows torn
  have hlatest : (s.erPowerOff torn).latestSave = s.latestSave := State.latestSave_congr hpw
  have hsaves : (s.erPowerOff torn).pw.saves = s.pw.saves := congrArg PwState.saves hpw
  intro u
  have hu : u = s.recorderOff torn := rfl
  rw [hu]
  unfold State.recorderOff
  dsimp only
  rw [hlatest]
  cases hsave : s.latestSave with
  | none => exact ⟨(State.stagedRecs_congr rfl).trans hstaged, rfl, by simp, fun _ => rfl⟩
  | some c =>
    obtain ⟨k, r⟩ := c
    dsimp only
    by_cases hended : r.ended = true
    · simp only [if_pos hended]
      refine ⟨(State.stagedRecs_congr rfl).trans hstaged, rfl, fun k' r' h => ?_, by simp⟩
      obtain ⟨rfl, rfl⟩ := Prod.mk.inj (Option.some.inj h)
      exact ⟨fun _ => ⟨hcount, by rw [← hsaves]; rfl⟩, fun h => absurd (hended.symm.trans h) (by decide)⟩
    · simp only [if_neg hended]
      refine ⟨(State.stagedRecs_congr rfl).trans hstaged, rfl, fun k' r' h => ?_, by simp⟩
      obtain ⟨rfl, rfl⟩ := Prod.mk.inj (Option.some.inj h)
      exact ⟨fun h => absurd h hended, fun _ => rfl⟩

/-- Without a record being programmed, the log, the credentials and the slots stay. -/
theorem State.recorderOff_keeps (s : State) :
    (s.recorderOff false).er.log = s.er.log ∧ (s.recorderOff false).hp.creds = s.hp.creds ∧ (s.recorderOff false).up.slots = s.up.slots := by
  let p : State → _ := fun u => (u.er.log, u.hp.creds, u.up.slots)
  have hlanes (u : State) (g : Lane → Lane) : p (u.onLanes g) = p u := by
    simp only [p, State.onLanes_er, State.onLanes_hp, State.onLanes_up]
  have hstaged (u : State) (st : List LogRec) : p (u.setStaged st) = p u :=
    ite_same p (rfl : p { u with er := { u.er with staging := st } } = p u) (hlanes u _)
  have hoff : p (s.erPowerOff false) = p s := by
    unfold State.erPowerOff
    cases s.stagedRecs <;> exact hstaged s []
  have hall : p (s.recorderOff false) = p s := by
    refine Eq.trans ?_ hoff
    unfold State.recorderOff
    dsimp only
    generalize s.erPowerOff false = u
    cases u.latestSave with
    | none => rfl
    | some c => exact ite_same p rfl rfl
  simpa only [p, Prod.mk.injEq] using hall

/-! ### HOLDUP (R462, R463) -/

/-- HOLDUP stops the lanes and stages SUPPLY_LOSS first. -/
theorem State.holdup_shows (s : State) (t : Nat) :
    (s.holdup t).pw.frozen = true ∧ ∃ r, (s.holdup t).stagedRecs.head? = some r ∧ r.type = rtSupplyLoss := by
  refine ⟨rfl, ?_⟩
  unfold State.holdup
  extract_lets s1 s2 s3 kept s4 kept4
  have h3 : ∃ r rs, s3.stagedRecs = r :: rs ∧ r.type = rtSupplyLoss :=
    ⟨_, _, (State.stagedRecs_congr (State.staged_wr _ _ _ _ _ (by decide))).trans (State.stagedRecs_setStaged _ _), rfl⟩
  have h4 : s4.staged = s3.staged := ite_same State.staged (State.staged_wr s3 R.UP_STATE_STORE 2 0 0 (by decide)) rfl
  obtain ⟨r, rs, hrs, htype⟩ := h3
  refine ⟨r, ?_, htype⟩
  exact congrArg List.head? ((State.stagedRecs_congr rfl).trans ((State.stagedRecs_congr h4).trans hrs))

/-- A loss of the supply opens the ride-through window; without one HOLDUP is entered at once. -/
theorem State.supplyLost_now (s : State) (t : Nat) (hok : s.rd R.PW_STATE_SUPPLY_OK = 1) (hrun : s.pwState = psRun)
    (hwf : Cells.wf s.rf.eff = true) :
    let lost := (s.wr R.PW_STATE_SUPPLY_OK 0).setPw { s.pw with lostAt := some t, back := none }
    s.supplyLost t = if s.rd R.PW_STATE_RIDE = 0 then lost.holdup t else lost := by
  intro lost
  have hst : lost.pwState = psRun :=
    (s.rd_wr_disjoint R.PW_STATE_STATE R.PW_STATE_SUPPLY_OK 0 0 0 0 0 hwf rfl (by decide) (by decide) (by decide)).trans hrun
  have hride : lost.rd R.PW_STATE_RIDE = s.rd R.PW_STATE_RIDE :=
    s.rd_wr_disjoint R.PW_STATE_RIDE R.PW_STATE_SUPPLY_OK 0 0 0 0 0 hwf rfl (by decide) (by decide) (by decide)
  refine (if_neg (by rw [hok]; decide)).trans ((if_neg (by rw [hst]; decide)).trans ?_)
  exact ite_eq_of_iff (by rw [hride]) rfl rfl

/-! ### The end of the save and of the bank (R463 to R465) -/

/-- A command of the host side on a module that has power, whatever its lanes do. -/
theorem State.leaves_kept (s : State) (c : Instr) (t : Nat) (f : State → State) (u : State) (hoff : s.pw.off = false)
    (hc : exec c s = .next (s.runHost t f)) (hu : f (s.now t) = u) : s.leaves c t (State.keepLanes s u) := by
  refine hc.trans (congrArg Host.Outcome.next ((if_neg (by rw [hoff]; exact Bool.false_ne_true)).trans ?_))
  rw [hu]
  rfl

theorem State.retainedEnd_idle (s : State) (t : Nat) (hsave : s.pw.saving = none) (hback : s.pw.back = none) : s.retainedEnd t = s := by
  have hend : s.saveEnd = s := by rw [State.saveEnd, hsave]
  rw [State.retainedEnd, hend, hback]

theorem State.retainedEnd_ends (s : State) (t k : Nat) (r : SaveRegion) (hsave : s.pw.saving = some k)
    (hr : NMap.look s.pw.saves k = some r) (hback : s.pw.back = none) :
    s.retainedEnd t = s.setPw { s.pw with saves := NMap.put s.pw.saves k { r with crc := r.data.crc, ended := true }, saving := none } := by
  have hend : s.saveEnd =
      s.setPw { s.pw with saves := NMap.put s.pw.saves k { r with crc := r.data.crc, ended := true }, saving := none } := by
    rw [State.saveEnd, hsave]
    dsimp only
    rw [hr]
  have hpw : s.saveEnd.pw.back = none := by
    rw [hend]
    exact hback
  rw [State.retainedEnd, hpw, hend]

theorem State.keepLanes_keeps {α : Type} (p : State → α) (h : ∀ u la lb lc, p { u with la := la, lb := lb, lc := lc } = p u)
    (s u : State) : p (State.keepLanes s u) = p u := ite_same p (h _ _ _ _) rfl

theorem State.keepLanes_stagedRecs (s u : State) : (State.keepLanes s u).stagedRecs = u.stagedRecs :=
  State.stagedRecs_congr (ite_same State.staged rfl rfl)

end Sys2Proof.Machine

open Sys2Proof Sys2Proof.Machine

/-- Settles O55. -/
theorem supplyComesAndGoes : Obligations.SupplyComesAndGoes := by
  intro s slot key torn ok t n lost
  have hpw : n.pw = s.pw := s.now_pw t
  have hst : n.pwState = s.pwState := s.pwState_now t
  have hrd (f : Fld) : n.rd f = s.rd f := s.rd_now t f 0 0
  have her : n.er = s.er := s.now_er t
  have hpresent (u : State) (hu : n.supplyPresent slot key ok t = u) : s.leaves (.supplyPresent slot key ok t) t u := by
    subst hu
    rfl
  refine ⟨fun h => ?boot, fun hl => ⟨fun l hlost hne => ?back, fun hlost hrun => hpresent _ ?none, fun h => s.leaves_runHost _ t _ _ hl rfl (if_pos ((hrd _).trans h)),
    fun hok hrun hride hwf => s.leaves_runHost _ t _ _ hl rfl ?ride, fun hok hrun hride hwf => s.leaves_runHost _ t _ _ hl rfl ?held,
    fun hlost => s.leaves_runHost _ t _ _ hl rfl ?noLoss, fun l hlost hne => ?window⟩, fun hoff => ⟨fun hsave hback => s.leaves_kept _ t _ _ hoff rfl ?idle,
    fun k r hsave hr hback => s.leaves_kept _ t _ _ hoff rfl ?ends, fun hheld k hsave => hpresent _ ?returns,
    fun hne => s.leaves_kept _ t _ _ hoff rfl (if_neg fun h => hne (hst.symm.trans h.1)), fun hheld hok => ?bank⟩⟩
  case boot =>
    have hboots (w : State) (hlog : w.er.log = s.er.log) (hcreds : w.hp.creds = s.hp.creds) (hslots : w.up.slots = s.up.slots)
        (hw : n.supplyPresent slot key ok t = (w.por t).powerStart slot key ok t) :
        s.leavesSome (.supplyPresent slot key ok t) t fun u =>
          u.pw.off = false ∧ u.pw.frozen = false ∧ u.slotCode = slot ∧ u.hp.sessions = [] ∧ u.hp.creds = s.hp.creds ∧
            u.la.mem = [] ∧ u.lb.mem = [] ∧ u.lc.mem = [] ∧ u.er.log = s.er.log ∧ u.up.slots = s.up.slots := by
      obtain ⟨hkept, hslot⟩ := (w.por t).atBoot_powerStart slot key ok t
      have hboot := hkept.trans (w.atBoot_por t)
      rw [hlog, hcreds, hslots] at hboot
      simp only [State.atBoot, Prod.mk.injEq] at hboot
      obtain ⟨⟨hpoff, hfrozen⟩, ⟨hsess, hcr⟩, ⟨ha, hb, hc⟩, hl, hs⟩ := hboot
      have hmem (x : Nat) (h : State.memApart x ((w.por t).powerStart slot key ok t) = some []) :
          (((w.por t).powerStart slot key ok t).lane x).mem = [] := by
        unfold State.memApart at h
        split at h
        · exact Option.some.inj h
        · cases h
      exact ⟨_, hpresent _ hw, hpoff, hfrozen, hslot, hsess, hcr, hmem 0 ha, hmem 1 hb, hmem 2 hc, hl, hs⟩
    rcases Bool.eq_false_or_eq_true n.pw.off with hoff | hoff
    · exact hboots n (congrArg ErState.log her) (congrArg HostState.creds (s.now_hp t)) (congrArg UpState.slots (s.now_up t)) (if_pos hoff)
    · obtain ⟨hheld, hsave⟩ := h.resolve_left (by rw [← hpw, hoff]; exact Bool.false_ne_true)
      obtain ⟨hlog, hcreds, hslots⟩ := n.recorderOff_keeps
      refine hboots (n.recorderOff false) (hlog.trans (congrArg ErState.log her)) (hcreds.trans (congrArg HostState.creds (s.now_hp t)))
        (hslots.trans (congrArg UpState.slots (s.now_up t))) ?_
      exact (if_neg (by rw [hoff]; exact Bool.false_ne_true)).trans ((if_pos (hst.trans hheld)).trans
        (if_pos (by rw [hpw, hsave]; rfl)))
  case back =>
    have hback : n.supplyPresent slot key ok t =
        if t < l + 100000 * n.rd R.PW_STATE_RIDE then n.rideThrough l t
        else (n.holdup (l + 100000 * n.rd R.PW_STATE_RIDE)).supplyBack slot key ok := by
      refine (if_neg (by rw [hpw, (s.pw_of_live hl).1]; exact Bool.false_ne_true)).trans ((if_neg (by rwa [hst])).trans ?_)
      rw [hpw, hlost]
    rw [hrd] at hback
    intro e
    exact ⟨fun hlt => hpresent _ (hback.trans (if_pos hlt)), fun hle => hpresent _ (hback.trans (if_neg (Nat.not_lt.mpr hle)))⟩
  case none =>
    refine (if_neg (by rw [hpw, (s.pw_of_live hl).1]; exact Bool.false_ne_true)).trans ((if_neg (by rw [hst, hrun]; decide)).trans ?_)
    rw [hpw, hlost]
    exact if_neg (by simp [State.awaitsSystem, hst, hrun, psRun, psBoot])
  case ride =>
    have h := n.supplyLost_now t ((hrd _).trans hok) (hst.trans hrun) (by rw [s.now_rf t]; exact hwf)
    rw [hrd, hpw] at h
    exact h.trans (if_neg (Nat.pos_iff_ne_zero.mp hride))
  case held =>
    have h := n.supplyLost_now t ((hrd _).trans hok) (hst.trans hrun) (by rw [s.now_rf t]; exact hwf)
    rw [hrd, hpw] at h
    exact h.trans (if_pos hride)
  case noLoss =>
    show n.holdupEntry t = n
    rw [State.holdupEntry, hpw, hlost]
  case window =>
    have hentry : n.holdupEntry t = if n.pwState ≠ psHoldup ∧ l + 100000 * n.rd R.PW_STATE_RIDE ≤ t then n.holdup t else n := by
      rw [State.holdupEntry, hpw, hlost]
    rw [hst, hrd] at hentry
    exact ⟨fun hlt => s.leaves_runHost _ t _ _ hl rfl (hentry.trans (if_neg fun h => Nat.not_le.mpr hlt h.2)),
      fun hle => ⟨s.leaves_runHost _ t _ _ hl rfl (hentry.trans (if_pos ⟨hne, hle⟩)), n.holdup_shows t⟩⟩
  case idle => exact n.retainedEnd_idle t (by rwa [hpw]) (by rwa [hpw])
  case ends =>
    have h := n.retainedEnd_ends t k r (by rwa [hpw]) (by rwa [hpw]) (by rwa [hpw])
    rwa [hpw] at h
  case returns =>
    refine (if_neg (by rw [hpw, hoff]; exact Bool.false_ne_true)).trans ((if_pos (hst.trans hheld)).trans
      ((if_neg (by rw [hpw, hsave]; exact Bool.false_ne_true)).trans ?_))
    rw [State.supplyBack, hpw]
  case bank =>
    obtain ⟨hstaged, -, hsome, hnone⟩ := n.recorderOff_shows torn
    have hlatest : n.latestSave = s.latestSave := State.latestSave_congr hpw
    rw [hlatest, hpw] at hsome
    rw [hlatest] at hnone
    let v := ((n.recorderOff torn).brFloat).setPw { (n.recorderOff torn).pw with off := true, saving := none }
    have hend : n.bankEnd torn = v := if_pos ⟨hst.trans hheld, (hrd _).trans hok⟩
    have hpwv : (State.keepLanes s v).pw = v.pw := State.keepLanes_keeps State.pw (fun _ _ _ _ => rfl) s v
    have herv : (State.keepLanes s v).er = v.er := State.keepLanes_keeps State.er (fun _ _ _ _ => rfl) s v
    refine ⟨State.keepLanes s v, s.leaves_kept _ t _ _ hoff rfl hend, congrArg PwState.off hpwv, congrArg PwState.saving hpwv, ?_, ?_, ?_, ?_⟩
    · exact State.keepLanes_keeps (fun u => u.br.opn) (fun _ _ _ _ => rfl) s v
    · exact (State.keepLanes_stagedRecs s v).trans ((State.stagedRecs_congr rfl).trans hstaged)
    · rw [herv, hpwv]
      exact hsome
    · rw [herv]
      exact hnone
end

end

section
/-! Proofs: the ageing of the module (spec/19_power_and_ageing.md). -/

namespace Sys2Proof.Machine

/-! ### What a record leaves beside the recorder's own registers -/

/-- The registers outside the recorder's block, those of the blocks above it among them. -/
theorem State.regAt_record_apart (s : State) (b : Block) (type : Nat) (d : List Byte) (t a : Nat) (h : a < 0x170000 ∨ 0x180000 ≤ a) :
    (s.record b type d t).regAt a = s.regAt a := by
  let p : State → Word := fun u => u.regAt a
  have hwr (u : State) (f : Fld) (v : Nat) (hf : 0x170000 ≤ f.addr ∧ f.addr < 0x180000) : p (u.wr f v) = p u :=
    u.regAt_wr f v 0 0 a (by omega)
  have hset (u : State) (rs : List LogRec) : p (u.setStaged rs) = p u :=
    (hwr _ R.ER_STAGE_BYTES _ (by decide)).trans (ite_same p rfl (u.regAt_onLanes _ a))
  have hdrop (u : State) (e : ErState) (c f : Fld) (n t : Nat) (hc : 0x170000 ≤ c.addr ∧ c.addr < 0x180000)
      (hf : 0x170000 ≤ f.addr ∧ f.addr < 0x180000) : p (((({ u with er := e } : State).bump c).wr f 1).raise n t) = p u :=
    (State.regAt_raise _ n t a).trans ((hwr _ f 1 hf).trans (hwr _ c _ hc))
  exact ite_same p rfl (ite_same p (ite_same p (hset _ _) (hset s _))
    (ite_same p (hdrop s _ R.ER_DROP_CNT_PROG R.ER_FLAGS_DROP_PROG _ _ (by decide) (by decide))
      (hdrop s _ R.ER_DROP_CNT_HW R.ER_FLAGS_DROP_HW _ _ (by decide) (by decide))))

@[simp] theorem State.raise_pw (s : State) (n t : Nat) : (s.raise n t).pw = s.pw := ite_same State.pw rfl (s.onLanes_pw _)

theorem State.outsideRecorder_pw : State.OutsideRecorder State.pw where
  er _ _ := rfl
  staging s _ := s.onLanes_pw _
  raise s n t := s.raise_pw n t
  wr _ _ _ _ := rfl

@[simp] theorem State.record_pw (s : State) (b : Block) (type : Nat) (d : List Byte) (t : Nat) : (s.record b type d t).pw = s.pw :=
  State.outsideRecorder_pw.record s b type d t

/-! ### Margins and the re-plan -/

/-- A margin writes its own word and its alarm flag. -/
theorem State.setMargin_regAt (s : State) (k x t a : Nat) (h : a < 0x170000 ∨ (0x180000 ≤ a ∧ a < 0x180100 ∧ a ≠ 0x180068)) :
    (s.setMargin k x t).regAt a = s.regAt a := by
  have hwr (u : State) (f : Fld) (v : Nat) (hf : f.base = 0x180100) : (u.wr f v k).regAt a = u.regAt a :=
    u.regAt_wr f v k 0 a (by have := f.addr_ge k 0; omega)
  let p : State → Word := fun u => u.regAt a
  have hshown (u : State) (v m e : Nat) :
      p (((u.wr R.PW_MARGIN_VALUE v k).wr R.PW_MARGIN_MARGIN m k).wr R.PW_MARGIN_EXHAUSTED e k) = p u :=
    (hwr _ R.PW_MARGIN_EXHAUSTED _ rfl).trans ((hwr _ R.PW_MARGIN_MARGIN _ rfl).trans (hwr _ R.PW_MARGIN_VALUE _ rfl))
  refine ite_same p ?_ (ite_same p ?_ (hshown s _ _ _))
  · refine (State.regAt_record_apart _ _ _ _ _ a (by omega)).trans ((State.regAt_raise _ _ _ a).trans ?_)
    exact (State.regAt_wr _ R.PW_FLAGS_MARGIN_ALARM 1 0 0 a (show a ≠ 0x180068 by omega)).trans
      ((hwr _ R.PW_MARGIN_ALARM _ rfl).trans (hshown s _ _ _))
  · exact (State.regAt_raise _ _ _ a).trans ((hwr _ R.PW_MARGIN_ALARM _ rfl).trans (hshown s _ _ _))

@[simp] theorem State.setMargin_pw (s : State) (k x t : Nat) : (s.setMargin k x t).pw = s.pw :=
  ite_same State.pw ((State.record_pw _ _ _ _ _).trans (State.raise_pw _ _ _)) (ite_same State.pw (State.raise_pw _ _ _) rfl)

/-- The hold-up plan writes the hold-up times, RIDE, its flag and its margin. -/
theorem State.holdPlan_regAt (s : State) (t a : Nat) (h : 0x180050 ≤ a ∧ a < 0x180068) : (s.holdPlan t).regAt a = s.regAt a := by
  refine (State.setMargin_regAt _ _ _ _ a (by omega)).trans ((State.regAt_flagIf _ _ R.PW_FLAGS_S2_LOST 0 a (show a ≠ 0x180068 by omega)).trans ?_)
  refine (State.regAt_wr _ R.PW_STATE_RIDE _ 0 0 a (show a ≠ 0x180000 by omega)).trans ?_
  exact (State.regAt_wr _ R.PW_HOLDUP_T_HOLD_NOW _ 0 0 a (show a ≠ 0x18004c by omega)).trans
    (State.regAt_wr _ R.PW_HOLDUP_T_HOLD_FULL _ 0 0 a (show a ≠ 0x180048 by omega))

@[simp] theorem State.holdPlan_pw (s : State) (t : Nat) : (s.holdPlan t).pw = s.pw :=
  (State.setMargin_pw _ _ _ _).trans (ite_same State.pw rfl rfl)

theorem State.replan_pw (s : State) (t : Nat) :
    (s.replan t).pw = { s.pw with planRefs := (List.range 8).filter fun g => s.rd R.CH_GRP_STAT_POWERED g == 1,
                                  planScans := (s.pw.scans.filter fun p => decide (10 ≤ p.2)).map Prod.fst } := by
  unfold State.replan State.setPw
  dsimp only
  rw [State.holdPlan_pw]

/-! ### Core voltage -/

@[simp] theorem State.vcore_now (s : State) (t x : Nat) : (s.now t).vcore x = s.vcore x :=
  congrArg (fun p : PwState => NMap.get p.vcore {} x) (s.now_pw t)

/-- A slack sample below the limit counts; the tenth asks for a step where none was made before. -/
theorem State.slackSample_low (s : State) (x slack ring t : Nat) (hlow : slack < s.slackLo) :
    let v := s.vcore x
    let smp := (s.wr R.PW_VCORE_MIN_SLACK (satNat 10 slack) x).wr R.PW_VCORE_RING (satNat 32 ring) x
    (v.low < 9 → s.slackSample x slack ring t = smp.setVcore x { v with low := v.low + 1 }) ∧
    (9 ≤ v.low → v.stepAt = none → s.slackSample x slack ring t =
      if 20 ≤ s.rd R.PW_VCORE_STEPS x then (smp.setVcore x { v with low := v.low + 1 }).wr R.PW_FLAGS_TIMING_EXHAUSTED 1
      else smp.setVcore x { v with low := v.low + 1, wanted := true }) := by
  intro v smp
  have hcount : (if slack < s.slackLo then (s.vcore x).low + 1 else 0) = v.low + 1 := if_pos hlow
  refine ⟨fun hv => ?_, fun hv hstep => ?_⟩
  · unfold State.slackSample
    dsimp only
    rw [hcount]
    exact if_neg fun h => by omega
  · unfold State.slackSample
    dsimp only
    rw [hcount, show (s.vcore x).stepAt = none from hstep]
    exact if_pos ⟨by omega, rfl⟩

theorem State.foldl_pmbusErr_pw (s : State) (n : Nat) : ((List.range n).foldl (fun s _ => s.pmbusErr) s).pw = s.pw :=
  foldl_same State.pw (fun s _ => s.pmbusErr) (fun _ _ => rfl) _ s

theorem State.foldl_pmbusErr_regAt (s : State) (n a : Nat) (h : a ≠ 0x18007c ∧ a ≠ 0x180068) :
    ((List.range n).foldl (fun s _ => s.pmbusErr) s).regAt a = s.regAt a :=
  foldl_same (fun u : State => u.regAt a) (fun s _ => s.pmbusErr)
    (fun u _ => (State.regAt_wr _ R.PW_FLAGS_PMBUS_ERR 1 0 0 a h.2).trans (u.regAt_bump R.PW_PMBUS_ERR_CNT 0 0 1 a h.1)) _ s

/-- A step that is made counts and starts the re-plan. -/
theorem State.vcoreStep_made (s : State) (x : LaneId) (k : StepBus) (t : Nat) (hwanted : (s.vcore x).wanted = true)
    (hsteps : s.rd R.PW_VCORE_STEPS x < 20) (hk : k.vout < 2) :
    let v := s.vcore x
    let u := s.vcoreStep x k true false t
    u.rd R.PW_VCORE_STEPS x = s.rd R.PW_VCORE_STEPS x + 1 ∧
      u.pw.vcore = NMap.put (NMap.put s.pw.vcore x { v with wanted := false }) x { v with wanted := false, stepAt := some t } ∧
      u.pw.planRefs = ((List.range 8).filter fun g => s.rd R.CH_GRP_STAT_POWERED g == 1) ∧
      u.pw.planScans = (s.pw.scans.filter fun p => decide (10 ≤ p.2)).map Prod.fst := by
  intro v u
  let s1 := (List.range (min k.vout 2 + k.rest)).foldl (fun s _ => s.pmbusErr) (s.setVcore x { v with wanted := false })
  let n := s.rd R.PW_VCORE_STEPS x + 1
  let s2 := ((s1.wr R.PW_VCORE_STEPS n x).wr R.PW_VCORE_VOUT (s.rd R.PW_VCORE_VOUT x + 5) x).bump R.PW_STEP_CNT
  let s3 := s2.setVcore x { v with wanted := false, stepAt := some t }
  let s4 := s3.record .pw 0x0703 ([byte x, byte n] ++ leBytes (s.rd R.PW_VCORE_MIN_SLACK x) 2) t
  have hu : u = (s4.setMargin x (20 - n) t).replan t :=
    (if_neg (by simp [hwanted])).trans (if_neg (by simp; omega))
  have hpw1 : s1.pw = { s.pw with vcore := NMap.put s.pw.vcore x { v with wanted := false } } := State.foldl_pmbusErr_pw _ _
  have hpw5 : (s4.setMargin x (20 - n) t).pw = s3.pw := (State.setMargin_pw _ _ _ _).trans (State.record_pw _ _ _ _ _)
  have hreg (a : Nat) (ha : a < 0x170000 ∨ (0x180050 ≤ a ∧ a < 0x180068)) : (s4.setMargin x (20 - n) t).regAt a = s2.regAt a :=
    (State.setMargin_regAt _ _ _ _ a (by omega)).trans (State.regAt_record_apart _ _ _ _ _ a (by omega))
  have haddr : R.PW_VCORE_STEPS.addr x = 0x180050 + 8 * x.val := rfl
  have hx := x.isLt
  rw [hu]
  have hpw : ((s4.setMargin x (20 - n) t).replan t).pw = { s3.pw with
      planRefs := (List.range 8).filter fun g => (s4.setMargin x (20 - n) t).rd R.CH_GRP_STAT_POWERED g == 1,
      planScans := (s3.pw.scans.filter fun p => decide (10 ≤ p.2)).map Prod.fst } := by
    rw [State.replan_pw, hpw5]
  refine ⟨?_, ?_, ?_, ?_⟩
  · refine (State.rd_of_regAt (s := s2) R.PW_VCORE_STEPS x 0 ?_).trans ?_
    · exact (State.holdPlan_regAt _ t _ (by omega)).trans (hreg _ (by omega))
    · refine (State.rd_of_regAt R.PW_VCORE_STEPS x 0 (State.regAt_bump _ R.PW_STEP_CNT 0 0 1 _ (show _ ≠ 0x180074 by omega))).trans ?_
      have hn : n % 2 ^ R.PW_VCORE_STEPS.width = n := Nat.mod_eq_of_lt (show n < 32 by omega)
      have hwr : (s1.wr R.PW_VCORE_STEPS n x).rd R.PW_VCORE_STEPS x = n :=
        (s1.rd_wr_of_ne_zero R.PW_VCORE_STEPS n x 0 (by decide) (by rw [hn]; exact Nat.succ_ne_zero _)).trans hn
      exact (State.rd_wr_disjoint_of_ne_zero _ R.PW_VCORE_STEPS R.PW_VCORE_VOUT _ x 0 rfl (by decide) (by decide) (by decide)
        (by rw [hwr]; exact Nat.succ_ne_zero _)).trans hwr
  · rw [hpw]
    exact congrArg (fun p : PwState => NMap.put p.vcore x { v with wanted := false, stepAt := some t }) hpw1
  · rw [hpw]
    refine List.filter_congr fun g hg => ?_
    have hg := List.mem_range.mp hg
    have haddr : R.CH_GRP_STAT_POWERED.addr g < 0x170000 := by
      show R.CH_GRP_STAT_POWERED.base + R.CH_GRP_STAT_POWERED.s1 * g + _ < _
      simp only [R.CH_GRP_STAT_POWERED]
      omega
    have h2 : s2.regAt (R.CH_GRP_STAT_POWERED.addr g) = s.regAt (R.CH_GRP_STAT_POWERED.addr g) := by
      refine (State.regAt_bump _ R.PW_STEP_CNT 0 0 1 _ (show _ ≠ 0x180074 by omega)).trans ?_
      refine (State.regAt_wr _ R.PW_VCORE_VOUT _ x 0 _ (show _ ≠ 0x180050 + 8 * x.val + 0 by omega)).trans ?_
      refine (State.regAt_wr _ R.PW_VCORE_STEPS _ x 0 _ (show _ ≠ 0x180050 + 8 * x.val + 0 by omega)).trans ?_
      exact State.foldl_pmbusErr_regAt _ _ _ (by omega)
    rw [State.rd_of_regAt R.CH_GRP_STAT_POWERED g 0 ((hreg _ (.inl haddr)).trans h2)]
  · rw [hpw]
    exact congrArg (fun p : PwState => (p.scans.filter fun q => decide (10 ≤ q.2)).map Prod.fst) hpw1

/-! ### References and flash -/

@[simp] theorem State.owedRefs_now (s : State) (t : Nat) : (s.now t).owedRefs = s.owedRefs := by
  unfold State.owedRefs
  rw [s.now_pw t]
  exact List.filter_congr fun g _ => by rw [s.rd_now t]

end Sys2Proof.Machine

open Sys2Proof Sys2Proof.Machine

/-- Settles O57. -/
theorem ageingIsWatched : Obligations.AgeingIsWatched := by
  intro s x g slack ring block bits step fall t diff b0 bs hl hsleep n v smp
  have hpw : n.pw = s.pw := s.now_pw t
  have hrd (f : Fld) (i : Nat) : n.rd f i = s.rd f i := s.rd_now t f i 0
  have hv : n.vcore x = v := s.vcore_now t x
  refine ⟨s.leaves_run _ t _ _ hl rfl rfl, fun hlo => s.leaves_runAwake _ t _ _ hl hsleep rfl ?okay,
    fun hlo hfew => s.leaves_runAwake _ t _ _ hl hsleep rfl ?low, fun hlo hmany hnone => ⟨fun hst => s.leaves_runAwake _ t _ _ hl hsleep rfl ?wanted,
      fun hst => s.leaves_runAwake _ t _ _ hl hsleep rfl ?exhausted⟩,
    fun hw k a f => s.leaves_runAwake _ t _ _ hl hsleep rfl (if_pos (by rw [hv, hw]; rfl)),
    fun hw => ⟨fun k a f hk => s.leaves_runAwake _ t _ _ hl hsleep rfl ?fails,
      fun hst k hk => ⟨n.vcoreStep x k true false t, s.leaves_runAwake _ t _ _ hl hsleep rfl rfl, ?made⟩⟩,
    fun hoff => s.leaves_runAwake _ t _ _ hl hsleep rfl (if_pos ((hrd _ _).trans hoff)),
    fun hon => s.leaves_runAwake _ t _ _ hl hsleep rfl ?reference, ?flash,
    fun hready => s.leaves_run _ t _ _ hl rfl (if_pos ((hrd _ _).trans hready)),
    fun hready hfall => s.leaves_run _ t _ _ hl rfl ?measure, fun hpower => s.leaves_run _ t _ _ hl rfl ?refresh⟩
  case okay =>
    unfold State.slackSample
    dsimp only
    rw [if_neg (Nat.not_lt.mpr hlo), hv]
    exact if_neg fun h => absurd h.1 (by decide)
  case low =>
    have h := (n.slackSample_low x slack ring t hlo).1 (by rw [hv]; exact hfew)
    rwa [hv] at h
  case wanted =>
    have h := (n.slackSample_low x slack ring t hlo).2 (by rw [hv]; exact hmany) (by rw [hv]; exact hnone)
    rw [if_neg (by rw [hrd]; exact Nat.not_le.mpr hst), hv] at h
    exact h
  case exhausted =>
    have h := (n.slackSample_low x slack ring t hlo).2 (by rw [hv]; exact hmany) (by rw [hv]; exact hnone)
    rw [if_pos (by rw [hrd]; exact hst), hv] at h
    exact h
  case fails =>
    refine (if_neg (by rw [hv, hw]; decide)).trans ((if_pos hk).trans ?_)
    rw [hv]
  case made =>
    have h := n.vcoreStep_made x k t (by rw [hv]; exact hw) (by rw [hrd]; exact hst) hk
    simp only [hrd, hpw, hv] at h
    exact h
  case reference =>
    refine (if_neg (by rw [hrd]; exact hon)).trans ?_
    rw [hpw]
  case flash =>
    have hread : n.flashScan block bits false t = if 20 ≤ bits then (State.bump _ R.PW_REFRESH_CNT) else _ :=
      if_neg (by simp)
    rw [s.owedRefs_now t, hpw] at hread
    exact ⟨fun hfew => s.leaves_runAwake _ t _ _ hl hsleep rfl (hread.trans (if_neg (Nat.not_le.mpr hfew))),
      fun hmany => s.leaves_runAwake _ t _ _ hl hsleep rfl (hread.trans (if_pos hmany)),
      fun hlock => s.leaves_runAwake _ t _ _ hl hsleep rfl (if_pos (by simp [hlock]))⟩
  case measure =>
    refine (if_neg (by rw [hrd, hready]; decide)).trans ?_
    dsimp only
    rw [if_neg (Nat.pos_iff_ne_zero.mp hfall)]
  case refresh =>
    unfold State.holdNow
    dsimp only
    rw [hrd, hrd, hrd, if_neg (Nat.pos_iff_ne_zero.mp hpower)]

end

section
section
/-! Proofs: what the rest of the module leaves of the power unit (spec/19_power_and_ageing.md). -/

namespace Sys2Proof.Machine

/-- The power unit as the rest of the module finds it: its registers, and what it keeps but for the status sample it shows. -/
def State.powerUnit (s : State) : (Nat → Word) × PwState :=
  (fun k => s.regAt (0x180000 + k % 0x10000), { s.pw with shown := (0, 0), shownAt := 0 })

theorem State.powerUnit_ext {s u : State} (hreg : ∀ a, 0x180000 ≤ a → a < 0x190000 → u.regAt a = s.regAt a)
    (hpw : u.pw = s.pw) : u.powerUnit = s.powerUnit :=
  Prod.ext (funext fun k => hreg _ (by omega) (by omega)) (by unfold State.powerUnit; rw [hpw])

theorem State.powerUnit_reg {s u : State} (h : u.powerUnit = s.powerUnit) (a : Nat) (ha : 0x180000 ≤ a ∧ a < 0x190000) :
    u.regAt a = s.regAt a := by
  have hword : s.powerUnit.1 (a - 0x180000) = s.regAt a ∧ u.powerUnit.1 (a - 0x180000) = u.regAt a := by
    have haddr : 0x180000 + (a - 0x180000) % 0x10000 = a := by omega
    exact ⟨congrArg s.regAt haddr, congrArg u.regAt haddr⟩
  rw [← hword.1, ← hword.2, h]

theorem State.powerUnit_rd {s u : State} (h : u.powerUnit = s.powerUnit) (f : Fld) (hf : 0x180000 ≤ f.addr ∧ f.addr < 0x190000) :
    u.rd f = s.rd f := State.rd_of_regAt f 0 0 (State.powerUnit_reg h _ hf)

theorem State.powerUnit_pw {s u : State} (h : u.powerUnit = s.powerUnit) {α : Type} (p : PwState → α)
    (hp : ∀ x, p { x with shown := (0, 0), shownAt := 0 } = p x) : p u.pw = p s.pw :=
  (hp u.pw).symm.trans ((congrArg (fun q : (Nat → Word) × PwState => p q.2) h).trans (hp s.pw))

/-! ### One operation at a time -/

theorem State.powerUnit_wr (s : State) (f : Fld) (v i j : Nat) (h : f.addr i j < 0x180000 ∨ 0x190000 ≤ f.addr i j) :
    (s.wr f v i j).powerUnit = s.powerUnit :=
  State.powerUnit_ext (fun a hlo hhi => s.regAt_wr f v i j a (by omega)) rfl

theorem State.powerUnit_onLanes (s : State) (g : Lane → Lane) : (s.onLanes g).powerUnit = s.powerUnit :=
  State.powerUnit_ext (fun a _ _ => s.regAt_onLanes g a) (s.onLanes_pw g)

theorem State.powerUnit_raise (s : State) (n t : Nat) : (s.raise n t).powerUnit = s.powerUnit :=
  ite_same State.powerUnit rfl (s.powerUnit_onLanes _)

theorem State.powerUnit_record (s : State) (b : Block) (type : Nat) (d : List Byte) (t : Nat) :
    (s.record b type d t).powerUnit = s.powerUnit :=
  State.powerUnit_ext (fun a hlo _ => s.regAt_record_apart b type d t a (.inr hlo)) (s.record_pw b type d t)

theorem State.powerUnit_pwDeliver (s : State) (t : Nat) : (s.pwDeliver t).powerUnit = s.powerUnit := by
  unfold State.pwDeliver
  extract_lets ws kept s1
  have h1 : s1.powerUnit = s.powerUnit := rfl
  clear_value s1
  cases NMap.look s1.maps 0x2001 with
  | none => exact h1
  | some i => exact (s1.powerUnit_onLanes _).trans h1

theorem State.powerUnit_pwSample (s : State) (t : Nat) : (s.pwSample t).powerUnit = s.powerUnit :=
  ite_same State.powerUnit (s.powerUnit_pwDeliver t) (ite_same State.powerUnit (s.powerUnit_pwDeliver t) rfl)

/-! ### The field outputs and the CAN controllers -/

theorem State.powerUnit_chOut (s : State) (c : Nat) (hc : c < 128) : (s.chOut c).powerUnit = s.powerUnit :=
  (State.powerUnit_wr _ R.CH_STAT_TIMED _ c 0 (.inl (by simp only [Fld.addr, R.CH_STAT_TIMED]; omega))).trans
    (s.powerUnit_wr R.CH_STAT_ON _ c 0 (.inl (by simp only [Fld.addr, R.CH_STAT_ON]; omega)))

theorem State.powerUnit_allOut (s : State) : s.allOut.powerUnit = s.powerUnit := by
  refine foldl_same_mem State.powerUnit State.grpOut _ (fun u g hg => ?_) s
  refine foldl_same_mem State.powerUnit State.chOut _ (fun u c hc => u.powerUnit_chOut c ?_) u
  obtain ⟨k, hk, rfl⟩ := List.mem_map.mp hc
  have hg := List.mem_range.mp hg
  have hk := List.mem_range.mp hk
  omega

theorem State.powerUnit_canFlush (s : State) (c : Nat) (hc : c < 4) : (s.canFlush c).powerUnit = s.powerUnit := by
  unfold State.canFlush
  refine (foldl_same_mem State.powerUnit _ _ (fun u b hb => ?_) _).trans rfl
  have hb := List.mem_range.mp hb
  refine ite_same State.powerUnit rfl (ite_same State.powerUnit ?_ rfl)
  exact (State.powerUnit_wr _ R.CN_BUF_STAT_PENDING _ c b (.inl (by simp only [Fld.addr, R.CN_BUF_STAT_PENDING]; omega))).trans rfl

theorem State.powerUnit_canFlushAll (s : State) : s.canFlushAll.powerUnit = s.powerUnit :=
  foldl_same_mem State.powerUnit State.canFlush _ (fun u c hc => u.powerUnit_canFlush c (List.mem_range.mp hc)) s

/-! ### The lease -/

theorem State.pdStatus_pw (s : State) (n : Nat) (w : Word) (t : Nat) : (s.pdStatus n w t).pw = s.pw := State.onLanes_pw _ _
theorem State.sdtStatus_pw (s : State) (c : Nat) (w : Word) (t : Nat) : (s.sdtStatus c w t).pw = s.pw := State.onLanes_pw _ _

theorem State.enqueueOwn_pw (s : State) (q pcp bytes : Nat) (o : OwnCopy) (t : Nat) (hm : o.md = false) :
    (s.enqueueOwn q pcp bytes o t).pw = s.pw := by
  refine ite_same State.pw rfl ?_
  unfold State.copyLate
  extract_lets s1 s2 x b w s3
  have h2 : s2.pw = s.pw := (State.raise_pw _ _ _).trans (ite_same State.pw rfl rfl)
  clear_value s2
  refine (congrArg State.pw (if_neg (by rw [hm]; exact Bool.false_ne_true))).trans (ite_same State.pw ?_ h2)
  have h3 : s3.pw = s.pw := (s2.pdStatus_pw _ _ _).trans h2
  clear_value s3
  cases s3.tab.channelOf o.obj with
  | none => exact h3
  | some c => exact (s3.sdtStatus_pw _ _ _).trans h3

theorem State.routeOwn_pw (s : State) (pl : Nat) (ip : Word) (t : Nat) : (s.routeOwn pl ip t).1.pw = s.pw := by
  unfold State.routeOwn
  dsimp only
  split
  · rfl
  · split
    · split <;> rfl
    · exact ite_same State.pw rfl rfl

theorem State.sendCopiesOn_pw (s : State) (n m len t : Nat) : (s.sendCopiesOn n m len t).pw = s.pw := by
  refine foldl_same State.pw _ (fun u pl => ite_same State.pw rfl ?_) _ s
  have hroute := u.routeOwn_pw pl (u.tab.pdDestIp n) t
  generalize u.routeOwn pl (u.tab.pdDestIp n) t = r at hroute
  obtain ⟨v, ports⟩ := r
  cases ports with
  | none => exact hroute
  | some qs =>
    refine (foldl_same State.pw _ (fun w q => w.enqueueOwn_pw _ _ _ _ _ rfl) qs _).trans ?_
    exact (ite_same State.pw rfl rfl : (v.learn pl _ _ t).pw = v.pw).trans hroute

theorem State.powerUnit_rdSend (s : State) (type ref t : Nat) : (s.rdSend type ref t).powerUnit = s.powerUnit := by
  refine State.powerUnit_ext (fun a hlo _ => ?_) ?_
  · exact (State.NetOnly.leasePublish _ _ _ _).2.2 a (.inr (by omega))
  · refine ite_same State.pw rfl ?_
    exact (State.sendCopiesOn_pw _ _ _ _ _).trans ((State.pdStatus_pw _ _ _ _).trans rfl)

theorem State.powerUnit_rdSample (s : State) (t : Nat) : (s.rdSample t).powerUnit = s.powerUnit := by
  refine ite_same State.powerUnit rfl ?_
  unfold State.rdDeliver
  extract_lets w kept s0 kept0 s1
  have h1 : s1.powerUnit = s.powerUnit := ite_same State.powerUnit rfl rfl
  clear_value s1
  cases NMap.look s1.maps 0x2000 with
  | none => exact h1
  | some i => exact (s1.powerUnit_onLanes _).trans h1

theorem State.powerUnit_endLeasedTimed (s : State) : s.endLeasedTimed.powerUnit = s.powerUnit := by
  unfold State.endLeasedTimed
  refine foldl_same State.powerUnit _ (fun u c => ?_) _ s
  exact ite_same State.powerUnit rfl rfl

theorem State.powerUnit_dropLeased (s : State) : s.dropLeased.powerUnit = s.powerUnit := by
  unfold State.dropLeased
  refine foldl_same State.powerUnit _ (fun u q => ?_) _ s
  rfl

theorem State.powerUnit_stopActing (s : State) (t : Nat) : (s.stopActing t).powerUnit = s.powerUnit := by
  refine ite_same State.powerUnit rfl ?_
  refine (foldl_same_mem State.powerUnit (fun s c => if s.canLeased c then s.canFlush c else s) (List.range 4)
    (fun u c hc => ite_same (c := u.canLeased c = true) State.powerUnit (u.powerUnit_canFlush c (List.mem_range.mp hc)) rfl) _).trans ?_
  refine (State.powerUnit_allOut _).trans ?_
  refine (State.powerUnit_endLeasedTimed _).trans ?_
  refine (State.powerUnit_dropLeased _).trans ?_
  exact (State.powerUnit_raise _ _ _).trans (s.powerUnit_wr R.RD_STATE_ACTING 0 0 0 (by decide))

theorem State.powerUnit_rdStop (s : State) (t : Nat) : (s.rdStop t).powerUnit = s.powerUnit := by
  have hrole (u : State) : (u.rdFollower t).powerUnit = u.powerUnit :=
    (rfl : _ = (u.setRole rrFollower t).powerUnit).trans (ite_same State.powerUnit rfl
      ((State.powerUnit_raise _ _ _).trans (u.powerUnit_wr R.RD_STATE_ROLE _ 0 0 (by decide))))
  refine ite_same State.powerUnit ?_ (s.powerUnit_stopActing t)
  exact (State.powerUnit_rdSample _ _).trans ((State.powerUnit_rdSend _ _ _ _).trans
    ((State.powerUnit_wr _ R.RD_STATE_HOLDER 255 0 0 (by decide)).trans ((hrole _).trans (s.powerUnit_stopActing t))))

/-! ### The Forme controller -/

theorem State.powerUnit_fbAbandon (s : State) (t : Nat) : (s.fbAbandon t).powerUnit = s.powerUnit :=
  ite_same State.powerUnit ((State.powerUnit_raise _ _ _).trans ((State.powerUnit_wr _ R.FB_SWITCH_AT_CYCLE 0 0 0 (by decide)).trans
    ((State.powerUnit_wr _ R.FB_SCHED_STAT_PENDING 0 0 0 (by decide)).trans (s.powerUnit_wr R.FB_SCHED_STAT_LAST 7 0 0 (by decide))))) rfl

theorem State.powerUnit_fbEnter (s : State) (st t : Nat) : (s.fbEnter st t).powerUnit = s.powerUnit :=
  ite_same State.powerUnit rfl ((State.powerUnit_raise _ _ _).trans (s.powerUnit_wr R.FB_STATE_STATE st 0 0 (by decide)))

theorem State.powerUnit_fbParkNow (s : State) (t : Nat) : (s.fbParkNow t).powerUnit = s.powerUnit :=
  (State.powerUnit_fbEnter _ _ _).trans ((State.powerUnit_fbAbandon _ _).trans rfl)

theorem State.powerUnit_fbPark (s : State) (t : Nat) : (s.fbPark t).powerUnit = s.powerUnit :=
  ite_same State.powerUnit rfl (ite_same State.powerUnit rfl (s.powerUnit_fbParkNow t))

theorem State.powerUnit_fbParked (s : State) (t : Nat) : (s.fbParked t).powerUnit = s.powerUnit :=
  ite_same State.powerUnit (s.powerUnit_fbParkNow t) rfl

theorem State.powerUnit_fbUnpark (s : State) (t : Nat) : (s.fbUnpark t).powerUnit = s.powerUnit :=
  ite_same State.powerUnit ((State.powerUnit_fbEnter _ _ _).trans ((State.powerUnit_wr _ R.FB_STATE_LOCKUP_LEFT 8 0 0 (by decide)).trans
    ((State.powerUnit_wr _ R.FB_CYCLE_CYCLE 0 0 0 (by decide)).trans (s.powerUnit_fbAbandon t)))) rfl

theorem State.powerUnit_fbResume (s : State) (t : Nat) : (s.fbResume t).powerUnit = s.powerUnit :=
  ite_same State.powerUnit rfl (s.powerUnit_fbUnpark t)

/-! ### The Line Gauge and the relay -/

theorem State.powerUnit_posRegs (s : State) (t : Nat) : (s.posRegs t).powerUnit = s.powerUnit :=
  (State.powerUnit_wr _ R.LG_POS_SPEED _ 0 0 (by decide)).trans ((State.powerUnit_wr _ R.LG_POS_ERR _ 0 0 (by decide)).trans
    ((State.powerUnit_wr _ R.LG_POS_D_HI _ 0 0 (by decide)).trans ((State.powerUnit_wr _ R.LG_POS_D_LO _ 0 0 (by decide)).trans
      ((State.powerUnit_wr _ R.LG_POS_P_HI _ 0 0 (by decide)).trans (s.powerUnit_wr R.LG_POS_P_LO _ 0 0 (by decide))))))

theorem State.powerUnit_dqReduce (s : State) (t : Nat) : (s.dqReduce t).powerUnit = s.powerUnit := by
  have hflag : (s.wr R.LG_FLAGS_DQ_REDUCED 1).powerUnit = s.powerUnit := s.powerUnit_wr R.LG_FLAGS_DQ_REDUCED 1 0 0 (by decide)
  exact ite_same State.powerUnit ((State.powerUnit_raise _ _ _).trans ((State.powerUnit_wr _ R.LG_POS_DQ_REDUCED 1 0 0 (by decide)).trans hflag)) hflag

/-- The calibration after the always-on section has lost what it counts. -/
theorem State.powerUnit_calibration (s : State) (a b c : Nat) :
    (((s.wr R.LG_WS_CAL_0 a).wr R.LG_WS_CAL_1 b).wr R.LG_WS_CAL_TOL c).powerUnit = s.powerUnit :=
  (State.powerUnit_wr _ R.LG_WS_CAL_TOL c 0 0 (by decide)).trans
    ((State.powerUnit_wr _ R.LG_WS_CAL_1 b 0 0 (by decide)).trans (s.powerUnit_wr R.LG_WS_CAL_0 a 0 0 (by decide)))

theorem State.powerUnit_lgStart (s : State) (t : Nat) : (s.lgStart t).powerUnit = s.powerUnit := by
  unfold State.lgStart
  extract_lets sv from_ fresh u v lost g g1 s1 s2 s3 kept
  have hu : u.powerUnit = s.powerUnit :=
    ite_same State.powerUnit ((State.powerUnit_raise _ _ _).trans (fresh.powerUnit_wr R.LG_POS_SLIP 0 0 0 (by decide))) rfl
  clear_value u
  refine ite_same State.powerUnit ?_ ((State.powerUnit_posRegs _ _).trans hu)
  have h2 : s2.powerUnit = s.powerUnit :=
    (State.powerUnit_dqReduce _ _).trans ((State.powerUnit_wr _ R.LG_POS_ORIENT _ 0 0 (by decide)).trans
      ((State.powerUnit_wr _ R.LG_FLAGS_AO_LOST 1 0 0 (by decide)).trans ((State.powerUnit_wr _ R.LG_POS_AO_LOST 1 0 0 (by decide)).trans
        ((State.powerUnit_wr _ R.LG_POS_REFERENCED 0 0 0 (by decide)).trans hu))))
  clear_value s2
  refine (State.powerUnit_posRegs _ _).trans ?_
  simp only [s3]
  cases sv with
  | none => exact (s2.powerUnit_calibration _ _ _).trans h2
  | some w => exact (s2.powerUnit_calibration _ _ _).trans h2

theorem State.powerUnit_lgStop (s : State) : s.lgStop.powerUnit = s.powerUnit := s.lgStop_keeps State.powerUnit fun _ _ => rfl

theorem State.powerUnit_relayAll (s : State) (t : Nat) : (s.relayAll t).powerUnit = s.powerUnit := by
  refine foldl_same_mem State.powerUnit _ _ (fun u d hd => ?_) s
  refine ite_same State.powerUnit rfl (ite_same State.powerUnit rfl ?_)
  exact (State.powerUnit_wr _ R.UP_RELAY_STAT_STATE rsSending d 0 (.inr (Nat.le_trans (by decide) (R.UP_RELAY_STAT_STATE.addr_ge d 0)))).trans rfl

theorem State.powerUnit_cmpAllIdle (s : State) : s.cmpAllIdle.powerUnit = s.powerUnit :=
  (State.powerUnit_onLanes _ _).trans rfl

end Sys2Proof.Machine
end

end

section
section
/-! Proofs: the balance, SLEEP and its wakes (spec/19_power_and_ageing.md). -/

namespace Sys2Proof.Machine

/-! ### Commands of the power unit (R461) -/

/-- A command shows how it ended, and writes no other register. -/
theorem State.pwLast_shows (s : State) (op last : Nat) (h : last % 4 ≠ 0) : (s.pwLast op last).rd R.PW_CMD_STAT_LAST = last % 4 :=
  State.rd_wr_of_ne_zero _ R.PW_CMD_STAT_LAST last 0 0 (by decide) h

theorem State.pwLast_rd (s : State) (op last : Nat) (f : Fld) (hf : f.addr ≠ 0x180008) : (s.pwLast op last).rd f = s.rd f :=
  (State.rd_wr_ne _ f R.PW_CMD_STAT_LAST _ 0 0 0 0 hf).trans (s.rd_wr_ne f R.PW_CMD_STAT_OP op 0 0 0 0 hf)

/-- The power state shows what it was set to. -/
theorem State.pwState_wr (s : State) (v : Nat) (h : v % 8 ≠ 0) : (s.wr R.PW_STATE_STATE v).pwState = v % 8 :=
  s.rd_wr_of_ne_zero R.PW_STATE_STATE v 0 0 (by decide) h

theorem State.pwState_of_powerUnit {s u : State} (h : u.powerUnit = s.powerUnit) : u.pwState = s.pwState :=
  State.powerUnit_rd h R.PW_STATE_STATE (by decide)

/-- STABLE from RUN. -/
theorem State.pwStable_shows (s : State) (t : Nat) (h : s.pwState = psRun) :
    (s.pwStable t).pwState = psStabled ∧ (s.pwStable t).pw.bal = s.rd R.PW_BUDGET_GRANT * 1000000 ∧ (s.pwStable t).pw.balZero = false ∧
      (s.pwStable t).rd R.PW_CMD_STAT_LAST = plDone := by
  let v := (s.setBalance (s.rd R.PW_BUDGET_GRANT * 1000000)).wr R.PW_STATE_STATE psStabled
  have hpart : (s.pwStable t).powerUnit = (v.pwLast 1 plDone).powerUnit :=
    (congrArg State.powerUnit (if_pos h)).trans ((State.powerUnit_pwSample _ _).trans (State.powerUnit_record _ _ _ _ _))
  exact ⟨(State.pwState_of_powerUnit hpart).trans ((v.pwLast_rd 1 plDone R.PW_STATE_STATE (by decide)).trans (State.pwState_wr _ _ (by decide))),
    State.powerUnit_pw hpart PwState.bal fun _ => rfl, State.powerUnit_pw hpart PwState.balZero fun _ => rfl,
    (State.powerUnit_rd hpart R.PW_CMD_STAT_LAST (by decide)).trans (v.pwLast_shows 1 plDone (by decide))⟩

/-- The balance after a command that sets it and changes no state. -/
theorem State.setBalance_shows (s : State) (b t : Nat) :
    let u := ((s.setBalance b).pwLast 2 plDone).budgetRec 2 t
    u.pw.bal = b ∧ u.pwState = s.pwState ∧ u.rd R.PW_CMD_STAT_LAST = plDone := by
  intro u
  have hpart : u.powerUnit = ((s.setBalance b).pwLast 2 plDone).powerUnit := State.powerUnit_record _ _ _ _ _
  have hstate : (s.setBalance b).pwState = s.pwState := State.rd_wr_ne _ R.PW_STATE_STATE R.PW_BALANCE _ 0 0 0 0 (by decide)
  exact ⟨State.powerUnit_pw hpart PwState.bal fun _ => rfl,
    (State.pwState_of_powerUnit hpart).trans ((State.pwLast_rd _ 2 plDone R.PW_STATE_STATE (by decide)).trans hstate),
    (State.powerUnit_rd hpart R.PW_CMD_STAT_LAST (by decide)).trans (State.pwLast_shows _ 2 plDone (by decide))⟩

/-- TOPUP in STABLED. -/
theorem State.pwTopup_shows (s : State) (t : Nat) (h : s.pwState = psStabled) :
    (s.pwTopup t).pw.bal = min (s.pw.bal + s.rd R.PW_BUDGET_GRANT * 1000000) ((2 ^ 32 - 1) * 1000000) ∧
      (s.pwTopup t).pwState = psStabled ∧ (s.pwTopup t).rd R.PW_CMD_STAT_LAST = plDone := by
  obtain ⟨hbal, hstate, hlast⟩ := s.setBalance_shows (min (s.pw.bal + s.rd R.PW_BUDGET_GRANT * 1000000) ((2 ^ 32 - 1) * 1000000)) t
  unfold State.pwTopup
  rw [if_pos h]
  exact ⟨hbal, hstate.trans h, hlast⟩

/-- UNSTABLE leaves STABLED and keeps the balance. -/
theorem State.pwUnstable_shows (s : State) (t : Nat) (h : s.pwState = psStabled) :
    (s.pwUnstable t).pwState = psRun ∧ (s.pwUnstable t).pw.bal = s.pw.bal ∧ (s.pwUnstable t).rd R.PW_CMD_STAT_LAST = plDone := by
  let v := s.wr R.PW_STATE_STATE psRun
  have hpart : (s.pwUnstable t).powerUnit = (v.pwLast 3 plDone).powerUnit :=
    (congrArg State.powerUnit (if_pos h)).trans ((State.powerUnit_pwSample _ _).trans (State.powerUnit_record _ _ _ _ _))
  exact ⟨(State.pwState_of_powerUnit hpart).trans ((v.pwLast_rd 3 plDone R.PW_STATE_STATE (by decide)).trans (State.pwState_wr _ _ (by decide))),
    State.powerUnit_pw hpart PwState.bal fun _ => rfl,
    (State.powerUnit_rd hpart R.PW_CMD_STAT_LAST (by decide)).trans (v.pwLast_shows 3 plDone (by decide))⟩

/-! ### The entry into SLEEP (R467) -/

/-- A SLEEP request that is taken. -/
theorem State.pwSleep_shows (s : State) (t : Nat) (hst : s.pwState = psRun ∨ s.pwState = psStabled) (hlanes : s.vstate = vsTriplex)
    (hcopies : s.vt.copies = []) (hmode : s.mode = mdRun ∨ s.mode = mdStop) :
    let u := s.pwSleep t
    u.pwState = psEntering ∧ u.pw.before = s.pwState ∧ u.pw.entryAt = t ∧ u.pw.quiet = false ∧ u.pw.armed = true ∧
      u.pw.latch = none ∧ u.rd R.PW_CMD_STAT_LAST = plDone := by
  intro u
  let p := { s.pw with before := s.pwState, entryAt := t, quiet := false, abort := false, armed := true, latch := none }
  let v := (s.setPw p).wr R.PW_STATE_STATE psEntering
  have hok : (!((s.pwState == psRun || s.pwState == psStabled) && (s.vstate == vsTriplex || s.isDuplex) && s.vt.copies.isEmpty &&
      (s.mode == mdRun || s.mode == mdStop))) = false := by
    have hst : (s.pwState == psRun || s.pwState == psStabled) = true := by simpa using hst
    have hmode : (s.mode == mdRun || s.mode == mdStop) = true := by simpa using hmode
    rw [hst, hmode, hlanes, hcopies]
    rfl
  have hpart : u.powerUnit = (v.pwLast 4 plDone).powerUnit := by
    refine (congrArg State.powerUnit (if_neg (by rw [hok]; exact Bool.false_ne_true))).trans ?_
    refine (State.powerUnit_pwSample _ _).trans ((State.powerUnit_allOut _).trans ((State.powerUnit_fbPark _ _).trans ?_))
    exact (State.powerUnit_canFlushAll _).trans ((State.powerUnit_rdStop _ _).trans (State.powerUnit_cmpAllIdle _))
  exact ⟨(State.pwState_of_powerUnit hpart).trans ((v.pwLast_rd 4 plDone R.PW_STATE_STATE (by decide)).trans (State.pwState_wr _ _ (by decide))),
    State.powerUnit_pw hpart PwState.before fun _ => rfl, State.powerUnit_pw hpart PwState.entryAt fun _ => rfl,
    State.powerUnit_pw hpart PwState.quiet fun _ => rfl, State.powerUnit_pw hpart PwState.armed fun _ => rfl,
    State.powerUnit_pw hpart PwState.latch fun _ => rfl,
    (State.powerUnit_rd hpart R.PW_CMD_STAT_LAST (by decide)).trans (v.pwLast_shows 4 plDone (by decide))⟩

/-- An entry that is abandoned goes back to the state before it. -/
theorem State.sleepAbandon_shows (s : State) (t : Nat) (hst : s.pwState = psEntering)
    (h : s.pw.abort = true ∨ (s.pw.quiet = false ∧ s.pw.entryAt + 20000000 ≤ t)) (hbefore : s.pw.before = psRun ∨ s.pw.before = psStabled) :
    let u := s.sleepAbandon t
    u.pwState = s.pw.before ∧ u.rd R.PW_FLAGS_SLEEP_ABORT = 1 ∧ u.pw.armed = false ∧ u.pw.latch = none := by
  intro u
  let v := ((s.wr R.PW_STATE_STATE s.pw.before).wr R.PW_FLAGS_SLEEP_ABORT 1).wr R.PW_CMD_STAT_LAST plAbandoned
  have hpart : u.powerUnit = (v.setPw { s.pw with armed := false, latch := none }).powerUnit := by
    refine (congrArg State.powerUnit (if_pos ⟨hst, h⟩)).trans ?_
    exact (State.powerUnit_pwSample _ _).trans ((State.powerUnit_allOut _).trans (State.powerUnit_fbResume _ _))
  have hstate : v.pwState = s.pw.before := by
    refine (State.rd_wr_ne _ R.PW_STATE_STATE R.PW_CMD_STAT_LAST _ 0 0 0 0 (by decide)).trans ?_
    refine (State.rd_wr_ne _ R.PW_STATE_STATE R.PW_FLAGS_SLEEP_ABORT 1 0 0 0 0 (by decide)).trans ?_
    rcases hbefore with hb | hb
    · rw [hb]
      exact s.pwState_wr psRun (by decide)
    · rw [hb]
      exact s.pwState_wr psStabled (by decide)
  have hflag : v.rd R.PW_FLAGS_SLEEP_ABORT = 1 :=
    (State.rd_wr_ne _ R.PW_FLAGS_SLEEP_ABORT R.PW_CMD_STAT_LAST _ 0 0 0 0 (by decide)).trans
      (State.rd_wr_of_ne_zero _ R.PW_FLAGS_SLEEP_ABORT 1 0 0 (by decide) (by decide))
  exact ⟨(State.pwState_of_powerUnit hpart).trans hstate, (State.powerUnit_rd hpart R.PW_FLAGS_SLEEP_ABORT (by decide)).trans hflag,
    State.powerUnit_pw hpart PwState.armed fun _ => rfl, State.powerUnit_pw hpart PwState.latch fun _ => rfl⟩

theorem State.outsideRecorder_lg : State.OutsideRecorder State.lg where
  er _ _ := rfl
  staging s _ := s.onLanes_lg _
  raise s n t := s.raise_lg n t
  wr _ _ _ _ := rfl

theorem State.fbParked_lg (s : State) (t : Nat) : (s.fbParked t).lg = s.lg := by
  have henter (u : State) : (u.fbEnter fsParked t).lg = u.lg := ite_same State.lg rfl (State.raise_lg _ _ _)
  have habandon (u : State) : (u.fbAbandon t).lg = u.lg := ite_same State.lg (State.raise_lg _ _ _) rfl
  exact ite_same State.lg ((henter _).trans (habandon _)) rfl

theorem State.lgStop_lg_congr {s u : State} (h : u.lg = s.lg) : u.lgStop.lg = s.lgStop.lg := by
  unfold State.lgStop
  rw [h]
  by_cases hoff : s.lg.aoFrom.isSome = true
  · rw [if_pos hoff, if_pos hoff]
    exact h
  · rw [if_neg hoff, if_neg hoff]

/-- Without a wake in the latch the module is in SLEEP, with the distance counted then. -/
theorem State.retain_shows (s : State) (t : Nat) (hst : s.pwState = psEntering) (hquiet : s.pw.quiet = true) (habort : s.pw.abort = false)
    (hlatch : s.pw.latch = none) :
    let u := s.retain t
    u.pw.frozen = true ∧ u.pwState = psSleep ∧ u.pw.retainedAt = t ∧ u.pw.distAt = s.lgStop.lg.dist := by
  intro u
  let v := (((s.fbParked t).lgStop).relayHalt).record .pw 0x0701 (leBytes (s.rf.word R.PW_SRC.base).toNat 4) t
  let s1 := v.wr R.PW_STATE_STATE psSleep
  let s2 := s1.setPw { s1.pw with frozen := true, retainedAt := t, distAt := s1.lg.dist }
  have hv : v.powerUnit = s.powerUnit :=
    (State.powerUnit_record _ _ _ _ _).trans ((State.powerUnit_lgStop _).trans (s.powerUnit_fbParked t))
  have hnone : s2.pw.latch = none := (State.powerUnit_pw hv PwState.latch fun _ => rfl).trans hlatch
  have hu : u = s2 := (if_pos ⟨hst, hquiet, habort⟩).trans (if_neg (by
    show ¬s2.pw.latch.isSome = true
    rw [hnone]
    exact Bool.false_ne_true))
  have hlg : s1.lg = s.lgStop.lg :=
    (State.outsideRecorder_lg.record _ _ _ _ _).trans (State.lgStop_lg_congr (s.fbParked_lg t))
  rw [hu]
  exact ⟨rfl, v.pwState_wr psSleep (by decide), rfl, congrArg LgState.dist hlg⟩

/-! ### Wakes (R469, R470, R471) -/

theorem wakeSource_ext (w : Word) : R.PW_LAST_WAKE_SOURCE.ext w = w.toNat % 16 := by
  show ((w >>> 0) &&& 15#32).toNat = _
  rw [BitVec.toNat_and]
  exact Nat.and_two_pow_sub_one_eq_mod _ 4

/-- What a wake leaves of the power unit: PW_LAST_WAKE shows what the latch held, and the module is in the state before the entry. -/
def State.woken (s : State) (w : Word) (us : Nat) : State :=
  let p := { s.pw with frozen := false, armed := false, latch := none }
  let s0 := (((s.setPw p).wrWord R.PW_LAST_WAKE_SOURCE.base w).wr R.PW_LAST_WAKE_STAMP_LO (us % 2 ^ 32)).wr R.PW_LAST_WAKE_STAMP_HI (us / 2 ^ 32)
  (s0.wr R.PW_STATE_STATE s.pw.before).wr R.PW_LAST_WAKE_REPLAYED 0

theorem State.wake_powerUnit (s : State) (w : Word) (us t : Nat) (hlatch : s.pw.latch = some (w, us)) :
    (s.wake false t).powerUnit = (s.woken w us).powerUnit := by
  unfold State.wake
  rw [hlatch, Option.getD_some]
  dsimp -zeta only
  extract_lets kept p lo hi s0 s1 st s2 a s3 src arg s4
  have h3 : s3.powerUnit = s1.powerUnit :=
    (State.powerUnit_record _ _ _ _ _).trans ((State.powerUnit_relayAll _ _).trans ((State.powerUnit_allOut _).trans
      ((State.powerUnit_fbUnpark _ _).trans (s1.powerUnit_lgStart t))))
  have h4 : s4.powerUnit = s3.powerUnit := s3.powerUnit_raise 389 st
  refine (State.powerUnit_pwDeliver _ _).trans ((?_ : _ = s4.powerUnit).trans (h4.trans h3))
  exact ite_same State.powerUnit (s4.powerUnit_raise _ _) (ite_same State.powerUnit (s4.powerUnit_raise _ _) rfl)

theorem State.woken_shows (s : State) (w : Word) (us : Nat) (hwf : Cells.wf s.rf.eff = true) (hb : s.pw.before = psRun ∨ s.pw.before = psStabled) :
    (s.woken w us).pwState = s.pw.before ∧ (s.woken w us).rd R.PW_LAST_WAKE_SOURCE = w.toNat % 16 ∧
      (s.woken w us).rd R.PW_LAST_WAKE_REPLAYED = 0 ∧ (s.woken w us).rd R.PW_LAST_WAKE_STAMP_LO = us % 2 ^ 32 := by
  let a := s.setPw { s.pw with frozen := false, armed := false, latch := none }
  let b := a.wrWord R.PW_LAST_WAKE_SOURCE.base w
  let c := b.wr R.PW_LAST_WAKE_STAMP_LO (us % 2 ^ 32)
  let d := (c.wr R.PW_LAST_WAKE_STAMP_HI (us / 2 ^ 32)).wr R.PW_STATE_STATE s.pw.before
  have hwfb : Cells.wf b.rf.eff = true := Cells.wf_set _ _ _ hwf
  have hwfd : Cells.wf d.rf.eff = true := Cells.wf_wr _ _ _ _ _ (Cells.wf_wr _ _ _ _ _ (Cells.wf_wr _ _ _ _ _ hwfb))
  have hword : d.regAt 0x180030 = w :=
    (State.regAt_wr _ R.PW_STATE_STATE _ 0 0 _ (by decide)).trans ((State.regAt_wr _ R.PW_LAST_WAKE_STAMP_HI _ 0 0 _ (by decide)).trans
      ((State.regAt_wr _ R.PW_LAST_WAKE_STAMP_LO _ 0 0 _ (by decide)).trans (Cells.get_set_self _ _ w hwf)))
  refine ⟨?_, ?_, (d.rd_wr_self R.PW_LAST_WAKE_REPLAYED 0 0 0 hwfd (by decide)).trans rfl, ?_⟩
  · refine (d.rd_wr_ne R.PW_STATE_STATE R.PW_LAST_WAKE_REPLAYED 0 0 0 0 0 (by decide)).trans ?_
    rcases hb with hb | hb
    · simp only [d, hb]
      exact State.pwState_wr _ psRun (by decide)
    · simp only [d, hb]
      exact State.pwState_wr _ psStabled (by decide)
  · refine (d.rd_wr_disjoint R.PW_LAST_WAKE_SOURCE R.PW_LAST_WAKE_REPLAYED 0 0 0 0 0 hwfd rfl (by decide) (by decide) (by decide)).trans ?_
    exact (congrArg R.PW_LAST_WAKE_SOURCE.ext hword).trans (wakeSource_ext w)
  · refine (d.rd_wr_ne R.PW_LAST_WAKE_STAMP_LO R.PW_LAST_WAKE_REPLAYED 0 0 0 0 0 (by decide)).trans ?_
    refine (State.rd_wr_ne _ R.PW_LAST_WAKE_STAMP_LO R.PW_STATE_STATE _ 0 0 0 0 (by decide)).trans ?_
    refine (State.rd_wr_ne _ R.PW_LAST_WAKE_STAMP_LO R.PW_LAST_WAKE_STAMP_HI _ 0 0 0 0 (by decide)).trans ?_
    exact (b.rd_wr_self R.PW_LAST_WAKE_STAMP_LO _ 0 0 hwfb (by decide)).trans (Nat.mod_mod _ _)

/-- Of the codes 1 to 9 the lowest that `p` takes is the first. -/
theorem filter_codes_head (p : Nat → Bool) (c : Nat) (h1 : 1 ≤ c) (h9 : c ≤ 9) (hc : p c = true) (hlow : ∀ k, 1 ≤ k → k < c → p k = false) :
    ∃ rest, ((List.range 9).map (· + 1)).filter p = c :: rest := by
  have hsplit : (List.range 9).map (· + 1) = List.range' 1 (c - 1) ++ c :: List.range' (c + 1) (9 - c) := by
    obtain rfl | rfl | rfl | rfl | rfl | rfl | rfl | rfl | rfl : c = 1 ∨ c = 2 ∨ c = 3 ∨ c = 4 ∨
        c = 5 ∨ c = 6 ∨ c = 7 ∨ c = 8 ∨ c = 9 := by omega
    all_goals rfl
  have hnil : (List.range' 1 (c - 1)).filter p = [] := List.filter_eq_nil_iff.mpr fun k hk => by
    have hk := List.mem_range'_1.mp hk
    rw [hlow k hk.1 (by omega)]
    exact Bool.false_ne_true
  exact ⟨_, by rw [hsplit, List.filter_append, hnil, List.filter_cons_of_pos hc, List.nil_append]⟩

/-- The lowest enabled source that occurs in SLEEP is latched and wakes the module. -/
theorem State.wakeLatch_shows (s : State) (src : BitVec 9) (can irq chan t c : Nat) (hst : s.pwState = psSleep) (harmed : s.pw.armed = true)
    (hlatch : s.pw.latch = none) (h1 : 1 ≤ c) (h9 : c ≤ 9) (hc : s.wakeOccurs src can irq chan t c = true)
    (hlow : ∀ k, 1 ≤ k → k < c → s.wakeOccurs src can irq chan t k = false) :
    ∃ w : Word, w.toNat % 16 = c ∧ s.wakeLatch src can irq chan t = (s.setPw { s.pw with latch := some (w, t / 1000) }).wake false t := by
  obtain ⟨rest, hrest⟩ := filter_codes_head _ c h1 h9 hc hlow
  refine ⟨BitVec.ofNat 32 (c + (if c = 7 then can else if c = 8 then irq else if c = 9 then chan else 0) * 2 ^ 8 +
    ((c :: rest).foldl (fun m c => m + 2 ^ (c - 1)) 0) * 2 ^ 16), ?_, ?_⟩
  · rw [BitVec.toNat_ofNat]
    omega
  · unfold State.wakeLatch
    dsimp only
    rw [hrest]
    dsimp only
    rw [harmed, hlatch]
    exact (if_neg (by simp)).trans (if_pos hst)

theorem State.wakeLatch_none (s : State) (src : BitVec 9) (can irq chan t : Nat)
    (h : ∀ c : Nat, 1 ≤ c → c ≤ 9 → s.wakeOccurs src can irq chan t c = false) : s.wakeLatch src can irq chan t = s := by
  have hnil : ((List.range 9).map (· + 1)).filter (fun c => s.wakeOccurs src can irq chan t c) = [] :=
    List.filter_eq_nil_iff.mpr fun k hk => by
      obtain ⟨j, hj, rfl⟩ := List.mem_map.mp hk
      rw [h (j + 1) (by omega) (by have := List.mem_range.mp hj; omega)]
      exact Bool.false_ne_true
  unfold State.wakeLatch
  dsimp only
  rw [hnil]

end Sys2Proof.Machine

open Sys2Proof Sys2Proof.Machine

/-- Settles O56. -/
theorem balanceAndSleep : Obligations.BalanceAndSleep := by
  intro s src can irq chan t n
  have hpw : n.pw = s.pw := s.now_pw t
  have hst : n.pwState = s.pwState := s.pwState_now t
  have hrd (f : Fld) : n.rd f = s.rd f := s.rd_now t f 0 0
  have hmode : n.mode = s.mode := s.mode_now t
  refine ⟨fun hl => ⟨fun hne => s.leaves_run _ t _ _ hl rfl (if_neg fun h => hne (hst.symm.trans h)), fun hrun => ⟨n.pwStable t, s.leaves_run _ t _ _ hl rfl rfl, ?stable⟩,
    fun hne => ⟨s.leaves_run _ t _ _ hl rfl (if_neg fun h => hne (hst.symm.trans h)), s.leaves_run _ t _ _ hl rfl (if_neg fun h => hne (hst.symm.trans h))⟩,
    fun hstab => ⟨⟨n.pwTopup t, s.leaves_run _ t _ _ hl rfl rfl, ?topup⟩, ⟨n.pwUnstable t, s.leaves_run _ t _ _ hl rfl rfl, ?unstable⟩⟩,
    fun hrun hstop => s.leaves_run _ t _ _ hl rfl ?refused,
    fun h1 h2 h3 h4 => ⟨n.pwSleep t, s.leaves_run _ t _ _ hl rfl rfl, ?sleep⟩,
    fun hent => ⟨fun hq ht => s.leaves_run _ t _ _ hl rfl ?quiet, fun hq => s.leaves_run _ t _ _ hl rfl ?noisy,
      fun hq hab => ⟨s.leaves_run _ t _ _ hl rfl ?stays, fun hlatch => ⟨n.retain t, s.leaves_run _ t _ _ hl rfl rfl, ?retained⟩⟩,
      fun hq => s.leaves_run _ t _ _ hl rfl ?unretained, fun hab ht => s.leaves_run _ t _ _ hl rfl ?early,
      fun h hb => ⟨n.sleepAbandon t, s.leaves_run _ t _ _ hl rfl rfl, ?abandoned⟩⟩,
    fun hne => ⟨s.leaves_run _ t _ _ hl rfl (if_neg fun h => hne (hst.symm.trans h.1)), s.leaves_run _ t _ _ hl rfl (if_neg fun h => hne (hst.symm.trans h.1)),
      s.leaves_run _ t _ _ hl rfl (if_neg fun h => hne (hst.symm.trans h.1))⟩,
    fun hz => s.leaves_run _ t _ _ hl rfl (if_neg (by rw [hpw, hz]; exact Bool.false_ne_true)), ?exhausted,
    fun hz => s.leaves_run _ t _ _ hl rfl (if_neg (by rw [hpw, hz]; exact Bool.false_ne_true)),
    fun hz => s.leaves_run _ t _ _ hl rfl ?heat⟩, fun hoff hrec hslept harmed hlatch => ?wakes⟩
  case stable =>
    have h := n.pwStable_shows t (hst.trans hrun)
    rwa [hrd] at h
  case topup =>
    have h := n.pwTopup_shows t (hst.trans hstab)
    rwa [hrd, hpw] at h
  case unstable =>
    have h := n.pwUnstable_shows t (hst.trans hstab)
    rwa [hpw] at h
  case refused =>
    refine if_pos ?_
    simp [hrun, hstop]
  case sleep =>
    have h := n.pwSleep_shows t (by rwa [hst]) (by rwa [s.vstate_now t]) (by rwa [s.now_vt t]) (by rwa [hmode])
    rwa [hst] at h
  case quiet => rw [← hpw]; exact if_pos ⟨hst.trans hent, by rwa [hpw], hq⟩
  case noisy => exact if_neg fun h => Bool.false_ne_true (hq.symm.trans h.2.2)
  case stays => exact if_neg (by rw [hpw, hq, hab]; simp)
  case retained =>
    have h := n.retain_shows t (hst.trans hent) (by rwa [hpw]) (by rwa [hpw]) (by rwa [hpw])
    rwa [State.lgStop_lg_congr (s.now_lg t)] at h
  case unretained => exact if_neg (by rw [hpw, hq]; simp)
  case early => exact if_neg (by rw [hpw, hab]; simp; omega)
  case abandoned =>
    have h := n.sleepAbandon_shows t (hst.trans hent) (by rwa [hpw]) (by rwa [hpw])
    rwa [hpw] at h
  case exhausted =>
    intro u hz
    have hacts : n.balanceExhausted t = if u.rd R.PW_CFG_ON_EMPTY = 1 then u.pwSleep t else u := by
      refine (if_pos (by rwa [hpw])).trans ?_
      rw [hpw]
    exact ⟨fun h => s.leaves_run _ t _ _ hl rfl (hacts.trans (if_neg (by rw [h]; decide))),
      fun h => s.leaves_run _ t _ _ hl rfl (hacts.trans (if_pos h))⟩
  case heat =>
    refine (if_pos (by rwa [hpw])).trans ?_
    rw [hpw]
  case wakes =>
    have hhost : exec (.wakeLatch src can irq chan t) s = .next (s.runHost t fun s => s.wakeLatch src can irq chan t) :=
      congrArg Host.Outcome.next (if_neg (by rw [hrec]; exact Bool.false_ne_true))
    refine ⟨fun h => s.leaves_kept _ t _ _ hoff hhost (n.wakeLatch_none src can irq chan t h), fun c h1 h9 hc hlow hb hwf => ?_⟩
    obtain ⟨w, hw, hu⟩ := n.wakeLatch_shows src can irq chan t c (hst.trans hslept) (by rwa [hpw]) (by rwa [hpw]) h1 h9 hc hlow
    let v := n.setPw { n.pw with latch := some (w, t / 1000) }
    refine ⟨State.keepLanes s (v.wake false t), s.leaves_kept _ t _ _ hoff hhost hu, ?_⟩
    have hpart : (State.keepLanes s (v.wake false t)).powerUnit = (v.woken w (t / 1000)).powerUnit :=
      (State.keepLanes_keeps State.powerUnit (fun _ _ _ _ => rfl) _ _).trans (v.wake_powerUnit w (t / 1000) t rfl)
    have hbefore : v.pw.before = s.pw.before := (congrArg PwState.before hpw : n.pw.before = s.pw.before)
    obtain ⟨hstate, hsource, hrepl, hstamp⟩ := v.woken_shows w (t / 1000) (by rw [show v.rf = s.rf from s.now_rf t]; exact hwf) (by rwa [hbefore])
    exact ⟨(State.pwState_of_powerUnit hpart).trans (hstate.trans hbefore), State.powerUnit_pw hpart PwState.frozen fun _ => rfl,
      State.powerUnit_pw hpart PwState.armed fun _ => rfl, State.powerUnit_pw hpart PwState.latch fun _ => rfl,
      (State.powerUnit_rd hpart R.PW_LAST_WAKE_SOURCE (by decide)).trans (hsource.trans hw),
      (State.powerUnit_rd hpart R.PW_LAST_WAKE_REPLAYED (by decide)).trans hrepl,
      (State.powerUnit_rd hpart R.PW_LAST_WAKE_STAMP_LO (by decide)).trans hstamp⟩
end

end

section
section
/-! Proofs: the boot and the panel (spec/20_boot_update.md, spec/21_connectors_electrical.md). -/

namespace Sys2Proof.Machine

/-! ### The check of a copy attempt (R502) -/

/-- While every lane has passed its test and the boot waits for a copy attempt, the check goes by the selected pair. -/
theorem State.imageCheck_runs (s : State) (progOk tabOk : BitVec 3) (t : Nat) (hboot : s.rd R.UP_STATE_STATE = usBooting)
    (hself : s.vstate = vsSelftest) (hsys : s.up.sys.isSome = true) (hready : s.up.ready = false) (hwait : s.up.ackWait = false)
    (htest : ∀ x < 3, s.testOf x = 1) :
    (s.selectImages.up.sel = none → s.imageCheck progOk tabOk t = s.selectImages.bootGo false t) ∧
      (∀ p q, s.selectImages.up.sel = some (p, q) → s.imageCheck progOk tabOk t = s.selectImages.imagesCopied p q
        (s.selectImages.imageWhole ikProgram p) (s.selectImages.imageWhole ikTables q) progOk tabOk t) := by
  have hrun : ¬(!(s.rd R.UP_STATE_STATE == usBooting && s.vstate == vsSelftest && s.up.sys.isSome && !s.up.ready && !s.up.ackWait &&
      [0, 1, 2].all fun x => s.testOf x != 0)) = true := by
    simp [hboot, hself, hsys, hready, hwait, htest 0 (by decide), htest 1 (by decide), htest 2 (by decide)]
  refine ⟨fun hnone => (if_neg hrun).trans ?_, fun p q hsome => (if_neg hrun).trans ?_⟩
  · dsimp only
    rw [hnone]
  · dsimp only
    rw [hsome]

/-- The lanes that have passed their test, where all have. -/
theorem State.tested_all (s : State) (htest : ∀ x < 3, s.testOf x = 1) : ([0, 1, 2].filter fun x => s.testOf x == 1) = [0, 1, 2] := by
  simp [htest 0 (by decide), htest 1 (by decide), htest 2 (by decide)]

/-- The lanes whose copies are whole, where all are. -/
theorem whole_all : ([0, 1, 2].filter fun x => true && (7#3).getLsbD x) = [0, 1, 2] := by decide

/-- Copies that are whole in every lane and hash right boot. -/
theorem State.imagesCopied_whole (s : State) (p q t : Nat) (htest : ∀ x < 3, s.testOf x = 1) :
    s.imagesCopied p q true true 7#3 7#3 t =
      ([0, 1, 2].foldl (fun r x => r.setLane x { r.lane x with mem := (s.upBooted p q).imageMem p q }) (s.upBooted p q)).bootGo true t := by
  have hodd : ([0, 1, 2].filter fun x : Nat => !([0, 1, 2] : List Nat).isEmpty && !([0, 1, 2] : List Nat).contains x ||
      !([0, 1, 2] : List Nat).isEmpty && !([0, 1, 2] : List Nat).contains x) = [] := by decide
  have hrest : ([0, 1, 2].filter fun x : Nat => !([] : List Nat).contains x) = [0, 1, 2] := by decide
  unfold State.imagesCopied
  rw [s.tested_all htest]
  dsimp only
  rw [whole_all, hodd, hrest, List.foldl_nil]
  exact if_neg (by decide)

/-- A second attempt whose PROGRAM no lane took leaves the boot without an image. -/
theorem State.imagesCopied_bad (s : State) (p q t : Nat) (whole : Bool) (progOk : BitVec 3) (htest : ∀ x < 3, s.testOf x = 1)
    (hnone : ([0, 1, 2].filter fun x => whole && progOk.getLsbD x) = []) (hsecond : s.up.attempts = 1) :
    s.imagesCopied p q whole true progOk 7#3 t = ((s.lastFail ikProgram p lfHash).setUp { s.up with
      hashBad := s.up.hashBad ++ [2 * ikProgram + p], attempts := s.up.attempts + 1, sel := none }).bootGo false t := by
  have hodd : ([0, 1, 2].filter fun x : Nat => !([] : List Nat).isEmpty && !([] : List Nat).contains x ||
      !([0, 1, 2] : List Nat).isEmpty && !([0, 1, 2] : List Nat).contains x) = [] := by decide
  unfold State.imagesCopied
  rw [s.tested_all htest]
  dsimp only
  rw [hnone, whole_all, hodd, List.foldl_nil]
  exact (if_pos (by decide)).trans (if_pos (show 2 ≤ s.up.attempts + 1 by omega))

/-! ### The ACK key (R538, R539) -/

theorem State.outsideRecorder_up : State.OutsideRecorder State.up where
  er _ _ := rfl
  staging s _ := s.onLanes_up _
  raise s _ _ := ite_same State.up rfl (s.onLanes_up _)
  wr _ _ _ _ := rfl

/-- A term whose cause is gone loses its fault (R284). -/
def State.scClearTerm (s : State) (i : Nat) : State :=
  let x := s.scTerm i
  let f := s.scFaultOf i
  let ok := if f = tfOwn || f = tfForeign then x.goodCycle else if f = tfExt then x.extLow else f == tfSwLane || f == tfSwChase
  if ok then (s.setScTerm i { x with goodCycle := false, extLow := false }).wr R.SC_TERM_STAT_FAULT 0 i else s

theorem State.scClearFaults_eq (s : State) : s.scClearFaults = (List.range 32).foldl State.scClearTerm s := rfl

/-- What the key does for the Chase leaves the update unit. -/
theorem State.scAckRelease_allOut_up (s : State) : s.scAckRelease.allOut.up = s.up := by
  have hout : s.scAckRelease.allOut.up = s.scAckRelease.up :=
    foldl_same State.up State.grpOut (fun u g => foldl_same State.up State.chOut (fun _ _ => rfl) (chansOf g) u) _ _
  have hterm (u : State) (i : Nat) : (u.scClearTerm i).up = u.up := ite_same State.up rfl rfl
  exact hout.trans (foldl_same State.up State.scClearTerm hterm _ _)

/-- The release of a key that no program start waits for. -/
theorem State.ackRelease_plain (s u : State) (t : Nat) (h : s.keyRelease t = u) (hup : u.up = s.up) (hwait : s.up.ackWait = false) :
    s.ackRelease t = u := by
  unfold State.ackRelease
  rw [h]
  exact if_neg (by rw [hup, hwait]; exact Bool.false_ne_true)

end Sys2Proof.Machine

open Sys2Proof Sys2Proof.Machine

/-- Settles O58. -/
theorem bootAndPanel : Obligations.BootAndPanel := by
  constructor
  · intro s progOk tabOk t hl n
    have hup : n.up = s.up := s.now_up t
    have hrd (f : Fld) : n.rd f = s.rd f := s.rd_now t f 0 0
    have hheld : n.ackHeld = s.ackHeld := by
      unfold State.ackHeld
      rw [hup, hrd, s.now_key t]
    refine ⟨fun hne => s.leaves_runHost _ t _ _ hl rfl (if_pos (by simp [hne])), fun h1 h2 h3 h4 h5 h6 => ?check,
      fun p q htest => ?copied, fun hwait => s.leaves_runHost _ t _ _ hl rfl (if_neg (by simp [hwait])),
      fun hwait hkey => ⟨fun ht => s.leaves_runHost _ t _ _ hl rfl (if_pos (by rw [hup, hwait, hheld, hkey, s.now_pw t, decide_eq_true ht]; rfl)),
        fun ht => s.leaves_runHost _ t _ _ hl rfl (if_neg (by simp; omega))⟩,
      s.leaves_runHost _ t _ _ hl rfl rfl⟩
    case check =>
      obtain ⟨hnone, hsome⟩ := n.imageCheck_runs progOk tabOk t ((hrd _).trans h1) ((s.vstate_now t).trans h2) (by rwa [hup]) (by rwa [hup])
        (by rwa [hup]) (fun x hx => (s.testOf_now t x).trans (h6 x hx))
      exact ⟨fun h => s.leaves_runHost _ t _ _ hl rfl (hnone h), fun p q h => s.leaves_runHost _ t _ _ hl rfl (hsome p q h)⟩
    case copied =>
      intro u bad
      exact ⟨s.imagesCopied_whole p q t htest, fun hsecond => ⟨s.imagesCopied_bad p q t false progOk htest (by simp) hsecond,
        s.imagesCopied_bad p q t true 0#3 htest (by decide) hsecond⟩⟩
  · intro s t hl n up
    have hrd (f : Fld) : n.rd f = s.rd f := s.rd_now t f 0 0
    have hkey : n.key = s.key := s.now_key t
    have hup : n.up = s.up := s.now_up t
    have hlamp : n.lampEnd t = if (s.key.lamp && decide (s.key.lampAt + 600000000 ≤ t)) = true then n.setKey { s.key with lamp := false } else n := by
      rw [State.lampEnd, hkey]
    refine ⟨fun hpressed => ⟨s.leaves_runHost _ t _ _ hl rfl (if_pos ((hrd _).trans hpressed)), fun hwait => ⟨fun hstuck => s.leaves_runHost _ t _ _ hl rfl ?ends,
        fun hfree p hp => ?releases⟩, fun p hp hfree => ?stuck⟩,
      fun hidle => ⟨s.leaves_runHost _ t _ _ hl rfl ?press, s.leaves_runHost _ t _ _ hl rfl ?idleStuck,
        fun hwait => s.leaves_runHost _ t _ _ hl rfl (n.ackRelease_plain n t (if_pos ((hrd _).trans hidle)) rfl (by rwa [hup]))⟩,
      fun hon => ⟨fun ht => s.leaves_runHost _ t _ _ hl rfl (hlamp.trans (if_pos (by simp [hon, ht]))),
        fun ht => s.leaves_runHost _ t _ _ hl rfl (hlamp.trans (if_neg (by simp [hon]; omega)))⟩,
      fun hoff => s.leaves_runHost _ t _ _ hl rfl (hlamp.trans (if_neg (by simp [hoff])))⟩
    case ends =>
      have hstill : up.rd R.SYS_KEY_STAT_STUCK = 1 :=
        (State.rd_wr_disjoint_of_ne_zero _ R.SYS_KEY_STAT_STUCK R.SYS_KEY_STAT_PRESSED 0 0 0 rfl (by decide) (by decide) (by decide)
          (fun h => Nat.one_ne_zero (((hrd _).trans hstuck).symm.trans h))).trans ((hrd _).trans hstuck)
      have hended : n.keyRelease t = (up.wr R.SYS_KEY_STAT_STUCK 0).record .sys 0x0901 [0] t := by
        refine (if_neg (by rw [hrd, hpressed]; decide)).trans ?_
        dsimp only
        rw [hkey]
        exact if_pos hstill
      exact n.ackRelease_plain _ t hended (State.outsideRecorder_up.record _ _ _ _ _) (by rwa [hup])
    case releases =>
      have hfreed : n.keyRelease t = if ackPress p t then up.scAckRelease.allOut else up := by
        refine (if_neg (by rw [hrd, hpressed]; decide)).trans ?_
        dsimp only
        rw [hkey, hp]
        exact if_neg (show ¬up.rd R.SYS_KEY_STAT_STUCK = 1 by rw [hfree]; decide)
      exact ⟨fun hlo hhi => s.leaves_runHost _ t _ _ hl rfl (n.ackRelease_plain _ t (hfreed.trans (if_pos (decide_eq_true ⟨hlo, hhi⟩)))
          up.scAckRelease_allOut_up (by rwa [hup])),
        fun hout => s.leaves_runHost _ t _ _ hl rfl (n.ackRelease_plain _ t (hfreed.trans (if_neg (by simp [ackPress]; omega))) rfl (by rwa [hup]))⟩
    case stuck =>
      have hdecl : n.keyStuck t = if n.rd R.SYS_KEY_STAT_PRESSED = 1 ∧ n.rd R.SYS_KEY_STAT_STUCK = 0 ∧ p + 60000000000 ≤ t then
          (((n.wr R.SYS_KEY_STAT_STUCK 1).wr R.SYS_KEY_STAT_STUCK_SEEN 1).bump R.SYS_KEY_STAT_STUCK_CNT).record .sys 0x0901 [1] t else n := by
        rw [State.keyStuck, hkey, hp]
      exact ⟨fun ht => s.leaves_runHost _ t _ _ hl rfl (hdecl.trans (if_pos ⟨(hrd _).trans hpressed, (hrd _).trans hfree, ht⟩)),
        fun ht => s.leaves_runHost _ t _ _ hl rfl (hdecl.trans (if_neg fun h => Nat.not_le.mpr ht h.2.2))⟩
    case press =>
      refine (if_neg (by rw [hrd, hidle]; decide)).trans ?_
      rw [hkey]
    case idleStuck =>
      unfold State.keyStuck
      cases n.key.pressedAt with
      | none => rfl
      | some p => exact if_neg fun h => absurd ((hrd _).symm.trans h.1) (by rw [hidle]; decide)
end

end

section
section
/-! Proofs: containers arrive and are passed on (spec/20_boot_update.md). -/

namespace Sys2Proof.Machine

@[simp] theorem State.store_now (s : State) (t : Nat) : (s.now t).store = s.store := s.rd_now t _ 0 0
@[simp] theorem State.prefixLen_now (s : State) (t : Nat) : (s.now t).prefixLen = s.prefixLen := s.rd_now t _ 0 0
@[simp] theorem State.relayRuns_now (s : State) (t : Nat) : (s.now t).relayRuns = s.relayRuns := by
  simp only [State.relayRuns, State.rd_now, State.pwState_now, State.now_pw]
@[simp] theorem State.relay_now (s : State) (t d : Nat) : (s.now t).relay d = s.relay d := by simp only [State.relay, State.now_up]
@[simp] theorem State.storeHeader_now (s : State) (t : Nat) : (s.now t).storeHeader = s.storeHeader := by
  simp only [State.storeHeader, State.now_up]
@[simp] theorem State.storeTotal_now (s : State) (t : Nat) : (s.now t).storeTotal = s.storeTotal := by
  simp only [State.storeTotal, State.prefixLen_now, State.storeHeader_now, State.now_up]
@[simp] theorem State.storeWith_now (s : State) (t o : Nat) (bs : List Byte) : (s.now t).storeWith o bs = s.storeWith o bs := by
  simp only [State.storeWith, State.now_up]

/-! ### The host's words (R495) -/

theorem State.hostPut_locked (s : State) (k : Nat) (ws : List Word) (t : Nat) (hlock : s.rd R.UP_STATE_LOCK = 1) :
    (s.hostPut k ws t).1 = s := congrArg Prod.fst (if_pos hlock)

/-- Words for the container the host is sending: none past what has arrived, none beyond the body. -/
theorem State.hostPut_mine (s : State) (k : Nat) (ws : List Word) (t : Nat) (hlock : s.rd R.UP_STATE_LOCK ≠ 1)
    (hst : s.store = ssReceiving) (hsource : s.up.store.source = 1) :
    let o := s.rd R.UP_HX_OFS + 4 * k
    let bs := ws.flatMap wordBytes
    (s.hostPut k ws t).1 = if s.prefixLen < o ∨ (16 ≤ max s.prefixLen (o + bs.length) ∧
      288 + hBodyLen (cellBytes (s.storeWith o bs) 0 288) < o + bs.length) then s else s.storePut o bs t := by
  intro o bs
  have hmine : (s.store == ssReceiving && s.up.store.source == 1) = true := by rw [hst, hsource]; rfl
  unfold State.hostPut
  dsimp only
  rw [hmine, if_neg hlock, if_neg (by simp)]
  simp only [Bool.not_true, Bool.and_false, Bool.false_and, Bool.false_eq_true, if_false, Bool.or_eq_true, decide_eq_true_eq]
  split <;> rfl

/-- Words for the store while the host is sending no container. -/
theorem State.hostPut_other (s : State) (k : Nat) (ws : List Word) (t : Nat) (hlock : s.rd R.UP_STATE_LOCK ≠ 1)
    (hst : s.store ≠ ssReceiving) :
    (s.hostPut k ws t).1 =
      if s.rd R.UP_HX_OFS + 4 * k = 0 ∧ s.storeFree t = true ∧ s.newCid (ws.flatMap wordBytes) = true then
        (let u := s.storeNew 1 none none t
         let o := s.rd R.UP_HX_OFS + 4 * k
         let bs := ws.flatMap wordBytes
         if u.prefixLen < o ∨ (16 ≤ max u.prefixLen (o + bs.length) ∧ 288 + hBodyLen (cellBytes (u.storeWith o bs) 0 288) < o + bs.length) then s
         else u.storePut o bs t)
      else if s.store = ssApplying ∨ s.store = ssReceived ∨ s.rd R.UP_HX_OFS + 4 * k = 0 then s.storeBusy else s := by
  have hmine : (s.store == ssReceiving && s.up.store.source == 1) = false := by simp [hst]
  unfold State.hostPut
  dsimp only
  rw [hmine, if_neg hlock]
  by_cases hstart : s.rd R.UP_HX_OFS + 4 * k = 0 ∧ s.storeFree t = true ∧ s.newCid (ws.flatMap wordBytes) = true
  · have hs : (s.rd R.UP_HX_OFS + 4 * k == 0 && s.storeFree t && !false && s.newCid (ws.flatMap wordBytes)) = true := by
      simp [hstart.1, hstart.2.1, hstart.2.2]
    rw [hs, if_pos hstart, if_neg (by simp)]
    simp only [if_true, Bool.or_eq_true, decide_eq_true_eq]
    split <;> rfl
  · have hs : (s.rd R.UP_HX_OFS + 4 * k == 0 && s.storeFree t && !false && s.newCid (ws.flatMap wordBytes)) = false :=
      Bool.eq_false_iff.mpr fun h => hstart (by simpa [and_assoc] using h)
    rw [hs, if_neg hstart, if_pos (by simp)]
    simp only [hst, false_or]
    split <;> rfl

/-- An empty store takes words at its start. -/
theorem State.hostPut_starts (s : State) (k : Nat) (ws : List Word) (t : Nat) (hlock : s.rd R.UP_STATE_LOCK ≠ 1)
    (hst : s.store = ssEmpty) (hofs : s.rd R.UP_HX_OFS + 4 * k = 0) (hlen : (ws.flatMap wordBytes).length ≤ 288) :
    (s.hostPut k ws t).1 = (s.storeNew 1 none none t).storePut 0 (ws.flatMap wordBytes) t := by
  have hfree : s.storeFree t = true := by simp [State.storeFree, hst]
  have hnew : s.newCid (ws.flatMap wordBytes) = true := by simp [State.newCid, hst]
  rw [s.hostPut_other k ws t hlock (by rw [hst]; decide), if_pos ⟨hofs, hfree, hnew⟩, hofs]
  exact if_neg (by omega)

/-! ### Chunks of the relay (R496) -/

/-- A legal chunk while the store is empty. -/
theorem State.relayChunk_legal (s : State) (src cid : Word) (total ofs len : Nat) (data : List Byte) (t : Nat)
    (hruns : s.relayRuns = true) (hup : s.rd R.UP_ADDR_ADDR 0 ≠ 0) (hsrc : src.toNat = s.rd R.UP_ADDR_ADDR 0) (hpos : 0 < len)
    (hlen : len ≤ 4080) (hfit : ofs + len ≤ total) :
    (s.rd R.UP_STATE_LOCK = 1 → s.relayChunk src cid total ofs len data t = s.relayAnswer cid 1) ∧
      (s.rd R.UP_STATE_LOCK ≠ 1 → s.store = ssEmpty → s.relayChunk src cid total ofs len data t =
        if ofs ≠ 0 then s.relayAnswer cid 2
        else ((s.storeNew 2 (some cid) (some total) t).storePut 0 (data.take len) t).relayAnswer cid 0) := by
  have hrun : ¬s.relayRuns = false := by rw [hruns]; decide
  have hlegal : ¬(s.rd R.UP_ADDR_ADDR 0 = 0 ∨ src.toNat ≠ s.rd R.UP_ADDR_ADDR 0 ∨ len = 0 ∨ 4080 < len ∨ total < ofs + len) := by omega
  refine ⟨fun hlock => (if_neg hrun).trans ((if_neg hlegal).trans (if_pos hlock)), fun hlock hst => ?_⟩
  have hfree : ¬s.storeFree t = false := by simp [State.storeFree, hst]
  refine (if_neg hrun).trans ((if_neg hlegal).trans ((if_neg hlock).trans ?_))
  exact (if_neg fun h => h.1.1.2 hst).trans ((if_neg fun h => h.1.1.2 hst).trans ((if_neg fun h => h.1.2 hst).trans
    (if_neg fun h => h.elim hfree fun h => h.1.2 hst)))

/-! ### Answers to the relay (R497) -/

/-- An answer to a chunk that waits for one. -/
theorem State.relayReply_heard (s : State) (d ofs : Nat) (cid : Word) (st kib t : Nat) (hsend : s.rd R.UP_RELAY_STAT_STATE d = rsSending)
    (hruns : s.relayRuns = true) (hcid : cid.toNat = s.rd R.UP_STORE_CID) (hwait : ∃ c ∈ (s.relay d).wait, c.ofs = ofs) :
    let r := s.relay d
    (st ≠ 0 → s.relayReply d ofs cid st kib t =
      s.setRelay d { r with wait := [], next := min (1024 * r.kib) s.prefixLen, pause := some (t + 1000000000) }) ∧
    (st = 0 → r.kib < kib → (∀ c ∈ r.wait, c.ofs = ofs) → s.storeTotal = some r.next → s.relayReply d ofs cid st kib t =
      (((s.setRelay d { r with wait := [], kib := kib, grownAt := t }).wr R.UP_RELAY_STAT_KIB (kib % 2 ^ 24) d).wr
        R.UP_RELAY_STAT_STATE rsDone d).raise 395 t) := by
  intro r
  have hheard : ¬(s.rd R.UP_RELAY_STAT_STATE d ≠ rsSending ∨ s.relayRuns = false ∨ cid.toNat ≠ s.rd R.UP_STORE_CID ∨
      (r.wait.any fun c => c.ofs == ofs) = false) := by
    obtain ⟨c, hc, hofs⟩ := hwait
    have hany : (r.wait.any fun c => c.ofs == ofs) = true := List.any_eq_true.mpr ⟨c, hc, beq_iff_eq.mpr hofs⟩
    simp [hsend, hruns, hcid, hany]
  refine ⟨fun hne => (if_neg hheard).trans (if_neg hne), fun hzero hgrew hall htotal => (if_neg hheard).trans ((if_pos hzero).trans ?_)⟩
  have hleft : (r.wait.filter fun c => c.ofs != ofs) = [] := List.filter_eq_nil_iff.mpr fun c hc => by simp [hall c hc]
  have hdone : (([] : List UpChunk).isEmpty && s.storeTotal == some r.next) = true := by simp [htotal]
  dsimp only
  rw [show (s.relay d).wait = r.wait from rfl, hleft, show (s.relay d).kib = r.kib from rfl, decide_eq_true hgrew]
  exact if_pos hdone

end Sys2Proof.Machine

open Sys2Proof Sys2Proof.Machine

/-- Settles O59. -/
theorem containersArriveAndPassOn : Obligations.ContainersArriveAndPassOn := by
  intro s d k ws src cid total ofs len data t hl n o bs put chunk r
  have hrd (f : Fld) (i : Nat) : n.rd f i = s.rd f i := s.rd_now t f i 0
  have hup : n.up = s.up := s.now_up t
  have hst : n.store = s.store := s.store_now t
  have hruns : n.relayRuns = s.relayRuns := s.relayRuns_now t
  have hr : n.relay d = r := s.relay_now t d
  have hpre : n.prefixLen = s.prefixLen := s.prefixLen_now t
  have hput (u : State) (h : (n.hostPut k ws t).1 = u) : put u := s.leaves_runHost _ t _ _ hl rfl h
  have hchunk (u : State) (h : n.relayChunk src cid total ofs len data t = u) : chunk u := s.leaves_runHost _ t _ _ hl rfl h
  have hlocked (h : s.rd R.UP_STATE_LOCK = 1) : put n := hput n (n.hostPut_locked k ws t ((hrd _ _).trans h))
  have hlock (h : s.rd R.UP_STATE_LOCK = 0) : n.rd R.UP_STATE_LOCK ≠ 1 := by rw [hrd, h]; decide
  have hmine (hl : n.rd R.UP_STATE_LOCK ≠ 1) (hrec : s.store = ssReceiving) (hsource : s.up.store.source = 1) :
      (n.hostPut k ws t).1 = if s.prefixLen < o ∨ (16 ≤ max s.prefixLen (o + bs.length) ∧
        288 + hBodyLen (cellBytes (s.storeWith o bs) 0 288) < o + bs.length) then n else n.storePut o bs t := by
    have h := n.hostPut_mine k ws t hl (hst.trans hrec) (by rwa [hup])
    simp only [hpre, hrd] at h
    rwa [show n.storeWith (s.rd R.UP_HX_OFS + 4 * k) (ws.flatMap wordBytes) = s.storeWith o bs from s.storeWith_now t o bs] at h
  have hunlocked (u : State) (hu : u = n) (h : n.rd R.UP_STATE_LOCK ≠ 1 → (n.hostPut k ws t).1 = u) : put n := by
    by_cases hl1 : s.rd R.UP_STATE_LOCK = 1
    · exact hlocked hl1
    · exact hu ▸ hput u (h (by rwa [hrd]))
  refine ⟨hlocked, fun h0 hrec hsource ho hbody => hput _ ?writes, fun h0 hempty ho hlen => hput _ ?starts,
    fun hrec hsource ho h16 hbeyond => hunlocked _ rfl fun hl1 => (hmine hl1 hrec hsource).trans (if_pos (.inr ⟨h16, hbeyond⟩)),
    fun hrec hsource hgap => hunlocked _ rfl fun hl1 => (hmine hl1 hrec hsource).trans (if_pos (.inl hgap)),
    fun h0 happly => hput _ ?busy, fun hempty hpos => hunlocked _ rfl fun hl1 => ?late,
    fun hstop => hchunk n (if_pos (hruns.trans hstop)), fun hrun => ⟨fun hsrc => hchunk _ ?stranger, fun h0 hsrc hpos hlen hfit => ?legal⟩,
    fun hidle st kib => ⟨s.leaves_runHost _ t _ _ hl rfl (if_pos (.inl (by rwa [hrd]))), s.leaves_runHost _ t _ _ hl rfl (if_pos (by rwa [hrd])),
      s.leaves_runHost _ t _ _ hl rfl (if_neg fun h => hidle ((hrd _ _).symm.trans h.1))⟩,
    fun hsend => ⟨fun hrun hcid hwait st kib => ?answer, fun hcid st kib => s.leaves_runHost _ t _ _ hl rfl (if_pos (.inr (.inr (.inl (by rwa [hrd]))))),
      fun hrun => s.leaves_runHost _ t _ _ hl rfl ?again, fun hstop => s.leaves_runHost _ t _ _ hl rfl ?halted,
      fun ht => s.leaves_runHost _ t _ _ hl rfl ?fails, fun ht => s.leaves_runHost _ t _ _ hl rfl (if_neg ?waits)⟩⟩
  case writes => exact (hmine (hlock h0) hrec hsource).trans (if_neg (by omega))
  case starts => exact n.hostPut_starts k ws t (hlock h0) (hst.trans hempty) (by rw [hrd]; exact ho) hlen
  case busy =>
    have hnone : ¬n.storeFree t = true := by simp [State.storeFree, hst, happly, ssApplying, ssEmpty, ssApplied, ssRejected, ssApplyFail, ssReceiving]
    exact (n.hostPut_other k ws t (hlock h0) (by rw [hst, happly]; decide)).trans ((if_neg fun h => hnone h.2.1).trans (if_pos (.inl (hst.trans happly))))
  case late =>
    have ho : n.rd R.UP_HX_OFS + 4 * k ≠ 0 := by rw [hrd]; exact Nat.pos_iff_ne_zero.mp hpos
    have hidle : ¬(n.store = ssApplying ∨ n.store = ssReceived ∨ n.rd R.UP_HX_OFS + 4 * k = 0) := by
      rw [hst, hempty]
      rintro (h | h | h)
      · exact absurd h (by decide)
      · exact absurd h (by decide)
      · exact ho h
    exact (n.hostPut_other k ws t hl1 (by rw [hst, hempty]; decide)).trans ((if_neg fun h => ho h.1).trans (if_neg hidle))
  case stranger => exact (if_neg (by rw [hruns, hrun]; decide)).trans (if_pos (.inr (.inl (by rwa [hrd]))))
  case legal =>
    obtain ⟨hl1, hfree⟩ := n.relayChunk_legal src cid total ofs len data t (hruns.trans hrun) (by rwa [hrd]) (by rwa [hrd]) hpos hlen hfit
    exact ⟨fun h => hchunk _ (hl1 ((hrd _ _).trans h)),
      fun h hempty hofs => hchunk _ ((hfree (hlock h) (hst.trans hempty)).trans (if_pos (Nat.pos_iff_ne_zero.mp hofs))),
      fun h hempty hofs => hchunk _ ((hfree (hlock h) (hst.trans hempty)).trans (if_neg (not_not_intro hofs)))⟩
  case answer =>
    obtain ⟨hpause, hdone⟩ := n.relayReply_heard d ofs cid st kib t ((hrd _ _).trans hsend) (hruns.trans hrun) (by rwa [hrd]) (by rwa [hr])
    rw [hr, hpre] at hpause
    rw [hr, s.storeTotal_now t] at hdone
    exact ⟨fun h => s.leaves_runHost _ t _ _ hl rfl (hpause h), fun h1 h2 h3 h4 => s.leaves_runHost _ t _ _ hl rfl (hdone h1 h2 h3 h4)⟩
  case again =>
    refine (if_neg (by rw [hrd]; exact not_not_intro hsend)).trans ((if_neg (by rw [hruns, hrun]; decide)).trans ?_)
    rw [hr]
  case halted =>
    refine (if_neg (by rw [hrd]; exact not_not_intro hsend)).trans ((if_pos (hruns.trans hstop)).trans ?_)
    rw [hr, hpre]
  case fails =>
    refine (if_pos ⟨(hrd _ _).trans hsend, by rw [hr]; exact ht⟩).trans ?_
    rw [hr]
  case waits => exact fun h => Nat.not_le.mpr ht (by rw [hr] at h; exact h.2)
end

end

section
section
/-! Proofs: containers are checked, applied and discarded; keys are added and revoked (spec/20_boot_update.md). -/

namespace Sys2Proof.Machine

@[simp] theorem State.keyPresent_now (s : State) (t j : Nat) : (s.now t).keyPresent j = s.keyPresent j := by simp [State.keyPresent]
@[simp] theorem State.trusts_now (s : State) (t : Nat) (h : List Byte) : (s.now t).trusts h = s.trusts h := by
  simp [State.trusts, State.keyRevoked]
@[simp] theorem State.storeBody_now (s : State) (t : Nat) : (s.now t).storeBody = s.storeBody := by simp [State.storeBody]
@[simp] theorem State.bootedSlot_now (s : State) (t k : Nat) : (s.now t).bootedSlot k = s.bootedSlot k := by simp [State.bootedSlot]
@[simp] theorem State.alternate_now (s : State) (t k : Nat) : (s.now t).alternate k = s.alternate k := by
  simp only [State.alternate, State.rd_now, State.bootedSlot_now]
@[simp] theorem State.appPaused_now (s : State) (t : Nat) : (s.now t).appPaused = s.appPaused := by simp [State.appPaused]
@[simp] theorem State.upSlot_now (s : State) (t k i : Nat) : (s.now t).upSlot k i = s.upSlot k i := by simp only [State.upSlot, State.now_up]
@[simp] theorem State.applied_now (s : State) (t k : Nat) : (s.now t).applied k = s.applied k := by
  simp only [State.applied, State.storeHeader_now, State.now_up, State.bootedSlot_now, State.upSlot_now]

/-! ### Receipt and application (R499, R500) -/

theorem State.receiptCheck_received (s : State) (t : Nat) (hst : s.store = ssReceived) (hnew : s.up.store.passed = false) :
    let h := s.storeHeader
    s.receiptCheck t = if (s.trusts h && ecdsaOk (hPubkey h) (h.take 212) (hSig h) && sha256 s.storeBody == hBodyHash h) = true then
        s.setUp { s.up with store := { s.up.store with passed := true } }
      else ((s.setStore ssRejected t).bump R.UP_RX_REJ_CNT).wr R.UP_FLAGS_RX_REJ 1 :=
  if_neg (by rw [hst, hnew]; simp)

/-- A passed container that may be applied: a delta whose base is not booted fails. -/
theorem State.containerApply_passed (s : State) (t : Nat) (hst : s.store = ssReceived) (hpassed : s.up.store.passed = true)
    (hlock : s.rd R.UP_STATE_LOCK = 0) (hpause : s.appPaused = false) (hrec : s.rd R.UP_STATE_STATE ≠ usRecovery) :
    let h := s.storeHeader
    let k := hKind h
    (hDelta h = false → s.containerApply t =
      (let u := (s.setUpSlot k (s.alternate k) { header := h }).setSlot k (s.alternate k) slWriting
       (u.setUp { u.up with store := { s.up.store with target := some (k, s.alternate k) } }).setStore ssApplying t)) ∧
    (hDelta h = true → s.bootedSlot k = none → hBaseHash h ≠ [] → s.containerApply t =
      (s.setStore ssApplyFail t).wr R.UP_FLAGS_BASE_MISMATCH 1) := by
  intro h k
  have hrec : (s.rd R.UP_STATE_STATE == usRecovery) = false := by simpa using hrec
  refine ⟨fun hfull => ?_, fun hdelta hnone hbase => ?_⟩
  · unfold State.containerApply
    dsimp only
    rw [hrec]
    refine (if_neg (by rw [hst, hpassed, hlock, hpause]; simp)).trans (if_neg ?_)
    rw [show hDelta s.storeHeader = false from hfull, Bool.false_and]
    exact Bool.false_ne_true
  · unfold State.containerApply
    dsimp only
    rw [hrec, hnone]
    refine (if_neg (by rw [hst, hpassed, hlock, hpause]; simp)).trans (if_pos ?_)
    rw [show hDelta s.storeHeader = true from hdelta]
    simpa using hbase

theorem State.applyComplete_applying (s : State) (t a b : Nat) (hst : s.store = ssApplying) (hlock : s.rd R.UP_STATE_LOCK = 0)
    (hpause : s.appPaused = false) (htarget : s.up.store.target = some (a, b)) :
    let s0 := s.setUp { s.up with store := { s.up.store with target := none } }
    (∀ m, s.applied a = some m → s.applyComplete t =
      ((s0.setUpSlot a b { header := s.storeHeader, image := m }).setSlot a b slCandidate).setStore ssApplied t) ∧
    (s.applied a = none → s.applyComplete t = ((s0.setSlot a b slEmpty).setStore ssApplyFail t).wr R.UP_FLAGS_APPLY_FAIL 1) := by
  intro s0
  have hruns : ¬(s.store ≠ ssApplying ∨ s.rd R.UP_STATE_LOCK = 1 ∨ s.appPaused = true) := by rw [hst, hlock, hpause]; simp
  refine ⟨fun m hm => (if_neg hruns).trans ?_, fun hnone => (if_neg hruns).trans ?_⟩
  · rw [htarget]
    dsimp only
    rw [hm]
  · rw [htarget]
    dsimp only
    rw [hnone]

end Sys2Proof.Machine

open Sys2Proof Sys2Proof.Machine

/-- Settles O60. -/
theorem containersAreApplied : Obligations.ContainersAreApplied := by
  intro s j t hl n h kd
  have hrd (f : Fld) : n.rd f = s.rd f := s.rd_now t f 0 0
  have hup : n.up = s.up := s.now_up t
  have hst : n.store = s.store := s.store_now t
  have hhead : n.storeHeader = h := s.storeHeader_now t
  have hpause : n.appPaused = s.appPaused := s.appPaused_now t
  have hmode : n.mode = s.mode := s.mode_now t
  have hkey : n.keyPresent j = s.keyPresent j := s.keyPresent_now t j
  have hnot (b : Bool) (hne : s.mode ≠ mdMaint) : (b || n.mode != mdMaint) = true := by rw [hmode]; simp [hne]
  refine ⟨fun hne => ⟨s.leaves_runHost _ t _ _ hl rfl (if_pos (.inl (by rwa [hst]))), s.leaves_runHost _ t _ _ hl rfl (if_pos (.inl (by rwa [hst])))⟩,
    fun hrec hnew => ?received, fun hrec hpassed hlock hgo hboot => ?passed, fun hne => s.leaves_runHost _ t _ _ hl rfl (if_pos (.inl (by rwa [hst]))),
    fun a b happly hlock hgo htarget => ?applying, ?discard,
    fun hne => ⟨s.leaves_runHost _ t _ _ hl rfl (congrArg Prod.fst (if_pos (hnot _ hne))),
      s.leaves_runHost _ t _ _ hl rfl (congrArg Prod.fst (if_pos (hnot _ hne)))⟩,
    fun hp => ⟨s.leaves_runHost _ t _ _ hl rfl (congrArg Prod.fst (if_pos (by rw [hkey, hp]; rfl))),
      fun hmaint => s.leaves_runHost _ t _ _ hl rfl (congrArg Prod.fst (if_neg (by rw [hkey, hp, hmode, hmaint]; decide)))⟩,
    fun hp => ⟨s.leaves_runHost _ t _ _ hl rfl (congrArg Prod.fst (if_pos (by rw [hkey, hp]; rfl))), fun hmaint => s.leaves_runHost _ t _ _ hl rfl ?add⟩⟩
  case received =>
    intro good
    have hcheck := n.receiptCheck_received t (hst.trans hrec) (by rwa [hup])
    rw [hhead, hup] at hcheck
    have htrust : n.trusts h = s.trusts h := s.trusts_now t h
    have hbody : n.storeBody = s.storeBody := s.storeBody_now t
    dsimp only at hcheck
    rw [htrust, hbody] at hcheck
    exact ⟨s.leaves_runHost _ t _ _ hl rfl (if_pos (.inr (.inl (by rwa [hup])))), fun hgood => s.leaves_runHost _ t _ _ hl rfl (hcheck.trans (if_pos hgood)),
      fun hbad => s.leaves_runHost _ t _ _ hl rfl (hcheck.trans (if_neg fun hgood => Bool.false_ne_true (hbad.symm.trans hgood)))⟩
  case passed =>
    obtain ⟨hfull, hdelta⟩ := n.containerApply_passed t (hst.trans hrec) (by rwa [hup]) ((hrd _).trans hlock) (hpause.trans hgo) (by rwa [hrd])
    rw [hhead, s.alternate_now t, hup] at hfull
    rw [hhead, s.bootedSlot_now t] at hdelta
    exact ⟨fun hf => s.leaves_runHost _ t _ _ hl rfl (hfull hf), fun hd hnone hbase => s.leaves_runHost _ t _ _ hl rfl (hdelta hd hnone hbase)⟩
  case applying =>
    intro s0
    obtain ⟨hsome, hnone⟩ := n.applyComplete_applying t a b (hst.trans happly) ((hrd _).trans hlock) (hpause.trans hgo) (by rwa [hup])
    rw [hhead, s.applied_now t, hup] at hsome
    rw [s.applied_now t, hup] at hnone
    exact ⟨fun m hm => s.leaves_runHost _ t _ _ hl rfl (hsome m hm), fun hm => s.leaves_runHost _ t _ _ hl rfl (hnone hm)⟩
  case discard =>
    intro out
    refine ⟨fun hlock => s.leaves_runHost _ t _ _ hl rfl (if_pos ((hrd _).trans hlock)), fun hlock hnone => s.leaves_runHost _ t _ _ hl rfl ?_,
      fun a b hlock htarget => s.leaves_runHost _ t _ _ hl rfl ?_⟩
    · refine (if_neg (by rw [hrd, hlock]; decide)).trans ?_
      rw [hup, hnone]
    · refine (if_neg (by rw [hrd, hlock]; decide)).trans ?_
      rw [hup, htarget]
  case add =>
    refine (congrArg Prod.fst (if_neg (by rw [hkey, hp, hmode, hmaint]; decide))).trans ?_
    dsimp only
    rw [hup]
end

end
